-- ==== Sys2Proof/Word.lean ====
section
/-! DEFINITION. The words the package's registers, memories and instructions are made of (R7, R10, R43, R45). -/

namespace Sys2Proof

/-- A 32-bit register, stack entry or I/O word (R10, R56). -/
abbrev Word := BitVec 32

/-- A byte of D-space (R45). -/
abbrev Byte := BitVec 8

/-- A 16-bit parcel of I-space (R43). -/
abbrev Parcel := BitVec 16

/-- A count of the 64-bit nanosecond timebase (R21). -/
abbrev Nanos := BitVec 64

end Sys2Proof
end

