-- ==== Sys2Proof/Machine/Tab.lean ====
section
/-! DEFINITION. Sparse tables in one canonical form: a list of (key, value) pairs, keys rising in the order of a code,
no entry equal to the default of its key. Every collection of repeated units and every memory of the machine is one. -/

namespace Sys2Proof.Machine

/-- A sparse table: what is not listed holds the default that the reader names. -/
abbrev Tab (κ α : Type) := List (κ × α)

namespace Tab
variable {κ α : Type} [DecidableEq κ] [DecidableEq α]

/-- The value listed at a key. -/
def find : Tab κ α → κ → Option α
  | [], _ => none
  | (k', v) :: t, k => if k' = k then some v else find t k

/-- The value at a key, `d` where the key is not listed. -/
def get (t : Tab κ α) (k : κ) (d : α) : α := (find t k).getD d

/-- The table without a key. -/
def erase : Tab κ α → κ → Tab κ α
  | [], _ => []
  | (k', v) :: t, k => if k' = k then erase t k else (k', v) :: erase t k

/-- The table with an entry put before the first key whose code is not below it. -/
def insert (code : κ → Nat) : Tab κ α → κ → α → Tab κ α
  | [], k, v => [(k, v)]
  | (k', v') :: t, k, v => if code k' < code k then (k', v') :: insert code t k v else (k, v) :: (k', v') :: t

/-- The table with the value `v` at key `k`; writing the default `d` removes the entry. -/
def set (code : κ → Nat) (t : Tab κ α) (k : κ) (d v : α) : Tab κ α :=
  if v = d then erase t k else insert code (erase t k) k v

/-- The canonical form: codes strictly rising, and no entry equal to its key's default. -/
def wf (code : κ → Nat) (d : κ → α) : Tab κ α → Bool
  | [] => true
  | (k, v) :: t => decide (v ≠ d k) && t.all (fun e => decide (code k < code e.1)) && wf code d t

end Tab

/-- The code of a pair of unit numbers, by which tables of units are sorted. -/
def pairCode (p : Nat × Nat) : Nat := Nat.pair p.1 p.2

end Sys2Proof.Machine
end

