-- ==== Sys2Proof/Machine/Field.lean ====
section
/-! DEFINITION. What a register map of the spec says of one field (R9 to R15). -/

namespace Sys2Proof.Machine

/-- The access codes of R11. -/
inductive Access where
  | rw | ro | wo | w1s | w1c | rc
  deriving DecidableEq, Repr

/-- One field of a register map: where it lies in its block, its access code, its reset value, whether a package reset
leaves it (R14), and the values a write may store (`vmax = 0`: every value of the width). -/
structure Field where
  off : Nat
  lo : Nat
  width : Nat
  acc : Access
  reset : Nat
  held : Bool := false
  vmin : Nat := 0
  vmax : Nat := 0
  deriving DecidableEq, Repr

end Sys2Proof.Machine
end

