-- ==== Sys2Proof/Machine/Unit.lean ====
section
/-! DEFINITION. The units of the package: register blocks (R46), nodes and their paths (R33, R34), requesters (R50). -/

namespace Sys2Proof.Machine

/-- The register blocks of I/O space (R46). Blocks of a compute die carry the die number. -/
inductive Blk where
  | ringNode | pkgNode | crownNode | fieldNode
  | irqCrown | wdt | host | ring | can (c : Nat) | evr | upd | cry | hsb | tmb | eth | xspi
  | din | lsw | rtc | nvs | wake | sup | cal
  | dieNode (d : Nat) | core (d k : Nat) | lane (d j : Nat) | link (d m : Nat)
  | arb (d : Nat) | rfx (d : Nat) | irqDie (d : Nat) | drc (d : Nat) | ing (d : Nat)
  deriving DecidableEq, Repr

/-- A number for each block, by which the register table is sorted. -/
def Blk.code : Blk → Nat
  | .ringNode => Nat.pair 0 0 | .pkgNode => Nat.pair 0 1 | .crownNode => Nat.pair 0 2 | .fieldNode => Nat.pair 0 3
  | .irqCrown => Nat.pair 0 4 | .wdt => Nat.pair 0 5 | .host => Nat.pair 0 6 | .ring => Nat.pair 0 7
  | .evr => Nat.pair 0 8 | .upd => Nat.pair 0 9 | .cry => Nat.pair 0 10 | .hsb => Nat.pair 0 11
  | .tmb => Nat.pair 0 12 | .eth => Nat.pair 0 13 | .xspi => Nat.pair 0 14 | .din => Nat.pair 0 15
  | .lsw => Nat.pair 0 16 | .rtc => Nat.pair 0 17 | .nvs => Nat.pair 0 18 | .wake => Nat.pair 0 19
  | .sup => Nat.pair 0 20 | .cal => Nat.pair 0 21
  | .can c => Nat.pair 1 c | .dieNode d => Nat.pair 2 d | .core d k => Nat.pair 3 (Nat.pair d k)
  | .lane d j => Nat.pair 4 (Nat.pair d j) | .link d m => Nat.pair 5 (Nat.pair d m) | .arb d => Nat.pair 6 d
  | .rfx d => Nat.pair 7 d | .irqDie d => Nat.pair 8 d | .drc d => Nat.pair 9 d | .ing d => Nat.pair 10 d

/-- The compute die a block lies in. -/
def Blk.die? : Blk → Option Nat
  | .dieNode d | .core d _ | .lane d _ | .link d _ | .arb d | .rfx d | .irqDie d | .drc d | .ing d => some d
  | _ => none

/-- The key of a stored register field: its block, its offset, its lowest bit, its reset value, and whether a package
reset leaves it. A field that is not listed holds its reset value. -/
structure RegKey where
  blk : Blk
  off : Nat
  lo : Nat
  reset : Nat
  held : Bool
  deriving DecidableEq, Repr

/-- The number by which the register table is sorted. -/
def RegKey.code (k : RegKey) : Nat :=
  Nat.pair (Nat.pair k.blk.code k.off) (Nat.pair (Nat.pair k.lo k.held.toNat) k.reset)

/-- The key of a field in a block. -/
def Field.key (f : Field) (b : Blk) : RegKey := { blk := b, off := f.off, lo := f.lo, reset := f.reset, held := f.held }

/-- The nodes of the tree of R34. -/
inductive Node where
  | ring | pkg | crown | field | die (d : Nat) | core (d k : Nat) | lane (d j : Nat)
  deriving DecidableEq, Repr

/-- The block that holds a node's window (R31). -/
def Node.blk : Node → Blk
  | .ring => .ringNode | .pkg => .pkgNode | .crown => .crownNode | .field => .fieldNode
  | .die d => .dieNode d | .core d k => .core d k | .lane d j => .lane d j

/-- The parent of a node inside its package (R34); the package node's parent is the ring node in the ring head only. -/
def Node.parent : Node → Option Node
  | .ring => none
  | .pkg => none
  | .crown => some .pkg
  | .field => some .pkg
  | .die _ => some .pkg
  | .core d _ => some (.die d)
  | .lane d j => some (.core d (j / 3))

/-- The index of a node among its parent's children (R34). -/
def Node.childIndex : Node → Nat
  | .ring => 0 | .pkg => 0 | .crown => 0 | .field => 1 | .die d => 2 + d | .core _ k => k | .lane _ j => j % 3

/-- Bits [25:16] of a node's path (R33), in units of 0x0001_0000. -/
def Node.unitPath : Node → Nat
  | .ring => 0xF * 0x40
  | .pkg => 0xE * 0x40
  | .crown => 0
  | .field => 0x40
  | .die d => (2 + d) * 0x40
  | .core d k => (2 + d) * 0x40 + 1 + k
  | .lane d j => (2 + d) * 0x40 + 0x10 + j

/-- The path of a node of the package at ring position `pos` (R33). -/
def Node.path (pos : Nat) (n : Node) : Nat := pos * 0x4000000 + n.unitPath * 0x10000

/-- Who makes an access (R50): the three kinds of requester that own protection regions, and engines, which own none. -/
inductive Req where
  | core (d k : Nat) | crown | host | engine
  deriving DecidableEq, Repr

/-- The block that holds a requester's protection regions and fault capture (R50). -/
def Req.blk : Req → Option Blk
  | .core d k => some (.core d k) | .crown => some .crownNode | .host => some .pkgNode | .engine => none

end Sys2Proof.Machine
end

