-- ==== Sys2Proof/Machine/Msg.lean ====
section
/-! DEFINITION. The data that commands carry: frames, messages and entries as they arrive at the package. -/

namespace Sys2Proof.Machine

/-- A CAN FD frame as a controller receives it (R417, R418): format, identifier, length code, data bytes, whether it is
a remote frame, and the package time in µs at its start-of-frame edge. -/
structure CanFrame where
  ide : Bool
  id : Nat
  fdf : Bool
  brs : Bool
  remote : Bool
  dlc : Nat
  data : List Nat
  sofUs : Nat
  deriving DecidableEq, Repr

/-- A Keati frame as a link receives it with a valid header (R245, R252): the header fields, the payload octets that were
delimited, and whether the frame CRC passes. -/
structure KFrame where
  type : Nat
  flags : Nat
  cls : Nat
  len : Nat
  claim : Nat
  deadline : Nat
  seq : Nat
  source : Nat
  target : Nat
  payload : List Nat
  crcOk : Bool
  deriving DecidableEq, Repr

/-- MISS(N) as the standby receives it (R166): the release N, and the result where it is final. -/
structure HoodMiss where
  n : Nat
  final : Option Nat := none
  deriving DecidableEq, Repr

/-- What the receiver of a Keati link meets (R252, R259, R282): codewords that the FEC corrects, codewords that it cannot, and
the loss of block lock or FEC alignment. -/
structure FecReport where
  corr : Nat
  unc : Nat
  lock : Bool
  deriving DecidableEq, Repr

/-- What PCIe training and configuration software leave (R361, R368): the width in lanes, Max Payload Size, and the enable and
the function mask of MSI-X. -/
structure PcieSetup where
  width : Nat
  mps : Nat
  msixEn : Bool
  msixMask : Bool
  deriving DecidableEq, Repr

/-- The header of a valid standby message as it arrives (R310): the path (0 A, 1 B), and the sender's STATE, CLAIM, SEQ
and TIME. -/
structure SbHdr where
  path : Nat
  state : Nat
  claim : Nat
  seq : Nat
  time : Nat
  deriving DecidableEq, Repr

/-- A memory-form operand specifier (R97): the fields of its first parcel and its extension parcels. -/
structure Opd where
  mode : Nat
  space : Nat := 0
  n : Nat := 0
  x : Nat := 0
  ext : List Nat := []
  deriving DecidableEq, Repr

/-- What makes a request at an arbiter (R286, R287), with what its deadline depends on. -/
inductive ReqKind where
  /-- A scan core: an access through the fabric or to its own die, a fetch or ILOAD from shared code SRAM. -/
  | core (d k : Nat)
  | code (d k : Nat)
  /-- The image port: a descriptor of a task, a refresh, a mirror or power-fail copy. -/
  | mover (d k t : Nat)
  | refresh
  | mirror
  /-- The ingest engine for lane `j` and the line of place `i`; a calibration transfer. -/
  | ingest (d j i : Nat)
  | cal (d j : Nat)
  /-- The band switch, for lane `j` and the line of place `i`; the register port of a lane. -/
  | band (d j i : Nat)
  | port (d j : Nat)
  /-- The DRAM_CLEAR engine of a die; read data of its DRAM controller for a remote requester, with that request's deadline. -/
  | clear (d : Nat)
  | data (d dl : Nat)
  /-- A load-switch command of a reflex engine, with its trigger time. -/
  | reflex (d trig : Nat)
  | crown
  | host
  deriving DecidableEq, Repr

/-- A request that arrives at an arbiter: what makes it, how many bytes it moves, and in another compute die the arbiter it
goes on to. -/
structure ArbArrival where
  kind : ReqKind
  bytes : Nat
  dest : Option Nat
  deriving DecidableEq, Repr

end Sys2Proof.Machine
end

