-- ==== Sys2Proof/Syntax.lean ====
section
/-! DEFINITION. The commands of the package: one constructor per row of the opcode table, and the operand types. -/

namespace Sys2Proof

open Sys2Proof.Machine


/-- The commands: one constructor per row of the opcode table, in the table's order. -/
inductive Instr where
  /-- REG_WRITE, R11. The requester, the I/O address and the word. -/
  | regWrite (r : Req) (a w : Nat)
  /-- RC_READ, R11. The requester and the I/O address. -/
  | rcRead (r : Req) (a : Nat)
  /-- HELD_WRITE_TAKEN, R541. The requester whose write is taken. -/
  | heldWriteTaken (r : Req)
  /-- NODE_ENABLE, R41 -/
  | nodeEnable
  /-- NODE_NAP, R40 -/
  | nodeNap
  /-- NODE_FREEZE, R41 -/
  | nodeFreeze
  /-- NODE_RESET, R38 -/
  | nodeReset
  /-- NODE_FAULT_FREE, R32. The node whose capture is freed. -/
  | nodeFaultFree (n : Node)
  /-- FLT_CAPTURE_FREE, R50. The requester whose capture is freed. -/
  | fltCaptureFree (r : Req)
  /-- PROT_LOCK, R50. The requester and the region. -/
  | protLock (r : Req) (n : Nat)
  /-- BLD, R65. Die and core; the window; the bit offset in the parcels (A = 1), or none where it is popped. -/
  | bld (d k : Nat) (w : Nat) (off : Option Nat)
  /-- BLDN, R65. Die and core; the window; the bit offset in the parcels (A = 1), or none where it is popped. -/
  | bldn (d k : Nat) (w : Nat) (off : Option Nat)
  /-- BAND, R65. Die and core; the window; the bit offset in the parcels (A = 1), or none where it is popped. -/
  | band (d k : Nat) (w : Nat) (off : Option Nat)
  /-- BANDN, R65. Die and core; the window; the bit offset in the parcels (A = 1), or none where it is popped. -/
  | bandn (d k : Nat) (w : Nat) (off : Option Nat)
  /-- BOR, R65. Die and core; the window; the bit offset in the parcels (A = 1), or none where it is popped. -/
  | bor (d k : Nat) (w : Nat) (off : Option Nat)
  /-- BORN, R65. Die and core; the window; the bit offset in the parcels (A = 1), or none where it is popped. -/
  | born (d k : Nat) (w : Nat) (off : Option Nat)
  /-- BST, R66. Die and core; the window; the bit offset in the parcels (A = 1), or none where it is popped. -/
  | bst (d k : Nat) (w : Nat) (off : Option Nat)
  /-- BSTN, R66. Die and core; the window; the bit offset in the parcels (A = 1), or none where it is popped. -/
  | bstn (d k : Nat) (w : Nat) (off : Option Nat)
  /-- BSET, R66. Die and core; the window; the bit offset in the parcels (A = 1), or none where it is popped. -/
  | bset (d k : Nat) (w : Nat) (off : Option Nat)
  /-- BCLR, R66. Die and core; the window; the bit offset in the parcels (A = 1), or none where it is popped. -/
  | bclr (d k : Nat) (w : Nat) (off : Option Nat)
  /-- RISE, R66. Die and core; the window; the bit offset in the parcels (A = 1), or none where it is popped. -/
  | rise (d k : Nat) (w : Nat) (off : Option Nat)
  /-- FALL, R66. Die and core; the window; the bit offset in the parcels (A = 1), or none where it is popped. -/
  | fall (d k : Nat) (w : Nat) (off : Option Nat)
  /-- R_AND, R67. Die and core. -/
  | rAnd (d k : Nat)
  /-- R_OR, R67. Die and core. -/
  | rOr (d k : Nat)
  /-- R_XOR, R67. Die and core. -/
  | rXor (d k : Nat)
  /-- R_ANDN, R67. Die and core. -/
  | rAndn (d k : Nat)
  /-- R_ORN, R67. Die and core. -/
  | rOrn (d k : Nat)
  /-- R_NOT, R67. Die and core. -/
  | rNot (d k : Nat)
  /-- R_DUP, R67. Die and core. -/
  | rDup (d k : Nat)
  /-- R_DROP, R67. Die and core. -/
  | rDrop (d k : Nat)
  /-- R_SWAP, R67. Die and core. -/
  | rSwap (d k : Nat)
  /-- R_ONE, R67. Die and core. -/
  | rOne (d k : Nat)
  /-- R_ZERO, R67. Die and core. -/
  | rZero (d k : Nat)
  /-- R_TOD, R67. Die and core. -/
  | rTod (d k : Nat)
  /-- R_FROMD, R67. Die and core. -/
  | rFromd (d k : Nat)
  /-- R_DEPTH, R67. Die and core. -/
  | rDepth (d k : Nat)
  /-- R_CLR, R67. Die and core. -/
  | rClr (d k : Nat)
  /-- DUP, R68. Die and core. -/
  | dup (d k : Nat)
  /-- DROP, R68. Die and core. -/
  | drop (d k : Nat)
  /-- SWAP, R68. Die and core. -/
  | swap (d k : Nat)
  /-- OVER, R68. Die and core. -/
  | over (d k : Nat)
  /-- ROT, R68. Die and core. -/
  | rot (d k : Nat)
  /-- NIP, R68. Die and core. -/
  | nip (d k : Nat)
  /-- TUCK, R68. Die and core. -/
  | tuck (d k : Nat)
  /-- DEPTH, R68. Die and core. -/
  | depth (d k : Nat)
  /-- PICK, R68. Die and core; n. -/
  | pick (d k : Nat) (n : Nat)
  /-- TOR, R68. Die and core. -/
  | tor (d k : Nat)
  /-- FROMR, R68. Die and core. -/
  | fromr (d k : Nat)
  /-- RFETCH, R68. Die and core. -/
  | rfetch (d k : Nat)
  /-- ADD, R68. Die and core. -/
  | add (d k : Nat)
  /-- SUB, R68. Die and core. -/
  | sub (d k : Nat)
  /-- ADDS, R68. Die and core. -/
  | adds (d k : Nat)
  /-- SUBS, R68. Die and core. -/
  | subs (d k : Nat)
  /-- NEG, R68. Die and core. -/
  | neg (d k : Nat)
  /-- ABS, R68. Die and core. -/
  | abs (d k : Nat)
  /-- MIN, R68. Die and core. -/
  | min (d k : Nat)
  /-- MAX, R68. Die and core. -/
  | max (d k : Nat)
  /-- MINU, R68. Die and core. -/
  | minu (d k : Nat)
  /-- MAXU, R68. Die and core. -/
  | maxu (d k : Nat)
  /-- INC, R68. Die and core. -/
  | inc (d k : Nat)
  /-- DEC, R68. Die and core. -/
  | dec (d k : Nat)
  /-- MUL, R68. Die and core. -/
  | mul (d k : Nat)
  /-- MULH, R68. Die and core. -/
  | mulh (d k : Nat)
  /-- MULHU, R68. Die and core. -/
  | mulhu (d k : Nat)
  /-- DIV, R69. Die and core. -/
  | div (d k : Nat)
  /-- DIVU, R69. Die and core. -/
  | divu (d k : Nat)
  /-- REM, R69. Die and core. -/
  | rem (d k : Nat)
  /-- REMU, R69. Die and core. -/
  | remu (d k : Nat)
  /-- AND, R68. Die and core. -/
  | andI (d k : Nat)
  /-- OR, R68. Die and core. -/
  | orI (d k : Nat)
  /-- XOR, R68. Die and core. -/
  | xor (d k : Nat)
  /-- NOT, R68. Die and core. -/
  | notI (d k : Nat)
  /-- ANDN, R68. Die and core. -/
  | andn (d k : Nat)
  /-- SHL, R70. Die and core. -/
  | shl (d k : Nat)
  /-- SHR, R70. Die and core. -/
  | shr (d k : Nat)
  /-- SAR, R70. Die and core. -/
  | sar (d k : Nat)
  /-- ROL, R70. Die and core. -/
  | rol (d k : Nat)
  /-- ROR, R70. Die and core. -/
  | ror (d k : Nat)
  /-- BFX, R70. Die and core. -/
  | bfx (d k : Nat)
  /-- BFI, R70. Die and core. -/
  | bfi (d k : Nat)
  /-- CLZ, R68. Die and core. -/
  | clz (d k : Nat)
  /-- POPC, R68. Die and core. -/
  | popc (d k : Nat)
  /-- SEXB, R68. Die and core. -/
  | sexb (d k : Nat)
  /-- SEXH, R68. Die and core. -/
  | sexh (d k : Nat)
  /-- ZEXB, R68. Die and core. -/
  | zexb (d k : Nat)
  /-- ZEXH, R68. Die and core. -/
  | zexh (d k : Nat)
  /-- CEQ, R68. Die and core. -/
  | ceq (d k : Nat)
  /-- CNE, R68. Die and core. -/
  | cne (d k : Nat)
  /-- CLT, R68. Die and core. -/
  | clt (d k : Nat)
  /-- CGE, R68. Die and core. -/
  | cge (d k : Nat)
  /-- CLTU, R68. Die and core. -/
  | cltu (d k : Nat)
  /-- CGEU, R68. Die and core. -/
  | cgeu (d k : Nat)
  /-- SEL, R68. Die and core. -/
  | sel (d k : Nat)
  /-- LIT11, R71. Die and core; bits [10:0]. -/
  | lit11 (d k : Nat) (v : Nat)
  /-- LIT16S, R71. Die and core; the extension parcel. -/
  | lit16s (d k : Nat) (v : Nat)
  /-- LIT16U, R71. Die and core; the extension parcel. -/
  | lit16u (d k : Nat) (v : Nat)
  /-- LIT32, R71. Die and core; the 32-bit value. -/
  | lit32 (d k : Nat) (v : Nat)
  /-- LITA, R71. Die and core; the extension parcel. -/
  | lita (d k : Nat) (v : Nat)
  /-- LDD_B, R73. Die and core; the window; the displacement parcel (D = 1), or none. -/
  | lddB (d k : Nat) (w : Nat) (disp : Option Nat)
  /-- LDD_BU, R73. Die and core; the window; the displacement parcel (D = 1), or none. -/
  | lddBu (d k : Nat) (w : Nat) (disp : Option Nat)
  /-- LDD_H, R73. Die and core; the window; the displacement parcel (D = 1), or none. -/
  | lddH (d k : Nat) (w : Nat) (disp : Option Nat)
  /-- LDD_HU, R73. Die and core; the window; the displacement parcel (D = 1), or none. -/
  | lddHu (d k : Nat) (w : Nat) (disp : Option Nat)
  /-- LDD_W, R73. Die and core; the window; the displacement parcel (D = 1), or none. -/
  | lddW (d k : Nat) (w : Nat) (disp : Option Nat)
  /-- LDD_T, R73. Die and core; the window; the displacement parcel (D = 1), or none. -/
  | lddT (d k : Nat) (w : Nat) (disp : Option Nat)
  /-- STD_B, R73. Die and core; the window; the displacement parcel (D = 1), or none. -/
  | stdB (d k : Nat) (w : Nat) (disp : Option Nat)
  /-- STD_H, R73. Die and core; the window; the displacement parcel (D = 1), or none. -/
  | stdH (d k : Nat) (w : Nat) (disp : Option Nat)
  /-- STD_W, R73. Die and core; the window; the displacement parcel (D = 1), or none. -/
  | stdW (d k : Nat) (w : Nat) (disp : Option Nat)
  /-- STD_T, R66. Die and core; the window; the displacement parcel (D = 1), or none. -/
  | stdT (d k : Nat) (w : Nat) (disp : Option Nat)
  /-- XCHD_W, R75. Die and core; the window; the displacement parcel (D = 1), or none. -/
  | xchdW (d k : Nat) (w : Nat) (disp : Option Nat)
  /-- ADDD_W, R75. Die and core; the window; the displacement parcel (D = 1), or none. -/
  | adddW (d k : Nat) (w : Nat) (disp : Option Nat)
  /-- IN, R78. Die and core. -/
  | inI (d k : Nat)
  /-- OUT, R78. Die and core. -/
  | out (d k : Nat)
  /-- IN_D, R78. Die and core; b and the parcel. -/
  | inD (d k : Nat) (b disp : Nat)
  /-- OUT_D, R78. Die and core; b and the parcel. -/
  | outD (d k : Nat) (b disp : Nat)
  /-- B_EQ, R81. Die and core; S and the displacement field. -/
  | bEq (d k : Nat) (short : Bool) (disp : Nat)
  /-- B_NE, R81. Die and core; S and the displacement field. -/
  | bNe (d k : Nat) (short : Bool) (disp : Nat)
  /-- B_LT, R81. Die and core; S and the displacement field. -/
  | bLt (d k : Nat) (short : Bool) (disp : Nat)
  /-- B_GE, R81. Die and core; S and the displacement field. -/
  | bGe (d k : Nat) (short : Bool) (disp : Nat)
  /-- B_LTU, R81. Die and core; S and the displacement field. -/
  | bLtu (d k : Nat) (short : Bool) (disp : Nat)
  /-- B_GEU, R81. Die and core; S and the displacement field. -/
  | bGeu (d k : Nat) (short : Bool) (disp : Nat)
  /-- B_RZ, R81. Die and core; S and the displacement field. -/
  | bRz (d k : Nat) (short : Bool) (disp : Nat)
  /-- B_RNZ, R81. Die and core; S and the displacement field. -/
  | bRnz (d k : Nat) (short : Bool) (disp : Nat)
  /-- JMP, R82. Die and core; the displacement parcel. -/
  | jmp (d k : Nat) (disp : Nat)
  /-- JMPL, R82. Die and core; the parcel address. -/
  | jmpl (d k : Nat) (a : Nat)
  /-- JMPI, R82. Die and core. -/
  | jmpi (d k : Nat)
  /-- CALL, R83. Die and core; the displacement parcel. -/
  | call (d k : Nat) (disp : Nat)
  /-- CALLL, R83. Die and core; the parcel address. -/
  | calll (d k : Nat) (a : Nat)
  /-- CALLI, R83. Die and core. -/
  | calli (d k : Nat)
  /-- RET, R83. Die and core. -/
  | ret (d k : Nat)
  /-- YIELD, R138. Die and core. -/
  | yield (d k : Nat)
  /-- TASKEND, R142. Die and core. -/
  | taskend (d k : Nat)
  /-- NOP, R88. Die and core. -/
  | nop (d k : Nat)
  /-- FENCE, R89. Die and core. -/
  | fence (d k : Nat)
  /-- BRK, R88. Die and core. -/
  | brk (d k : Nat)
  /-- RDTB, R88. Die and core. -/
  | rdtb (d k : Nat)
  /-- RDCYC, R88. Die and core. -/
  | rdcyc (d k : Nat)
  /-- DI, R90. Die and core. -/
  | di (d k : Nat)
  /-- EI, R90. Die and core. -/
  | ei (d k : Nat)
  /-- RDCR, R61. Die and core; the register number. -/
  | rdcr (d k : Nat) (n : Nat)
  /-- WRCR, R61. Die and core; the register number. -/
  | wrcr (d k : Nat) (n : Nat)
  /-- MOV, R101. Die and core; the SZ code, source and destination. -/
  | mov (d k sz : Nat) (a x : Opd)
  /-- ADD_M, R101. Die and core; the SZ code and a, b, d. -/
  | addM (d k sz : Nat) (a b x : Opd)
  /-- SUB_M, R101. Die and core; the SZ code and a, b, d. -/
  | subM (d k sz : Nat) (a b x : Opd)
  /-- AND_M, R101. Die and core; the SZ code and a, b, d. -/
  | andM (d k sz : Nat) (a b x : Opd)
  /-- OR_M, R101. Die and core; the SZ code and a, b, d. -/
  | orM (d k sz : Nat) (a b x : Opd)
  /-- XOR_M, R101. Die and core; the SZ code and a, b, d. -/
  | xorM (d k sz : Nat) (a b x : Opd)
  /-- ANDN_M, R101. Die and core; the SZ code and a, b, d. -/
  | andnM (d k sz : Nat) (a b x : Opd)
  /-- SHL_M, R101. Die and core; the SZ code and a, n, d. -/
  | shlM (d k sz : Nat) (a n x : Opd)
  /-- SHR_M, R101. Die and core; the SZ code and a, n, d. -/
  | shrM (d k sz : Nat) (a n x : Opd)
  /-- SAR_M, R101. Die and core; the SZ code and a, n, d. -/
  | sarM (d k sz : Nat) (a n x : Opd)
  /-- MUL_M, R101. Die and core; the SZ code and a, b, d. -/
  | mulM (d k sz : Nat) (a b x : Opd)
  /-- DIVU_M, R101. Die and core; the SZ code and a, b, d. -/
  | divuM (d k sz : Nat) (a b x : Opd)
  /-- REMU_M, R101. Die and core; the SZ code and a, b, d. -/
  | remuM (d k sz : Nat) (a b x : Opd)
  /-- B_CC, R103. Die and core; the condition, the SZ code and a, b, disp. -/
  | bCc (d k c sz : Nat) (a b disp : Opd)
  /-- JAL_M, R103. Die and core; the SZ code and t, l. -/
  | jalM (d k sz : Nat) (tgt link : Opd)
  /-- ILOAD, R104. Die and core; the SZ code and ia, d. -/
  | iload (d k sz : Nat) (ia x : Opd)
  /-- ISTORE, R104. Die and core; the SZ code and s, ia. -/
  | istore (d k sz : Nat) (a ia : Opd)
  /-- MOVBLK, R106. Die and core; the SZ code and p, q, c; the elements carried out before it is stopped, if it is. -/
  | movblk (d k sz : Nat) (p q c : Opd) (upto : Option Nat)
  /-- FILLBLK, R106. Die and core; the SZ code and v, q, c; the elements carried out before it is stopped, if it is. -/
  | fillblk (d k sz : Nat) (v q c : Opd) (upto : Option Nat)
  /-- CRCBLK, R106. Die and core; the SZ code and p, r, c; the elements carried out before it is stopped, if it is. -/
  | crcblk (d k sz : Nat) (p r c : Opd) (upto : Option Nat)
  /-- CMPBLK, R106. Die and core; the SZ code and p, q, c; the elements carried out before it is stopped, if it is. -/
  | cmpblk (d k sz : Nat) (p q c : Opd) (upto : Option Nat)
  /-- ENTER_S, R120. Die and core; the SZ code and t. -/
  | enterS (d k sz : Nat) (tgt : Opd)
  /-- ENTER_SC, R120. Die and core; the SZ code and t. -/
  | enterSc (d k sz : Nat) (tgt : Opd)
  /-- RET_S, R122. Die and core. -/
  | retS (d k : Nat)
  /-- RET_M, R122. Die and core. -/
  | retM (d k : Nat)
  /-- DI_M, R101. Die and core. -/
  | diM (d k : Nat)
  /-- EI_M, R101. Die and core. -/
  | eiM (d k : Nat)
  /-- FENCE_M, R101. Die and core. -/
  | fenceM (d k : Nat)
  /-- BRK_M, R101. Die and core. -/
  | brkM (d k : Nat)
  /-- INTERRUPT_ENTRY, R345. Die and core. -/
  | interruptEntry (d k : Nat)
  /-- NMI_ENTRY, R356. Die and core. -/
  | nmiEntry (d k : Nat)
  /-- PLANE_FAULT_ENTRY, R197. Die and core. -/
  | planeFaultEntry (d k : Nat)
  /-- POSTED_BUS_ERROR, R77. Die and core; the address of the failing access. -/
  | postedBusError (d k a : Nat)
  /-- DI_LIMIT_EXPIRY, R90. Die and core. -/
  | diLimitExpiry (d k : Nat)
  /-- CORE_LRAM_DATA, R118. The requester, the core, and the word of a write. -/
  | coreLramData (r : Req) (d k : Nat) (w : Option Nat)
  /-- CORE_ISP_DATA, R145. The requester, the core, and the two parcels of a write. -/
  | coreIspData (r : Req) (d k : Nat) (w : Option Nat)
  /-- TASK_ENABLE, R135. Die, core, task and the word written. -/
  | taskEnable (d k t w : Nat)
  /-- TASK_DISABLE, R135. Die, core, task and the word written. -/
  | taskDisable (d k t w : Nat)
  /-- TASK_TRIG, R136. Die, core and task. -/
  | taskTrig (d k t : Nat)
  /-- TASK_DUE, R136. Die, core and task. -/
  | taskDue (d k t : Nat)
  /-- EVENT_TASK_SOURCE, R343. Die and source. -/
  | eventTaskSource (d src : Nat)
  /-- RELEASE_START, R140. Die, core and how many positions of the descriptor list are passed now. -/
  | releaseStart (d k n : Nat)
  /-- TASK_SUSPEND, R138. Die, core and how many more positions of the running task's list are passed first. -/
  | taskSuspend (d k n : Nat)
  /-- TASK_RESTORE, R141. Die and core. -/
  | taskRestore (d k : Nat)
  /-- COPY_OUT_DONE, R142. Die and core. -/
  | copyOutDone (d k : Nat)
  /-- BACKGROUND_SUSPEND, R543. Die and core. -/
  | backgroundSuspend (d k : Nat)
  /-- BACKGROUND_RESUME, R543. Die and core. -/
  | backgroundResume (d k : Nat)
  /-- IMG_REFRESH, R126 -/
  | imgRefresh
  /-- IMG_RUN, R153. PERIOD as written. -/
  | imgRun (period : Nat)
  /-- IMG_STOP, R128. PERIOD as written. -/
  | imgStop (period : Nat)
  /-- RESTART_DONE, R153 -/
  | restartDone
  /-- MIRROR_PASS, R151 -/
  | mirrorPass
  /-- HOOD_LOAD, R156. Queue. -/
  | hoodLoad (q : Nat)
  /-- HOOD_BLOCK, R161. Die and core. -/
  | hoodBlock (d k : Nat)
  /-- HOOD_ABORT, R159. Die and core. -/
  | hoodAbort (d k : Nat)
  /-- BLOCKING, R162. Die and core. -/
  | blocking (d k : Nat)
  /-- HOOD_NO_GAP, R161. Die and core. -/
  | hoodNoGap (d k : Nat)
  /-- HOOD_ARM_RX, R166. Header; die, core, and the digest and N0 of ARM. -/
  | hoodArmRx (h : SbHdr) (d k digest n0 : Nat)
  /-- HOOD_REPLY_RX, R166. Header; die, core, and whether the reply agrees. -/
  | hoodReplyRx (h : SbHdr) (d k : Nat) (ok : Bool)
  /-- HOOD_AT_RX, R166. Header; die, core and N. -/
  | hoodAtRx (h : SbHdr) (d k n : Nat)
  /-- HOOD_MISS_RX, R166. Header; die, core, and the message. -/
  | hoodMissRx (h : SbHdr) (d k : Nat) (miss : HoodMiss)
  /-- HOOD_PAIR_MISS, R166. Die and core. -/
  | hoodPairMiss (d k : Nat)
  /-- STANDBY_HOOD_TIMEOUT, R167. Die and core. -/
  | standbyHoodTimeout (d k : Nat)
  /-- HOOD_PAIR_SPLIT, R167. Die and core. -/
  | hoodPairSplit (d k : Nat)
  /-- LINE_ANNOUNCE, R440 -/
  | lineAnnounce
  /-- LANE_RUN, R203. Die and lane. -/
  | laneRun (d j : Nat)
  /-- LANE_STOP, R191. Die and lane. -/
  | laneStop (d j : Nat)
  /-- LANE_RESUME, R196. Die and lane. -/
  | laneResume (d j : Nat)
  /-- KERNEL_START, R187. Die and lane. -/
  | kernelStart (d j : Nat)
  /-- KERNEL_DEADLINE, R188. Die and lane. -/
  | kernelDeadline (d j : Nat)
  /-- ANDP, R175. Die, lane. -/
  | andp (d j : Nat)
  /-- ORP, R175. Die, lane. -/
  | orp (d j : Nat)
  /-- XORP, R175. Die, lane. -/
  | xorp (d j : Nat)
  /-- ANDNP, R175. Die, lane. -/
  | andnp (d j : Nat)
  /-- NOTP, R175. Die, lane. -/
  | notp (d j : Nat)
  /-- SELP, R175. Die, lane. -/
  | selp (d j : Nat)
  /-- ZEROP, R175. Die, lane. -/
  | zerop (d j : Nat)
  /-- ONESP, R175. Die, lane. -/
  | onesp (d j : Nat)
  /-- DUPP, R175. Die, lane. -/
  | dupp (d j : Nat)
  /-- DROPP, R175. Die, lane. -/
  | dropp (d j : Nat)
  /-- SWAPP, R175. Die, lane. -/
  | swapp (d j : Nat)
  /-- OVERP, R175. Die, lane. -/
  | overp (d j : Nat)
  /-- ROTP, R175. Die, lane. -/
  | rotp (d j : Nat)
  /-- NIPP, R175. Die, lane. -/
  | nipp (d j : Nat)
  /-- TUCKP, R175. Die, lane. -/
  | tuckp (d j : Nat)
  /-- PICKP, R175. Die, lane, count. -/
  | pickp (d j n : Nat)
  /-- SHLP, R173. Die, lane, count. -/
  | shlp (d j n : Nat)
  /-- SHRP, R173. Die, lane, count. -/
  | shrp (d j n : Nat)
  /-- LOADP, R172. Die, lane, index. -/
  | loadp (d j k : Nat)
  /-- STOREP, R175. Die, lane, plane. -/
  | storep (d j q : Nat)
  /-- CALP, R172. Die, lane, bit. -/
  | calp (d j f : Nat)
  /-- LUTP, R176. Die, lane, table, planes pushed. -/
  | lutp (d j t w : Nat)
  /-- POPCP, R177. Die, lane, index. -/
  | popcp (d j k : Nat)
  /-- FLAGP, R178. Die, lane, index. -/
  | flagp (d j k : Nat)
  /-- GEND, R170. Die, lane. -/
  | gend (d j : Nat)
  /-- LANE_CNT_LINE, R194. Die and lane. -/
  | laneCntLine (d j : Nat)
  /-- LANE_SRAM_DATA, R183. The requester, the lane, and the word of a write. -/
  | laneSramData (r : Req) (d j : Nat) (w : Option Nat)
  /-- LANE_KS_DATA, R203. The requester, the lane, and the two parcels of a write. -/
  | laneKsData (r : Req) (d j : Nat) (w : Option Nat)
  /-- KHOOD_LOAD, R198. Die and lane. -/
  | khoodLoad (d j : Nat)
  /-- KHOOD_SWITCH, R199. Die, lane and AT as written. -/
  | khoodSwitch (d j : Nat) (at_ : Bool)
  /-- KHOOD_ABORT, R200. Die and lane. -/
  | khoodAbort (d j : Nat)
  /-- KHOOD_SWITCH_POINT, R200. Die and lane. -/
  | khoodSwitchPoint (d j : Nat)
  /-- KARM_RX, R202. Header; die, lane, and the line, digest, PERGROUP and LANE_LEAD of KARM. -/
  | karmRx (h : SbHdr) (d j n digest cost lead : Nat)
  /-- KHOOD_ACK_RX, R202. Header; die and lane. -/
  | khoodAckRx (h : SbHdr) (d j : Nat)
  /-- KHOOD_NAK_RX, R202. Header; die and lane. -/
  | khoodNakRx (h : SbHdr) (d j : Nat)
  /-- KGO_RX, R202. Header; die and lane. -/
  | kgoRx (h : SbHdr) (d j : Nat)
  /-- KCANCEL_RX, R202. Header; die and lane. -/
  | kcancelRx (h : SbHdr) (d j : Nat)
  /-- KHOOD_ACK_TIMEOUT, R202. Die and lane. -/
  | khoodAckTimeout (d j : Nat)
  /-- KHOOD_STANDBY_SPLIT, R202. Die and lane. -/
  | khoodStandbySplit (d j : Nat)
  /-- JOB_ADMIT, R229. Queue. -/
  | jobAdmit (q : Nat)
  /-- JOB_START, R232. Queue. -/
  | jobStart (q : Nat)
  /-- JOB_END, R233. Queue. -/
  | jobEnd (q : Nat)
  /-- HOST_NOP, R375. Queue. -/
  | hostNop (q : Nat)
  /-- DRAM_CLEAR, R206. Queue. -/
  | dramClear (q : Nat)
  /-- DRAM_CRC, R375. Queue. -/
  | dramCrc (q : Nat)
  /-- NVS_COMMIT, R454. Queue. -/
  | nvsCommit (q : Nat)
  /-- IMAGE_VERIFY, R484. Queue. -/
  | imageVerify (q : Nat)
  /-- CMD_ABORT, R379. Queue that runs the abort. -/
  | cmdAbort (q : Nat)
  /-- ING_WPTR_WRITE, R217. Die and the word written. -/
  | ingWptrWrite (d w : Nat)
  /-- INGEST_FILL, R214. Die. -/
  | ingestFill (d : Nat)
  /-- INGEST_ABANDON, R218. Die and lane. -/
  | ingestAbandon (d j : Nat)
  /-- CAL_TRANSFER, R223. Die and the word written to ING_CAL_CTRL. -/
  | calTransfer (d w : Nat)
  /-- CAL_TRANSFER_DONE, R224. Die. -/
  | calTransferDone (d : Nat)
  /-- DRAM_TEMP_READING, R234. Die, stack reading in sixteenths of a °C before calibration. -/
  | dramTempReading (d : Nat) (raw16 : Int)
  /-- CASE_TEMP_READING, R534. Die, case reading and highest junction reading in °C. -/
  | caseTempReading (d : Nat) (c jmax : Int)
  /-- THETA_RAISE, R534. Die. -/
  | thetaRaise (d : Nat)
  /-- THETA_LEAD_EXPIRY, R235. Die. -/
  | thetaLeadExpiry (d : Nat)
  /-- CAP_RAISE, R237 -/
  | capRaise
  /-- CAP_MESSAGE, R239 -/
  | capMessage
  /-- LINK_ENABLE, R258. Die and link. -/
  | linkEnable (d m : Nat)
  /-- LINK_DISABLE, R258. Die and link. -/
  | linkDisable (d m : Nat)
  /-- LINK_RETRAIN, R258. Die and link. -/
  | linkRetrain (d m : Nat)
  /-- HCRC_FAIL_RX, R252. Die and link. -/
  | hcrcFailRx (d m : Nat)
  /-- BATT_RX, R253. Die, link and frame. -/
  | battRx (d m : Nat) (f : KFrame)
  /-- CRESP_RX, R253. Die, link and frame. -/
  | crespRx (d m : Nat) (f : KFrame)
  /-- EVENT_RX, R253. Die, link and frame. -/
  | eventRx (d m : Nat) (f : KFrame)
  /-- CREDIT_RX, R256. Die, link and frame. -/
  | creditRx (d m : Nat) (f : KFrame)
  /-- CREDIT_RESYNC_RX, R257. Die, link and frame. -/
  | creditResyncRx (d m : Nat) (f : KFrame)
  /-- CREDIT_MARK_RX, R257. Die, link and frame. -/
  | creditMarkRx (d m : Nat) (f : KFrame)
  /-- CREDIT_FULL_RX, R257. Die, link and frame. -/
  | creditFullRx (d m : Nat) (f : KFrame)
  /-- IDLE_RX, R261. Die, link and frame. -/
  | idleRx (d m : Nat) (f : KFrame)
  /-- TRAIN_RX, R260. Die, link and frame. -/
  | trainRx (d m : Nat) (f : KFrame)
  /-- LINK_TX_SELECT, R265. Die and link. -/
  | linkTxSelect (d m : Nat)
  /-- IDLE_TX, R261. Die and link. -/
  | idleTx (d m : Nat)
  /-- CREDIT_TX, R256. Die and link. -/
  | creditTx (d m : Nat)
  /-- TRAIN_TX, R260. Die, link, whether the receiver needs no further change, requests for the peer's taps. -/
  | trainTx (d m : Nat) (ready : Bool) (taps : Nat)
  /-- LINK_TX_GO, R282. Die and link. -/
  | linkTxGo (d m : Nat)
  /-- LINK_RX_POP, R282. Die and link. -/
  | linkRxPop (d m : Nat)
  /-- LINK_HB_TIMEOUT, R259. Die and link. -/
  | linkHbTimeout (d m : Nat)
  /-- LINK_LOCK_LOSS, R259. Die, link, and what its receiver meets. -/
  | linkLockLoss (d m : Nat) (codewords : FecReport)
  /-- CREDIT_RESYNC_TIMEOUT, R257. Die and link. -/
  | creditResyncTimeout (d m : Nat)
  /-- FAULT_RETRAIN, R258. Die and link. -/
  | faultRetrain (d m : Nat)
  /-- LINK_TRAIN_TIMEOUT, R260. Die and link. -/
  | linkTrainTimeout (d m : Nat)
  /-- ROUTE_DEADLINE, R266. Die and link. -/
  | routeDeadline (d m : Nat)
  /-- REFLEX_PASS, R276. Die. -/
  | reflexPass (d : Nat)
  /-- RFX_FSET, R279. Die and the word written. -/
  | rfxFset (d w : Nat)
  /-- RFX_FCLR, R279. Die and the word written. -/
  | rfxFclr (d w : Nat)
  /-- ARB_DECISION, R291. Arbiter `a` of compute die `some d` or of the crown die, the requests that arrive, and whether the transfer in progress is in its last beat. -/
  | arbDecision (c : Option Nat) (a : Nat) (arrivals : List ArbArrival) (last : Bool)
  /-- HSB_ENABLE, R312 -/
  | hsbEnable
  /-- HSB_DISABLE, R312 -/
  | hsbDisable
  /-- HSB_HANDOVER, R335 -/
  | hsbHandover
  /-- HB_TX, R311 -/
  | hbTx
  /-- HB_RX, R312. Header, and HSB_HC, time, echo, residence time, READY and JOBPAIR of the HB. -/
  | hbRx (h : SbHdr) (hc time echo residence : Nat) (ready jobpair : Bool)
  /-- RESIGN_RX, R329. Header. -/
  | resignRx (h : SbHdr)
  /-- HANDOVER_RX, R335. Header and N. -/
  | handoverRx (h : SbHdr) (n : Nat)
  /-- HANDACK_RX, R335. Header and N. -/
  | handackRx (h : SbHdr) (n : Nat)
  /-- HANDACK_TIMEOUT, R335 -/
  | handackTimeout
  /-- HANDOVER_SWITCH, R335 -/
  | handoverSwitch
  /-- LINE_MSG_RX, R317. Header, line number, and F(n) in ps. -/
  | lineMsgRx (h : SbHdr) (n f : Nat)
  /-- MIRROR_RX, R318. Header, IMG_SEQ, whether the regions come whole, and blocks: image offset and 64 bytes. -/
  | mirrorRx (h : SbHdr) (seq : Nat) (whole : Bool) (blocks : List (Nat × List Nat))
  /-- EQ_RX, R327. Header, core (4 × die + core), N, and entries: VAR_ID and bytes. -/
  | eqRx (h : SbHdr) (core n : Nat) (vals : List (Nat × List Nat))
  /-- EQSKIP_RX, R327. Header, core (4 × die + core) and N. -/
  | eqskipRx (h : SbHdr) (core n : Nat)
  /-- JOB_MSG_RX, R322. Header, STATE, descriptor CRC, S0, and per die its number, ING_RPTR and ING_LINE. -/
  | jobMsgRx (h : SbHdr) (state crc s0 : Nat) (dies : List (Nat × Nat × Nat))
  /-- JOB_MSG_TX, R322 -/
  | jobMsgTx
  /-- CAP_MSG_RX, R324. Header and cap. -/
  | capMsgRx (h : SbHdr) (cap : Nat)
  /-- JOIN_RX, R313. Header, NODE_REV, PERIOD, map CRCs, and per lane its digest and settings. -/
  | joinRx (h : SbHdr) (rev period : Nat) (maps : List Nat) (lanes : List (List Nat))
  /-- LEAVE_RX, R312. Header. -/
  | leaveRx (h : SbHdr)
  /-- HASH_RX, R320. Header, and page numbers with their hashes. -/
  | hashRx (h : SbHdr) (hashes : List (Nat × Nat))
  /-- PAGE_HASH, R320. Page number: address divided by 65,536. -/
  | pageHash (p : Nat)
  /-- SEEKWAIT_EXPIRY, R312 -/
  | seekwaitExpiry
  /-- PATH_SILENCE, R328. Path: 0 A, 1 B. -/
  | pathSilence (p : Nat)
  /-- PEER_SILENCE, R328 -/
  | peerSilence
  /-- CAN_HEARTBEAT_TX, R330 -/
  | canHeartbeatTx
  /-- CAN_HEARTBEAT_RX, R330. Claim. -/
  | canHeartbeatRx (claim : Nat)
  /-- CLX_FRAME_TX, R336 -/
  | clxFrameTx
  /-- CLX_FRAME_RX, R336. Claim, and whether the CRC passes. -/
  | clxFrameRx (claim : Nat) (crcOk : Bool)
  /-- CLX_PEER_LOST, R336 -/
  | clxPeerLost
  /-- KEEP_FRAME_RX, R407. Role, claim and LINERUN of the frame. -/
  | keepFrameRx (active : Bool) (claim : Nat) (lineRun : Bool)
  /-- KEEP_FRAME_TX, R407 -/
  | keepFrameTx
  /-- KEEP_TIMEOUT, R408 -/
  | keepTimeout
  /-- IRQ_PEND_SET, R346. Controller (`none` the crown's, `some d` compute die d's), word number, word written. -/
  | irqPendSet (c : Option Nat) (w v : Nat)
  /-- IRQ_PEND_CLR, R346. Controller, word number, word written. -/
  | irqPendClr (c : Option Nat) (w v : Nat)
  /-- IRQ_EN_SET, R346. Controller, word number, word written. -/
  | irqEnSet (c : Option Nat) (w v : Nat)
  /-- IRQ_EN_CLR, R346. Controller, word number, word written. -/
  | irqEnClr (c : Option Nat) (w v : Nat)
  /-- IRQ_DONE, R347. The requester, the core whose IRQ_DONE it is, and the word. -/
  | irqDone (r : Req) (d k w : Nat)
  /-- WDT_ENABLE, R354 -/
  | wdtEnable
  /-- WDT_KICK, R353. Requester and word written. -/
  | wdtKick (r : Req) (w : Nat)
  /-- WDT_PERIOD_END, R354 -/
  | wdtPeriodEnd
  /-- WDT_HALF_PERIOD, R359 -/
  | wdtHalfPeriod
  /-- WDT_GRACE_EXPIRY, R355 -/
  | wdtGraceExpiry
  /-- ENDPOINT_RESET, R362. 1 PERST#, 2 hot reset, 3 link-down, 4 FLR, 5 return from D3hot. -/
  | endpointReset (cause : Nat)
  /-- BAR0_REQUEST, R365. Offset, direction, and one item for each byte: none where it is not enabled. -/
  | bar0Request (off : Nat) (write : Bool) (data : List (Option Nat))
  /-- BAR2_REQUEST, R366. Offset, direction, and one item for each byte: none where it is not enabled. -/
  | bar2Request (off : Nat) (write : Bool) (data : List (Option Nat))
  /-- QUEUE_ENABLE, R372. Queue. -/
  | queueEnable (q : Nat)
  /-- QUEUE_DISABLE, R372. Queue. -/
  | queueDisable (q : Nat)
  /-- SQ_DOORBELL, R373. Queue and word written. -/
  | sqDoorbell (q w : Nat)
  /-- CQ_DOORBELL, R373. Queue and word written. -/
  | cqDoorbell (q w : Nat)
  /-- QUEUE_FETCH, R374. Queue, the entry's 16 words, and whether the fetch completes with an error. -/
  | queueFetch (q : Nat) (entry : List Nat) (err : Bool)
  /-- COMMAND_STEP, R377 -/
  | commandStep
  /-- CONTEXT_SLOT_GRANT, R381. The CRC engine, else the cryptographic engine. -/
  | contextSlotGrant (crc : Bool)
  /-- ENUM_TX, R383 -/
  | enumTx
  /-- ENUM_RX, R383. COUNT of the frame, and whether another head sent it. -/
  | enumRx (count : Nat) (other : Bool)
  /-- RING_READ_RX, R384. Sender, tag and I/O address. -/
  | ringReadRx (src tag a : Nat)
  /-- RING_WRITE_RX, R384. I/O address and word. -/
  | ringWriteRx (a w : Nat)
  /-- RING_RESP_RX, R384. Sender, tag and data words. -/
  | ringRespRx (src tag : Nat) (data : List Nat)
  /-- RING_CMD_RX, R387. Sender, tag, the entry's 16 words, and the head queue's Q_SLACK. -/
  | ringCmdRx (src tag : Nat) (entry : List Nat) (slack : Nat)
  /-- RING_CPL_RX, R387. Sender, tag, STATUS, RESULT, DATA. -/
  | ringCplRx (src tag status result data : Nat)
  /-- RING_CHECK_RX, R389. Sender, tag, and the NODE_CTRL word. -/
  | ringCheckRx (src tag w : Nat)
  /-- RING_APPLY_RX, R389 -/
  | ringApplyRx
  /-- RING_RELEASE_RX, R389 -/
  | ringReleaseRx
  /-- RING_TIMEOUT, R387. The member that has not answered, and the tag. -/
  | ringTimeout (src tag : Nat)
  /-- RING_PORT_DOWN, R388. Port, and how many writes of this package the break cuts off. -/
  | ringPortDown (p lost : Nat)
  /-- RING_PORT_RECOVERED, R388. Port. -/
  | ringPortRecovered (p : Nat)
  /-- RING_REENUM, R391 -/
  | ringReenum
  /-- FIELD_SUPPLY_CHANGE, R393. Group and measured voltage in mV before calibration. -/
  | fieldSupplyChange (g raw : Nat)
  /-- DIN_SAMPLE, R395. Raw level of input i in bit i. -/
  | dinSample (raw : Nat)
  /-- FAST_EDGE, R398. Input, new level, instant at the ball in ps of package time. -/
  | fastEdge (n : Nat) (level : Bool) (atPs : Nat)
  /-- DIN_FILT_WRITE, R395. Input and word written. -/
  | dinFiltWrite (n w : Nat)
  /-- LSW_SET, R399. The word written. -/
  | lswSet (w : Nat)
  /-- LSW_CLR, R399. The word written. -/
  | lswClr (w : Nat)
  /-- LSW_RESUME, R410 -/
  | lswResume
  /-- TURNON_DONE, R401. Channel. -/
  | turnonDone (c : Nat)
  /-- TURNOFF_DONE, R402. Channel. -/
  | turnoffDone (c : Nat)
  /-- TURNOFF_TIMEOUT, R402. Channel. -/
  | turnoffTimeout (c : Nat)
  /-- OC_TRIP, R404. Channel, and the ms for which current limit has been active without a break. -/
  | ocTrip (c ms : Nat)
  /-- OT_TRIP, R404. Channel. -/
  | otTrip (c : Nat)
  /-- OPEN_DETECT, R404. Channel and measured current in mA. -/
  | openDetect (c ma : Nat)
  /-- SHORT_DETECT, R404. Channel. -/
  | shortDetect (c : Nat)
  /-- LSW_DIAG_CLEAR, R405. Channel, word written to LSW_CHc_STAT, junction below 135 °C. -/
  | lswDiagClear (c w : Nat) (cool : Bool)
  /-- CAN_ENABLE, R416. Controller and word written to CAN_CTRL. -/
  | canEnable (c w : Nat)
  /-- CAN_FRAME_RX, R417. Controller and frame. -/
  | canFrameRx (c : Nat) (f : CanFrame)
  /-- CAN_TX_START, R419. Controller. -/
  | canTxStart (c : Nat)
  /-- CAN_TX_DONE, R419. Controller. -/
  | canTxDone (c : Nat)
  /-- CAN_TX_RETRY, R419. Controller, LASTERR code (0: arbitration lost), whether ISO 11898-1 excepts the count. -/
  | canTxRetry (c kind : Nat) (noInc : Bool)
  /-- CAN_BUSOFF_RECOVERY, R422. Controller. -/
  | canBusoffRecovery (c : Nat)
  /-- CAN_BUS_STUCK, R423. Controller. -/
  | canBusStuck (c : Nat)
  /-- CAN_OBJSEL, R426. Controller and object written. -/
  | canObjsel (c o : Nat)
  /-- CAN_OBJ_WRITE, R426. Controller. -/
  | canObjWrite (c : Nat)
  /-- CAN_OBJ_TXREQ, R426. Controller. -/
  | canObjTxreq (c : Nat)
  /-- CAN_OBJ_CANCEL, R420. Controller. -/
  | canObjCancel (c : Nat)
  /-- RTC_SET, R430 -/
  | rtcSet
  /-- RTC_SET_LOAD, R430 -/
  | rtcSetLoad
  /-- RTC_SHIFT, R431. The word written. -/
  | rtcShift (w : Nat)
  /-- RTC_SEC_LO_READ, R429 -/
  | rtcSecLoRead
  /-- RTC_FRAC_READ, R429 -/
  | rtcFracRead
  /-- ALARM_FIRE, R432. Alarm 0 or 1. -/
  | alarmFire (k : Nat)
  /-- VBAT_MEASURE, R435. The reading in mV. -/
  | vbatMeasure (mv : Nat)
  /-- RETENTION_LATCH, R434 -/
  | retentionLatch
  /-- TMB_SET, R438 -/
  | tmbSet
  /-- PTP_MESSAGE, R439. Measured offset from the master in ns. -/
  | ptpMessage (ofs : Int)
  /-- TMB_TIME_LO_READ, R446 -/
  | tmbTimeLoRead
  /-- LINE_ENABLE, R440 -/
  | lineEnable
  /-- LINE_DISABLE, R440 -/
  | lineDisable
  /-- REF_INVALID, R443. Reference: 1 PTP, 2 encoder. -/
  | refInvalid (r : Nat)
  /-- REF_QUALIFIED, R441. Reference: 1 PTP, 2 encoder. -/
  | refQualified (r : Nat)
  /-- NVS_CMD, R451. The word written. -/
  | nvsCmd (w : Nat)
  /-- SEGMENT_STORE_START, R452. Raw VHOLD reading in mV. -/
  | segmentStoreStart (vhold : Nat)
  /-- SEGMENT_PROGRAM_DONE, R452. Whether the read-back passes; raw VHOLD reading in mV. -/
  | segmentProgramDone (good : Bool) (vhold : Nat)
  /-- POUNCE_PASS, R455. Segment and bank of each copy that fails the margin read. -/
  | pouncePass (weak : List (Nat × Nat))
  /-- PWR_WARN, R502. The supply voltage in mV. -/
  | pwrWarn (mv : Nat)
  /-- PWR_WARN_END, R502. The lowest voltage seen, in mV. -/
  | pwrWarnEnd (mv : Nat)
  /-- POWERFAIL_STORE, R456. The pages that can still be copied, where the supply ends it. -/
  | powerfailStore (stop : Option Nat)
  /-- POWERFAIL_STORE_END, R505. The rails below their limits, one bit each. -/
  | powerfailStoreEnd (rails : Nat)
  /-- EVENT_OFFER, R466 -/
  | eventOffer
  /-- TOKEN_REFILL, R466. Bucket `b`. -/
  | tokenRefill (b : Nat)
  /-- EVR_WIN7_READ, R467 -/
  | evrWin7Read
  /-- EVR_CURSOR_WRITE, R467. The word written. -/
  | evrCursorWrite (v : Nat)
  /-- UPD_BEGIN, R479 -/
  | updBegin
  /-- UPD_PUT, R480 -/
  | updPut
  /-- UPD_ERASE, R481 -/
  | updErase
  /-- UPD_ACTIVATE, R485 -/
  | updActivate
  /-- STAGING_ERASE_DONE, R479 -/
  | stagingEraseDone
  /-- FRAGMENT_PROGRAM_DONE, R480. Whether the read-back matches. -/
  | fragmentProgramDone (good : Bool)
  /-- UPD_VERIFY_DONE, R482 -/
  | updVerifyDone
  /-- ACTIVATE_RECHECK, R485 -/
  | activateRecheck
  /-- SVC_BEGIN, R483. CRC passes, INDEX, XID. -/
  | svcBegin (crc : Bool) (index xid : Nat)
  /-- SVC_FRAGMENT_PART, R483. CRC passes, PART, INDEX, XID, data octets. -/
  | svcFragmentPart (crc : Bool) (part index xid : Nat) (data : List Nat)
  /-- SVC_ERASE, R483. CRC passes, INDEX, XID. -/
  | svcErase (crc : Bool) (index xid : Nat)
  /-- SVC_STATUS, R483. CRC passes, INDEX, XID. -/
  | svcStatus (crc : Bool) (index xid : Nat)
  /-- SVC_ACTIVATE, R483. CRC passes, XID. -/
  | svcActivate (crc : Bool) (xid : Nat)
  /-- UPD_CONFIRM, R489. The word written. -/
  | updConfirm (w : Nat)
  /-- UPD_LOCK_SET, R486 -/
  | updLockSet
  /-- UPD_UNLOCK, R486 -/
  | updUnlock
  /-- TRIAL_EXPIRY, R488 -/
  | trialExpiry
  /-- TRIAL_FALLBACK, R488 -/
  | trialFallback
  /-- KEY_PROGRAM, R477. Requester, and whether the fuses read back right. -/
  | keyProgram (r : Req) (good : Bool)
  /-- KEY_REVOKE, R477. Requester and word written. -/
  | keyRevoke (r : Req) (w : Nat)
  /-- TRNG_ACQ_READ, R492 -/
  | trngAcqRead
  /-- TRNG_REQ, R492. Slot. -/
  | trngReq (n : Nat)
  /-- TRNG_REL, R492. Slot. -/
  | trngRel (n : Nat)
  /-- TRNG_REQUEST_DONE, R491. Slot. -/
  | trngRequestDone (n : Nat)
  /-- TRNG_START_DONE, R491 -/
  | trngStartDone
  /-- TRNG_TEST_FAIL, R493. The adaptive proportion test failed, else the repetition count test. -/
  | trngTestFail (apt : Bool)
  /-- TRNG_FAILS_CLEAR, R493 -/
  | trngFailsClear
  /-- POWER_ON, R507 -/
  | powerOn
  /-- RAIL_RESET, R506. The rails below their limits, one bit each. -/
  | railReset (rails : Nat)
  /-- PWR_RESET_N, R507 -/
  | pwrResetN
  /-- BOOT_SEQUENCE, R508. The straps as sampled. -/
  | bootSequence (hsbPair hsbUnit ringEn ringHead : Bool)
  /-- NAP_STORE_DONE, R511 -/
  | napStoreDone
  /-- WAKE_N_LOW, R514 -/
  | wakeNLow
  /-- SVC_WAKE_FRAME, R514 -/
  | svcWakeFrame
  /-- NAP_DIN_SAMPLE, R514. The input levels sampled. -/
  | napDinSample (levels : Nat)
  /-- CLOCK_LOCK_LOSS, R510. The crown die or a compute die, and its island. -/
  | clockLockLoss (die : Option Nat) (island : Nat)
  /-- THERM_HOT, R535. The die's node and the junction temperature in °C. -/
  | thermHot (n : Node) (c : Int)
  /-- THERM_CLEAR, R535 -/
  | thermClear
  /-- RESERVED_OPCODE_TRAP, R55. Die and core; the opcode parcel reached. -/
  | reservedOpcodeTrap (d k parcel : Nat)
  /-- INSTRUCTION_FETCH_FAULT, R83. Die and core. -/
  | instructionFetchFault (d k : Nat)
  /-- CAN_RX_ERROR, R422. Controller, LASTERR code, whether ISO 11898-1 adds 8. -/
  | canRxError (c kind : Nat) (eight : Bool)
  /-- CAN_INTEGRATED, R422. Controller. -/
  | canIntegrated (c : Nat)
  /-- RTC_SHIFT_DONE, R431 -/
  | rtcShiftDone
  /-- RAIL_RESET_IN_STORE, R504. The rails below their limits, one bit each. -/
  | railResetInStore (rails : Nat)
  /-- WAKE_SUPPLY_SWITCH, R499. Whether VFIELD is now the source. -/
  | wakeSupplySwitch (vfield : Bool)
  /-- LATCHED_WAKE_START, R512 -/
  | latchedWakeStart
  /-- RING_FRAME_PASS_ON, R384. Port, the frame's name, header words and payload words, and whether its CRC passes. -/
  | ringFramePassOn (p : Nat) (name : String) (header payload : List Nat) (crcOk : Bool)
  /-- PCIE_LINK_TRAINED, R363. Speed code 1 to 5, and the width with what configuration software sets (R361, R368). -/
  | pcieLinkTrained (speed : Nat) (setup : PcieSetup)
  deriving DecidableEq, Repr

end Sys2Proof
end

