-- ==== Sys2Proof/Machine/Store.lean ====
section
/-! DEFINITION. The memories of the package (R43, R45, R170, R447, R472): which there are, their sizes, and byte and
word access to one of them. Each is a list of (address, byte) cells, addresses strictly rising, no cell holding the
byte 0 that an unlisted address reads as. -/

namespace Sys2Proof.Machine

/-- The memories of the package. A bank or a kernel-store slot is named by its physical number, 0 or 1. -/
inductive MemId where
  /-- Core-local data RAM of scan core k of die d, 256 KiB (R45). -/
  | lram (d k : Nat)
  /-- A physical code bank of a scan core, 512 KiB: the running or the hood bank (R43, R44). -/
  | bank (d k b : Nat)
  /-- The shared code SRAM of a die, 8 MiB (R43). -/
  | shared (d : Nat)
  /-- The control-image SRAM of the crown die, 16 MiB (R45, R125). -/
  | img
  /-- The input half of the control image that is not published (R126). -/
  | imgIdle
  /-- The retained-store SRAM, 2 MiB (R447). -/
  | ret
  /-- A copy of a retained-store segment in bank b (R447). -/
  | nv (b seg : Nat)
  /-- The DRAM of a compute die, 24 GiB (R45). -/
  | dram (d : Nat)
  /-- The lane SRAM of a lane, 8 MiB (R180). -/
  | lsram (d j : Nat)
  /-- A physical slot of a lane's kernel store, 32 KiB (R169). -/
  | ks (d j b : Nat)
  /-- A flash bank, 64 MiB (R472). -/
  | flash (b : Nat)
  /-- The slots of the event recorder, for their ECC; their words are in the recorder (R464, R540). -/
  | evr
  deriving DecidableEq, Repr

/-- A number for each memory, by which memories are sorted. -/
def MemId.code : MemId → Nat
  | .img => Nat.pair 0 0 | .imgIdle => Nat.pair 0 1 | .ret => Nat.pair 0 2
  | .lram d k => Nat.pair 1 (Nat.pair d k) | .bank d k b => Nat.pair 2 (Nat.pair (Nat.pair d k) b)
  | .shared d => Nat.pair 3 d | .nv b s => Nat.pair 4 (Nat.pair b s) | .dram d => Nat.pair 5 d
  | .lsram d j => Nat.pair 6 (Nat.pair d j) | .ks d j b => Nat.pair 7 (Nat.pair (Nat.pair d j) b)
  | .flash b => Nat.pair 8 b | .evr => Nat.pair 9 0

/-- The bytes of one memory (R7, R540): address and byte, in canonical form. -/
abbrev Cells := Tab Nat Byte

namespace Cells

/-- What an unlisted address reads as (a DESIGN CHOICE: the spec leaves power-on content undefined). -/
def dflt : Byte := 0

/-- The byte at an address. -/
def get (m : Cells) (a : Nat) : Byte := Tab.get m a dflt

/-- The memory with one byte written. -/
def set (m : Cells) (a : Nat) (b : Byte) : Cells := Tab.set (fun k => k) m a dflt b

/-- The canonical form of one memory. -/
def wf (m : Cells) : Bool := Tab.wf (fun k => k) (fun _ => dflt) m

/-- The memory with the bytes of `bs` written from address `a` upward. -/
def setList (m : Cells) (a : Nat) : List Byte → Cells
  | [] => m
  | b :: bs => setList (set m a b) (a + 1) bs

/-- `n` bytes from address `a` upward. -/
def getList (m : Cells) (a : Nat) : Nat → List Byte
  | 0 => []
  | n + 1 => get m a :: getList m (a + 1) n

end Cells

/-- The bytes of a number, least significant first (R7). -/
def leBytes : Nat → Nat → List Byte
  | 0, _ => []
  | n + 1, v => BitVec.ofNat 8 v :: leBytes n (v / 256)

/-- The number that bytes spell, least significant first (R7). -/
def leNat : List Byte → Nat
  | [] => 0
  | b :: bs => b.toNat + 256 * leNat bs

/-- The state of the ECC of one word of SRAM or line of DRAM (R540). -/
inductive Ecc where
  | good | correctable | uncorrectable
  deriving DecidableEq, Repr

end Sys2Proof.Machine
end

