-- ==== Sys2Proof/Machine/Crc.lean ====
section
/-! DEFINITION. The check codes of the spec: CRC-32C (R106), CRC-16 (R249), CRC-8 (R336). -/

namespace Sys2Proof.Machine

/-- One bit of a reflected CRC with polynomial `poly`. -/
def crcRefl (poly c : Nat) : Nat := if c % 2 = 1 then c / 2 ^^^ poly else c / 2

/-- `f` applied `n` times. -/
def iter {α : Type} (f : α → α) : Nat → α → α
  | 0, x => x
  | n + 1, x => iter f n (f x)

/-- One byte into CRC-32C: reflected polynomial 0x82F63B78 (R106). -/
def crc32cByte (c b : Nat) : Nat := iter (crcRefl 0x82F63B78) 8 (c ^^^ b)

/-- CRC-32C over bytes from a running value, without preset or inversion (R106). -/
def crc32cRaw (c : Nat) (bs : List Byte) : Nat := bs.foldl (fun c b => crc32cByte c b.toNat) c

/-- CRC-32C with preset and inversion (R106). -/
def crc32c (bs : List Byte) : Nat := crc32cRaw 0xFFFFFFFF bs ^^^ 0xFFFFFFFF

/-- One bit of a CRC of `w` bits that shifts left, with polynomial `poly`. -/
def crcLeft (w poly c : Nat) : Nat := if 2 ^ (w - 1) ≤ c then (2 * c % 2 ^ w) ^^^ poly else 2 * c

/-- The octets of a word, most significant first (R8). -/
def octets (w : Nat) : List Nat := [w / 2 ^ 24 % 256, w / 2 ^ 16 % 256, w / 256 % 256, w % 256]

/-- CRC-16 over octets: polynomial 0x1021, preset 0xFFFF, no reflection or inversion (R249). -/
def crc16 (octets : List Nat) : Nat := octets.foldl (fun c o => iter (crcLeft 16 0x1021) 8 (c ^^^ o * 256)) 0xFFFF

/-- CRC-8 over the `n` low bits of a number, most significant first: polynomial 0x07, preset 0 (R336). -/
def crc8 (v : Nat) : Nat → Nat
  | 0 => 0
  | n + 1 => crcLeft 8 0x07 (crc8 (v / 2) n ^^^ (v % 2) * 128)

end Sys2Proof.Machine
end

