-- ==== Sys2Proof/Machine/Events.lean ====
section
/-! DEFINITION. The event codes (R465, R497, R518): bits [15:12] severity, [11:8] group, [7:0] number. -/

namespace Sys2Proof.Machine.Ev

abbrev ACCESS_FAULT : Nat := 0xB001
abbrev NAP_REFUSED : Nat := 0x5002
abbrev BUS_ERROR : Nat := 0xB003
abbrev DI_LONG : Nat := 0x8004
abbrev TRAP_DEPTH : Nat := 0xE105
abbrev VECTOR_FAULT : Nat := 0xE106
abbrev TASK_IMG_FAULT : Nat := 0xB107
abbrev OVERRUN : Nat := 0x8108
abbrev RESTART_DONE : Nat := 0x2109
abbrev RESTART_DEGRADED : Nat := 0x810A
abbrev RETAIN_MISMATCH : Nat := 0x810B
abbrev HOOD_BLOCKED : Nat := 0x510C
abbrev HOOD_NO_GAP : Nat := 0x810D
abbrev HOOD_LOST : Nat := 0x810E
abbrev HOOD_PAIR_SPLIT : Nat := 0xB10F
abbrev BATT_LATE : Nat := 0x8210
abbrev LANE_ECC : Nat := 0x8211
abbrev PLANE_FAULT : Nat := 0xB212
abbrev KHOOD_SWITCHED : Nat := 0x5213
abbrev KHOOD_PAIR_SPLIT : Nat := 0xB214
abbrev JOB_ADMITTED : Nat := 0x2315
abbrev JOB_REFUSED : Nat := 0x5316
abbrev JOB_ENDED : Nat := 0x5317
abbrev LINK_DISABLE_REFUSED : Nat := 0x5318
abbrev INGEST_STARVED : Nat := 0x8319
abbrev INGEST_HALT : Nat := 0xB31A
abbrev INGEST_FORMAT : Nat := 0x831B
abbrev DRAM_ECC : Nat := 0xB31C
abbrev DRAM_HOT : Nat := 0x831D
abbrev DRAM_COOL : Nat := 0x231E
abbrev CAP_LOWERED : Nat := 0x831F
abbrev CAP_STOP : Nat := 0xE320
abbrev CAP_RAISED : Nat := 0x2321
abbrev CAP_EXCEEDED : Nat := 0x8322
abbrev LINK_UP : Nat := 0x2423
abbrev LINK_DOWN : Nat := 0x5424
abbrev LINK_FAULT : Nat := 0x8425
abbrev LINK_TRAIN_FAIL : Nat := 0x8426
abbrev BATT_LINK_LATE : Nat := 0x8427
abbrev REFLEX_DROP : Nat := 0x8428
abbrev HSB_MISMATCH : Nat := 0xB529
abbrev PAIR_LOST : Nat := 0xB52A
abbrev TAKEOVER : Nat := 0xB52B
abbrev DEMOTED : Nat := 0x852C
abbrev CLAIM_EXHAUSTED : Nat := 0xE52D
abbrev PATH_FAULT : Nat := 0x852E
abbrev PATH_OK : Nat := 0x252F
abbrev EQ_TRUNC : Nat := 0x8530
abbrev EQ_NOREF : Nat := 0x8531
abbrev EQ_DIFF : Nat := 0x8532
abbrev PAGE_DIFF : Nat := 0x8533
abbrev JOB_PAIR_SPLIT : Nat := 0x8534
abbrev HANDOVER_FAIL : Nat := 0x8535
abbrev WDT_EXPIRED : Nat := 0xE636
abbrev HOST_RESET : Nat := 0x5737
abbrev RING_SHORT : Nat := 0xB738
abbrev RING_DUP_HEAD : Nat := 0xB739
abbrev RING_WRAP : Nat := 0x873A
abbrev RING_LOST : Nat := 0x873B
abbrev RING_PARTIAL : Nat := 0x873C
abbrev FIELD_SUPPLY : Nat := 0x883D
abbrev LSW_DIAG : Nat := 0x883E
abbrev LSW_KEEPLOST : Nat := 0xB83F
abbrev CAN_BUSOFF : Nat := 0x8940
abbrev CAN_RECOVERED : Nat := 0x2941
abbrev CAN_BUS_STUCK : Nat := 0xB942
abbrev ALM_LATE : Nat := 0x5943
abbrev RTC_RETLOST : Nat := 0x8944
abbrev TB_STEP : Nat := 0x5945
abbrev TB_STEP_REFUSED : Nat := 0x5946
abbrev LINE_START : Nat := 0x2947
abbrev LINE_STOP : Nat := 0x2948
abbrev REF_SWITCH : Nat := 0x5949
abbrev NVS_FAIL : Nat := 0xBA4A
abbrev NVS_TIE : Nat := 0x8A4B
abbrev NVS_NOREC : Nat := 0x8A4C
abbrev NVS_STALE : Nat := 0x8A4D
abbrev NVS_POWERFAIL : Nat := 0x8A4E
abbrev NVS_PFNOCFG : Nat := 0xBA4F
abbrev POUNCE_REWRITE : Nat := 0x5A50
abbrev RECORDER_LOST : Nat := 0x8A51
abbrev UPD_TRIAL_HELD : Nat := 0x8BC0
abbrev UPD_XFER_BEGIN : Nat := 0x2BC1
abbrev UPD_XFER_COMPLETE : Nat := 0x5BC2
abbrev UPD_NOT_BLANK : Nat := 0x8BC3
abbrev UPD_VERIFY_FAIL : Nat := 0xBBC4
abbrev UPD_ACTIVATED : Nat := 0x5BC5
abbrev UPD_ACTIVATE_REFUSED : Nat := 0x5BC6
abbrev UPD_CONFIRMED : Nat := 0x5BC7
abbrev UPD_FALLBACK : Nat := 0xBBC8
abbrev UPD_BOOT_BAD : Nat := 0xBBC9
abbrev UPD_RECOVERY : Nat := 0xEBCA
abbrev KEY_PROGRAMMED : Nat := 0x5BCB
abbrev KEY_REVOKED : Nat := 0x8BCC
abbrev TRNG_FAIL : Nat := 0xBBCD
abbrev TRNG_LATCHED : Nat := 0xEBCE
abbrev PWR_DIP : Nat := 0x5CE0
abbrev POWER_RESET : Nat := 0x8CE1
abbrev RAIL_FAULT : Nat := 0xBCE2
abbrev RESET_CAUSE : Nat := 0x2CE3
abbrev NAP_ENTER : Nat := 0x2CE4
abbrev NAP_WAKE : Nat := 0x2CE5
abbrev CLOCK_FAULT : Nat := 0xECE6
abbrev BOOT_DONE : Nat := 0x2CE7
abbrev PF_CROWN_LOST : Nat := 0xBCE8

end Sys2Proof.Machine.Ev
end

