-- ==== Sys2Proof/Config.lean ====
section
/-! DEFINITION. What the spec leaves open: free values, opaque functions that nothing can evaluate, each applied to the
counter `State.free`, which every use advances; result codes without a number; and the functions that outside standards
define and the spec only names. -/

namespace Sys2Proof.Config

/-- A 32-bit value the spec leaves open. -/
opaque freeWord : Nat → BitVec 32

/-- A number the spec leaves open, of any size. -/
opaque freeNat : Nat → Nat

/-- A byte the spec leaves open. -/
opaque freeByte : Nat → BitVec 8

/-- A bit the spec leaves open. -/
opaque freeBit : Nat → Bool

/-- The codes of UPD_STAT.RESULT that the spec names without a number (R480, R485, R496): UPD_DUP, UPD_NOT_BLANK and
UPD_NOT_READY. -/
opaque updDup : BitVec 8
opaque updNotBlank : BitVec 8
opaque updNotReady : BitVec 8

/-- SHA-384 of a byte string, as twelve words (R474 to R477; defined by FIPS 180-4, not by the spec). -/
opaque sha384 : List (BitVec 8) → List Nat

/-- An ECDSA P-384 signature verifies (R475, R484; FIPS 186-5): public key, signature, SHA-384 digest of the message. -/
opaque ecdsaP384 : List (BitVec 8) → List (BitVec 8) → List Nat → Bool

/-- An AES-256-GCM tag verifies (R475, R484): key, initialisation vector, tag, additional data, ciphertext. -/
opaque gcmTag : List Nat → List (BitVec 8) → List (BitVec 8) → List (BitVec 8) → List (BitVec 8) → Bool

/-- The bytes that a retain directory and a range table of so many entries take in the restart data (R150); the spec gives no
sizes. -/
opaque restTables : Nat → Nat → Nat

/-- The pool sizes, in units, that a link's receiver advertises (R255): 32 to 65,535; the spec gives no figure. -/
opaque linkPool : Nat → Nat

/-- The setting index of preset 1 and the limits of each equaliser tap (R260); the spec gives no indices and no limits. -/
opaque linkPreset : Nat → Nat
opaque linkEqLow : Nat → Nat
opaque linkEqHigh : Nat → Nat

/-- The current that a load-switch channel's monitor measures, in mA before calibration, in each interval of 100 µs, and whether
its calibrated reading is rounded up (R413, R463). -/
opaque outCurrent : Nat → Nat → Nat
opaque outRoundUp : Nat → Nat → Bool

/-- Whether an Evoek type code names a signed integer (R154: the codes are the compiler's, and the spec does not list
them). -/
opaque typeSigned : Nat → Bool

end Sys2Proof.Config
end

