-- ==== Sys2Proof/Machine/RegMapCompute.lean ====
section
/-! DEFINITION. The register fields of the compute-die blocks and the headers every node shares, one definition per field of the register maps of spec/:
offset, lowest bit, width, access code, reset value (for a held field: its value on the first power-on of a new part)
and, where the map limits what a write may store, the least and greatest value a write stores. -/

namespace Sys2Proof.Machine


/-! ### R31, 02_nodes_and_spaces.md -/

abbrev NODE_ID_PATH : Field := { off := 0, lo := 0, width := 32, acc := .ro, reset := 0 }
abbrev NODE_CLASS_CLASS : Field := { off := 4, lo := 0, width := 8, acc := .ro, reset := 0 }
abbrev NODE_CLASS_LAYOUT : Field := { off := 4, lo := 8, width := 8, acc := .ro, reset := 1 }
abbrev NODE_CHILDREN_COUNT : Field := { off := 8, lo := 0, width := 8, acc := .ro, reset := 0 }
abbrev NODE_CHILD_BASE_BASE : Field := { off := 0xc, lo := 0, width := 32, acc := .ro, reset := 0 }
abbrev NODE_CHILD_STRIDE_STRIDE : Field := { off := 0x10, lo := 0, width := 32, acc := .ro, reset := 0 }
abbrev NODE_STATUS_FAULT : Field := { off := 0x14, lo := 0, width := 1, acc := .ro, reset := 0 }
abbrev NODE_STATUS_WARN : Field := { off := 0x14, lo := 1, width := 1, acc := .ro, reset := 0 }
abbrev NODE_STATUS_NAP : Field := { off := 0x14, lo := 2, width := 1, acc := .ro, reset := 0 }
abbrev NODE_STATUS_FROZEN : Field := { off := 0x14, lo := 3, width := 1, acc := .ro, reset := 0 }
abbrev NODE_STATUS_DISABLED : Field := { off := 0x14, lo := 4, width := 1, acc := .ro, reset := 0 }
abbrev NODE_STATUS_RESETTING : Field := { off := 0x14, lo := 5, width := 1, acc := .ro, reset := 0 }
abbrev NODE_STATUS_PEND : Field := { off := 0x14, lo := 6, width := 1, acc := .ro, reset := 0 }
abbrev NODE_STATUS_OWN_FAULT : Field := { off := 0x14, lo := 8, width := 1, acc := .ro, reset := 0 }
abbrev NODE_STATUS_OWN_WARN : Field := { off := 0x14, lo := 9, width := 1, acc := .ro, reset := 0 }
abbrev NODE_CTRL_EN : Field := { off := 0x18, lo := 0, width := 1, acc := .rw, reset := 1 }
abbrev NODE_CTRL_NAP : Field := { off := 0x18, lo := 1, width := 1, acc := .rw, reset := 0 }
abbrev NODE_CTRL_FRZ : Field := { off := 0x18, lo := 2, width := 1, acc := .rw, reset := 1 }
abbrev NODE_CTRL_RST : Field := { off := 0x18, lo := 3, width := 1, acc := .wo, reset := 0 }
abbrev NODE_CTRL_MASK : Field := { off := 0x18, lo := 16, width := 4, acc := .wo, reset := 0 }
abbrev NODE_CTRL_RESULT : Field := { off := 0x18, lo := 24, width := 8, acc := .ro, reset := 0 }
abbrev NODE_FAULT_CODE : Field := { off := 0x1c, lo := 0, width := 16, acc := .ro, reset := 0 }
abbrev NODE_FAULT_VIA : Field := { off := 0x1c, lo := 16, width := 8, acc := .ro, reset := 0 }
abbrev NODE_FAULT_VALID : Field := { off := 0x1c, lo := 31, width := 1, acc := .w1c, reset := 0 }
abbrev NODE_FAULT_PATH_PATH : Field := { off := 0x20, lo := 0, width := 32, acc := .ro, reset := 0 }
abbrev NODE_CAPS_HOOD : Field := { off := 0x24, lo := 0, width := 1, acc := .ro, reset := 0 }
abbrev NODE_CAPS_NAP : Field := { off := 0x24, lo := 1, width := 1, acc := .ro, reset := 0 }
abbrev NODE_CAPS_FREEZE : Field := { off := 0x24, lo := 2, width := 1, acc := .ro, reset := 0 }
abbrev NODE_CAPS_RING_MEMBER : Field := { off := 0x24, lo := 3, width := 1, acc := .ro, reset := 0 }
abbrev NODE_CAPS_RING_HEAD : Field := { off := 0x24, lo := 4, width := 1, acc := .ro, reset := 0 }
abbrev NODE_CAPS_HSB : Field := { off := 0x24, lo := 5, width := 1, acc := .ro, reset := 0 }
abbrev NODE_REV_STEP : Field := { off := 0x28, lo := 0, width := 8, acc := .ro, reset := 0xa1 }
abbrev NODE_REV_DIES : Field := { off := 0x28, lo := 8, width := 8, acc := .ro, reset := 0 }

/-! ### R50, 02_nodes_and_spaces.md -/

abbrev PROT_BASE_BASE (n : Nat) : Field := { off := 0x100 + 0x10 * n, lo := 0, width := 32, acc := .rw, reset := 0 }
abbrev PROT_LIMIT_LIMIT (n : Nat) : Field := { off := 0x104 + 0x10 * n, lo := 0, width := 32, acc := .rw, reset := 0 }
abbrev PROT_ATTR_EN (n : Nat) : Field := { off := 0x108 + 0x10 * n, lo := 0, width := 1, acc := .rw, reset := 0 }
abbrev PROT_ATTR_RD (n : Nat) : Field := { off := 0x108 + 0x10 * n, lo := 1, width := 1, acc := .rw, reset := 0 }
abbrev PROT_ATTR_WR (n : Nat) : Field := { off := 0x108 + 0x10 * n, lo := 2, width := 1, acc := .rw, reset := 0 }
abbrev PROT_ATTR_SPACE (n : Nat) : Field := { off := 0x108 + 0x10 * n, lo := 4, width := 2, acc := .rw, reset := 0 }
abbrev PROT_ATTR_LOCK (n : Nat) : Field := { off := 0x108 + 0x10 * n, lo := 8, width := 1, acc := .w1s, reset := 0 }
abbrev FLT_FIRST_LO_ADDR : Field := { off := 0x180, lo := 0, width := 32, acc := .ro, reset := 0 }
abbrev FLT_FIRST_HI_ADDR : Field := { off := 0x184, lo := 0, width := 8, acc := .ro, reset := 0 }
abbrev FLT_LAST_LO_ADDR : Field := { off := 0x188, lo := 0, width := 32, acc := .ro, reset := 0 }
abbrev FLT_LAST_HI_ADDR : Field := { off := 0x18c, lo := 0, width := 8, acc := .ro, reset := 0 }
abbrev FLT_INFO_REGION : Field := { off := 0x190, lo := 0, width := 8, acc := .ro, reset := 0 }
abbrev FLT_INFO_SPACE : Field := { off := 0x190, lo := 8, width := 2, acc := .ro, reset := 0 }
abbrev FLT_INFO_WRITE : Field := { off := 0x190, lo := 10, width := 1, acc := .ro, reset := 0 }
abbrev FLT_INFO_VALID : Field := { off := 0x190, lo := 11, width := 1, acc := .w1c, reset := 0 }
abbrev FLT_INFO_LOST : Field := { off := 0x190, lo := 12, width := 1, acc := .w1c, reset := 0 }

/-! ### R118, 04_memory_form_and_traps.md -/

abbrev CORE_TRAP_DEPTH : Field := { off := 0x200, lo := 0, width := 4, acc := .ro, reset := 0 }
abbrev CORE_TRAP_HALTED : Field := { off := 0x200, lo := 8, width := 1, acc := .ro, reset := 0 }
abbrev CORE_TRAP_LAST_CAUSE : Field := { off := 0x200, lo := 16, width := 8, acc := .ro, reset := 0 }
abbrev CORE_TRAP_LAST_VEC : Field := { off := 0x200, lo := 24, width := 8, acc := .ro, reset := 0 }
abbrev CORE_TRAPCNT_COUNT : Field := { off := 0x204, lo := 0, width := 32, acc := .rc, reset := 0 }
abbrev CORE_PC_PC : Field := { off := 0x208, lo := 0, width := 32, acc := .ro, reset := 0 }
abbrev CORE_LRAM_ADDR_ADDR : Field := { off := 0x210, lo := 2, width := 16, acc := .rw, reset := 0 }
abbrev CORE_LRAM_DATA_DATA : Field := { off := 0x214, lo := 0, width := 32, acc := .rw, reset := 0 }

/-! ### R134, 05_scan_cycle_and_hood.md -/

abbrev TASK_CFG_EN (t : Nat) : Field := { off := 0x400 + 0x40 * t, lo := 0, width := 1, acc := .rw, reset := 0 }
abbrev TASK_CFG_KIND (t : Nat) : Field := { off := 0x400 + 0x40 * t, lo := 1, width := 1, acc := .rw, reset := 0 }
abbrev TASK_CFG_PRIO (t : Nat) : Field := { off := 0x400 + 0x40 * t, lo := 4, width := 4, acc := .rw, reset := 0 }
abbrev TASK_CFG_SRC (t : Nat) : Field := { off := 0x400 + 0x40 * t, lo := 16, width := 9, acc := .rw, reset := 0 }
abbrev TASK_CFG_SRCEN (t : Nat) : Field := { off := 0x400 + 0x40 * t, lo := 25, width := 1, acc := .rw, reset := 0 }
abbrev TASK_PERIOD_PERIOD (t : Nat) : Field := { off := 0x404 + 0x40 * t, lo := 0, width := 32, acc := .rw, reset := 0 }
abbrev TASK_PHASE_PHASE (t : Nat) : Field := { off := 0x408 + 0x40 * t, lo := 0, width := 32, acc := .rw, reset := 0 }
abbrev TASK_ENTRY_ENTRY (t : Nat) : Field := { off := 0x40c + 0x40 * t, lo := 0, width := 32, acc := .rw, reset := 0 }
abbrev TASK_IMG_ADDR (t : Nat) : Field := { off := 0x410 + 0x40 * t, lo := 4, width := 14, acc := .rw, reset := 0 }
abbrev TASK_IMG_COUNT (t : Nat) : Field := { off := 0x410 + 0x40 * t, lo := 24, width := 7, acc := .rw, reset := 0, vmin := 0, vmax := 64 }
abbrev TASK_SPILL_LIMIT (t : Nat) : Field := { off := 0x414 + 0x40 * t, lo := 0, width := 13, acc := .rw, reset := 0xfc0 }
abbrev TASK_SPILL_BASE (t : Nat) : Field := { off := 0x414 + 0x40 * t, lo := 16, width := 13, acc := .rw, reset := 0x1000 }
abbrev TASK_STAT_STATE (t : Nat) : Field := { off := 0x418 + 0x40 * t, lo := 0, width := 3, acc := .ro, reset := 0 }
abbrev TASK_STAT_CFGERR (t : Nat) : Field := { off := 0x418 + 0x40 * t, lo := 8, width := 1, acc := .w1c, reset := 0 }
abbrev TASK_STAT_IMGERR (t : Nat) : Field := { off := 0x418 + 0x40 * t, lo := 9, width := 1, acc := .w1c, reset := 0 }
abbrev TASK_OVRCNT_COUNT (t : Nat) : Field := { off := 0x41c + 0x40 * t, lo := 0, width := 32, acc := .rc, reset := 0 }
abbrev TASK_RELNUM_NUM (t : Nat) : Field := { off := 0x420 + 0x40 * t, lo := 0, width := 32, acc := .ro, reset := 0 }
abbrev TASK_TLAST_NS (t : Nat) : Field := { off := 0x424 + 0x40 * t, lo := 0, width := 32, acc := .ro, reset := 0 }
abbrev TASK_TMAX_NS (t : Nat) : Field := { off := 0x428 + 0x40 * t, lo := 0, width := 32, acc := .rc, reset := 0 }
abbrev TASK_TRIG_TRIG (t : Nat) : Field := { off := 0x42c + 0x40 * t, lo := 0, width := 1, acc := .wo, reset := 0 }

/-! ### R144, 05_scan_cycle_and_hood.md -/

abbrev CORE_SCHED_RUN : Field := { off := 0x300, lo := 0, width := 1, acc := .rw, reset := 0 }
abbrev CORE_SCHED_CURTASK : Field := { off := 0x300, lo := 8, width := 4, acc := .ro, reset := 0 }
abbrev CORE_SCHED_BUSY : Field := { off := 0x300, lo := 12, width := 1, acc := .ro, reset := 0 }
abbrev CORE_SAVE_ADDR : Field := { off := 0x304, lo := 6, width := 12, acc := .rw, reset := 0xe80 }

/-! ### R145, 05_scan_cycle_and_hood.md -/

abbrev CORE_ISP_ADDR_ADDR : Field := { off := 0x218, lo := 1, width := 22, acc := .rw, reset := 0 }
abbrev CORE_ISP_DATA_DATA : Field := { off := 0x21c, lo := 0, width := 32, acc := .rw, reset := 0 }

/-! ### R159, 05_scan_cycle_and_hood.md -/

abbrev HOOD_CTRL_BLOCK : Field := { off := 0x320, lo := 0, width := 1, acc := .w1s, reset := 0 }
abbrev HOOD_CTRL_ABORT : Field := { off := 0x320, lo := 1, width := 1, acc := .w1s, reset := 0 }
abbrev HOOD_CTRL_REF : Field := { off := 0x320, lo := 8, width := 4, acc := .rw, reset := 0 }
abbrev HOOD_STAT_STATE : Field := { off := 0x324, lo := 0, width := 3, acc := .ro, reset := 0 }
abbrev HOOD_STAT_RESULT : Field := { off := 0x324, lo := 8, width := 8, acc := .ro, reset := 0 }
abbrev HOOD_WAIT_MS : Field := { off := 0x328, lo := 0, width := 10, acc := .rw, reset := 0x64, vmin := 1, vmax := 1000 }
abbrev HOOD_MAP_RUN_ADDR : Field := { off := 0x32c, lo := 0, width := 32, acc := .rw, reset := 0 }
abbrev HOOD_MAP_NEW_ADDR : Field := { off := 0x330, lo := 0, width := 32, acc := .rw, reset := 0 }
abbrev HOOD_COST_NS : Field := { off := 0x334, lo := 0, width := 32, acc := .ro, reset := 0 }
abbrev HOOD_DIGEST_CRC : Field := { off := 0x338, lo := 0, width := 32, acc := .ro, reset := 0 }
abbrev HOOD_BLKNUM_NUM : Field := { off := 0x33c, lo := 0, width := 32, acc := .ro, reset := 0 }

/-! ### R203, 06_plane_lanes.md -/

abbrev LANE_CTRL_RUN : Field := { off := 0x100, lo := 0, width := 1, acc := .rw, reset := 0 }
abbrev LANE_CTRL_RESUME : Field := { off := 0x100, lo := 1, width := 1, acc := .w1s, reset := 0 }
abbrev LANE_CTRL_FAULTX : Field := { off := 0x100, lo := 2, width := 1, acc := .rw, reset := 1 }
abbrev LANE_STAT_STATE : Field := { off := 0x104, lo := 0, width := 3, acc := .ro, reset := 0 }
abbrev LANE_STAT_HOLD_SRC : Field := { off := 0x104, lo := 3, width := 1, acc := .ro, reset := 0 }
abbrev LANE_STAT_HOLD_OUT : Field := { off := 0x104, lo := 4, width := 1, acc := .ro, reset := 0 }
abbrev LANE_STAT_SLOT : Field := { off := 0x104, lo := 5, width := 1, acc := .ro, reset := 0 }
abbrev LANE_STAT_CFGERR : Field := { off := 0x104, lo := 6, width := 1, acc := .w1c, reset := 0 }
abbrev LANE_GROUPS_N : Field := { off := 0x108, lo := 0, width := 9, acc := .rw, reset := 0, vmin := 0, vmax := 256 }
abbrev LANE_LEAD_NS : Field := { off := 0x10c, lo := 0, width := 32, acc := .rw, reset := 0 }
abbrev LANE_FIN_NS : Field := { off := 0x110, lo := 0, width := 32, acc := .rw, reset := 0 }
abbrev LANE_LINKBUD_NS : Field := { off := 0x114, lo := 0, width := 32, acc := .rw, reset := 0 }
abbrev LANE_BUDGET_CYCLES : Field := { off := 0x118, lo := 0, width := 32, acc := .ro, reset := 0 }
abbrev LANE_KCOST_PERGROUP : Field := { off := 0x11c, lo := 0, width := 16, acc := .ro, reset := 0 }
abbrev LANE_LINE_LINE : Field := { off := 0x120, lo := 0, width := 32, acc := .ro, reset := 0 }
abbrev LANE_BLANKCNT_COUNT : Field := { off := 0x124, lo := 0, width := 32, acc := .rc, reset := 0 }
abbrev LANE_BLANKINFO_REASON : Field := { off := 0x128, lo := 0, width := 3, acc := .ro, reset := 0 }
abbrev LANE_BLANKLINE_LINE : Field := { off := 0x12c, lo := 0, width := 32, acc := .ro, reset := 0 }
abbrev LANE_SLACK_NS : Field := { off := 0x130, lo := 0, width := 32, acc := .rc, reset := 0xffffffff }
abbrev LANE_ECCCNT_COUNT : Field := { off := 0x134, lo := 0, width := 32, acc := .rc, reset := 0 }
abbrev LANE_FAULT_KIND : Field := { off := 0x140, lo := 0, width := 2, acc := .ro, reset := 0 }
abbrev LANE_FAULT_LOST : Field := { off := 0x140, lo := 2, width := 1, acc := .w1c, reset := 0 }
abbrev LANE_FAULT_PARCEL : Field := { off := 0x140, lo := 16, width := 14, acc := .ro, reset := 0 }
abbrev LANE_FAULT_VALID : Field := { off := 0x140, lo := 31, width := 1, acc := .w1c, reset := 0 }
abbrev LANE_FAULT_LINE_LINE : Field := { off := 0x144, lo := 0, width := 32, acc := .ro, reset := 0 }
abbrev LANE_FAULT_GROUP_GROUP : Field := { off := 0x148, lo := 0, width := 8, acc := .ro, reset := 0 }
abbrev LANE_CNT_COUNT (k : Nat) : Field := { off := 0x160 + 4 * k, lo := 0, width := 32, acc := .ro, reset := 0 }
abbrev LANE_CNT_LINE_LINE : Field := { off := 0x180, lo := 0, width := 32, acc := .ro, reset := 0 }
abbrev LANE_CNT_STAT_BLANK : Field := { off := 0x184, lo := 0, width := 1, acc := .ro, reset := 0 }
abbrev LANE_FLAGS_FLAG : Field := { off := 0x190, lo := 0, width := 4, acc := .w1c, reset := 0 }
abbrev LANE_KHOOD_CTRL_LOAD : Field := { off := 0x1a0, lo := 0, width := 1, acc := .w1s, reset := 0 }
abbrev LANE_KHOOD_CTRL_SWITCH : Field := { off := 0x1a0, lo := 1, width := 1, acc := .w1s, reset := 0 }
abbrev LANE_KHOOD_CTRL_ABORT : Field := { off := 0x1a0, lo := 2, width := 1, acc := .w1s, reset := 0 }
abbrev LANE_KHOOD_CTRL_AT : Field := { off := 0x1a0, lo := 3, width := 1, acc := .rw, reset := 0 }
abbrev LANE_KHOOD_STAT_STATE : Field := { off := 0x1a4, lo := 0, width := 2, acc := .ro, reset := 0 }
abbrev LANE_KHOOD_STAT_RESULT : Field := { off := 0x1a4, lo := 8, width := 8, acc := .ro, reset := 0 }
abbrev LANE_KHOOD_STAT_DETAIL : Field := { off := 0x1a4, lo := 16, width := 8, acc := .ro, reset := 0 }
abbrev LANE_KHOOD_LINE_LINE : Field := { off := 0x1a8, lo := 0, width := 32, acc := .rw, reset := 0 }
abbrev LANE_KHOOD_COST_PERGROUP : Field := { off := 0x1ac, lo := 0, width := 16, acc := .ro, reset := 0 }
abbrev LANE_KHOOD_DIGEST_CRC : Field := { off := 0x1b0, lo := 0, width := 32, acc := .ro, reset := 0 }
abbrev LANE_KHOOD_POS_PARCEL : Field := { off := 0x1b4, lo := 0, width := 14, acc := .ro, reset := 0 }
abbrev LANE_SRAM_ADDR_ADDR : Field := { off := 0x1c0, lo := 2, width := 21, acc := .rw, reset := 0 }
abbrev LANE_SRAM_DATA_DATA : Field := { off := 0x1c4, lo := 0, width := 32, acc := .rw, reset := 0 }
abbrev LANE_KS_ADDR_ADDR : Field := { off := 0x1c8, lo := 1, width := 13, acc := .rw, reset := 0 }
abbrev LANE_KS_ADDR_RUNSLOT : Field := { off := 0x1c8, lo := 14, width := 1, acc := .rw, reset := 0 }
abbrev LANE_KS_DATA_DATA : Field := { off := 0x1cc, lo := 0, width := 32, acc := .rw, reset := 0 }
abbrev LANE_EDGE_CAL : Field := { off := 0x1d0, lo := 0, width := 16, acc := .rw, reset := 0xc0 }
abbrev LANE_EDGE_SRC : Field := { off := 0x1d0, lo := 16, width := 2, acc := .rw, reset := 0 }

/-! ### R221, 07_job_store_and_admission.md -/

abbrev ING_STAT_STATE : Field := { off := 0, lo := 0, width := 3, acc := .ro, reset := 0 }
abbrev ING_STAT_STARVED : Field := { off := 0, lo := 8, width := 1, acc := .w1c, reset := 0 }
abbrev ING_STAT_CRCERR : Field := { off := 0, lo := 9, width := 1, acc := .w1c, reset := 0 }
abbrev ING_STAT_FMTERR : Field := { off := 0, lo := 10, width := 1, acc := .w1c, reset := 0 }
abbrev ING_STAT_ECCERR : Field := { off := 0, lo := 11, width := 1, acc := .w1c, reset := 0 }
abbrev ING_WPTR_OFFSET : Field := { off := 4, lo := 0, width := 30, acc := .rw, reset := 0 }
abbrev ING_RPTR_OFFSET : Field := { off := 8, lo := 0, width := 30, acc := .ro, reset := 0 }
abbrev ING_LINE_LINE : Field := { off := 0xc, lo := 0, width := 32, acc := .ro, reset := 0 }
abbrev ING_ABANDON_COUNT : Field := { off := 0x10, lo := 0, width := 32, acc := .rc, reset := 0 }
abbrev ING_ERRCNT_COUNT : Field := { off := 0x14, lo := 0, width := 32, acc := .rc, reset := 0 }
abbrev ING_CAL_SRC_LO_ADDR : Field := { off := 0x20, lo := 4, width := 28, acc := .rw, reset := 0 }
abbrev ING_CAL_SRC_HI_ADDR : Field := { off := 0x24, lo := 0, width := 8, acc := .rw, reset := 0 }
abbrev ING_CAL_CTRL_LANE : Field := { off := 0x28, lo := 0, width := 4, acc := .rw, reset := 0 }
abbrev ING_CAL_CTRL_MODE : Field := { off := 0x28, lo := 4, width := 1, acc := .rw, reset := 0 }
abbrev ING_CAL_CTRL_GO : Field := { off := 0x28, lo := 8, width := 1, acc := .w1s, reset := 0 }
abbrev ING_CAL_COUNT_COUNT : Field := { off := 0x2c, lo := 0, width := 20, acc := .rw, reset := 0, vmin := 1, vmax := 524288 }
abbrev ING_CAL_STAT_RESULT : Field := { off := 0x30, lo := 0, width := 8, acc := .ro, reset := 0 }
abbrev ING_CAL_LINE_LINE : Field := { off := 0x34, lo := 0, width := 32, acc := .ro, reset := 0 }

/-! ### R241, 07_job_store_and_admission.md -/

abbrev DRC_TEMP_DEGC : Field := { off := 0, lo := 0, width := 8, acc := .ro, reset := 0 }
abbrev DRC_DERATE_HOT : Field := { off := 4, lo := 0, width := 1, acc := .ro, reset := 0 }
abbrev DRC_LIMIT_MBS : Field := { off := 8, lo := 0, width := 32, acc := .ro, reset := 0x8bf74 }
abbrev DRC_GUAR_MBS : Field := { off := 0xc, lo := 0, width := 32, acc := .ro, reset := 0 }
abbrev DRC_ECC_CORR_COUNT : Field := { off := 0x10, lo := 0, width := 32, acc := .rc, reset := 0 }
abbrev DRC_ECC_UNCORR_COUNT : Field := { off := 0x14, lo := 0, width := 32, acc := .rc, reset := 0 }

/-! ### R282, 08_keati_links_and_reflex.md -/

abbrev LINK_CTRL_EN : Field := { off := 0, lo := 0, width := 1, acc := .rw, reset := 0 }
abbrev LINK_CTRL_RETRAIN : Field := { off := 0, lo := 1, width := 1, acc := .w1s, reset := 0 }
abbrev LINK_CTRL_LOOP : Field := { off := 0, lo := 2, width := 1, acc := .rw, reset := 0 }
abbrev LINK_STAT_STATE : Field := { off := 4, lo := 0, width := 2, acc := .ro, reset := 0 }
abbrev LINK_STAT_WHY : Field := { off := 4, lo := 4, width := 4, acc := .ro, reset := 0 }
abbrev LINK_STAT_RESYNC : Field := { off := 4, lo := 8, width := 1, acc := .ro, reset := 0 }
abbrev LINK_STAT_STALL0 : Field := { off := 4, lo := 9, width := 1, acc := .ro, reset := 0 }
abbrev LINK_STAT_STALL1 : Field := { off := 4, lo := 10, width := 1, acc := .ro, reset := 0 }
abbrev LINK_ID_SOURCE : Field := { off := 8, lo := 0, width := 16, acc := .ro, reset := 0 }
abbrev LINK_PEER_PEER : Field := { off := 0xc, lo := 0, width := 16, acc := .ro, reset := 0 }
abbrev LINK_POOL_POOL0 : Field := { off := 0x10, lo := 0, width := 16, acc := .ro, reset := 0 }
abbrev LINK_POOL_POOL1 : Field := { off := 0x10, lo := 16, width := 16, acc := .ro, reset := 0 }
abbrev LINK_CRED_AVAIL0 : Field := { off := 0x14, lo := 0, width := 16, acc := .ro, reset := 0 }
abbrev LINK_CRED_AVAIL1 : Field := { off := 0x14, lo := 16, width := 16, acc := .ro, reset := 0 }
abbrev LINK_HC_CLAIM : Field := { off := 0x18, lo := 0, width := 32, acc := .ro, reset := 0 }
abbrev LINK_EQ_CM3 : Field := { off := 0x1c, lo := 0, width := 4, acc := .ro, reset := 0 }
abbrev LINK_EQ_CM2 : Field := { off := 0x1c, lo := 4, width := 4, acc := .ro, reset := 0 }
abbrev LINK_EQ_CM1 : Field := { off := 0x1c, lo := 8, width := 4, acc := .ro, reset := 0 }
abbrev LINK_EQ_C0 : Field := { off := 0x1c, lo := 12, width := 4, acc := .ro, reset := 0 }
abbrev LINK_EQ_C1 : Field := { off := 0x1c, lo := 16, width := 4, acc := .ro, reset := 0 }
abbrev LINK_FECCORR_COUNT : Field := { off := 0x20, lo := 0, width := 32, acc := .rc, reset := 0 }
abbrev LINK_FECUNC_COUNT : Field := { off := 0x24, lo := 0, width := 32, acc := .rc, reset := 0 }
abbrev LINK_HCRCERR_COUNT : Field := { off := 0x28, lo := 0, width := 32, acc := .rc, reset := 0 }
abbrev LINK_CRCERR_COUNT : Field := { off := 0x2c, lo := 0, width := 32, acc := .rc, reset := 0 }
abbrev LINK_RXBAD_COUNT : Field := { off := 0x30, lo := 0, width := 32, acc := .rc, reset := 0 }
abbrev LINK_LATE_COUNT : Field := { off := 0x34, lo := 0, width := 32, acc := .rc, reset := 0 }
abbrev LINK_TXDROP_COUNT : Field := { off := 0x38, lo := 0, width := 32, acc := .rc, reset := 0 }
abbrev LINK_LOAD_OCTETS : Field := { off := 0x3c, lo := 0, width := 32, acc := .ro, reset := 0 }
abbrev LINK_TX_CFG_TYPE : Field := { off := 0x40, lo := 0, width := 4, acc := .rw, reset := 0 }
abbrev LINK_TX_CFG_FLAGS : Field := { off := 0x40, lo := 4, width := 4, acc := .rw, reset := 0 }
abbrev LINK_TX_CFG_CLASS : Field := { off := 0x40, lo := 8, width := 8, acc := .rw, reset := 0 }
abbrev LINK_TX_CFG_TARGET : Field := { off := 0x40, lo := 16, width := 16, acc := .rw, reset := 0 }
abbrev LINK_TX_LEN_WORDS : Field := { off := 0x44, lo := 0, width := 7, acc := .rw, reset := 0 }
abbrev LINK_TX_LEN_USEDL : Field := { off := 0x44, lo := 16, width := 1, acc := .rw, reset := 0 }
abbrev LINK_TX_DL_DEADLINE : Field := { off := 0x48, lo := 0, width := 32, acc := .rw, reset := 0 }
abbrev LINK_TX_GO_GO : Field := { off := 0x4c, lo := 0, width := 1, acc := .w1s, reset := 0 }
abbrev LINK_TX_GO_RESULT : Field := { off := 0x4c, lo := 8, width := 3, acc := .ro, reset := 0 }
abbrev LINK_RX_STAT_COUNT : Field := { off := 0x50, lo := 0, width := 6, acc := .ro, reset := 0 }
abbrev LINK_RX_STAT_OVF : Field := { off := 0x50, lo := 8, width := 1, acc := .w1c, reset := 0 }
abbrev LINK_RX_HDR_HDR (i : Nat) : Field := { off := 0x54 + 4 * i, lo := 0, width := 32, acc := .ro, reset := 0 }
abbrev LINK_RX_POP_POP : Field := { off := 0x68, lo := 0, width := 1, acc := .wo, reset := 0 }
abbrev LINK_CFG_FECTHR : Field := { off := 0x6c, lo := 0, width := 8, acc := .rw, reset := 0x10, vmin := 1, vmax := 255 }
abbrev LINK_CFG_HBTMO : Field := { off := 0x6c, lo := 16, width := 6, acc := .rw, reset := 8, vmin := 2, vmax := 63 }
abbrev LINK_TX_DATA_DATA (i : Nat) : Field := { off := 0x100 + 4 * i, lo := 0, width := 32, acc := .rw, reset := 0 }
abbrev LINK_RX_DATA_DATA (i : Nat) : Field := { off := 0x200 + 4 * i, lo := 0, width := 32, acc := .ro, reset := 0 }

/-! ### R283, 08_keati_links_and_reflex.md -/

abbrev LANE_ROUTE_A_FIRST (r : Nat) : Field := { off := 0x800 + 8 * r, lo := 0, width := 8, acc := .rw, reset := 0 }
abbrev LANE_ROUTE_A_COUNT (r : Nat) : Field := { off := 0x800 + 8 * r, lo := 8, width := 9, acc := .rw, reset := 0, vmin := 0, vmax := 256 }
abbrev LANE_ROUTE_A_LINK (r : Nat) : Field := { off := 0x800 + 8 * r, lo := 18, width := 5, acc := .rw, reset := 0 }
abbrev LANE_ROUTE_B_TARGET (r : Nat) : Field := { off := 0x804 + 8 * r, lo := 0, width := 16, acc := .rw, reset := 0 }

/-! ### R284, 08_keati_links_and_reflex.md -/

abbrev RFX_CTRL_EN : Field := { off := 0, lo := 0, width := 1, acc := .rw, reset := 0 }
abbrev RFX_STAT_DROP : Field := { off := 4, lo := 0, width := 1, acc := .w1c, reset := 0 }
abbrev RFX_STAT_BADTPL : Field := { off := 4, lo := 1, width := 1, acc := .w1c, reset := 0 }
abbrev RFX_STAT_STALL : Field := { off := 4, lo := 2, width := 1, acc := .w1c, reset := 0 }
abbrev RFX_FLAGS_FLAGS : Field := { off := 8, lo := 0, width := 32, acc := .rw, reset := 0 }
abbrev RFX_FSET_SET : Field := { off := 0xc, lo := 0, width := 32, acc := .wo, reset := 0 }
abbrev RFX_FCLR_CLR : Field := { off := 0x10, lo := 0, width := 32, acc := .wo, reset := 0 }
abbrev RFX_SLACK_NS : Field := { off := 0x14, lo := 0, width := 16, acc := .rw, reset := 0x3e8 }
abbrev RFX_DROPCNT_COUNT : Field := { off := 0x18, lo := 0, width := 32, acc := .rc, reset := 0 }
abbrev RFX_FIRECNT_COUNT : Field := { off := 0x1c, lo := 0, width := 32, acc := .rc, reset := 0 }
abbrev RFX_LATMAX_NS : Field := { off := 0x20, lo := 0, width := 32, acc := .rc, reset := 0 }
abbrev RULE_TRIG_EN (i : Nat) : Field := { off := 0x1000 + 0x20 * i, lo := 0, width := 1, acc := .rw, reset := 0 }
abbrev RULE_TRIG_ONCE (i : Nat) : Field := { off := 0x1000 + 0x20 * i, lo := 1, width := 1, acc := .rw, reset := 0 }
abbrev RULE_TRIG_FIRED (i : Nat) : Field := { off := 0x1000 + 0x20 * i, lo := 2, width := 1, acc := .w1c, reset := 0 }
abbrev RULE_TRIG_TRIG (i : Nat) : Field := { off := 0x1000 + 0x20 * i, lo := 4, width := 3, acc := .rw, reset := 0 }
abbrev RULE_TRIG_INPUT (i : Nat) : Field := { off := 0x1000 + 0x20 * i, lo := 8, width := 2, acc := .rw, reset := 0 }
abbrev RULE_TRIG_LINK (i : Nat) : Field := { off := 0x1000 + 0x20 * i, lo := 10, width := 6, acc := .rw, reset := 0 }
abbrev RULE_TRIG_KIND (i : Nat) : Field := { off := 0x1000 + 0x20 * i, lo := 16, width := 16, acc := .rw, reset := 0 }
abbrev RULE_CMP_ASRC (i : Nat) : Field := { off := 0x1004 + 0x20 * i, lo := 0, width := 3, acc := .rw, reset := 0 }
abbrev RULE_CMP_COND (i : Nat) : Field := { off := 0x1004 + 0x20 * i, lo := 4, width := 3, acc := .rw, reset := 0 }
abbrev RULE_CMP_WORD (i : Nat) : Field := { off := 0x1004 + 0x20 * i, lo := 8, width := 4, acc := .rw, reset := 0 }
abbrev RULE_MASK_MASK (i : Nat) : Field := { off := 0x1008 + 0x20 * i, lo := 0, width := 32, acc := .rw, reset := 0 }
abbrev RULE_VALUE_VALUE (i : Nat) : Field := { off := 0x100c + 0x20 * i, lo := 0, width := 32, acc := .rw, reset := 0 }
abbrev RULE_ACT_ACT (i : Nat) : Field := { off := 0x1010 + 0x20 * i, lo := 0, width := 2, acc := .rw, reset := 0 }
abbrev RULE_ACT_ARG (i : Nat) : Field := { off := 0x1010 + 0x20 * i, lo := 8, width := 6, acc := .rw, reset := 0 }
abbrev RULE_ACT_FLAGOP (i : Nat) : Field := { off := 0x1010 + 0x20 * i, lo := 16, width := 2, acc := .rw, reset := 0 }
abbrev RULE_ACT_FLAG (i : Nat) : Field := { off := 0x1010 + 0x20 * i, lo := 24, width := 5, acc := .rw, reset := 0 }
abbrev TPL_CFG_LINK (t : Nat) : Field := { off := 0x4000 + 0x80 * t, lo := 0, width := 5, acc := .rw, reset := 0 }
abbrev TPL_CFG_KIND (t : Nat) : Field := { off := 0x4000 + 0x80 * t, lo := 8, width := 1, acc := .rw, reset := 0 }
abbrev TPL_CFG_WORDS (t : Nat) : Field := { off := 0x4000 + 0x80 * t, lo := 16, width := 5, acc := .rw, reset := 0 }
abbrev TPL_CFG_CLASS (t : Nat) : Field := { off := 0x4000 + 0x80 * t, lo := 24, width := 8, acc := .rw, reset := 0 }
abbrev TPL_TARGET_TARGET (t : Nat) : Field := { off := 0x4004 + 0x80 * t, lo := 0, width := 16, acc := .rw, reset := 0 }
abbrev TPL_TARGET_FLAGS (t : Nat) : Field := { off := 0x4004 + 0x80 * t, lo := 16, width := 4, acc := .rw, reset := 0 }
abbrev TPL_DATA_DATA (t i : Nat) : Field := { off := 0x4040 + 0x80 * t + 4 * i, lo := 0, width := 32, acc := .rw, reset := 0 }

/-! ### R299, 09_deadline_arbitration.md -/

abbrev ARB_BG_SLACK_NS : Field := { off := 0, lo := 0, width := 32, acc := .rw, reset := 0x2710, vmin := 100, vmax := 100000000 }
abbrev ARB_LIMIT_LIMIT (a : Nat) : Field := { off := 0x100 + 0x20 * a, lo := 0, width := 8, acc := .rw, reset := 0x10, vmin := 1, vmax := 255 }
abbrev ARB_STAT_HOLDER (a : Nat) : Field := { off := 0x104 + 0x20 * a, lo := 0, width := 6, acc := .ro, reset := 0 }
abbrev ARB_STAT_BUSY (a : Nat) : Field := { off := 0x104 + 0x20 * a, lo := 8, width := 1, acc := .ro, reset := 0 }
abbrev ARB_STAT_INPUTS (a : Nat) : Field := { off := 0x104 + 0x20 * a, lo := 16, width := 6, acc := .ro, reset := 0 }
abbrev ARB_STAT_PTR (a : Nat) : Field := { off := 0x104 + 0x20 * a, lo := 24, width := 6, acc := .ro, reset := 0 }
abbrev ARB_HOLDMAX_NS (a : Nat) : Field := { off := 0x108 + 0x20 * a, lo := 0, width := 32, acc := .rc, reset := 0 }
abbrev ARB_FORCECNT_COUNT (a : Nat) : Field := { off := 0x10c + 0x20 * a, lo := 0, width := 32, acc := .rc, reset := 0 }
abbrev ARB_LATEGRANT_COUNT (a : Nat) : Field := { off := 0x110 + 0x20 * a, lo := 0, width := 32, acc := .rc, reset := 0 }

/-! ### R351, 11_interrupts_and_watchdog.md -/

abbrev IRQ_PEND_PEND (w : Nat) : Field := { off := 0 + 4 * w, lo := 0, width := 32, acc := .ro, reset := 0 }
abbrev IRQ_PEND_SET_SET (w : Nat) : Field := { off := 0x40 + 4 * w, lo := 0, width := 32, acc := .wo, reset := 0 }
abbrev IRQ_PEND_CLR_CLR (w : Nat) : Field := { off := 0x80 + 4 * w, lo := 0, width := 32, acc := .wo, reset := 0 }
abbrev IRQ_EN_EN (w : Nat) : Field := { off := 0xc0 + 4 * w, lo := 0, width := 32, acc := .ro, reset := 0 }
abbrev IRQ_EN_SET_SET (w : Nat) : Field := { off := 0x100 + 4 * w, lo := 0, width := 32, acc := .wo, reset := 0 }
abbrev IRQ_EN_CLR_CLR (w : Nat) : Field := { off := 0x140 + 4 * w, lo := 0, width := 32, acc := .wo, reset := 0 }
abbrev IRQ_WAKE_WAKE (w : Nat) : Field := { off := 0x180 + 4 * w, lo := 0, width := 32, acc := .w1c, reset := 0 }
abbrev IRQ_THRESH_THRESH (k : Nat) : Field := { off := 0x200 + 0x20 * k, lo := 0, width := 4, acc := .rw, reset := 0 }
abbrev IRQ_DONE_LEVEL (k : Nat) : Field := { off := 0x204 + 0x20 * k, lo := 0, width := 4, acc := .wo, reset := 0 }
abbrev IRQ_PSTAT_DEPTH (k : Nat) : Field := { off := 0x208 + 0x20 * k, lo := 0, width := 4, acc := .ro, reset := 0 }
abbrev IRQ_PSTAT_TOP (k : Nat) : Field := { off := 0x208 + 0x20 * k, lo := 4, width := 4, acc := .ro, reset := 0 }
abbrev IRQ_PSTACK_ENTRY (k : Nat) : Field := { off := 0x20c + 0x20 * k, lo := 0, width := 32, acc := .ro, reset := 0 }
abbrev IRQ_SRC_PRIO (s : Nat) : Field := { off := 0x1000 + 4 * s, lo := 0, width := 4, acc := .rw, reset := 0 }
abbrev IRQ_SRC_TGT (s : Nat) : Field := { off := 0x1000 + 4 * s, lo := 4, width := 7, acc := .rw, reset := 0 }

/-! ### R536, 18_package_and_electrical.md -/

abbrev THERM_STAT_CASE : Field := { off := 0x610, lo := 0, width := 8, acc := .ro, reset := 0 }
abbrev THERM_STAT_JMAX : Field := { off := 0x610, lo := 8, width := 8, acc := .ro, reset := 0 }
abbrev THERM_STAT_STEP : Field := { off := 0x610, lo := 16, width := 3, acc := .ro, reset := 0 }
abbrev THERM_STAT_PENDING : Field := { off := 0x610, lo := 19, width := 1, acc := .ro, reset := 0 }
abbrev THERM_STAT_HOT : Field := { off := 0x610, lo := 20, width := 1, acc := .ro, reset := 0 }

/-- The fields the `node` register maps name at an offset; none means R15 (reads zero, ignores writes). -/
def fields_node (o : Nat) : List Field :=
  if o = 0 then [NODE_ID_PATH]
  else if o = 4 then [NODE_CLASS_CLASS, NODE_CLASS_LAYOUT]
  else if o = 8 then [NODE_CHILDREN_COUNT]
  else if o = 0xc then [NODE_CHILD_BASE_BASE]
  else if o = 0x10 then [NODE_CHILD_STRIDE_STRIDE]
  else if o = 0x14 then [NODE_STATUS_FAULT, NODE_STATUS_WARN, NODE_STATUS_NAP, NODE_STATUS_FROZEN, NODE_STATUS_DISABLED, NODE_STATUS_RESETTING, NODE_STATUS_PEND, NODE_STATUS_OWN_FAULT, NODE_STATUS_OWN_WARN]
  else if o = 0x18 then [NODE_CTRL_EN, NODE_CTRL_NAP, NODE_CTRL_FRZ, NODE_CTRL_RST, NODE_CTRL_MASK, NODE_CTRL_RESULT]
  else if o = 0x1c then [NODE_FAULT_CODE, NODE_FAULT_VIA, NODE_FAULT_VALID]
  else if o = 0x20 then [NODE_FAULT_PATH_PATH]
  else if o = 0x24 then [NODE_CAPS_HOOD, NODE_CAPS_NAP, NODE_CAPS_FREEZE, NODE_CAPS_RING_MEMBER, NODE_CAPS_RING_HEAD, NODE_CAPS_HSB]
  else if o = 0x28 then [NODE_REV_STEP, NODE_REV_DIES]
  else []

/-- The fields the `prot` register maps name at an offset; none means R15 (reads zero, ignores writes). -/
def fields_prot (o : Nat) : List Field :=
  if o = 0x180 then [FLT_FIRST_LO_ADDR]
  else if o = 0x184 then [FLT_FIRST_HI_ADDR]
  else if o = 0x188 then [FLT_LAST_LO_ADDR]
  else if o = 0x18c then [FLT_LAST_HI_ADDR]
  else if o = 0x190 then [FLT_INFO_REGION, FLT_INFO_SPACE, FLT_INFO_WRITE, FLT_INFO_VALID, FLT_INFO_LOST]
  else if 0x100 ≤ o ∧ o < 0x180 ∧ (o - 0x100) % 0x10 = 0 then
    [PROT_BASE_BASE ((o - 0x100) / 0x10)]
  else if 0x104 ≤ o ∧ o < 0x184 ∧ (o - 0x104) % 0x10 = 0 then
    [PROT_LIMIT_LIMIT ((o - 0x104) / 0x10)]
  else if 0x108 ≤ o ∧ o < 0x188 ∧ (o - 0x108) % 0x10 = 0 then
    [PROT_ATTR_EN ((o - 0x108) / 0x10), PROT_ATTR_RD ((o - 0x108) / 0x10), PROT_ATTR_WR ((o - 0x108) / 0x10), PROT_ATTR_SPACE ((o - 0x108) / 0x10), PROT_ATTR_LOCK ((o - 0x108) / 0x10)]
  else []

/-- The fields the `core` register maps name at an offset; none means R15 (reads zero, ignores writes). -/
def fields_core (o : Nat) : List Field :=
  if o = 0x200 then [CORE_TRAP_DEPTH, CORE_TRAP_HALTED, CORE_TRAP_LAST_CAUSE, CORE_TRAP_LAST_VEC]
  else if o = 0x204 then [CORE_TRAPCNT_COUNT]
  else if o = 0x208 then [CORE_PC_PC]
  else if o = 0x210 then [CORE_LRAM_ADDR_ADDR]
  else if o = 0x214 then [CORE_LRAM_DATA_DATA]
  else if o = 0x300 then [CORE_SCHED_RUN, CORE_SCHED_CURTASK, CORE_SCHED_BUSY]
  else if o = 0x304 then [CORE_SAVE_ADDR]
  else if o = 0x218 then [CORE_ISP_ADDR_ADDR]
  else if o = 0x21c then [CORE_ISP_DATA_DATA]
  else if o = 0x320 then [HOOD_CTRL_BLOCK, HOOD_CTRL_ABORT, HOOD_CTRL_REF]
  else if o = 0x324 then [HOOD_STAT_STATE, HOOD_STAT_RESULT]
  else if o = 0x328 then [HOOD_WAIT_MS]
  else if o = 0x32c then [HOOD_MAP_RUN_ADDR]
  else if o = 0x330 then [HOOD_MAP_NEW_ADDR]
  else if o = 0x334 then [HOOD_COST_NS]
  else if o = 0x338 then [HOOD_DIGEST_CRC]
  else if o = 0x33c then [HOOD_BLKNUM_NUM]
  else if 0x400 ≤ o ∧ o < 0x800 ∧ (o - 0x400) % 0x40 = 0 then
    [TASK_CFG_EN ((o - 0x400) / 0x40), TASK_CFG_KIND ((o - 0x400) / 0x40), TASK_CFG_PRIO ((o - 0x400) / 0x40), TASK_CFG_SRC ((o - 0x400) / 0x40), TASK_CFG_SRCEN ((o - 0x400) / 0x40)]
  else if 0x404 ≤ o ∧ o < 0x804 ∧ (o - 0x404) % 0x40 = 0 then
    [TASK_PERIOD_PERIOD ((o - 0x404) / 0x40)]
  else if 0x408 ≤ o ∧ o < 0x808 ∧ (o - 0x408) % 0x40 = 0 then
    [TASK_PHASE_PHASE ((o - 0x408) / 0x40)]
  else if 0x40c ≤ o ∧ o < 0x80c ∧ (o - 0x40c) % 0x40 = 0 then
    [TASK_ENTRY_ENTRY ((o - 0x40c) / 0x40)]
  else if 0x410 ≤ o ∧ o < 0x810 ∧ (o - 0x410) % 0x40 = 0 then
    [TASK_IMG_ADDR ((o - 0x410) / 0x40), TASK_IMG_COUNT ((o - 0x410) / 0x40)]
  else if 0x414 ≤ o ∧ o < 0x814 ∧ (o - 0x414) % 0x40 = 0 then
    [TASK_SPILL_LIMIT ((o - 0x414) / 0x40), TASK_SPILL_BASE ((o - 0x414) / 0x40)]
  else if 0x418 ≤ o ∧ o < 0x818 ∧ (o - 0x418) % 0x40 = 0 then
    [TASK_STAT_STATE ((o - 0x418) / 0x40), TASK_STAT_CFGERR ((o - 0x418) / 0x40), TASK_STAT_IMGERR ((o - 0x418) / 0x40)]
  else if 0x41c ≤ o ∧ o < 0x81c ∧ (o - 0x41c) % 0x40 = 0 then
    [TASK_OVRCNT_COUNT ((o - 0x41c) / 0x40)]
  else if 0x420 ≤ o ∧ o < 0x820 ∧ (o - 0x420) % 0x40 = 0 then
    [TASK_RELNUM_NUM ((o - 0x420) / 0x40)]
  else if 0x424 ≤ o ∧ o < 0x824 ∧ (o - 0x424) % 0x40 = 0 then
    [TASK_TLAST_NS ((o - 0x424) / 0x40)]
  else if 0x428 ≤ o ∧ o < 0x828 ∧ (o - 0x428) % 0x40 = 0 then
    [TASK_TMAX_NS ((o - 0x428) / 0x40)]
  else if 0x42c ≤ o ∧ o < 0x82c ∧ (o - 0x42c) % 0x40 = 0 then
    [TASK_TRIG_TRIG ((o - 0x42c) / 0x40)]
  else []

/-- The fields the `lane` register maps name at an offset; none means R15 (reads zero, ignores writes). -/
def fields_lane (o : Nat) : List Field :=
  if o = 0x100 then [LANE_CTRL_RUN, LANE_CTRL_RESUME, LANE_CTRL_FAULTX]
  else if o = 0x104 then [LANE_STAT_STATE, LANE_STAT_HOLD_SRC, LANE_STAT_HOLD_OUT, LANE_STAT_SLOT, LANE_STAT_CFGERR]
  else if o = 0x108 then [LANE_GROUPS_N]
  else if o = 0x10c then [LANE_LEAD_NS]
  else if o = 0x110 then [LANE_FIN_NS]
  else if o = 0x114 then [LANE_LINKBUD_NS]
  else if o = 0x118 then [LANE_BUDGET_CYCLES]
  else if o = 0x11c then [LANE_KCOST_PERGROUP]
  else if o = 0x120 then [LANE_LINE_LINE]
  else if o = 0x124 then [LANE_BLANKCNT_COUNT]
  else if o = 0x128 then [LANE_BLANKINFO_REASON]
  else if o = 0x12c then [LANE_BLANKLINE_LINE]
  else if o = 0x130 then [LANE_SLACK_NS]
  else if o = 0x134 then [LANE_ECCCNT_COUNT]
  else if o = 0x140 then [LANE_FAULT_KIND, LANE_FAULT_LOST, LANE_FAULT_PARCEL, LANE_FAULT_VALID]
  else if o = 0x144 then [LANE_FAULT_LINE_LINE]
  else if o = 0x148 then [LANE_FAULT_GROUP_GROUP]
  else if o = 0x180 then [LANE_CNT_LINE_LINE]
  else if o = 0x184 then [LANE_CNT_STAT_BLANK]
  else if o = 0x190 then [LANE_FLAGS_FLAG]
  else if o = 0x1a0 then [LANE_KHOOD_CTRL_LOAD, LANE_KHOOD_CTRL_SWITCH, LANE_KHOOD_CTRL_ABORT, LANE_KHOOD_CTRL_AT]
  else if o = 0x1a4 then [LANE_KHOOD_STAT_STATE, LANE_KHOOD_STAT_RESULT, LANE_KHOOD_STAT_DETAIL]
  else if o = 0x1a8 then [LANE_KHOOD_LINE_LINE]
  else if o = 0x1ac then [LANE_KHOOD_COST_PERGROUP]
  else if o = 0x1b0 then [LANE_KHOOD_DIGEST_CRC]
  else if o = 0x1b4 then [LANE_KHOOD_POS_PARCEL]
  else if o = 0x1c0 then [LANE_SRAM_ADDR_ADDR]
  else if o = 0x1c4 then [LANE_SRAM_DATA_DATA]
  else if o = 0x1c8 then [LANE_KS_ADDR_ADDR, LANE_KS_ADDR_RUNSLOT]
  else if o = 0x1cc then [LANE_KS_DATA_DATA]
  else if o = 0x1d0 then [LANE_EDGE_CAL, LANE_EDGE_SRC]
  else if 0x160 ≤ o ∧ o < 0x180 ∧ (o - 0x160) % 4 = 0 then
    [LANE_CNT_COUNT ((o - 0x160) / 4)]
  else if 0x800 ≤ o ∧ o < 0x900 ∧ (o - 0x800) % 8 = 0 then
    [LANE_ROUTE_A_FIRST ((o - 0x800) / 8), LANE_ROUTE_A_COUNT ((o - 0x800) / 8), LANE_ROUTE_A_LINK ((o - 0x800) / 8)]
  else if 0x804 ≤ o ∧ o < 0x904 ∧ (o - 0x804) % 8 = 0 then
    [LANE_ROUTE_B_TARGET ((o - 0x804) / 8)]
  else []

/-- The fields the `ing` register maps name at an offset; none means R15 (reads zero, ignores writes). -/
def fields_ing (o : Nat) : List Field :=
  if o = 0 then [ING_STAT_STATE, ING_STAT_STARVED, ING_STAT_CRCERR, ING_STAT_FMTERR, ING_STAT_ECCERR]
  else if o = 4 then [ING_WPTR_OFFSET]
  else if o = 8 then [ING_RPTR_OFFSET]
  else if o = 0xc then [ING_LINE_LINE]
  else if o = 0x10 then [ING_ABANDON_COUNT]
  else if o = 0x14 then [ING_ERRCNT_COUNT]
  else if o = 0x20 then [ING_CAL_SRC_LO_ADDR]
  else if o = 0x24 then [ING_CAL_SRC_HI_ADDR]
  else if o = 0x28 then [ING_CAL_CTRL_LANE, ING_CAL_CTRL_MODE, ING_CAL_CTRL_GO]
  else if o = 0x2c then [ING_CAL_COUNT_COUNT]
  else if o = 0x30 then [ING_CAL_STAT_RESULT]
  else if o = 0x34 then [ING_CAL_LINE_LINE]
  else []

/-- The fields the `drc` register maps name at an offset; none means R15 (reads zero, ignores writes). -/
def fields_drc (o : Nat) : List Field :=
  if o = 0 then [DRC_TEMP_DEGC]
  else if o = 4 then [DRC_DERATE_HOT]
  else if o = 8 then [DRC_LIMIT_MBS]
  else if o = 0xc then [DRC_GUAR_MBS]
  else if o = 0x10 then [DRC_ECC_CORR_COUNT]
  else if o = 0x14 then [DRC_ECC_UNCORR_COUNT]
  else []

/-- The fields the `link` register maps name at an offset; none means R15 (reads zero, ignores writes). -/
def fields_link (o : Nat) : List Field :=
  if o = 0 then [LINK_CTRL_EN, LINK_CTRL_RETRAIN, LINK_CTRL_LOOP]
  else if o = 4 then [LINK_STAT_STATE, LINK_STAT_WHY, LINK_STAT_RESYNC, LINK_STAT_STALL0, LINK_STAT_STALL1]
  else if o = 8 then [LINK_ID_SOURCE]
  else if o = 0xc then [LINK_PEER_PEER]
  else if o = 0x10 then [LINK_POOL_POOL0, LINK_POOL_POOL1]
  else if o = 0x14 then [LINK_CRED_AVAIL0, LINK_CRED_AVAIL1]
  else if o = 0x18 then [LINK_HC_CLAIM]
  else if o = 0x1c then [LINK_EQ_CM3, LINK_EQ_CM2, LINK_EQ_CM1, LINK_EQ_C0, LINK_EQ_C1]
  else if o = 0x20 then [LINK_FECCORR_COUNT]
  else if o = 0x24 then [LINK_FECUNC_COUNT]
  else if o = 0x28 then [LINK_HCRCERR_COUNT]
  else if o = 0x2c then [LINK_CRCERR_COUNT]
  else if o = 0x30 then [LINK_RXBAD_COUNT]
  else if o = 0x34 then [LINK_LATE_COUNT]
  else if o = 0x38 then [LINK_TXDROP_COUNT]
  else if o = 0x3c then [LINK_LOAD_OCTETS]
  else if o = 0x40 then [LINK_TX_CFG_TYPE, LINK_TX_CFG_FLAGS, LINK_TX_CFG_CLASS, LINK_TX_CFG_TARGET]
  else if o = 0x44 then [LINK_TX_LEN_WORDS, LINK_TX_LEN_USEDL]
  else if o = 0x48 then [LINK_TX_DL_DEADLINE]
  else if o = 0x4c then [LINK_TX_GO_GO, LINK_TX_GO_RESULT]
  else if o = 0x50 then [LINK_RX_STAT_COUNT, LINK_RX_STAT_OVF]
  else if o = 0x68 then [LINK_RX_POP_POP]
  else if o = 0x6c then [LINK_CFG_FECTHR, LINK_CFG_HBTMO]
  else if 0x54 ≤ o ∧ o < 0x68 ∧ (o - 0x54) % 4 = 0 then
    [LINK_RX_HDR_HDR ((o - 0x54) / 4)]
  else if 0x100 ≤ o ∧ o < 0x200 ∧ (o - 0x100) % 4 = 0 then
    [LINK_TX_DATA_DATA ((o - 0x100) / 4)]
  else if 0x200 ≤ o ∧ o < 0x300 ∧ (o - 0x200) % 4 = 0 then
    [LINK_RX_DATA_DATA ((o - 0x200) / 4)]
  else []

/-- The fields the `rfx` register maps name at an offset; none means R15 (reads zero, ignores writes). -/
def fields_rfx (o : Nat) : List Field :=
  if o = 0 then [RFX_CTRL_EN]
  else if o = 4 then [RFX_STAT_DROP, RFX_STAT_BADTPL, RFX_STAT_STALL]
  else if o = 8 then [RFX_FLAGS_FLAGS]
  else if o = 0xc then [RFX_FSET_SET]
  else if o = 0x10 then [RFX_FCLR_CLR]
  else if o = 0x14 then [RFX_SLACK_NS]
  else if o = 0x18 then [RFX_DROPCNT_COUNT]
  else if o = 0x1c then [RFX_FIRECNT_COUNT]
  else if o = 0x20 then [RFX_LATMAX_NS]
  else if 0x1000 ≤ o ∧ o < 0x3000 ∧ (o - 0x1000) % 0x20 = 0 then
    [RULE_TRIG_EN ((o - 0x1000) / 0x20), RULE_TRIG_ONCE ((o - 0x1000) / 0x20), RULE_TRIG_FIRED ((o - 0x1000) / 0x20), RULE_TRIG_TRIG ((o - 0x1000) / 0x20), RULE_TRIG_INPUT ((o - 0x1000) / 0x20), RULE_TRIG_LINK ((o - 0x1000) / 0x20), RULE_TRIG_KIND ((o - 0x1000) / 0x20)]
  else if 0x1004 ≤ o ∧ o < 0x3004 ∧ (o - 0x1004) % 0x20 = 0 then
    [RULE_CMP_ASRC ((o - 0x1004) / 0x20), RULE_CMP_COND ((o - 0x1004) / 0x20), RULE_CMP_WORD ((o - 0x1004) / 0x20)]
  else if 0x1008 ≤ o ∧ o < 0x3008 ∧ (o - 0x1008) % 0x20 = 0 then
    [RULE_MASK_MASK ((o - 0x1008) / 0x20)]
  else if 0x100c ≤ o ∧ o < 0x300c ∧ (o - 0x100c) % 0x20 = 0 then
    [RULE_VALUE_VALUE ((o - 0x100c) / 0x20)]
  else if 0x1010 ≤ o ∧ o < 0x3010 ∧ (o - 0x1010) % 0x20 = 0 then
    [RULE_ACT_ACT ((o - 0x1010) / 0x20), RULE_ACT_ARG ((o - 0x1010) / 0x20), RULE_ACT_FLAGOP ((o - 0x1010) / 0x20), RULE_ACT_FLAG ((o - 0x1010) / 0x20)]
  else if 0x4000 ≤ o ∧ o < 0x6000 ∧ (o - 0x4000) % 0x80 = 0 then
    [TPL_CFG_LINK ((o - 0x4000) / 0x80), TPL_CFG_KIND ((o - 0x4000) / 0x80), TPL_CFG_WORDS ((o - 0x4000) / 0x80), TPL_CFG_CLASS ((o - 0x4000) / 0x80)]
  else if 0x4004 ≤ o ∧ o < 0x6004 ∧ (o - 0x4004) % 0x80 = 0 then
    [TPL_TARGET_TARGET ((o - 0x4004) / 0x80), TPL_TARGET_FLAGS ((o - 0x4004) / 0x80)]
  else if 0x4040 ≤ o ∧ o < 0x6000 ∧ (o - 0x4040) % 0x80 < 0x40 ∧ (o - 0x4040) % 4 = 0 then
    [TPL_DATA_DATA ((o - 0x4040) / 0x80) ((o - 0x4040) % 0x80 / 4)]
  else []

/-- The fields the `arb` register maps name at an offset; none means R15 (reads zero, ignores writes). -/
def fields_arb (o : Nat) : List Field :=
  if o = 0 then [ARB_BG_SLACK_NS]
  else if 0x100 ≤ o ∧ o < 0x700 ∧ (o - 0x100) % 0x20 = 0 then
    [ARB_LIMIT_LIMIT ((o - 0x100) / 0x20)]
  else if 0x104 ≤ o ∧ o < 0x704 ∧ (o - 0x104) % 0x20 = 0 then
    [ARB_STAT_HOLDER ((o - 0x104) / 0x20), ARB_STAT_BUSY ((o - 0x104) / 0x20), ARB_STAT_INPUTS ((o - 0x104) / 0x20), ARB_STAT_PTR ((o - 0x104) / 0x20)]
  else if 0x108 ≤ o ∧ o < 0x708 ∧ (o - 0x108) % 0x20 = 0 then
    [ARB_HOLDMAX_NS ((o - 0x108) / 0x20)]
  else if 0x10c ≤ o ∧ o < 0x70c ∧ (o - 0x10c) % 0x20 = 0 then
    [ARB_FORCECNT_COUNT ((o - 0x10c) / 0x20)]
  else if 0x110 ≤ o ∧ o < 0x710 ∧ (o - 0x110) % 0x20 = 0 then
    [ARB_LATEGRANT_COUNT ((o - 0x110) / 0x20)]
  else []

/-- The fields the `irq` register maps name at an offset; none means R15 (reads zero, ignores writes). -/
def fields_irq (o : Nat) : List Field :=
  if 0 ≤ o ∧ o < 0x40 ∧ (o - 0) % 4 = 0 then
    [IRQ_PEND_PEND ((o - 0) / 4)]
  else if 0x40 ≤ o ∧ o < 0x80 ∧ (o - 0x40) % 4 = 0 then
    [IRQ_PEND_SET_SET ((o - 0x40) / 4)]
  else if 0x80 ≤ o ∧ o < 0xc0 ∧ (o - 0x80) % 4 = 0 then
    [IRQ_PEND_CLR_CLR ((o - 0x80) / 4)]
  else if 0xc0 ≤ o ∧ o < 0x100 ∧ (o - 0xc0) % 4 = 0 then
    [IRQ_EN_EN ((o - 0xc0) / 4)]
  else if 0x100 ≤ o ∧ o < 0x140 ∧ (o - 0x100) % 4 = 0 then
    [IRQ_EN_SET_SET ((o - 0x100) / 4)]
  else if 0x140 ≤ o ∧ o < 0x180 ∧ (o - 0x140) % 4 = 0 then
    [IRQ_EN_CLR_CLR ((o - 0x140) / 4)]
  else if 0x180 ≤ o ∧ o < 0x1c0 ∧ (o - 0x180) % 4 = 0 then
    [IRQ_WAKE_WAKE ((o - 0x180) / 4)]
  else if 0x200 ≤ o ∧ o < 0x280 ∧ (o - 0x200) % 0x20 = 0 then
    [IRQ_THRESH_THRESH ((o - 0x200) / 0x20)]
  else if 0x204 ≤ o ∧ o < 0x284 ∧ (o - 0x204) % 0x20 = 0 then
    [IRQ_DONE_LEVEL ((o - 0x204) / 0x20)]
  else if 0x208 ≤ o ∧ o < 0x288 ∧ (o - 0x208) % 0x20 = 0 then
    [IRQ_PSTAT_DEPTH ((o - 0x208) / 0x20), IRQ_PSTAT_TOP ((o - 0x208) / 0x20)]
  else if 0x20c ≤ o ∧ o < 0x28c ∧ (o - 0x20c) % 0x20 = 0 then
    [IRQ_PSTACK_ENTRY ((o - 0x20c) / 0x20)]
  else if 0x1000 ≤ o ∧ o < 0x1800 ∧ (o - 0x1000) % 4 = 0 then
    [IRQ_SRC_PRIO ((o - 0x1000) / 4), IRQ_SRC_TGT ((o - 0x1000) / 4)]
  else []

/-- The fields the `dieNode` register maps name at an offset; none means R15 (reads zero, ignores writes). -/
def fields_dieNode (o : Nat) : List Field :=
  if o = 0x610 then [THERM_STAT_CASE, THERM_STAT_JMAX, THERM_STAT_STEP, THERM_STAT_PENDING, THERM_STAT_HOT]
  else []

end Sys2Proof.Machine
end

