-- ==== Sys2Proof/Machine/RegMapCrown.lean ====
section
/-! DEFINITION. The register fields of the crown-die blocks and the package node, one definition per field of the register maps of spec/:
offset, lowest bit, width, access code, reset value (for a held field: its value on the first power-on of a new part)
and, where the map limits what a write may store, the least and greatest value a write stores. -/

namespace Sys2Proof.Machine


/-! ### R128, 05_scan_cycle_and_hood.md -/

abbrev IMG_CTRL_PERIOD : Field := { off := 0x310, lo := 0, width := 10, acc := .rw, reset := 0x19, vmin := 5, vmax := 1000 }
abbrev IMG_CTRL_RUN : Field := { off := 0x310, lo := 16, width := 1, acc := .rw, reset := 0 }
abbrev IMG_SEQ_SEQ : Field := { off := 0x314, lo := 0, width := 32, acc := .ro, reset := 0 }

/-! ### R147, 05_scan_cycle_and_hood.md -/

abbrev RST_MODE_MODE : Field := { off := 0x300, lo := 0, width := 2, acc := .rw, reset := 0, held := true }
abbrev RST_LAST_KIND : Field := { off := 0x304, lo := 0, width := 2, acc := .ro, reset := 0 }
abbrev RST_LAST_DEGRADED : Field := { off := 0x304, lo := 2, width := 1, acc := .ro, reset := 0 }
abbrev RST_LAST_REASON : Field := { off := 0x304, lo := 4, width := 4, acc := .ro, reset := 0 }
abbrev RST_MIRROR_PERIOD : Field := { off := 0x308, lo := 0, width := 10, acc := .rw, reset := 0xa }

/-! ### R240, 07_job_store_and_admission.md -/

abbrev JOB_STAT_STATE : Field := { off := 0x500, lo := 0, width := 3, acc := .ro, reset := 0 }
abbrev JOB_STAT_RESULT : Field := { off := 0x500, lo := 8, width := 8, acc := .ro, reset := 0 }
abbrev JOB_STAT_FAILMASK : Field := { off := 0x500, lo := 16, width := 4, acc := .ro, reset := 0 }
abbrev JOB_STAT_DIE : Field := { off := 0x500, lo := 20, width := 3, acc := .ro, reset := 0 }
abbrev JOB_STAT_LANE : Field := { off := 0x500, lo := 24, width := 4, acc := .ro, reset := 0 }
abbrev JOB_STAT_DETAIL : Field := { off := 0x500, lo := 28, width := 4, acc := .ro, reset := 0 }
abbrev JOB_RATE_HZ : Field := { off := 0x504, lo := 0, width := 32, acc := .ro, reset := 0 }
abbrev JOB_LENGTH_LINES : Field := { off := 0x508, lo := 0, width := 32, acc := .ro, reset := 0 }
abbrev JOB_START_LINE : Field := { off := 0x50c, lo := 0, width := 32, acc := .ro, reset := 0 }
abbrev JOB_DIES_DIES : Field := { off := 0x510, lo := 0, width := 8, acc := .ro, reset := 0 }
abbrev LINE_RATE_CAP_HZ : Field := { off := 0x520, lo := 0, width := 32, acc := .ro, reset := 0xffffffff }
abbrev CAP_CAUSE_MEM : Field := { off := 0x524, lo := 0, width := 1, acc := .ro, reset := 0 }
abbrev CAP_CAUSE_LANE : Field := { off := 0x524, lo := 1, width := 1, acc := .ro, reset := 0 }
abbrev CAP_CAUSE_WINDOW : Field := { off := 0x524, lo := 2, width := 1, acc := .ro, reset := 0 }
abbrev CAP_CAUSE_HELD : Field := { off := 0x524, lo := 3, width := 1, acc := .ro, reset := 0 }
abbrev CAP_CAUSE_DIE : Field := { off := 0x524, lo := 8, width := 3, acc := .ro, reset := 0 }
abbrev CAP_CAUSE_LANEIDX : Field := { off := 0x524, lo := 12, width := 4, acc := .ro, reset := 0 }
abbrev CAP_SEQ_SEQ : Field := { off := 0x528, lo := 0, width := 16, acc := .ro, reset := 0 }
abbrev CAP_CFG_CANCTL : Field := { off := 0x52c, lo := 0, width := 2, acc := .rw, reset := 0 }
abbrev CAP_CFG_OBJ : Field := { off := 0x52c, lo := 2, width := 7, acc := .rw, reset := 0 }
abbrev CAP_CFG_CANEN : Field := { off := 0x52c, lo := 9, width := 1, acc := .rw, reset := 0 }
abbrev CAP_CFG_KEEN : Field := { off := 0x52c, lo := 10, width := 1, acc := .rw, reset := 0 }
abbrev CAP_CFG_REPEAT : Field := { off := 0x52c, lo := 16, width := 8, acc := .rw, reset := 0xa, vmin := 1, vmax := 255 }
abbrev CAP_CFG_LEAD : Field := { off := 0x52c, lo := 24, width := 8, acc := .rw, reset := 0x32, vmin := 0, vmax := 100 }
abbrev CAP_KLINK_DIE : Field := { off := 0x530, lo := 0, width := 3, acc := .rw, reset := 0 }
abbrev CAP_KLINK_LINK : Field := { off := 0x530, lo := 8, width := 5, acc := .rw, reset := 0 }
abbrev CAP_EXCEED_COUNT : Field := { off := 0x534, lo := 0, width := 32, acc := .rc, reset := 0 }
abbrev CAP_GRACE_MS : Field := { off := 0x538, lo := 0, width := 16, acc := .rw, reset := 0x1f4, vmin := 1, vmax := 10000 }

/-! ### R339, 10_hot_standby.md -/

abbrev HSB_CTRL_EN : Field := { off := 0, lo := 0, width := 1, acc := .rw, reset := 0 }
abbrev HSB_CTRL_HANDOVER : Field := { off := 0, lo := 1, width := 1, acc := .w1s, reset := 0 }
abbrev HSB_CTRL_JOINTAKE : Field := { off := 0, lo := 2, width := 1, acc := .rw, reset := 0 }
abbrev HSB_CTRL_CANHB : Field := { off := 0, lo := 3, width := 1, acc := .rw, reset := 0 }
abbrev HSB_STAT_STATE : Field := { off := 4, lo := 0, width := 3, acc := .ro, reset := 0 }
abbrev HSB_STAT_ROLE : Field := { off := 4, lo := 3, width := 2, acc := .ro, reset := 0 }
abbrev HSB_STAT_UNIT : Field := { off := 4, lo := 5, width := 1, acc := .ro, reset := 0 }
abbrev HSB_STAT_PAIR : Field := { off := 4, lo := 6, width := 1, acc := .ro, reset := 0 }
abbrev HSB_STAT_PATHA : Field := { off := 4, lo := 7, width := 1, acc := .ro, reset := 0 }
abbrev HSB_STAT_PATHB : Field := { off := 4, lo := 8, width := 1, acc := .ro, reset := 0 }
abbrev HSB_STAT_CANPATH : Field := { off := 4, lo := 9, width := 1, acc := .ro, reset := 0 }
abbrev HSB_STAT_TLOCK : Field := { off := 4, lo := 10, width := 1, acc := .ro, reset := 0 }
abbrev HSB_STAT_READY : Field := { off := 4, lo := 11, width := 1, acc := .ro, reset := 0 }
abbrev HSB_STAT_PEER_READY : Field := { off := 4, lo := 12, width := 1, acc := .ro, reset := 0 }
abbrev HSB_STAT_JOBPAIR : Field := { off := 4, lo := 13, width := 1, acc := .ro, reset := 0 }
abbrev HSB_CLAIM_CLAIM : Field := { off := 8, lo := 0, width := 32, acc := .ro, reset := 0, held := true }
abbrev HSB_HC_CLAIM : Field := { off := 0xc, lo := 0, width := 32, acc := .ro, reset := 0 }
abbrev HSB_PEER_CLAIM : Field := { off := 0x10, lo := 0, width := 32, acc := .ro, reset := 0 }
abbrev HSB_CFG_SEEKWAIT : Field := { off := 0x14, lo := 0, width := 10, acc := .rw, reset := 0x1f4, vmin := 10, vmax := 1000 }
abbrev HSB_CFG_CANCTL : Field := { off := 0x14, lo := 10, width := 2, acc := .rw, reset := 0 }
abbrev HSB_CFG_CANOBJ : Field := { off := 0x14, lo := 12, width := 7, acc := .rw, reset := 0 }
abbrev HSB_JOINERR_DETAIL : Field := { off := 0x18, lo := 0, width := 4, acc := .ro, reset := 0 }
abbrev HSB_TOCNT_COUNT : Field := { off := 0x1c, lo := 0, width := 32, acc := .rc, reset := 0 }
abbrev HSB_TOINFO_CAUSE : Field := { off := 0x20, lo := 0, width := 3, acc := .ro, reset := 0 }
abbrev HSB_TOINFO_UNREADY : Field := { off := 0x20, lo := 3, width := 1, acc := .ro, reset := 0 }
abbrev HSB_TOINFO_SPLIT : Field := { off := 0x20, lo := 4, width := 1, acc := .ro, reset := 0 }
abbrev HSB_TOTIME_NS : Field := { off := 0x24, lo := 0, width := 32, acc := .ro, reset := 0 }
abbrev HSB_PATHCNT_PATHA : Field := { off := 0x28, lo := 0, width := 16, acc := .rc, reset := 0 }
abbrev HSB_PATHCNT_PATHB : Field := { off := 0x28, lo := 16, width := 16, acc := .rc, reset := 0 }
abbrev HSB_EQDIFF_COUNT : Field := { off := 0x2c, lo := 0, width := 32, acc := .rc, reset := 0 }
abbrev HSB_EQSKIP_COUNT : Field := { off := 0x30, lo := 0, width := 32, acc := .rc, reset := 0 }
abbrev HSB_MIRLAG_NS : Field := { off := 0x34, lo := 0, width := 32, acc := .rc, reset := 0 }
abbrev HSB_PAGEDIFF_COUNT : Field := { off := 0x38, lo := 0, width := 32, acc := .ro, reset := 0 }
abbrev HSB_PAGEFIRST_LO_ADDR : Field := { off := 0x3c, lo := 16, width := 16, acc := .ro, reset := 0 }
abbrev HSB_PAGEFIRST_HI_ADDR : Field := { off := 0x40, lo := 0, width := 8, acc := .ro, reset := 0 }
abbrev HSB_PEERCAP_HZ : Field := { off := 0x44, lo := 0, width := 32, acc := .ro, reset := 0xffffffff }

/-! ### R360, 11_interrupts_and_watchdog.md -/

abbrev WDT_CTRL_EN : Field := { off := 0, lo := 0, width := 1, acc := .w1s, reset := 0 }
abbrev WDT_PERIOD_US : Field := { off := 4, lo := 0, width := 24, acc := .rw, reset := 0x2710, vmin := 50, vmax := 10000000 }
abbrev WDT_GRACE_US : Field := { off := 8, lo := 0, width := 17, acc := .rw, reset := 0x3e8, vmin := 100, vmax := 100000 }
abbrev WDT_TASKEN_EN : Field := { off := 0xc, lo := 0, width := 32, acc := .rw, reset := 0 }
abbrev WDT_KICK_TASK : Field := { off := 0x10, lo := 0, width := 5, acc := .wo, reset := 0 }
abbrev WDT_KICK_KEY : Field := { off := 0x10, lo := 8, width := 8, acc := .wo, reset := 0 }
abbrev WDT_DONE_DONE : Field := { off := 0x14, lo := 0, width := 32, acc := .ro, reset := 0 }
abbrev WDT_STAT_RUN : Field := { off := 0x18, lo := 0, width := 1, acc := .ro, reset := 0 }
abbrev WDT_STAT_EXPIRED : Field := { off := 0x18, lo := 1, width := 1, acc := .ro, reset := 0 }
abbrev WDT_STAT_BADKICK : Field := { off := 0x18, lo := 2, width := 1, acc := .w1c, reset := 0 }
abbrev WDT_MISSED_MISSED : Field := { off := 0x1c, lo := 0, width := 32, acc := .ro, reset := 0 }
abbrev WDT_RESET_COUNT_COUNT : Field := { off := 0x20, lo := 0, width := 32, acc := .ro, reset := 0, held := true }
abbrev WDT_REMAIN_US : Field := { off := 0x24, lo := 0, width := 24, acc := .ro, reset := 0 }
abbrev WDT_OWNER_PATH (t : Nat) : Field := { off := 0x80 + 4 * t, lo := 0, width := 10, acc := .rw, reset := 0 }
abbrev WDT_OWNER_ANY (t : Nat) : Field := { off := 0x80 + 4 * t, lo := 31, width := 1, acc := .rw, reset := 1 }

/-! ### R390, 12_host_and_ring.md -/

abbrev HOST_LINK_SPEED : Field := { off := 0, lo := 0, width := 3, acc := .ro, reset := 0 }
abbrev HOST_LINK_WIDTH : Field := { off := 0, lo := 8, width := 5, acc := .ro, reset := 0 }
abbrev HOST_ERR_ALIGN : Field := { off := 4, lo := 0, width := 1, acc := .w1c, reset := 0 }
abbrev HOST_ERR_FLR : Field := { off := 4, lo := 1, width := 1, acc := .w1c, reset := 0 }
abbrev HOST_ERR_PERST : Field := { off := 4, lo := 2, width := 1, acc := .w1c, reset := 0 }
abbrev HOST_RING_SEL_PKG : Field := { off := 8, lo := 0, width := 6, acc := .rw, reset := 0 }
abbrev HOST_CMDARB_LIMIT : Field := { off := 0xc, lo := 0, width := 8, acc := .rw, reset := 0x10, vmin := 1, vmax := 255 }
abbrev HOST_FWDVEC_VEC : Field := { off := 0x10, lo := 0, width := 8, acc := .rw, reset := 0 }
abbrev HOST_FWDVEC_FWDEN : Field := { off := 0x10, lo := 8, width := 1, acc := .rw, reset := 0 }
abbrev HOST_CTX_CRYBUSY : Field := { off := 0x14, lo := 0, width := 4, acc := .ro, reset := 0 }
abbrev HOST_CTX_CRYWAIT : Field := { off := 0x14, lo := 4, width := 4, acc := .ro, reset := 0 }
abbrev HOST_CTX_CRCBUSY : Field := { off := 0x14, lo := 8, width := 4, acc := .ro, reset := 0 }
abbrev HOST_CTX_CRCWAIT : Field := { off := 0x14, lo := 12, width := 4, acc := .ro, reset := 0 }
abbrev HOST_APER_BASE (a : Nat) : Field := { off := 0x20 + 4 * a, lo := 0, width := 8, acc := (if a = 0 then .ro else .rw), reset := a }
abbrev HOST_FWD_FWD (w : Nat) : Field := { off := 0x100 + 4 * w, lo := 0, width := 32, acc := .rw, reset := 0 }
abbrev HOST_B2MAP_ADDR (w : Nat) : Field := { off := 0x400 + 4 * w, lo := 0, width := 10, acc := .rw, reset := (0x040 + 0x20 * (w / 8) + w % 8) }
abbrev Q_SQBASE_LO_ADDR (q : Nat) : Field := { off := 0x1000 + 0x40 * q, lo := 6, width := 26, acc := .rw, reset := 0 }
abbrev Q_SQBASE_HI_ADDR (q : Nat) : Field := { off := 0x1004 + 0x40 * q, lo := 0, width := 32, acc := .rw, reset := 0 }
abbrev Q_CQBASE_LO_ADDR (q : Nat) : Field := { off := 0x1008 + 0x40 * q, lo := 6, width := 26, acc := .rw, reset := 0 }
abbrev Q_CQBASE_HI_ADDR (q : Nat) : Field := { off := 0x100c + 0x40 * q, lo := 0, width := 32, acc := .rw, reset := 0 }
abbrev Q_CFG_SIZE (q : Nat) : Field := { off := 0x1010 + 0x40 * q, lo := 0, width := 13, acc := .rw, reset := 0x10 }
abbrev Q_CFG_VEC (q : Nat) : Field := { off := 0x1010 + 0x40 * q, lo := 16, width := 8, acc := .rw, reset := 0 }
abbrev Q_CFG_IEN (q : Nat) : Field := { off := 0x1010 + 0x40 * q, lo := 24, width := 1, acc := .rw, reset := 0 }
abbrev Q_SLACK_US (q : Nat) : Field := { off := 0x1014 + 0x40 * q, lo := 0, width := 20, acc := .rw, reset := 0x3e8, vmin := 1, vmax := 1000000 }
abbrev Q_CTRL_EN (q : Nat) : Field := { off := 0x1018 + 0x40 * q, lo := 0, width := 1, acc := .rw, reset := 0 }
abbrev Q_STAT_STATE (q : Nat) : Field := { off := 0x101c + 0x40 * q, lo := 0, width := 2, acc := .ro, reset := 0 }
abbrev Q_STAT_ERR (q : Nat) : Field := { off := 0x101c + 0x40 * q, lo := 2, width := 2, acc := .ro, reset := 0 }
abbrev Q_STAT_BUSY (q : Nat) : Field := { off := 0x101c + 0x40 * q, lo := 4, width := 1, acc := .ro, reset := 0 }
abbrev Q_SQTAIL_TAIL (q : Nat) : Field := { off := 0x1020 + 0x40 * q, lo := 0, width := 13, acc := .rw, reset := 0 }
abbrev Q_SQHEAD_HEAD (q : Nat) : Field := { off := 0x1024 + 0x40 * q, lo := 0, width := 13, acc := .ro, reset := 0 }
abbrev Q_CQHEAD_HEAD (q : Nat) : Field := { off := 0x1028 + 0x40 * q, lo := 0, width := 13, acc := .rw, reset := 0 }
abbrev Q_CQTAIL_TAIL (q : Nat) : Field := { off := 0x102c + 0x40 * q, lo := 0, width := 13, acc := .ro, reset := 0 }
abbrev Q_CUR_CID (q : Nat) : Field := { off := 0x1030 + 0x40 * q, lo := 0, width := 16, acc := .ro, reset := 0 }
abbrev Q_CUR_OPCODE (q : Nat) : Field := { off := 0x1030 + 0x40 * q, lo := 16, width := 16, acc := .ro, reset := 0 }

/-! ### R391, 12_host_and_ring.md -/

abbrev RING_CTRL_REENUM : Field := { off := 0, lo := 0, width := 1, acc := .w1s, reset := 0 }
abbrev RING_STAT_STATE : Field := { off := 4, lo := 0, width := 3, acc := .ro, reset := 0 }
abbrev RING_STAT_HEAD : Field := { off := 4, lo := 3, width := 1, acc := .ro, reset := 0 }
abbrev RING_STAT_PORT0 : Field := { off := 4, lo := 4, width := 1, acc := .ro, reset := 0 }
abbrev RING_STAT_PORT1 : Field := { off := 4, lo := 5, width := 1, acc := .ro, reset := 0 }
abbrev RING_POS_POS : Field := { off := 8, lo := 0, width := 6, acc := .ro, reset := 0 }
abbrev RING_COUNT_N : Field := { off := 0xc, lo := 0, width := 7, acc := .ro, reset := 0 }
abbrev RING_TMO_US : Field := { off := 0x10, lo := 0, width := 16, acc := .rw, reset := 0x3e8, vmin := 100, vmax := 10000 }
abbrev RING_LOOPNS_NS : Field := { off := 0x14, lo := 0, width := 32, acc := .ro, reset := 0 }
abbrev RING_ERRCNT_PORT0 : Field := { off := 0x18, lo := 0, width := 16, acc := .rc, reset := 0 }
abbrev RING_ERRCNT_PORT1 : Field := { off := 0x18, lo := 16, width := 16, acc := .rc, reset := 0 }
abbrev RING_LOSTCNT_COUNT : Field := { off := 0x1c, lo := 0, width := 32, acc := .rc, reset := 0 }
abbrev RING_WRAPCNT_COUNT : Field := { off := 0x20, lo := 0, width := 32, acc := .rc, reset := 0 }

/-! ### R427, 14_canfd_rtc_timebase.md -/

abbrev CAN_CTRL_EN : Field := { off := 0, lo := 0, width := 1, acc := .rw, reset := 0 }
abbrev CAN_CTRL_LISTEN : Field := { off := 0, lo := 1, width := 1, acc := .rw, reset := 0 }
abbrev CAN_CTRL_FDEN : Field := { off := 0, lo := 2, width := 1, acc := .rw, reset := 1 }
abbrev CAN_STAT_ERRST : Field := { off := 4, lo := 0, width := 2, acc := .ro, reset := 3 }
abbrev CAN_STAT_BUSSTUCK : Field := { off := 4, lo := 2, width := 1, acc := .w1c, reset := 0 }
abbrev CAN_STAT_CFGERR : Field := { off := 4, lo := 3, width := 1, acc := .w1c, reset := 0 }
abbrev CAN_ERRCNT_TEC : Field := { off := 8, lo := 0, width := 8, acc := .ro, reset := 0 }
abbrev CAN_ERRCNT_REC : Field := { off := 8, lo := 8, width := 8, acc := .ro, reset := 0 }
abbrev CAN_ERRCNT_LASTERR : Field := { off := 8, lo := 16, width := 3, acc := .ro, reset := 0 }
abbrev CAN_NBT_PRESC : Field := { off := 0xc, lo := 0, width := 8, acc := .rw, reset := 1 }
abbrev CAN_NBT_TSEG1 : Field := { off := 0xc, lo := 8, width := 9, acc := .rw, reset := 0x7f }
abbrev CAN_NBT_TSEG2 : Field := { off := 0xc, lo := 17, width := 7, acc := .rw, reset := 0x20 }
abbrev CAN_NBT_SJW : Field := { off := 0xc, lo := 24, width := 7, acc := .rw, reset := 0x20 }
abbrev CAN_DBT_PRESC : Field := { off := 0x10, lo := 0, width := 5, acc := .rw, reset := 1 }
abbrev CAN_DBT_TSEG1 : Field := { off := 0x10, lo := 8, width := 5, acc := .rw, reset := 0xe }
abbrev CAN_DBT_TSEG2 : Field := { off := 0x10, lo := 16, width := 4, acc := .rw, reset := 5 }
abbrev CAN_DBT_SJW : Field := { off := 0x10, lo := 24, width := 4, acc := .rw, reset := 5 }
abbrev CAN_TDC_OFFSET : Field := { off := 0x14, lo := 0, width := 7, acc := .rw, reset := 0xf }
abbrev CAN_TDC_EN : Field := { off := 0x14, lo := 8, width := 1, acc := .rw, reset := 1 }
abbrev CAN_TSC_US : Field := { off := 0x18, lo := 0, width := 32, acc := .ro, reset := 0 }
abbrev CAN_NOMATCH_COUNT : Field := { off := 0x1c, lo := 0, width := 32, acc := .rc, reset := 0 }
abbrev CAN_TXPEND_PEND (w : Nat) : Field := { off := 0x20 + 4 * w, lo := 0, width := 32, acc := .ro, reset := 0 }
abbrev CAN_NEW_NEW (w : Nat) : Field := { off := 0x30 + 4 * w, lo := 0, width := 32, acc := .ro, reset := 0 }
abbrev CAN_LOST_LOST (w : Nat) : Field := { off := 0x40 + 4 * w, lo := 0, width := 32, acc := .ro, reset := 0 }
abbrev CAN_OBJSEL_OBJ : Field := { off := 0x100, lo := 0, width := 7, acc := .rw, reset := 0 }
abbrev CAN_OBJ_CFG_EN : Field := { off := 0x104, lo := 0, width := 1, acc := .rw, reset := 0 }
abbrev CAN_OBJ_CFG_DIR : Field := { off := 0x104, lo := 1, width := 1, acc := .rw, reset := 0 }
abbrev CAN_OBJ_CFG_IDE : Field := { off := 0x104, lo := 2, width := 1, acc := .rw, reset := 0 }
abbrev CAN_OBJ_CFG_FDF : Field := { off := 0x104, lo := 3, width := 1, acc := .rw, reset := 0 }
abbrev CAN_OBJ_CFG_BRS : Field := { off := 0x104, lo := 4, width := 1, acc := .rw, reset := 0 }
abbrev CAN_OBJ_CFG_DLC : Field := { off := 0x104, lo := 8, width := 4, acc := .rw, reset := 0 }
abbrev CAN_OBJ_CFG_IMGEN : Field := { off := 0x104, lo := 12, width := 1, acc := .rw, reset := 0 }
abbrev CAN_OBJ_ID_ID : Field := { off := 0x108, lo := 0, width := 29, acc := .rw, reset := 0 }
abbrev CAN_OBJ_IMG_POINT : Field := { off := 0x10c, lo := 0, width := 16, acc := .rw, reset := 0 }
abbrev CAN_OBJ_STAT_NEW : Field := { off := 0x110, lo := 0, width := 1, acc := .ro, reset := 0 }
abbrev CAN_OBJ_STAT_LOST : Field := { off := 0x110, lo := 1, width := 1, acc := .ro, reset := 0 }
abbrev CAN_OBJ_STAT_TXREQ : Field := { off := 0x110, lo := 2, width := 1, acc := .ro, reset := 0 }
abbrev CAN_OBJ_STAT_BEGUN : Field := { off := 0x110, lo := 3, width := 1, acc := .ro, reset := 0 }
abbrev CAN_OBJ_STAT_RESULT : Field := { off := 0x110, lo := 4, width := 2, acc := .ro, reset := 0 }
abbrev CAN_OBJ_STAT_RXDLC : Field := { off := 0x110, lo := 8, width := 4, acc := .ro, reset := 0 }
abbrev CAN_OBJ_STAT_RXFDF : Field := { off := 0x110, lo := 12, width := 1, acc := .ro, reset := 0 }
abbrev CAN_OBJ_STAT_RXBRS : Field := { off := 0x110, lo := 13, width := 1, acc := .ro, reset := 0 }
abbrev CAN_OBJ_TS_US : Field := { off := 0x114, lo := 0, width := 32, acc := .ro, reset := 0 }
abbrev CAN_OBJ_CMD_WRITE : Field := { off := 0x118, lo := 0, width := 1, acc := .wo, reset := 0 }
abbrev CAN_OBJ_CMD_TXREQ : Field := { off := 0x118, lo := 1, width := 1, acc := .wo, reset := 0 }
abbrev CAN_OBJ_CMD_CANCEL : Field := { off := 0x118, lo := 2, width := 1, acc := .wo, reset := 0 }
abbrev CAN_OBJ_DATA_DATA (i : Nat) : Field := { off := 0x140 + 4 * i, lo := 0, width := 32, acc := .rw, reset := 0 }

/-! ### R446, 14_canfd_rtc_timebase.md -/

abbrev TMB_TIME_LO_NS : Field := { off := 0, lo := 0, width := 32, acc := .ro, reset := 0 }
abbrev TMB_TIME_HI_NS : Field := { off := 4, lo := 0, width := 32, acc := .ro, reset := 0 }
abbrev TMB_SET_LO_NS : Field := { off := 8, lo := 0, width := 32, acc := .rw, reset := 0 }
abbrev TMB_SET_HI_NS : Field := { off := 0xc, lo := 0, width := 32, acc := .rw, reset := 0 }
abbrev TMB_CTRL_SET : Field := { off := 0x10, lo := 0, width := 1, acc := .w1s, reset := 0 }
abbrev TMB_CTRL_PTPEN : Field := { off := 0x10, lo := 1, width := 1, acc := .rw, reset := 0 }
abbrev TMB_CTRL_ENCEN : Field := { off := 0x10, lo := 2, width := 1, acc := .rw, reset := 0 }
abbrev TMB_CTRL_LINEEN : Field := { off := 0x10, lo := 3, width := 1, acc := .rw, reset := 0 }
abbrev TMB_STAT_REF : Field := { off := 0x14, lo := 0, width := 2, acc := .ro, reset := 0 }
abbrev TMB_STAT_TARGET : Field := { off := 0x14, lo := 2, width := 2, acc := .ro, reset := 0 }
abbrev TMB_STAT_SWITCHING : Field := { off := 0x14, lo := 4, width := 1, acc := .ro, reset := 0 }
abbrev TMB_STAT_HOLDOVER : Field := { off := 0x14, lo := 5, width := 1, acc := .ro, reset := 0 }
abbrev TMB_STAT_LINERUN : Field := { off := 0x14, lo := 6, width := 1, acc := .ro, reset := 0 }
abbrev TMB_STAT_FOLLOW : Field := { off := 0x14, lo := 7, width := 1, acc := .ro, reset := 0 }
abbrev TMB_STAT_ENCVAL : Field := { off := 0x14, lo := 8, width := 1, acc := .ro, reset := 0 }
abbrev TMB_STAT_ENCQUAL : Field := { off := 0x14, lo := 9, width := 1, acc := .ro, reset := 0 }
abbrev TMB_STAT_PTPVAL : Field := { off := 0x14, lo := 10, width := 1, acc := .ro, reset := 0 }
abbrev TMB_STAT_PTPQUAL : Field := { off := 0x14, lo := 11, width := 1, acc := .ro, reset := 0 }
abbrev TMB_STAT_ENCERR : Field := { off := 0x14, lo := 12, width := 1, acc := .w1c, reset := 0 }
abbrev TMB_STAT_STEPREF : Field := { off := 0x14, lo := 13, width := 1, acc := .w1c, reset := 0 }
abbrev TMB_LINE_NUM_LINE : Field := { off := 0x18, lo := 0, width := 32, acc := .ro, reset := 0 }
abbrev TMB_LINE_F_NS : Field := { off := 0x1c, lo := 0, width := 32, acc := .ro, reset := 0 }
abbrev TMB_LINE_NEXT_LINE : Field := { off := 0x20, lo := 0, width := 32, acc := .rw, reset := 0 }
abbrev TMB_PNOM_PS : Field := { off := 0x24, lo := 0, width := 32, acc := .rw, reset := 0x989680, vmin := 1000000, vmax := 4000000000 }
abbrev TMB_EPOCH_LO_NS : Field := { off := 0x28, lo := 0, width := 32, acc := .rw, reset := 0 }
abbrev TMB_EPOCH_HI_NS : Field := { off := 0x2c, lo := 0, width := 32, acc := .rw, reset := 0 }
abbrev TMB_ANN_NS : Field := { off := 0x30, lo := 0, width := 19, acc := .rw, reset := 0xc350, vmin := 1000, vmax := 400000 }
abbrev TMB_ENC_DIV : Field := { off := 0x34, lo := 0, width := 16, acc := .rw, reset := 4, vmin := 1, vmax := 65535 }
abbrev TMB_ENC_SRC : Field := { off := 0x34, lo := 16, width := 1, acc := .rw, reset := 0 }
abbrev TMB_ENC_INV : Field := { off := 0x34, lo := 17, width := 1, acc := .rw, reset := 0 }
abbrev TMB_ENC_AVG : Field := { off := 0x34, lo := 18, width := 6, acc := .rw, reset := 0x10, vmin := 1, vmax := 63 }
abbrev TMB_ENCLINK_DIE : Field := { off := 0x38, lo := 0, width := 3, acc := .rw, reset := 0 }
abbrev TMB_ENCLINK_LINK : Field := { off := 0x38, lo := 8, width := 5, acc := .rw, reset := 0 }
abbrev TMB_MINRATE_HZ : Field := { off := 0x3c, lo := 0, width := 20, acc := .rw, reset := 0x64, vmin := 1, vmax := 100000 }
abbrev TMB_PTP_DOMAIN : Field := { off := 0x40, lo := 0, width := 8, acc := .rw, reset := 0 }
abbrev TMB_PTP_MAC : Field := { off := 0x40, lo := 8, width := 1, acc := .rw, reset := 0 }
abbrev TMB_PTP_UDP : Field := { off := 0x40, lo := 9, width := 1, acc := .rw, reset := 0 }
abbrev TMB_PTP_MASTEROK : Field := { off := 0x40, lo := 10, width := 1, acc := .rw, reset := 0 }
abbrev TMB_PTPOFS_NS : Field := { off := 0x44, lo := 0, width := 32, acc := .ro, reset := 0 }
abbrev TMB_PHERR_NS : Field := { off := 0x48, lo := 0, width := 32, acc := .ro, reset := 0 }
abbrev TMB_SWCNT_COUNT : Field := { off := 0x4c, lo := 0, width := 32, acc := .rc, reset := 0 }

/-! ### R471, 15_nv_store_and_events.md -/

abbrev EVR_CFG_IRQSEV : Field := { off := 0, lo := 0, width := 4, acc := .rw, reset := 0xb }
abbrev EVR_CFG_MINSEV : Field := { off := 0, lo := 4, width := 4, acc := .rw, reset := 0 }
abbrev EVR_STAT_OVERRUN : Field := { off := 4, lo := 0, width := 1, acc := .w1c, reset := 0 }
abbrev EVR_STAT_EMPTY : Field := { off := 4, lo := 1, width := 1, acc := .ro, reset := 1 }
abbrev EVR_CURSOR_SEQ : Field := { off := 8, lo := 0, width := 32, acc := .rw, reset := 0 }
abbrev EVR_OLDEST_SEQ : Field := { off := 0xc, lo := 0, width := 32, acc := .ro, reset := 0 }
abbrev EVR_NEXT_SEQ : Field := { off := 0x10, lo := 0, width := 32, acc := .ro, reset := 0 }
abbrev EVR_LOSTCNT_COUNT : Field := { off := 0x14, lo := 0, width := 32, acc := .rc, reset := 0 }
abbrev EVR_SUPCNT_COUNT : Field := { off := 0x18, lo := 0, width := 32, acc := .rc, reset := 0 }
abbrev EVR_WIN_WORD (i : Nat) : Field := { off := 0x20 + 4 * i, lo := 0, width := 32, acc := .ro, reset := 0 }
abbrev EVR_RATE_RATE (b : Nat) : Field := { off := 0x400 + 4 * b, lo := 0, width := 8, acc := .rw, reset := 0xa }
abbrev EVR_RATE_BURST (b : Nat) : Field := { off := 0x400 + 4 * b, lo := 8, width := 8, acc := .rw, reset := 0x10, vmin := 1, vmax := 255 }
abbrev EVR_RATE_TOKENS (b : Nat) : Field := { off := 0x400 + 4 * b, lo := 16, width := 8, acc := .ro, reset := 0x10 }
abbrev EVR_RATE_EN (b : Nat) : Field := { off := 0x400 + 4 * b, lo := 24, width := 1, acc := .rw, reset := 1 }
abbrev EVR_SUP_COUNT (b : Nat) : Field := { off := 0x800 + 4 * b, lo := 0, width := 12, acc := .ro, reset := 0 }

/-! ### R495, 16_update_and_keys.md -/

abbrev CRY_KSTAT_PROG : Field := { off := 0, lo := 0, width := 5, acc := .ro, reset := 0, held := true }
abbrev CRY_KSTAT_REVOKED : Field := { off := 0, lo := 8, width := 4, acc := .ro, reset := 0, held := true }
abbrev CRY_KSTAT_RUNSLOT : Field := { off := 0, lo := 12, width := 2, acc := .ro, reset := 0 }
abbrev CRY_KSEL_SLOT : Field := { off := 4, lo := 0, width := 3, acc := .rw, reset := 0 }
abbrev CRY_KPROG_GO : Field := { off := 8, lo := 0, width := 1, acc := .w1s, reset := 0 }
abbrev CRY_KPROG_RESULT : Field := { off := 8, lo := 8, width := 8, acc := .ro, reset := 0 }
abbrev CRY_REVOKE_REVOKE : Field := { off := 0xc, lo := 0, width := 4, acc := .w1s, reset := 0 }
abbrev CRY_KDATA_DATA (i : Nat) : Field := { off := 0x40 + 4 * i, lo := 0, width := 32, acc := .wo, reset := 0 }
abbrev TRNG_CTRL_EN : Field := { off := 0x800, lo := 0, width := 1, acc := .rw, reset := 1 }
abbrev TRNG_STAT_STATE : Field := { off := 0x804, lo := 0, width := 2, acc := .ro, reset := 1 }
abbrev TRNG_STAT_FAILS : Field := { off := 0x804, lo := 2, width := 3, acc := .ro, reset := 0 }
abbrev TRNG_STAT_RCT : Field := { off := 0x804, lo := 5, width := 1, acc := .w1c, reset := 0 }
abbrev TRNG_STAT_APT : Field := { off := 0x804, lo := 6, width := 1, acc := .w1c, reset := 0 }
abbrev TRNG_ACQ_SLOT : Field := { off := 0x808, lo := 0, width := 8, acc := .ro, reset := 0xff }
abbrev TRNG_SLOT_CTRL_REQ (s : Nat) : Field := { off := 0x810 + 0x40 * s, lo := 0, width := 1, acc := .w1s, reset := 0 }
abbrev TRNG_SLOT_CTRL_REL (s : Nat) : Field := { off := 0x810 + 0x40 * s, lo := 1, width := 1, acc := .w1s, reset := 0 }
abbrev TRNG_SLOT_STAT_OWNED (s : Nat) : Field := { off := 0x814 + 0x40 * s, lo := 0, width := 1, acc := .ro, reset := 0 }
abbrev TRNG_SLOT_STAT_PEND (s : Nat) : Field := { off := 0x814 + 0x40 * s, lo := 1, width := 1, acc := .ro, reset := 0 }
abbrev TRNG_SLOT_STAT_DONE (s : Nat) : Field := { off := 0x814 + 0x40 * s, lo := 2, width := 1, acc := .ro, reset := 0 }
abbrev TRNG_SLOT_STAT_FAIL (s : Nat) : Field := { off := 0x814 + 0x40 * s, lo := 3, width := 1, acc := .ro, reset := 0 }
abbrev TRNG_SLOT_DATA_DATA (s i : Nat) : Field := { off := 0x830 + 0x40 * s + 4 * i, lo := 0, width := 32, acc := .ro, reset := 0 }

/-! ### R496, 16_update_and_keys.md -/

abbrev UPD_STAT_STATE : Field := { off := 0, lo := 0, width := 3, acc := .ro, reset := 0 }
abbrev UPD_STAT_RUNBANK : Field := { off := 0, lo := 3, width := 1, acc := .ro, reset := 0 }
abbrev UPD_STAT_TRIAL : Field := { off := 0, lo := 4, width := 1, acc := .ro, reset := 0, held := true }
abbrev UPD_STAT_RECOVERY : Field := { off := 0, lo := 5, width := 1, acc := .ro, reset := 0 }
abbrev UPD_STAT_PATH : Field := { off := 0, lo := 6, width := 1, acc := .ro, reset := 0 }
abbrev UPD_STAT_RESULT : Field := { off := 0, lo := 8, width := 8, acc := .ro, reset := 0 }
abbrev UPD_CTRL_BEGIN : Field := { off := 4, lo := 0, width := 1, acc := .w1s, reset := 0 }
abbrev UPD_CTRL_PUT : Field := { off := 4, lo := 1, width := 1, acc := .w1s, reset := 0 }
abbrev UPD_CTRL_ERASE : Field := { off := 4, lo := 2, width := 1, acc := .w1s, reset := 0 }
abbrev UPD_CTRL_ACTIVATE : Field := { off := 4, lo := 3, width := 1, acc := .w1s, reset := 0 }
abbrev UPD_XFER_XID : Field := { off := 8, lo := 0, width := 32, acc := .rw, reset := 0, held := true }
abbrev UPD_FRAGS_COUNT : Field := { off := 0xc, lo := 0, width := 15, acc := .rw, reset := 0, held := true }
abbrev UPD_HAVE_COUNT : Field := { off := 0x10, lo := 0, width := 15, acc := .ro, reset := 0, held := true }
abbrev UPD_FRAG_IDX_INDEX : Field := { off := 0x14, lo := 0, width := 14, acc := .rw, reset := 0 }
abbrev UPD_CONFIRM_KEY : Field := { off := 0x18, lo := 0, width := 8, acc := .wo, reset := 0 }
abbrev UPD_TRIAL_SECONDS : Field := { off := 0x1c, lo := 0, width := 16, acc := .rw, reset := 0x258, held := true, vmin := 60, vmax := 65535 }
abbrev UPD_TRIAL_BOOTS : Field := { off := 0x1c, lo := 16, width := 4, acc := .rw, reset := 3, held := true, vmin := 1, vmax := 15 }
abbrev UPD_TRIALSTAT_RUNSEC : Field := { off := 0x20, lo := 0, width := 16, acc := .ro, reset := 0, held := true }
abbrev UPD_TRIALSTAT_BOOTS : Field := { off := 0x20, lo := 16, width := 4, acc := .ro, reset := 0, held := true }
abbrev UPD_TRIALSTAT_HELD : Field := { off := 0x20, lo := 20, width := 1, acc := .ro, reset := 0 }
abbrev UPD_GATE_MOTION : Field := { off := 0x24, lo := 0, width := 5, acc := .rw, reset := 0, held := true }
abbrev UPD_GATE_MOTEN : Field := { off := 0x24, lo := 5, width := 1, acc := .rw, reset := 0, held := true }
abbrev UPD_GATE_KEYIN : Field := { off := 0x24, lo := 6, width := 5, acc := .rw, reset := 0, held := true }
abbrev UPD_GATE_KEYEN : Field := { off := 0x24, lo := 11, width := 1, acc := .rw, reset := 0, held := true }
abbrev UPD_LOCK_LOCK : Field := { off := 0x28, lo := 0, width := 1, acc := .ro, reset := 0, held := true }
abbrev UPD_LOCK_SET : Field := { off := 0x28, lo := 1, width := 1, acc := .w1s, reset := 0 }
abbrev UPD_LOCK_UNLOCK : Field := { off := 0x28, lo := 2, width := 1, acc := .w1s, reset := 0 }
abbrev UPD_SECVER_FLOOR : Field := { off := 0x2c, lo := 0, width := 32, acc := .ro, reset := 0, held := true }
abbrev UPD_VER_A_VERSION : Field := { off := 0x30, lo := 0, width := 32, acc := .ro, reset := 0 }
abbrev UPD_VER_B_VERSION : Field := { off := 0x34, lo := 0, width := 32, acc := .ro, reset := 0 }
abbrev UPD_GATESTAT_WEB : Field := { off := 0x38, lo := 0, width := 1, acc := .ro, reset := 1 }
abbrev UPD_GATESTAT_VBAT : Field := { off := 0x38, lo := 1, width := 1, acc := .ro, reset := 0 }
abbrev UPD_GATESTAT_LOCK : Field := { off := 0x38, lo := 2, width := 1, acc := .ro, reset := 0 }
abbrev UPD_FRAGBUF_DATA (i : Nat) : Field := { off := 0x1000 + 4 * i, lo := 0, width := 32, acc := .rw, reset := 0 }
abbrev UPD_MAP_MAP (w : Nat) : Field := { off := 0x2000 + 4 * w, lo := 0, width := 32, acc := .ro, reset := 0, held := true }

/-! ### R521, 17_power_reset_clocks_emc.md -/

abbrev CLK_CTRL_NOSPREAD : Field := { off := 0x600, lo := 0, width := 1, acc := .rw, reset := 0 }
abbrev CLK_LOCK_LOCK : Field := { off := 0x604, lo := 0, width := 4, acc := .ro, reset := 0 }
abbrev IO_SLEW_XSPI : Field := { off := 0x608, lo := 0, width := 2, acc := .rw, reset := 3 }
abbrev IO_SLEW_CANTX : Field := { off := 0x608, lo := 2, width := 2, acc := .rw, reset := 0 }
abbrev IO_SLEW_GEN : Field := { off := 0x608, lo := 4, width := 2, acc := .rw, reset := 1 }
abbrev IO_SLEW_MDIO : Field := { off := 0x608, lo := 6, width := 2, acc := .rw, reset := 1 }
abbrev CLK_DLOCK_SCAN : Field := { off := 0x600, lo := 0, width := 1, acc := .ro, reset := 0 }
abbrev CLK_DLOCK_LANE : Field := { off := 0x600, lo := 1, width := 3, acc := .ro, reset := 0 }
abbrev CLK_DLOCK_LINK : Field := { off := 0x600, lo := 4, width := 4, acc := .ro, reset := 0 }
abbrev CLK_DLOCK_DRC : Field := { off := 0x600, lo := 8, width := 1, acc := .ro, reset := 0 }
abbrev CLK_DLOCK_COMMON : Field := { off := 0x600, lo := 9, width := 1, acc := .ro, reset := 0 }

/-- The fields the `pkgNode` register maps name at an offset; none means R15 (reads zero, ignores writes). -/
def fields_pkgNode (o : Nat) : List Field :=
  if o = 0x310 then [IMG_CTRL_PERIOD, IMG_CTRL_RUN]
  else if o = 0x314 then [IMG_SEQ_SEQ]
  else if o = 0x300 then [RST_MODE_MODE]
  else if o = 0x304 then [RST_LAST_KIND, RST_LAST_DEGRADED, RST_LAST_REASON]
  else if o = 0x308 then [RST_MIRROR_PERIOD]
  else if o = 0x500 then [JOB_STAT_STATE, JOB_STAT_RESULT, JOB_STAT_FAILMASK, JOB_STAT_DIE, JOB_STAT_LANE, JOB_STAT_DETAIL]
  else if o = 0x504 then [JOB_RATE_HZ]
  else if o = 0x508 then [JOB_LENGTH_LINES]
  else if o = 0x50c then [JOB_START_LINE]
  else if o = 0x510 then [JOB_DIES_DIES]
  else if o = 0x520 then [LINE_RATE_CAP_HZ]
  else if o = 0x524 then [CAP_CAUSE_MEM, CAP_CAUSE_LANE, CAP_CAUSE_WINDOW, CAP_CAUSE_HELD, CAP_CAUSE_DIE, CAP_CAUSE_LANEIDX]
  else if o = 0x528 then [CAP_SEQ_SEQ]
  else if o = 0x52c then [CAP_CFG_CANCTL, CAP_CFG_OBJ, CAP_CFG_CANEN, CAP_CFG_KEEN, CAP_CFG_REPEAT, CAP_CFG_LEAD]
  else if o = 0x530 then [CAP_KLINK_DIE, CAP_KLINK_LINK]
  else if o = 0x534 then [CAP_EXCEED_COUNT]
  else if o = 0x538 then [CAP_GRACE_MS]
  else []

/-- The fields the `hsb` register maps name at an offset; none means R15 (reads zero, ignores writes). -/
def fields_hsb (o : Nat) : List Field :=
  if o = 0 then [HSB_CTRL_EN, HSB_CTRL_HANDOVER, HSB_CTRL_JOINTAKE, HSB_CTRL_CANHB]
  else if o = 4 then [HSB_STAT_STATE, HSB_STAT_ROLE, HSB_STAT_UNIT, HSB_STAT_PAIR, HSB_STAT_PATHA, HSB_STAT_PATHB, HSB_STAT_CANPATH, HSB_STAT_TLOCK, HSB_STAT_READY, HSB_STAT_PEER_READY, HSB_STAT_JOBPAIR]
  else if o = 8 then [HSB_CLAIM_CLAIM]
  else if o = 0xc then [HSB_HC_CLAIM]
  else if o = 0x10 then [HSB_PEER_CLAIM]
  else if o = 0x14 then [HSB_CFG_SEEKWAIT, HSB_CFG_CANCTL, HSB_CFG_CANOBJ]
  else if o = 0x18 then [HSB_JOINERR_DETAIL]
  else if o = 0x1c then [HSB_TOCNT_COUNT]
  else if o = 0x20 then [HSB_TOINFO_CAUSE, HSB_TOINFO_UNREADY, HSB_TOINFO_SPLIT]
  else if o = 0x24 then [HSB_TOTIME_NS]
  else if o = 0x28 then [HSB_PATHCNT_PATHA, HSB_PATHCNT_PATHB]
  else if o = 0x2c then [HSB_EQDIFF_COUNT]
  else if o = 0x30 then [HSB_EQSKIP_COUNT]
  else if o = 0x34 then [HSB_MIRLAG_NS]
  else if o = 0x38 then [HSB_PAGEDIFF_COUNT]
  else if o = 0x3c then [HSB_PAGEFIRST_LO_ADDR]
  else if o = 0x40 then [HSB_PAGEFIRST_HI_ADDR]
  else if o = 0x44 then [HSB_PEERCAP_HZ]
  else []

/-- The fields the `wdt` register maps name at an offset; none means R15 (reads zero, ignores writes). -/
def fields_wdt (o : Nat) : List Field :=
  if o = 0 then [WDT_CTRL_EN]
  else if o = 4 then [WDT_PERIOD_US]
  else if o = 8 then [WDT_GRACE_US]
  else if o = 0xc then [WDT_TASKEN_EN]
  else if o = 0x10 then [WDT_KICK_TASK, WDT_KICK_KEY]
  else if o = 0x14 then [WDT_DONE_DONE]
  else if o = 0x18 then [WDT_STAT_RUN, WDT_STAT_EXPIRED, WDT_STAT_BADKICK]
  else if o = 0x1c then [WDT_MISSED_MISSED]
  else if o = 0x20 then [WDT_RESET_COUNT_COUNT]
  else if o = 0x24 then [WDT_REMAIN_US]
  else if 0x80 ≤ o ∧ o < 0x100 ∧ (o - 0x80) % 4 = 0 then
    [WDT_OWNER_PATH ((o - 0x80) / 4), WDT_OWNER_ANY ((o - 0x80) / 4)]
  else []

/-- The fields the `host` register maps name at an offset; none means R15 (reads zero, ignores writes). -/
def fields_host (o : Nat) : List Field :=
  if o = 0 then [HOST_LINK_SPEED, HOST_LINK_WIDTH]
  else if o = 4 then [HOST_ERR_ALIGN, HOST_ERR_FLR, HOST_ERR_PERST]
  else if o = 8 then [HOST_RING_SEL_PKG]
  else if o = 0xc then [HOST_CMDARB_LIMIT]
  else if o = 0x10 then [HOST_FWDVEC_VEC, HOST_FWDVEC_FWDEN]
  else if o = 0x14 then [HOST_CTX_CRYBUSY, HOST_CTX_CRYWAIT, HOST_CTX_CRCBUSY, HOST_CTX_CRCWAIT]
  else if 0x20 ≤ o ∧ o < 0x30 ∧ (o - 0x20) % 4 = 0 then
    [HOST_APER_BASE ((o - 0x20) / 4)]
  else if 0x100 ≤ o ∧ o < 0x140 ∧ (o - 0x100) % 4 = 0 then
    [HOST_FWD_FWD ((o - 0x100) / 4)]
  else if 0x400 ≤ o ∧ o < 0x500 ∧ (o - 0x400) % 4 = 0 then
    [HOST_B2MAP_ADDR ((o - 0x400) / 4)]
  else if 0x1000 ≤ o ∧ o < 0x1400 ∧ (o - 0x1000) % 0x40 = 0 then
    [Q_SQBASE_LO_ADDR ((o - 0x1000) / 0x40)]
  else if 0x1004 ≤ o ∧ o < 0x1404 ∧ (o - 0x1004) % 0x40 = 0 then
    [Q_SQBASE_HI_ADDR ((o - 0x1004) / 0x40)]
  else if 0x1008 ≤ o ∧ o < 0x1408 ∧ (o - 0x1008) % 0x40 = 0 then
    [Q_CQBASE_LO_ADDR ((o - 0x1008) / 0x40)]
  else if 0x100c ≤ o ∧ o < 0x140c ∧ (o - 0x100c) % 0x40 = 0 then
    [Q_CQBASE_HI_ADDR ((o - 0x100c) / 0x40)]
  else if 0x1010 ≤ o ∧ o < 0x1410 ∧ (o - 0x1010) % 0x40 = 0 then
    [Q_CFG_SIZE ((o - 0x1010) / 0x40), Q_CFG_VEC ((o - 0x1010) / 0x40), Q_CFG_IEN ((o - 0x1010) / 0x40)]
  else if 0x1014 ≤ o ∧ o < 0x1414 ∧ (o - 0x1014) % 0x40 = 0 then
    [Q_SLACK_US ((o - 0x1014) / 0x40)]
  else if 0x1018 ≤ o ∧ o < 0x1418 ∧ (o - 0x1018) % 0x40 = 0 then
    [Q_CTRL_EN ((o - 0x1018) / 0x40)]
  else if 0x101c ≤ o ∧ o < 0x141c ∧ (o - 0x101c) % 0x40 = 0 then
    [Q_STAT_STATE ((o - 0x101c) / 0x40), Q_STAT_ERR ((o - 0x101c) / 0x40), Q_STAT_BUSY ((o - 0x101c) / 0x40)]
  else if 0x1020 ≤ o ∧ o < 0x1420 ∧ (o - 0x1020) % 0x40 = 0 then
    [Q_SQTAIL_TAIL ((o - 0x1020) / 0x40)]
  else if 0x1024 ≤ o ∧ o < 0x1424 ∧ (o - 0x1024) % 0x40 = 0 then
    [Q_SQHEAD_HEAD ((o - 0x1024) / 0x40)]
  else if 0x1028 ≤ o ∧ o < 0x1428 ∧ (o - 0x1028) % 0x40 = 0 then
    [Q_CQHEAD_HEAD ((o - 0x1028) / 0x40)]
  else if 0x102c ≤ o ∧ o < 0x142c ∧ (o - 0x102c) % 0x40 = 0 then
    [Q_CQTAIL_TAIL ((o - 0x102c) / 0x40)]
  else if 0x1030 ≤ o ∧ o < 0x1430 ∧ (o - 0x1030) % 0x40 = 0 then
    [Q_CUR_CID ((o - 0x1030) / 0x40), Q_CUR_OPCODE ((o - 0x1030) / 0x40)]
  else []

/-- The fields the `ring` register maps name at an offset; none means R15 (reads zero, ignores writes). -/
def fields_ring (o : Nat) : List Field :=
  if o = 0 then [RING_CTRL_REENUM]
  else if o = 4 then [RING_STAT_STATE, RING_STAT_HEAD, RING_STAT_PORT0, RING_STAT_PORT1]
  else if o = 8 then [RING_POS_POS]
  else if o = 0xc then [RING_COUNT_N]
  else if o = 0x10 then [RING_TMO_US]
  else if o = 0x14 then [RING_LOOPNS_NS]
  else if o = 0x18 then [RING_ERRCNT_PORT0, RING_ERRCNT_PORT1]
  else if o = 0x1c then [RING_LOSTCNT_COUNT]
  else if o = 0x20 then [RING_WRAPCNT_COUNT]
  else []

/-- The fields the `can` register maps name at an offset; none means R15 (reads zero, ignores writes). -/
def fields_can (o : Nat) : List Field :=
  if o = 0 then [CAN_CTRL_EN, CAN_CTRL_LISTEN, CAN_CTRL_FDEN]
  else if o = 4 then [CAN_STAT_ERRST, CAN_STAT_BUSSTUCK, CAN_STAT_CFGERR]
  else if o = 8 then [CAN_ERRCNT_TEC, CAN_ERRCNT_REC, CAN_ERRCNT_LASTERR]
  else if o = 0xc then [CAN_NBT_PRESC, CAN_NBT_TSEG1, CAN_NBT_TSEG2, CAN_NBT_SJW]
  else if o = 0x10 then [CAN_DBT_PRESC, CAN_DBT_TSEG1, CAN_DBT_TSEG2, CAN_DBT_SJW]
  else if o = 0x14 then [CAN_TDC_OFFSET, CAN_TDC_EN]
  else if o = 0x18 then [CAN_TSC_US]
  else if o = 0x1c then [CAN_NOMATCH_COUNT]
  else if o = 0x100 then [CAN_OBJSEL_OBJ]
  else if o = 0x104 then [CAN_OBJ_CFG_EN, CAN_OBJ_CFG_DIR, CAN_OBJ_CFG_IDE, CAN_OBJ_CFG_FDF, CAN_OBJ_CFG_BRS, CAN_OBJ_CFG_DLC, CAN_OBJ_CFG_IMGEN]
  else if o = 0x108 then [CAN_OBJ_ID_ID]
  else if o = 0x10c then [CAN_OBJ_IMG_POINT]
  else if o = 0x110 then [CAN_OBJ_STAT_NEW, CAN_OBJ_STAT_LOST, CAN_OBJ_STAT_TXREQ, CAN_OBJ_STAT_BEGUN, CAN_OBJ_STAT_RESULT, CAN_OBJ_STAT_RXDLC, CAN_OBJ_STAT_RXFDF, CAN_OBJ_STAT_RXBRS]
  else if o = 0x114 then [CAN_OBJ_TS_US]
  else if o = 0x118 then [CAN_OBJ_CMD_WRITE, CAN_OBJ_CMD_TXREQ, CAN_OBJ_CMD_CANCEL]
  else if 0x20 ≤ o ∧ o < 0x30 ∧ (o - 0x20) % 4 = 0 then
    [CAN_TXPEND_PEND ((o - 0x20) / 4)]
  else if 0x30 ≤ o ∧ o < 0x40 ∧ (o - 0x30) % 4 = 0 then
    [CAN_NEW_NEW ((o - 0x30) / 4)]
  else if 0x40 ≤ o ∧ o < 0x50 ∧ (o - 0x40) % 4 = 0 then
    [CAN_LOST_LOST ((o - 0x40) / 4)]
  else if 0x140 ≤ o ∧ o < 0x180 ∧ (o - 0x140) % 4 = 0 then
    [CAN_OBJ_DATA_DATA ((o - 0x140) / 4)]
  else []

/-- The fields the `tmb` register maps name at an offset; none means R15 (reads zero, ignores writes). -/
def fields_tmb (o : Nat) : List Field :=
  if o = 0 then [TMB_TIME_LO_NS]
  else if o = 4 then [TMB_TIME_HI_NS]
  else if o = 8 then [TMB_SET_LO_NS]
  else if o = 0xc then [TMB_SET_HI_NS]
  else if o = 0x10 then [TMB_CTRL_SET, TMB_CTRL_PTPEN, TMB_CTRL_ENCEN, TMB_CTRL_LINEEN]
  else if o = 0x14 then [TMB_STAT_REF, TMB_STAT_TARGET, TMB_STAT_SWITCHING, TMB_STAT_HOLDOVER, TMB_STAT_LINERUN, TMB_STAT_FOLLOW, TMB_STAT_ENCVAL, TMB_STAT_ENCQUAL, TMB_STAT_PTPVAL, TMB_STAT_PTPQUAL, TMB_STAT_ENCERR, TMB_STAT_STEPREF]
  else if o = 0x18 then [TMB_LINE_NUM_LINE]
  else if o = 0x1c then [TMB_LINE_F_NS]
  else if o = 0x20 then [TMB_LINE_NEXT_LINE]
  else if o = 0x24 then [TMB_PNOM_PS]
  else if o = 0x28 then [TMB_EPOCH_LO_NS]
  else if o = 0x2c then [TMB_EPOCH_HI_NS]
  else if o = 0x30 then [TMB_ANN_NS]
  else if o = 0x34 then [TMB_ENC_DIV, TMB_ENC_SRC, TMB_ENC_INV, TMB_ENC_AVG]
  else if o = 0x38 then [TMB_ENCLINK_DIE, TMB_ENCLINK_LINK]
  else if o = 0x3c then [TMB_MINRATE_HZ]
  else if o = 0x40 then [TMB_PTP_DOMAIN, TMB_PTP_MAC, TMB_PTP_UDP, TMB_PTP_MASTEROK]
  else if o = 0x44 then [TMB_PTPOFS_NS]
  else if o = 0x48 then [TMB_PHERR_NS]
  else if o = 0x4c then [TMB_SWCNT_COUNT]
  else []

/-- The fields the `evr` register maps name at an offset; none means R15 (reads zero, ignores writes). -/
def fields_evr (o : Nat) : List Field :=
  if o = 0 then [EVR_CFG_IRQSEV, EVR_CFG_MINSEV]
  else if o = 4 then [EVR_STAT_OVERRUN, EVR_STAT_EMPTY]
  else if o = 8 then [EVR_CURSOR_SEQ]
  else if o = 0xc then [EVR_OLDEST_SEQ]
  else if o = 0x10 then [EVR_NEXT_SEQ]
  else if o = 0x14 then [EVR_LOSTCNT_COUNT]
  else if o = 0x18 then [EVR_SUPCNT_COUNT]
  else if 0x20 ≤ o ∧ o < 0x40 ∧ (o - 0x20) % 4 = 0 then
    [EVR_WIN_WORD ((o - 0x20) / 4)]
  else if 0x400 ≤ o ∧ o < 0x800 ∧ (o - 0x400) % 4 = 0 then
    [EVR_RATE_RATE ((o - 0x400) / 4), EVR_RATE_BURST ((o - 0x400) / 4), EVR_RATE_TOKENS ((o - 0x400) / 4), EVR_RATE_EN ((o - 0x400) / 4)]
  else if 0x800 ≤ o ∧ o < 0xc00 ∧ (o - 0x800) % 4 = 0 then
    [EVR_SUP_COUNT ((o - 0x800) / 4)]
  else []

/-- The fields the `cry` register maps name at an offset; none means R15 (reads zero, ignores writes). -/
def fields_cry (o : Nat) : List Field :=
  if o = 0 then [CRY_KSTAT_PROG, CRY_KSTAT_REVOKED, CRY_KSTAT_RUNSLOT]
  else if o = 4 then [CRY_KSEL_SLOT]
  else if o = 8 then [CRY_KPROG_GO, CRY_KPROG_RESULT]
  else if o = 0xc then [CRY_REVOKE_REVOKE]
  else if o = 0x800 then [TRNG_CTRL_EN]
  else if o = 0x804 then [TRNG_STAT_STATE, TRNG_STAT_FAILS, TRNG_STAT_RCT, TRNG_STAT_APT]
  else if o = 0x808 then [TRNG_ACQ_SLOT]
  else if 0x40 ≤ o ∧ o < 0x70 ∧ (o - 0x40) % 4 = 0 then
    [CRY_KDATA_DATA ((o - 0x40) / 4)]
  else if 0x810 ≤ o ∧ o < 0x910 ∧ (o - 0x810) % 0x40 = 0 then
    [TRNG_SLOT_CTRL_REQ ((o - 0x810) / 0x40), TRNG_SLOT_CTRL_REL ((o - 0x810) / 0x40)]
  else if 0x814 ≤ o ∧ o < 0x914 ∧ (o - 0x814) % 0x40 = 0 then
    [TRNG_SLOT_STAT_OWNED ((o - 0x814) / 0x40), TRNG_SLOT_STAT_PEND ((o - 0x814) / 0x40), TRNG_SLOT_STAT_DONE ((o - 0x814) / 0x40), TRNG_SLOT_STAT_FAIL ((o - 0x814) / 0x40)]
  else if 0x830 ≤ o ∧ o < 0x910 ∧ (o - 0x830) % 0x40 < 0x20 ∧ (o - 0x830) % 4 = 0 then
    [TRNG_SLOT_DATA_DATA ((o - 0x830) / 0x40) ((o - 0x830) % 0x40 / 4)]
  else []

/-- The fields the `upd` register maps name at an offset; none means R15 (reads zero, ignores writes). -/
def fields_upd (o : Nat) : List Field :=
  if o = 0 then [UPD_STAT_STATE, UPD_STAT_RUNBANK, UPD_STAT_TRIAL, UPD_STAT_RECOVERY, UPD_STAT_PATH, UPD_STAT_RESULT]
  else if o = 4 then [UPD_CTRL_BEGIN, UPD_CTRL_PUT, UPD_CTRL_ERASE, UPD_CTRL_ACTIVATE]
  else if o = 8 then [UPD_XFER_XID]
  else if o = 0xc then [UPD_FRAGS_COUNT]
  else if o = 0x10 then [UPD_HAVE_COUNT]
  else if o = 0x14 then [UPD_FRAG_IDX_INDEX]
  else if o = 0x18 then [UPD_CONFIRM_KEY]
  else if o = 0x1c then [UPD_TRIAL_SECONDS, UPD_TRIAL_BOOTS]
  else if o = 0x20 then [UPD_TRIALSTAT_RUNSEC, UPD_TRIALSTAT_BOOTS, UPD_TRIALSTAT_HELD]
  else if o = 0x24 then [UPD_GATE_MOTION, UPD_GATE_MOTEN, UPD_GATE_KEYIN, UPD_GATE_KEYEN]
  else if o = 0x28 then [UPD_LOCK_LOCK, UPD_LOCK_SET, UPD_LOCK_UNLOCK]
  else if o = 0x2c then [UPD_SECVER_FLOOR]
  else if o = 0x30 then [UPD_VER_A_VERSION]
  else if o = 0x34 then [UPD_VER_B_VERSION]
  else if o = 0x38 then [UPD_GATESTAT_WEB, UPD_GATESTAT_VBAT, UPD_GATESTAT_LOCK]
  else if 0x1000 ≤ o ∧ o < 0x2000 ∧ (o - 0x1000) % 4 = 0 then
    [UPD_FRAGBUF_DATA ((o - 0x1000) / 4)]
  else if 0x2000 ≤ o ∧ o < 0x2800 ∧ (o - 0x2000) % 4 = 0 then
    [UPD_MAP_MAP ((o - 0x2000) / 4)]
  else []

/-- The fields the `crownNode` register maps name at an offset; none means R15 (reads zero, ignores writes). -/
def fields_crownNode (o : Nat) : List Field :=
  if o = 0x600 then [CLK_CTRL_NOSPREAD]
  else if o = 0x604 then [CLK_LOCK_LOCK]
  else if o = 0x608 then [IO_SLEW_XSPI, IO_SLEW_CANTX, IO_SLEW_GEN, IO_SLEW_MDIO]
  else if o = 0x600 then [CLK_DLOCK_SCAN, CLK_DLOCK_LANE, CLK_DLOCK_LINK, CLK_DLOCK_DRC, CLK_DLOCK_COMMON]
  else []

end Sys2Proof.Machine
end

