-- ==== Sys2Proof/Machine/RegMapField.lean ====
section
/-! DEFINITION. The register fields of the field-die blocks, one definition per field of the register maps of spec/:
offset, lowest bit, width, access code, reset value (for a held field: its value on the first power-on of a new part)
and, where the map limits what a write may store, the least and greatest value a write stores. -/

namespace Sys2Proof.Machine


/-! ### R338, 10_hot_standby.md -/

abbrev CLX_STAT_DRIVE : Field := { off := 0x800, lo := 0, width := 1, acc := .ro, reset := 0 }
abbrev CLX_STAT_PEERVALID : Field := { off := 0x800, lo := 1, width := 1, acc := .ro, reset := 0 }
abbrev CLX_STAT_PEERLOST : Field := { off := 0x800, lo := 2, width := 1, acc := .ro, reset := 0 }
abbrev CLX_STAT_ROLE : Field := { off := 0x800, lo := 3, width := 1, acc := .ro, reset := 0 }
abbrev CLX_OWN_CLAIM : Field := { off := 0x804, lo := 0, width := 32, acc := .ro, reset := 0 }
abbrev CLX_PEER_CLAIM : Field := { off := 0x808, lo := 0, width := 32, acc := .ro, reset := 0 }
abbrev CLX_ERRCNT_COUNT : Field := { off := 0x80c, lo := 0, width := 32, acc := .rc, reset := 0 }

/-! ### R412, 13_field_die_io.md -/

abbrev DIN_CFG_TYPE : Field := { off := 0, lo := 0, width := 4, acc := .rw, reset := 0 }
abbrev DIN_CFG_FAST : Field := { off := 0, lo := 8, width := 4, acc := .rw, reset := 0 }
abbrev DIN_PERIOD_US : Field := { off := 4, lo := 0, width := 7, acc := .rw, reset := 0xa, vmin := 1, vmax := 64 }
abbrev DIN_STATE_STATE : Field := { off := 8, lo := 0, width := 32, acc := .ro, reset := 0 }
abbrev DIN_RAW_RAW : Field := { off := 0xc, lo := 0, width := 32, acc := .ro, reset := 0 }
abbrev DIN_CHG_CHG : Field := { off := 0x10, lo := 0, width := 32, acc := .w1c, reset := 0 }
abbrev DIN_VALID_VALID : Field := { off := 0x14, lo := 0, width := 32, acc := .ro, reset := 0 }
abbrev DIN_FILT_MAX (i : Nat) : Field := { off := 0x20 + 4 * i, lo := 0, width := 12, acc := .rw, reset := 0xa, vmin := 1, vmax := 4095 }
abbrev DIN_FILT_COUNT (i : Nat) : Field := { off := 0x20 + 4 * i, lo := 16, width := 12, acc := .ro, reset := 0 }
abbrev DIN_FASTCNT_COUNT (k : Nat) : Field := { off := 0xa0 + 4 * k, lo := 0, width := 32, acc := .rc, reset := 0 }

/-! ### R413, 13_field_die_io.md -/

abbrev LSW_CTRL_RESUME : Field := { off := 0, lo := 0, width := 1, acc := .w1s, reset := 0 }
abbrev LSW_STAT_FAILSAFE : Field := { off := 4, lo := 0, width := 1, acc := .ro, reset := 1 }
abbrev LSW_STAT_KEEPOK : Field := { off := 4, lo := 1, width := 1, acc := .ro, reset := 0 }
abbrev LSW_KEEP_TMO_MS : Field := { off := 8, lo := 0, width := 7, acc := .rw, reset := 0xa, held := true, vmin := 2, vmax := 100 }
abbrev LSW_FS_FS : Field := { off := 0xc, lo := 0, width := 32, acc := .rw, reset := 0, held := true }
abbrev LSW_CMD_CMD : Field := { off := 0x10, lo := 0, width := 16, acc := .ro, reset := 0 }
abbrev LSW_SET_SET : Field := { off := 0x14, lo := 0, width := 16, acc := .wo, reset := 0 }
abbrev LSW_CLR_CLR : Field := { off := 0x18, lo := 0, width := 16, acc := .wo, reset := 0 }
abbrev LSW_IMGEN_EN : Field := { off := 0x1c, lo := 0, width := 16, acc := .rw, reset := 0xffff }
abbrev LSW_CH_CFG_SLEW (c : Nat) : Field := { off := 0x100 + 0x10 * c, lo := 0, width := 5, acc := .rw, reset := 0xa, vmin := 1, vmax := 30 }
abbrev LSW_CH_CFG_OCBLANK (c : Nat) : Field := { off := 0x100 + 0x10 * c, lo := 8, width := 8, acc := .rw, reset := 0xa, vmin := 1, vmax := 255 }
abbrev LSW_CH_CFG_OPENEN (c : Nat) : Field := { off := 0x100 + 0x10 * c, lo := 16, width := 1, acc := .rw, reset := 1 }
abbrev LSW_CH_CFG_SHORTEN (c : Nat) : Field := { off := 0x100 + 0x10 * c, lo := 17, width := 1, acc := .rw, reset := 1 }
abbrev LSW_CH_STAT_PHASE (c : Nat) : Field := { off := 0x104 + 0x10 * c, lo := 0, width := 3, acc := .ro, reset := 0 }
abbrev LSW_CH_STAT_PEND (c : Nat) : Field := { off := 0x104 + 0x10 * c, lo := 3, width := 1, acc := .ro, reset := 0 }
abbrev LSW_CH_STAT_OC (c : Nat) : Field := { off := 0x104 + 0x10 * c, lo := 8, width := 1, acc := .w1c, reset := 0 }
abbrev LSW_CH_STAT_OT (c : Nat) : Field := { off := 0x104 + 0x10 * c, lo := 9, width := 1, acc := .w1c, reset := 0 }
abbrev LSW_CH_STAT_OPEN (c : Nat) : Field := { off := 0x104 + 0x10 * c, lo := 10, width := 1, acc := .w1c, reset := 0 }
abbrev LSW_CH_STAT_SHORT (c : Nat) : Field := { off := 0x104 + 0x10 * c, lo := 11, width := 1, acc := .w1c, reset := 0 }
abbrev LSW_CH_STAT_LATCHED (c : Nat) : Field := { off := 0x104 + 0x10 * c, lo := 12, width := 1, acc := .ro, reset := 0 }
abbrev LSW_CH_I_MA (c : Nat) : Field := { off := 0x108 + 0x10 * c, lo := 0, width := 12, acc := .ro, reset := 0 }

/-! ### R414, 13_field_die_io.md -/

abbrev FSUP_STAT_G0 : Field := { off := 0x400, lo := 0, width := 2, acc := .ro, reset := 2 }
abbrev FSUP_STAT_G1 : Field := { off := 0x400, lo := 2, width := 2, acc := .ro, reset := 2 }
abbrev FSUP_MV0_MV : Field := { off := 0x404, lo := 0, width := 16, acc := .ro, reset := 0 }
abbrev FSUP_MV1_MV : Field := { off := 0x408, lo := 0, width := 16, acc := .ro, reset := 0 }

/-! ### R436, 14_canfd_rtc_timebase.md -/

abbrev RTC_SEC_LO_SEC : Field := { off := 0, lo := 0, width := 32, acc := .ro, reset := 0, held := true }
abbrev RTC_SEC_HI_SEC : Field := { off := 4, lo := 0, width := 16, acc := .ro, reset := 0, held := true }
abbrev RTC_FRAC_FRAC : Field := { off := 8, lo := 0, width := 16, acc := .ro, reset := 0, held := true }
abbrev RTC_SETSEC_LO_SEC : Field := { off := 0x10, lo := 0, width := 32, acc := .rw, reset := 0, held := true }
abbrev RTC_SETSEC_HI_SEC : Field := { off := 0x14, lo := 0, width := 16, acc := .rw, reset := 0, held := true }
abbrev RTC_SETFRAC_FRAC : Field := { off := 0x18, lo := 0, width := 16, acc := .rw, reset := 0, held := true }
abbrev RTC_CTRL_SET : Field := { off := 0x1c, lo := 0, width := 1, acc := .w1s, reset := 0 }
abbrev RTC_SHIFT_UNITS : Field := { off := 0x20, lo := 0, width := 16, acc := .rw, reset := 0, held := true }
abbrev RTC_STAT_VALID : Field := { off := 0x24, lo := 0, width := 1, acc := .ro, reset := 0, held := true }
abbrev RTC_STAT_SHBUSY : Field := { off := 0x24, lo := 1, width := 1, acc := .ro, reset := 0, held := true }
abbrev RTC_STAT_VBATLOW : Field := { off := 0x24, lo := 2, width := 1, acc := .ro, reset := 0 }
abbrev RTC_STAT_FROZEN : Field := { off := 0x24, lo := 3, width := 1, acc := .ro, reset := 0 }
abbrev RTC_STAT_RETLATCH : Field := { off := 0x24, lo := 4, width := 1, acc := .ro, reset := 1, held := true }
abbrev ALM_VAL_LO_VAL (k : Nat) : Field := { off := 0x40 + 0x20 * k, lo := 0, width := 32, acc := .rw, reset := 0, held := true }
abbrev ALM_VAL_HI_VAL (k : Nat) : Field := { off := 0x44 + 0x20 * k, lo := 0, width := 32, acc := .rw, reset := 0, held := true }
abbrev ALM_MASK_LO_MASK (k : Nat) : Field := { off := 0x48 + 0x20 * k, lo := 0, width := 32, acc := .rw, reset := 0, held := true }
abbrev ALM_MASK_HI_MASK (k : Nat) : Field := { off := 0x4c + 0x20 * k, lo := 0, width := 32, acc := .rw, reset := 0, held := true }
abbrev ALM_CTRL_EN (k : Nat) : Field := { off := 0x50 + 0x20 * k, lo := 0, width := 1, acc := .rw, reset := 0, held := true }
abbrev ALM_CTRL_FIRED (k : Nat) : Field := { off := 0x50 + 0x20 * k, lo := 1, width := 1, acc := .w1c, reset := 0, held := true }
abbrev ALM_CTRL_LATE (k : Nat) : Field := { off := 0x50 + 0x20 * k, lo := 2, width := 1, acc := .w1c, reset := 0, held := true }
abbrev ALM_CTRL_WAKE (k : Nat) : Field := { off := 0x50 + 0x20 * k, lo := 3, width := 1, acc := .rw, reset := 0, held := true }

/-! ### R469, 15_nv_store_and_events.md -/

abbrev NVS_CMD_STORE : Field := { off := 0, lo := 0, width := 32, acc := .wo, reset := 0 }
abbrev NVS_PEND_PEND : Field := { off := 4, lo := 0, width := 32, acc := .ro, reset := 0 }
abbrev NVS_DIRTY_DIRTY : Field := { off := 8, lo := 0, width := 32, acc := .ro, reset := 0 }
abbrev NVS_STAT_BUSY : Field := { off := 0xc, lo := 0, width := 1, acc := .ro, reset := 0 }
abbrev NVS_STAT_PFRUN : Field := { off := 0xc, lo := 1, width := 1, acc := .ro, reset := 0 }
abbrev NVS_STAT_PFINC : Field := { off := 0xc, lo := 2, width := 1, acc := .ro, reset := 0, held := true }
abbrev NVS_STAT_TIE : Field := { off := 0xc, lo := 3, width := 1, acc := .w1c, reset := 0 }
abbrev NVS_STAT_FAIL : Field := { off := 0xc, lo := 4, width := 1, acc := .w1c, reset := 0 }
abbrev NVS_STAT_SEG : Field := { off := 0xc, lo := 5, width := 5, acc := .ro, reset := 0 }
abbrev NVS_STAT_POUNCE : Field := { off := 0xc, lo := 10, width := 1, acc := .ro, reset := 0 }
abbrev NVS_FAILMASK_FAIL : Field := { off := 0x10, lo := 0, width := 32, acc := .w1c, reset := 0 }
abbrev NVS_NOREC_MASK : Field := { off := 0x14, lo := 0, width := 32, acc := .ro, reset := 0 }
abbrev NVS_STALE_MASK : Field := { off := 0x18, lo := 0, width := 32, acc := .ro, reset := 0 }
abbrev NVS_TIEMASK_MASK : Field := { off := 0x1c, lo := 0, width := 32, acc := .ro, reset := 0 }
abbrev NVS_PF_CAP_UF : Field := { off := 0x20, lo := 0, width := 16, acc := .rw, reset := 0, held := true }
abbrev NVS_PF_LOAD_MW : Field := { off := 0x24, lo := 0, width := 16, acc := .rw, reset := 0x1f40, held := true }
abbrev NVS_PF_VMIN_MV : Field := { off := 0x28, lo := 0, width := 16, acc := .rw, reset := 0x1f40, held := true }
abbrev NVS_POUNCE_HOURS : Field := { off := 0x30, lo := 0, width := 14, acc := .rw, reset := 0xa8, held := true, vmin := 1, vmax := 8760 }
abbrev NVS_POUNCE_EN : Field := { off := 0x30, lo := 16, width := 1, acc := .rw, reset := 1, held := true }
abbrev NVS_POUNCE_CNT_COUNT : Field := { off := 0x34, lo := 0, width := 32, acc := .rc, reset := 0 }
abbrev NVS_POUNCE_LAST_SEC : Field := { off := 0x38, lo := 0, width := 32, acc := .ro, reset := 0, held := true }
abbrev NVS_GEN_GEN (s : Nat) : Field := { off := 0x100 + 4 * s, lo := 0, width := 32, acc := .ro, reset := 0, held := true }

/-! ### R470, 15_nv_store_and_events.md -/

abbrev CAL_FACT_VAL (i : Nat) : Field := { off := 0 + 4 * i, lo := 0, width := 16, acc := .ro, reset := 0, held := true }
abbrev CAL_USER_VAL (i : Nat) : Field := { off := 0x40 + 4 * i, lo := 0, width := 16, acc := .rw, reset := 0, held := true }
abbrev CAL_EFF_VAL (i : Nat) : Field := { off := 0x80 + 4 * i, lo := 0, width := 16, acc := .ro, reset := 0 }

/-! ### R519, 17_power_reset_clocks_emc.md -/

abbrev SUP_STAT_PWR_WARN : Field := { off := 0, lo := 0, width := 1, acc := .w1c, reset := 0 }
abbrev SUP_STAT_WARNNOW : Field := { off := 0, lo := 1, width := 1, acc := .ro, reset := 0 }
abbrev SUP_STAT_PFRUN : Field := { off := 0, lo := 2, width := 1, acc := .ro, reset := 0 }
abbrev SUP_WARNCFG_MV : Field := { off := 4, lo := 0, width := 11, acc := .rw, reset := 0x3e8, vmin := 800, vmax := 1100 }
abbrev SUP_SENSE_MV : Field := { off := 8, lo := 0, width := 16, acc := .ro, reset := 0 }
abbrev SUP_VHOLD_MV : Field := { off := 0xc, lo := 0, width := 16, acc := .ro, reset := 0 }
abbrev SUP_RAIL_RESET : Field := { off := 0x10, lo := 0, width := 8, acc := .ro, reset := 0 }
abbrev SUP_RSTCAUSE_CAUSE : Field := { off := 0x14, lo := 0, width := 4, acc := .ro, reset := 1, held := true }
abbrev SUP_RSTCAUSE_RAILS : Field := { off := 0x14, lo := 8, width := 8, acc := .ro, reset := 0, held := true }

/-! ### R520, 17_power_reset_clocks_emc.md -/

abbrev WAKE_CFG_RTCEN : Field := { off := 0, lo := 0, width := 1, acc := .rw, reset := 1, held := true }
abbrev WAKE_CFG_SVCEN : Field := { off := 0, lo := 1, width := 1, acc := .rw, reset := 0, held := true }
abbrev WAKE_CFG_PINEN : Field := { off := 0, lo := 2, width := 1, acc := .rw, reset := 1, held := true }
abbrev WAKE_CFG_PINOUT : Field := { off := 0, lo := 3, width := 1, acc := .rw, reset := 0, held := true }
abbrev WAKE_CFG_DINEN : Field := { off := 0, lo := 4, width := 1, acc := .rw, reset := 0, held := true }
abbrev WAKE_DINMASK_MASK : Field := { off := 4, lo := 0, width := 32, acc := .rw, reset := 0, held := true }
abbrev WAKE_SRC_SRC : Field := { off := 8, lo := 0, width := 4, acc := .ro, reset := 0, held := true }
abbrev WAKE_STAT_SRC : Field := { off := 0xc, lo := 0, width := 1, acc := .ro, reset := 0 }
abbrev SVC_MAC_LO_MAC : Field := { off := 0x10, lo := 0, width := 32, acc := .ro, reset := 0, held := true }
abbrev SVC_MAC_HI_MAC : Field := { off := 0x14, lo := 0, width := 16, acc := .ro, reset := 0, held := true }
abbrev SVC_STAT_SPEED : Field := { off := 0x18, lo := 0, width := 2, acc := .ro, reset := 0 }

/-- The fields the `sup` register maps name at an offset; none means R15 (reads zero, ignores writes). -/
def fields_sup (o : Nat) : List Field :=
  if o = 0x800 then [CLX_STAT_DRIVE, CLX_STAT_PEERVALID, CLX_STAT_PEERLOST, CLX_STAT_ROLE]
  else if o = 0x804 then [CLX_OWN_CLAIM]
  else if o = 0x808 then [CLX_PEER_CLAIM]
  else if o = 0x80c then [CLX_ERRCNT_COUNT]
  else if o = 0x400 then [FSUP_STAT_G0, FSUP_STAT_G1]
  else if o = 0x404 then [FSUP_MV0_MV]
  else if o = 0x408 then [FSUP_MV1_MV]
  else if o = 0 then [SUP_STAT_PWR_WARN, SUP_STAT_WARNNOW, SUP_STAT_PFRUN]
  else if o = 4 then [SUP_WARNCFG_MV]
  else if o = 8 then [SUP_SENSE_MV]
  else if o = 0xc then [SUP_VHOLD_MV]
  else if o = 0x10 then [SUP_RAIL_RESET]
  else if o = 0x14 then [SUP_RSTCAUSE_CAUSE, SUP_RSTCAUSE_RAILS]
  else []

/-- The fields the `din` register maps name at an offset; none means R15 (reads zero, ignores writes). -/
def fields_din (o : Nat) : List Field :=
  if o = 0 then [DIN_CFG_TYPE, DIN_CFG_FAST]
  else if o = 4 then [DIN_PERIOD_US]
  else if o = 8 then [DIN_STATE_STATE]
  else if o = 0xc then [DIN_RAW_RAW]
  else if o = 0x10 then [DIN_CHG_CHG]
  else if o = 0x14 then [DIN_VALID_VALID]
  else if 0x20 ≤ o ∧ o < 0xa0 ∧ (o - 0x20) % 4 = 0 then
    [DIN_FILT_MAX ((o - 0x20) / 4), DIN_FILT_COUNT ((o - 0x20) / 4)]
  else if 0xa0 ≤ o ∧ o < 0xb0 ∧ (o - 0xa0) % 4 = 0 then
    [DIN_FASTCNT_COUNT ((o - 0xa0) / 4)]
  else []

/-- The fields the `lsw` register maps name at an offset; none means R15 (reads zero, ignores writes). -/
def fields_lsw (o : Nat) : List Field :=
  if o = 0 then [LSW_CTRL_RESUME]
  else if o = 4 then [LSW_STAT_FAILSAFE, LSW_STAT_KEEPOK]
  else if o = 8 then [LSW_KEEP_TMO_MS]
  else if o = 0xc then [LSW_FS_FS]
  else if o = 0x10 then [LSW_CMD_CMD]
  else if o = 0x14 then [LSW_SET_SET]
  else if o = 0x18 then [LSW_CLR_CLR]
  else if o = 0x1c then [LSW_IMGEN_EN]
  else if 0x100 ≤ o ∧ o < 0x200 ∧ (o - 0x100) % 0x10 = 0 then
    [LSW_CH_CFG_SLEW ((o - 0x100) / 0x10), LSW_CH_CFG_OCBLANK ((o - 0x100) / 0x10), LSW_CH_CFG_OPENEN ((o - 0x100) / 0x10), LSW_CH_CFG_SHORTEN ((o - 0x100) / 0x10)]
  else if 0x104 ≤ o ∧ o < 0x204 ∧ (o - 0x104) % 0x10 = 0 then
    [LSW_CH_STAT_PHASE ((o - 0x104) / 0x10), LSW_CH_STAT_PEND ((o - 0x104) / 0x10), LSW_CH_STAT_OC ((o - 0x104) / 0x10), LSW_CH_STAT_OT ((o - 0x104) / 0x10), LSW_CH_STAT_OPEN ((o - 0x104) / 0x10), LSW_CH_STAT_SHORT ((o - 0x104) / 0x10), LSW_CH_STAT_LATCHED ((o - 0x104) / 0x10)]
  else if 0x108 ≤ o ∧ o < 0x208 ∧ (o - 0x108) % 0x10 = 0 then
    [LSW_CH_I_MA ((o - 0x108) / 0x10)]
  else []

/-- The fields the `rtc` register maps name at an offset; none means R15 (reads zero, ignores writes). -/
def fields_rtc (o : Nat) : List Field :=
  if o = 0 then [RTC_SEC_LO_SEC]
  else if o = 4 then [RTC_SEC_HI_SEC]
  else if o = 8 then [RTC_FRAC_FRAC]
  else if o = 0x10 then [RTC_SETSEC_LO_SEC]
  else if o = 0x14 then [RTC_SETSEC_HI_SEC]
  else if o = 0x18 then [RTC_SETFRAC_FRAC]
  else if o = 0x1c then [RTC_CTRL_SET]
  else if o = 0x20 then [RTC_SHIFT_UNITS]
  else if o = 0x24 then [RTC_STAT_VALID, RTC_STAT_SHBUSY, RTC_STAT_VBATLOW, RTC_STAT_FROZEN, RTC_STAT_RETLATCH]
  else if 0x40 ≤ o ∧ o < 0x80 ∧ (o - 0x40) % 0x20 = 0 then
    [ALM_VAL_LO_VAL ((o - 0x40) / 0x20)]
  else if 0x44 ≤ o ∧ o < 0x84 ∧ (o - 0x44) % 0x20 = 0 then
    [ALM_VAL_HI_VAL ((o - 0x44) / 0x20)]
  else if 0x48 ≤ o ∧ o < 0x88 ∧ (o - 0x48) % 0x20 = 0 then
    [ALM_MASK_LO_MASK ((o - 0x48) / 0x20)]
  else if 0x4c ≤ o ∧ o < 0x8c ∧ (o - 0x4c) % 0x20 = 0 then
    [ALM_MASK_HI_MASK ((o - 0x4c) / 0x20)]
  else if 0x50 ≤ o ∧ o < 0x90 ∧ (o - 0x50) % 0x20 = 0 then
    [ALM_CTRL_EN ((o - 0x50) / 0x20), ALM_CTRL_FIRED ((o - 0x50) / 0x20), ALM_CTRL_LATE ((o - 0x50) / 0x20), ALM_CTRL_WAKE ((o - 0x50) / 0x20)]
  else []

/-- The fields the `nvs` register maps name at an offset; none means R15 (reads zero, ignores writes). -/
def fields_nvs (o : Nat) : List Field :=
  if o = 0 then [NVS_CMD_STORE]
  else if o = 4 then [NVS_PEND_PEND]
  else if o = 8 then [NVS_DIRTY_DIRTY]
  else if o = 0xc then [NVS_STAT_BUSY, NVS_STAT_PFRUN, NVS_STAT_PFINC, NVS_STAT_TIE, NVS_STAT_FAIL, NVS_STAT_SEG, NVS_STAT_POUNCE]
  else if o = 0x10 then [NVS_FAILMASK_FAIL]
  else if o = 0x14 then [NVS_NOREC_MASK]
  else if o = 0x18 then [NVS_STALE_MASK]
  else if o = 0x1c then [NVS_TIEMASK_MASK]
  else if o = 0x20 then [NVS_PF_CAP_UF]
  else if o = 0x24 then [NVS_PF_LOAD_MW]
  else if o = 0x28 then [NVS_PF_VMIN_MV]
  else if o = 0x30 then [NVS_POUNCE_HOURS, NVS_POUNCE_EN]
  else if o = 0x34 then [NVS_POUNCE_CNT_COUNT]
  else if o = 0x38 then [NVS_POUNCE_LAST_SEC]
  else if 0x100 ≤ o ∧ o < 0x180 ∧ (o - 0x100) % 4 = 0 then
    [NVS_GEN_GEN ((o - 0x100) / 4)]
  else []

/-- The fields the `cal` register maps name at an offset; none means R15 (reads zero, ignores writes). -/
def fields_cal (o : Nat) : List Field :=
  if 0 ≤ o ∧ o < 0x40 ∧ (o - 0) % 4 = 0 then
    [CAL_FACT_VAL ((o - 0) / 4)]
  else if 0x40 ≤ o ∧ o < 0x80 ∧ (o - 0x40) % 4 = 0 then
    [CAL_USER_VAL ((o - 0x40) / 4)]
  else if 0x80 ≤ o ∧ o < 0xc0 ∧ (o - 0x80) % 4 = 0 then
    [CAL_EFF_VAL ((o - 0x80) / 4)]
  else []

/-- The fields the `wake` register maps name at an offset; none means R15 (reads zero, ignores writes). -/
def fields_wake (o : Nat) : List Field :=
  if o = 0 then [WAKE_CFG_RTCEN, WAKE_CFG_SVCEN, WAKE_CFG_PINEN, WAKE_CFG_PINOUT, WAKE_CFG_DINEN]
  else if o = 4 then [WAKE_DINMASK_MASK]
  else if o = 8 then [WAKE_SRC_SRC]
  else if o = 0xc then [WAKE_STAT_SRC]
  else if o = 0x10 then [SVC_MAC_LO_MAC]
  else if o = 0x14 then [SVC_MAC_HI_MAC]
  else if o = 0x18 then [SVC_STAT_SPEED]
  else []

end Sys2Proof.Machine
end

