-- ==== Sys2Proof/Machine/State.lean ====
section
/-! DEFINITION. The state of the machine as plain data: the register fields, the memories, the hidden state of every
block, the queue of waiting commands; the reasons a command may stop; and the state right after reset. -/

namespace Sys2Proof.Machine

/-- A record offered to the recorder (R466), before it has a number. -/
structure Offered where
  code : Nat
  path : Nat
  opsec : Nat
  payload : List Nat
  /-- The instant at which it is offered, in ns. -/
  ns : Nat := 0
  deriving DecidableEq, Repr

/-- The event recorder (R464 to R468): the hold of offered records, how many were lost at a full hold since it last
emptied, the slots (eight words each, by slot number), the oldest and next SEQ, the next SEQ and power-cycle count that
segment 28 keeps, and the operating time in ns. -/
structure Recorder where
  hold : List Offered := []
  lost : Nat := 0
  slots : Tab Nat (List Nat) := []
  oldest : Nat := 1
  next : Nat := 1
  pwrcnt : Nat := 0
  opNs : Nat := 0
  /-- Records to be offered at the next boot (R468), oldest first. -/
  atBoot : List Offered := []
  deriving DecidableEq, Repr

/-- An entry of the retain directory (R150): variable identifier, owning core, size, type and offset; with the address from
which its bytes are mirrored. -/
structure RetEntry where
  id : Nat
  core : Nat
  addr : Nat
  size : Nat
  type : Nat
  slot : Nat
  deriving DecidableEq, Repr

/-- What the restart data of segments 0 to 27 says of itself (R148, R150): the retain directory, and for full retention
the range table and the digest of the maps. Their places in the segments are not fixed by the spec; this record stands
beside the bytes and is stored with segment 0. -/
structure Restart where
  dir : List RetEntry := []
  ranges : List (Nat × Nat) := []
  digest : Nat := 0
  full : Bool := false
  deriving DecidableEq, Repr

/-- One copy of a retained-store segment in a bank (R447); its bytes are the memory `.nv b s`. `owned` holds the items
of segments 28 to 31 that registers name, and `extra` the recorder's next SEQ, the power-cycle count and the operating
time of segment 28 (their place in the segment is not fixed for software, R448). -/
structure NvCopy where
  valid : Bool := false
  gen : Nat := 0
  owned : List (RegKey × Nat) := []
  extra : List Nat := []
  targets : List Nat := []
  rest : Restart := {}
  deriving DecidableEq, Repr

/-- Why a segment is being stored (R451, R455, R456). -/
inductive StoreWhy where
  | commanded | pounce | powerFail | nap | update
  deriving DecidableEq, Repr

/-- A segment store in progress (R452): the segment, the target bank, the new generation, whether the bank is being
programmed a second time, and why. -/
structure StoreRun where
  seg : Nat
  bank : Nat
  gen : Nat
  second : Bool := false
  why : StoreWhy
  deriving DecidableEq, Repr

/-- The phases of a power-fail store (R456). -/
inductive PfPhase where
  | idle | copying | storing | stopped
  deriving DecidableEq, Repr

/-- The retained-store engine behind the NVS registers (R451 to R461). -/
structure Nvs where
  copies : Tab (Nat × Nat) NvCopy := []
  run : Option StoreRun := none
  /-- The stores that the pounce pass still has to make, by segment (R455). -/
  pounceQ : List Nat := []
  /-- Operating time, in ns, at which the last pass started (R455). -/
  pounceAt : Nat := 0
  /-- The segments the power-fail store still has to store, in order (R456). -/
  pfList : List Nat := []
  pfPhase : PfPhase := .idle
  /-- The target generations of R457, one per segment; empty while none was written. -/
  targets : List Nat := []
  /-- PFINC must stay 1 at t4 (R504). -/
  pfKeepInc : Bool := false
  /-- Recall has ended since power-up (R450). -/
  recalled : Bool := false
  /-- Restart data was validly recalled, or kept through the reset (R461). -/
  restartValid : Bool := true
  /-- What the mirror is to hold in a power-fail store: what the running maps said when it started (R152). -/
  pfRest : Option Restart := none
  /-- Segments that must still be stored before a waiting package reset goes on (R485, R488). -/
  mustStore : Nat := 0
  /-- Segments stored, and segments failed, since the store masks were last taken by NVS_COMMIT (R454). -/
  stored : Nat := 0
  failed : Nat := 0
  deriving DecidableEq, Repr

/-- The hidden state of the watchdog (R353 to R359): when the period began, the tasks it requires, whether its half-way
point has passed, and when it expired. -/
structure Wdt where
  start : Nat := 0
  required : Nat := 0
  halfDone : Bool := false
  expiredAt : Nat := 0
  deriving DecidableEq, Repr

/-- A CAN FD message object (R417, R426, R427), and what the controller keeps beside its registers: the write held while
a frame has begun (R421), the start-of-frame stamp of that frame (R418), and whether a frame was stored since the last
image refresh (R424). -/
structure CanObj where
  en : Bool := false
  dir : Bool := false
  ide : Bool := false
  fdf : Bool := false
  brs : Bool := false
  dlc : Nat := 0
  imgen : Bool := false
  id : Nat := 0
  point : Nat := 0
  data : List Nat := []
  isNew : Bool := false
  lost : Bool := false
  txreq : Bool := false
  begun : Bool := false
  result : Nat := 0
  rxdlc : Nat := 0
  rxfdf : Bool := false
  rxbrs : Bool := false
  ts : Nat := 0
  sofTs : Nat := 0
  refreshed : Bool := false
  heldWrite : Option (List Nat) := none
  deriving DecidableEq, Repr

/-- A CAN FD controller behind its registers: its objects, the buffer of R426, and the image words its transmit
objects last took (R424). -/
structure Can where
  objs : Tab Nat CanObj := []
  buf : CanObj := {}
  imgSeen : Tab Nat Nat := []
  deriving DecidableEq, Repr

/-- The real-time clock (R428 to R434): its 64-bit time, the shadows while FROZEN, and per alarm whether it was armed
late and whether its match held at the tick before. -/
structure Rtc where
  time : Nat := 0
  shadow : Option Nat := none
  late0 : Bool := false
  late1 : Bool := false
  prev0 : Bool := false
  prev1 : Bool := false
  /-- The alarm was armed since the last tick: it does not fire before the next one (R432, R433). -/
  fresh0 : Bool := false
  fresh1 : Bool := false
  deriving DecidableEq, Repr

/-- The timebase and line generator behind the TMB registers (R437 to R445). Line instants are in ps. -/
structure Tmb where
  count : Nat := 0
  /-- The time that the timebase has counted since the reset, in ns, which no step of the count moves: what heartbeats,
  periods and other durations are measured on (R20). -/
  ran : Nat := 0
  /-- Where the last forward step of the count went to, and how many backward steps there have been (R137). -/
  stepTo : Nat := 0
  backs : Nat := 0
  /-- Correction rate in parts per 10^9 that PTP applies, and its running remainder (R438). -/
  rate : Int := 0
  rateAcc : Int := 0
  frozenHi : Option Nat := none
  /-- Fire instant and number of the next line, when it is fixed (R440). -/
  nextF : Option Nat := none
  nextN : Nat := 0
  /-- The last periods, newest first, at most 16 (R443). -/
  periods : List Nat := []
  /-- Held period of a switch, lines since it started, lines in a row within 20 ns (R443). -/
  heldP : Nat := 0
  swLines : Nat := 0
  swGood : Nat := 0
  /-- The references that have stayed qualified since the running switch started (R443). -/
  kept : List Nat := []
  /-- Instants from which the encoder and PTP have been valid without a break (R441). -/
  encSince : Nat := 0
  ptpSince : Nat := 0
  /-- Quadrature: last levels, signed count, latest grid instants in ps, newest first (R441). -/
  encA : Bool := false
  encB : Bool := false
  encCnt : Int := 0
  encGrid : List Nat := []
  encLastEdge : Nat := 0
  /-- A quadrature error has occurred since ENCEN was last set (R441). -/
  encBad : Bool := false
  /-- The last LINE event: T, period in ps, arrival (R445). -/
  lineT : Nat := 0
  linePer : Nat := 0
  lineAt : Option Nat := none
  deriving DecidableEq, Repr

/-- The field die behind its registers: input bits changed since the last refresh (R411), the last keep frame and what
it carried (R407), whether a MISSING reading of a group is a reading only (R414), the instant at which the next claim-exchange
frame begins, the own claim that the last such frame carried (R336, R337), and the instant of the next input sample (R394). -/
structure FieldDie where
  chgSince : Nat := 0
  lastKeep : Nat := 0
  keepRole : Bool := false
  keepClaim : Nat := 0
  keepLineRun : Bool := false
  clxNext : Nat := 0
  clxClaim : Nat := 0
  nextSample : Nat := 0
  readOnly0 : Bool := false
  readOnly1 : Bool := false
  /-- The values the image service last forwarded for %QX 0 to 15, above them which of them it has forwarded, and whether
  all must be forwarded (R127, R410). -/
  qxSeen : Nat := 0
  qxAll : Bool := false
  /-- Nap samples of the field inputs, newest first (R514). -/
  napSamples : List Nat := []
  deriving DecidableEq, Repr

/-- How far the package is from running (R499, R507, R508, R511). -/
inductive PwrPhase where
  /-- In reset: waiting for the boot sequence. -/
  | reset
  /-- Running. -/
  | on
  /-- Nap entry t0 to t4 (R511). -/
  | napEntry
  /-- Napping. -/
  | nap
  /-- A power-fail store runs: the crown die works, every compute die is in reset (R511). -/
  | store
  /-- Unpowered, or waiting in reset for rails (R505). -/
  | off
  deriving DecidableEq, Repr

/-- Power, reset and clocks behind the SUP and WAKE registers (R498 to R514). -/
structure Pwr where
  phase : PwrPhase := .reset
  cause : Nat := 1
  warnStart : Option Nat := none
  warnMin : Nat := 0
  warnEnd : Option Nat := none
  pfAt : Nat := 0
  napAt : Nat := 0
  /-- Wake sources latched between t0 and t4 of nap entry (R512). -/
  latchedWake : Nat := 0
  pwrEnMain : Bool := true
  thermN : Bool := true
  /-- A package reset that waits for the segment store in progress (R355, R506, R507). -/
  resetWaits : Option Nat := none
  /-- The package reset that waits is the command that the sequencer is applying (R39). -/
  seqReset : Bool := false
  /-- BOOT_DONE has been recorded since the reset (R508); the ball STATUS0 is then high (R524). -/
  bootDone : Bool := false
  deriving DecidableEq, Repr

/-- The straps and the variant: what BOOT_SEQUENCE samples (R507) and what the part is (R3). -/
structure Straps where
  dies : Nat := 8
  hsbPair : Bool := false
  hsbUnit : Bool := false
  ringEn : Bool := false
  ringHead : Bool := false
  deriving DecidableEq, Repr

/-- What a host-written page of DRAM is known to be (R320). -/
inductive PageState where
  | pend | same | diff
  deriving DecidableEq, Repr

/-- A host-written page: its own hash and the peer's, once known, its state, and when the host last wrote it (R320). -/
structure Page where
  own : Option Nat := none
  peer : Option Nat := none
  state : PageState := .pend
  writtenAt : Nat := 0
  deriving DecidableEq, Repr

/-- What the peer's last JOB message said (R310, R322): its JOB_STAT.STATE, descriptor CRC, S0, and for each die of the
job the die number, ING_RPTR and ING_LINE. -/
structure PeerJob where
  state : Nat
  crc : Nat
  s0 : Nat
  dies : List (Nat × Nat × Nat)
  deriving DecidableEq, Repr

/-- The kinds of message of the standby links (R310). -/
inductive SbKind where
  | hb | resign | handover | handack | arm | reply | atN | miss | karm | ack | nak | kgo | kcancel | line | mirror | eq | eqskip
  | job | cap | join | leave | hash
  deriving DecidableEq, Repr

/-- A message made for the standby links (R310): kind, the sender's STATE and CLAIM, SEQ, the words of its payload, and when
it was made. -/
structure SbMsg where
  kind : SbKind
  state : Nat
  claim : Nat
  seq : Nat
  words : List Nat
  made : Nat
  deriving DecidableEq, Repr

/-- The transmitter of a standby link (R310): the messages that wait, in the order in which they were made, the one it sent
last, and the instant in ps at which that one ends on the wire. -/
structure SbTx where
  q : List SbMsg := []
  cur : Option SbMsg := none
  wire : Nat := 0
  deriving DecidableEq, Repr

/-- A MIRROR that waits for those before it (R318): its IMG_SEQ, its TIME and arrival, and its blocks. -/
structure Mirror where
  seq : Nat
  time : Nat
  came : Nat
  blocks : List (Nat × List Nat)
  deriving DecidableEq, Repr

/-- The hot-standby block behind its registers (R302 to R335). Instants are of the time that the timebase has counted. -/
structure Hsb where
  seq : Nat := 0
  txA : SbTx := {}
  txB : SbTx := {}
  /-- Highest SEQ taken, and those below it, within the window, that were taken (R310). -/
  rxHigh : Option Nat := none
  rxTaken : List Nat := []
  lastA : Option Nat := none
  lastB : Option Nat := none
  lastCan : Option Nat := none
  lastMsg : Nat := 0
  /-- A path has failed and has not been heard since (R328). -/
  failA : Bool := false
  failB : Bool := false
  peerState : Nat := 0
  seekAt : Nat := 0
  tGood : Nat := 0
  tBad : Nat := 0
  /-- A handover in progress: the line N, and whether HANDACK has come (R335). -/
  handover : Option (Nat × Bool) := none
  eqDone : List (Nat × Nat) := []
  fullMirror : Bool := false
  mirrorSeq : Nat := 0
  mirrors : List Mirror := []
  peerJob : Option PeerJob := none
  pages : Tab Nat Page := []
  jobSentAt : Nat := 0
  /-- The peer's last HB time and its arrival, for the echo of R310; when the own HB (R311) and CAN heartbeat (R330) last went
  out; and what the last JOB message said of state, CRC and S0 (R322). -/
  hbTime : Nat := 0
  hbSentAt : Nat := 0
  hbAt : Nat := 0
  canHbAt : Nat := 0
  jobSent : List Nat := []
  /-- EQ and EQSKIP messages that came before the end of the core's own release: core, N, and the entries of an EQ
  (R327). -/
  eqGot : List (Nat × Nat × Option (List (Nat × List Nat))) := []
  /-- When the last valid claim-exchange frame of the peer arrived (R336). -/
  clxAt : Option Nat := none
  deriving DecidableEq, Repr

/-- The stacks and per-task core registers that a task switch exchanges (R56, R61, R63): the data-stack entries held in
hardware, the rung stack and the return stack, each top first; the spill pointer and its bounds; DWIN0 to DWIN3 and IOB0
to IOB3. -/
structure Hot where
  ds : List Word := []
  rs : List Bool := []
  ts : List Word := []
  dsp : Nat := 0x40000
  dspBase : Nat := 0x40000
  dspLimit : Nat := 0x3F000
  dwin : List Nat := [0, 1, 2, 0x10]
  iob : List Nat := [0, 0, 0x100000, 0]
  deriving DecidableEq, Repr

/-- The per-task registers at their reset values in scan core k of die d, with empty stacks (R59, R61). -/
def Hot.fresh (d k : Nat) : Hot :=
  { dwin := [0, 1, 2, 0x10 + 8 * d]
    iob := [0x1000000 + d * 0x1000000, 0, 0x100000, 0x1000000 + d * 0x1000000 + 0x100000 + k * 0x10000] }

/-- A branch whose delay slot has not run: its resolved target, and whether it is a form-return RET (R84, R87, R121). -/
structure Br where
  tgt : Nat
  toMem : Bool := false
  deriving DecidableEq, Repr

/-- What a scan core runs at DEPTH 0: nothing, its background (R543), or a task. -/
inductive Ctx where
  | idle | background | task (t : Nat)
  deriving DecidableEq, Repr

/-- What a save slot holds (R141): the stacks and per-task registers, the parcel address and the form. -/
structure Saved where
  hot : Hot
  pc : Nat
  form : Bool
  deriving DecidableEq, Repr

/-- A task behind its registers (R136 to R142): the package time up to which its due times have been taken and the count
of backward steps of the timebase seen then, how often it has fallen due since EN was set, the due time and number of
its release, its place among equal priorities, how many descriptors of its list have been passed, whether it copies out, and the
copy-out descriptor that was refused at TASKEND. -/
structure TaskRun where
  seen : Nat := 0
  backs : Nat := 0
  count : Nat := 0
  due : Nat := 0
  num : Nat := 0
  ord : Nat := 0
  yielded : Bool := false
  pos : Nat := 0
  out : Bool := false
  stop : Option Nat := none
  deriving DecidableEq, Repr

/-- A variable that blocking moves or converts (R157, R162): from and to where, sizes, conversion and type codes. -/
structure Move where
  src : Nat
  dst : Nat
  size : Nat
  newSize : Nat
  conv : Nat
  type : Nat
  newType : Nat
  deriving DecidableEq, Repr

/-- What HOOD_LOAD has prepared for blocking (R157): the moves, the initialisations held back, the task records. -/
structure HoodPlan where
  moves : List Move
  inits : List (Nat × List Byte)
  recs : List (List Nat)
  deriving DecidableEq, Repr

/-- A control hood behind its registers (R156 to R167): what was prepared; the instant at which HOOD_WAIT runs out; the
first release at which the pair may block, and the release that has ended, after which a gap is looked for or due times are
held; and in the standby since when they are held, those held (task, due time, number), the release and the instant of AT, and
the release whose MISS has come before its end. -/
structure Hood where
  plan : Option HoodPlan := none
  until_ : Nat := 0
  n0 : Nat := 0
  look : Option Nat := none
  hold : Option Nat := none
  held : List (Nat × Nat × Nat) := []
  atGot : Option (Nat × Nat) := none
  miss : Option Nat := none
  deriving DecidableEq, Repr

/-- An exception about to be entered: vector, cause, opcode parcel and specifier, return address, address of the trapping
instruction, and interrupt level (R111). -/
structure Exc where
  vec : Nat
  cause : Nat
  opc : Nat := 0
  opidx : Nat := 0
  reta : Nat
  iaddr : Nat
  level : Nat := 0
  deriving DecidableEq, Repr

/-- A scan core behind its registers (R61, R84, R90, R94, R110 to R123, R134 to R143, R345, R543). `pc` is the parcel
address of the next instruction and `form` is CORE_STAT.FORM; `di` is the cycle count at which a set DI mask lifts, and
`cyc` the cycles that R63 and R102 count; `started` is false from a reset until the reset vector is read; `blk` marks a
block instruction stopped between elements; `busy` an instruction that has begun and waits, before whose end nothing is
entered (R91); `wait` an exception whose entry waits until the core's own queued stores to its RAM have taken effect
(R23); `nmi` and `busErr` are a pending NMI and a pending bus error of a posted
access; `prio` is the priority stack, top first; `bank` is the physical bank
that runs, which a reset leaves (R44, R164); `eqHold` is the release of REF after which a standby core holds back due
times for EQ (R327); `eqTill` is the instant until which the core is held for the copy of its synced region (R326). -/
structure Core where
  hot : Hot := {}
  pc : Nat := 0
  form : Bool := false
  br : Option Br := none
  di : Option Nat := none
  dz : Bool := false
  dix : Bool := false
  cyc : Nat := 0
  started : Bool := false
  blk : Bool := false
  busy : Bool := false
  wait : Option Exc := none
  busErr : Bool := false
  nmi : Bool := false
  prio : List Nat := []
  ctx : Ctx := .background
  saved : Tab Nat (Option Saved) := []
  tasks : Tab Nat TaskRun := []
  hood : Hood := {}
  bank : Nat := 0
  eqHold : Option Nat := none
  eqTill : Nat := 0
  deriving DecidableEq, Repr

/-- A scan core right after a reset (R117). -/
def Core.fresh (d k : Nat) : Core := { hot := Hot.fresh d k }

/-- What is held in a requester's path, or waits behind a held write (R367, R541): a write to a register, to D-space, to the
bits of `mask` of one byte of D-space, to a core's own RAM by the core itself, or to another ring member's register; and
of the host's requests, which wait as they came: through BAR0, through BAR2, an access to I/O space, a read of `n` words of
which some have been got, and a READ frame. -/
inductive Posted where
  | io (a w : Nat)
  | mem (a : Nat) (bytes : List Byte)
  | bits (a mask v : Nat)
  | ram (a : Nat) (bytes : List Byte)
  | ring (p a w : Nat)
  | bar0 (off : Nat) (write : Bool) (data : List (Option Nat))
  | bar2 (off : Nat) (write : Bool) (data : List (Option Nat))
  | word (a : Nat) (w : Option Nat)
  | reads (a : Nat) (got : List Nat) (n : Nat)
  | frame (src tag a : Nat)
  deriving DecidableEq, Repr

/-- A NODE_CTRL write in the command sequencer (R39): the node written and the word. -/
structure NodeCmd where
  node : Node
  word : Nat
  deriving DecidableEq, Repr

/-- The image service and the restart behind their registers (R126 to R128, R151, R153): whether a restart has been
started since the reset and is still running, whether a copy-out has taken effect, the last refresh; the pages written
since the last mirror, the mirror's last pass, and when the last keep frame went out (R407). -/
structure Img where
  begun : Bool := false
  restarting : Bool := false
  copied : Bool := false
  lastAt : Nat := 0
  /-- The package time of the last publication, on which the deadline of the next refresh rests (R287). -/
  pubAt : Nat := 0
  pages : List Nat := []
  mirrorAt : Nat := 0
  keepAt : Nat := 0
  deriving DecidableEq, Repr

/-- A command in a host queue (R371, R377): OPCODE, CID, TARGET and parameter words, its deadline, whether its first
step has run, its wait count (R289), what it completes with while the completion waits for space (STATUS, RESULT, DATA),
whether no completion will be written (R372), and whether its first step has sent it over the ring (R387). -/
structure QCmd where
  op : Nat
  cid : Nat
  target : Nat
  params : List Nat
  dl : Nat
  started : Bool := false
  w : Nat := 0
  done : Option (Nat × Nat × Nat) := none
  silent : Bool := false
  fwd : Bool := false
  deriving DecidableEq, Repr

/-- A host queue behind its registers (R372 to R374): the command in hand and the phase bit. Queues 16 to 31 stand for
commands that the ring head has sent (R387), with their sender and tag. -/
structure Queue where
  cmd : Option QCmd := none
  phase : Bool := true
  src : Nat := 0
  tag : Nat := 0
  deriving DecidableEq, Repr

/-- The command engine (R377, R290): where its rotation pointer stands, and the queue whose step runs. -/
structure CmdEngine where
  last : Nat := 0
  step : Option Nat := none
  deriving DecidableEq, Repr

/-- What of the endpoint's configuration space acts on the package (R361, R362, R368): Max Payload Size in bytes, D3hot, the
enable and the function mask of the MSI-X capability, and the uncorrectable errors that AER shows. -/
structure Pcie where
  mps : Nat := 128
  d3hot : Bool := false
  msixEn : Bool := false
  msixMask : Bool := false
  aer : Nat := 0
  deriving DecidableEq, Repr

/-- A shared engine with four context slots (R380, R381): the user in each slot, and the users that wait, in order of
arrival, each with its deadline and wait count. A user is a queue number, or 32 for the update engine. -/
structure CtxEngine where
  slots : Tab Nat Nat := []
  wait : List (Nat × Nat × Nat) := []
  deriving DecidableEq, Repr

/-- A frame that the ring head has sent and that has not been answered (R385 to R389): its tag, member, TYPE (1 READ,
4 CMD, 8 CHECK), when it went out, for a READ its address, the words asked for and the data words got so far, and for a CMD its
queue. -/
structure RingReq where
  tag : Nat
  member : Nat
  kind : Nat
  at_ : Nat
  addr : Nat := 0
  words : Nat := 1
  got : List Nat := []
  q : Nat := 0
  deriving DecidableEq, Repr

/-- The ring block behind its registers (R382 to R389): the next tag, the unanswered frames, when ENUM last went out,
whether another head's ENUM came; the NODE_CTRL word whose CHECK this package has passed; in the head a ring command in
progress: its word and whether some member did not answer; and the instants at which frames failed their CRC on each port, newest
first, at most 16 (R388). -/
structure Ring where
  tag : Nat := 0
  reqs : List RingReq := []
  enumAt : Option Nat := none
  dup : Bool := false
  check : Option Nat := none
  ctl : Option (Nat × Bool) := none
  crcA : List Nat := []
  crcB : List Nat := []
  deriving DecidableEq, Repr

/-- A trigger of a reflex engine (R275, R276): for an edge its input and sense, else the EVENT's link, SOURCE, KIND and
payload words; with the levels of the fast inputs and the low 32 bits of package time at the trigger. -/
structure Trigger where
  edge : Option (Nat × Bool) := none
  link : Nat := 0
  source : Nat := 0
  kind : Nat := 0
  words : List Nat := []
  levels : Nat := 0
  time : Nat := 0
  deriving DecidableEq, Repr

/-- An activation that waits for the store of segment 30 (R485): the BOOTSEL and TRIAL to go back to. -/
structure ActReq where
  boot : Nat
  trial : Nat
  svc : Bool
  deriving DecidableEq, Repr

/-- The update engine behind its registers (R473 to R490): the boot bank of segment 30, the transfer it records, the
fragment being written, the fragment parts that the service port holds, an activation under way, the bank that awaits
verification, and whether the trial's expiry is held. -/
structure Upd where
  bootsel : Nat := 0
  xfer : Option (Nat × Nat) := none
  writing : Option (Nat × List Byte) := none
  partIdx : Nat := 0
  parts : Tab Nat (List Byte) := []
  act : Option ActReq := none
  deriving DecidableEq, Repr

/-- The key fuses and the random number generator behind the CRY registers (R476, R477, R491 to R493): the content of
each programmed slot, the slots left unusable, and the instant from which the generator has run without a failure. -/
structure Cry where
  keys : Tab Nat (List Nat) := []
  dead : Nat := 0
  runSince : Nat := 0
  deriving DecidableEq, Repr

/-- A die block of an admitted job's descriptor (R225). -/
structure DieJob where
  die : Nat
  ringBase : Nat
  ringPages : Nat
  tileCount : Nat
  tileBase : Nat
  segtab : Nat
  segs : Nat
  srcBpl : Nat
  hostMbs : Nat
  rsvMbs : Nat
  runsMax : Nat
  stored : Nat
  laneN : List Nat
  deriving DecidableEq, Repr

/-- The admitted job (R225, R229): rate, length, descriptor CRC and its dies. -/
structure Job where
  rate : Nat
  length : Nat
  crc : Nat
  dies : List DieJob
  deriving DecidableEq, Repr

/-- The job and its cap behind the package registers (R226 to R239): the admitted job, the evaluations of the cap (when
and what, newest first), the last lowering, when the cap message was last sent, whether one is due, the last line's
instant, the first job line that is filled (0 but after a late start, R323), and the place of job line 0 among the lines
(R232). -/
structure JobSt where
  job : Option Job := none
  evals : List (Nat × Nat) := []
  loweredAt : Nat := 0
  sentAt : Nat := 0
  owed : Bool := false
  lastF : Option Nat := none
  from_ : Nat := 0
  first : Nat := 0
  deriving DecidableEq, Repr

/-- A record that the ingest engine has read and not yet passed (R208): its ring offset and size in bytes, its header,
and whether it is free of a format error. -/
structure Rec where
  off : Nat
  size : Nat
  lane : Nat
  first : Nat
  lines : Nat
  fmt : Nat
  bodyLen : Nat
  good : Bool
  deriving DecidableEq, Repr

/-- A calibration transfer under way (R223, R224): lane, mode, and its records, each a lane point and a value; and
whether its end was an ECC error. -/
structure CalRun where
  lane : Nat
  mode : Nat
  recs : List (Nat × Nat)
  ecc : Bool
  deriving DecidableEq, Repr

/-- An ingest engine behind its registers (R214 to R224): the ring offset, in bytes, of the next record to read, the
records read and not passed, per lane the next job line that a record must cover, the order key of the last record,
per lane how many of the announced lines it has completed or abandoned, per lane the line that an error keeps
incomplete (its place plus 1), whether an abandonment has been recorded since a completion, the calibration transfer,
the lane whose applied patch list waits for its first kernel start, and after a late start the lanes of which no record has
been read yet (R323). -/
structure Ing where
  parse : Nat := 0
  recs : List Rec := []
  cover : Tab Nat Nat := []
  last : Option (Nat × Nat) := none
  done : Tab Nat Nat := []
  failed : Tab Nat Nat := []
  starved : Bool := false
  cal : Option CalRun := none
  patched : Option Nat := none
  late : List Nat := []
  deriving DecidableEq, Repr

/-- A line as it was announced (R440): its number, fire time in ps, and instant of announcement in ns of package time. -/
structure Line where
  n : Nat
  f : Nat
  at_ : Nat
  deriving DecidableEq, Repr

/-- An entry of a plane stack (R171): position x is bit x + 64 of `bits`, and the two edge depths. -/
structure Plane where
  bits : Nat
  lo : Nat
  hi : Nat
  deriving DecidableEq, Repr

/-- A running kernel (R170, R187, R193): the place of its line, its physical slot, group and next parcel, the plane stack (top first), the count
accumulators, and the throttle step it runs at. -/
structure Kern where
  line : Nat
  slot : Nat := 0
  group : Nat := 0
  pos : Nat := 0
  stack : List Plane := []
  acc : List Nat := [0, 0, 0, 0, 0, 0, 0, 0]
  step : Nat := 0
  deriving DecidableEq, Repr

/-- An armed kernel hood (R199, R202): its switch line number, or the next kernel start; and in a pair whether the other unit
has agreed (ACK at the active unit, KGO at the standby). -/
structure KArm where
  line : Option Nat
  paired : Bool := false
  agreed : Bool := false
  deriving DecidableEq, Repr

/-- A lane behind its registers (R168 to R203). Lines are named by their place in the list of announced lines: the
package time at which handling began, how many lines are finished, the running kernel, for each source buffer the line
whose batt is complete (plus 1), for each output buffer the line that holds it (plus 1) and how many routes have still
to finish, the counts last published, held calibration writes (byte address, bytes), the armed hood, whether
LANE_KHOOD_LINE waits for a start, the pending plane-fault exception, whether RUN = 0 was written under a running
kernel, the package time at which FAULTED was last cleared, and the line whose kernel a plane fault stopped, while its blank
batt is still to be handed. -/
structure Lane where
  runAt : Option Nat := none
  finished : Nat := 0
  kern : Option Kern := none
  src : Tab Nat Nat := []
  out : Tab Nat (Nat × Nat) := []
  counts : List Nat := [0, 0, 0, 0, 0, 0, 0, 0]
  cntLine : Nat := 0
  cntBlank : Bool := false
  held : List (Nat × List Byte) := []
  arm : Option KArm := none
  klinePending : Bool := false
  xfault : Option Nat := none
  stopping : Bool := false
  faultEnd : Option Nat := none
  owed : Option Nat := none
  deriving DecidableEq, Repr

/-- What a link transmitter has to send for one route and line (R264 to R268): lane, route, line, deadline D(n), first
group, groups, TARGET, whether blank, the next frame's index, whether its lateness has been counted, and the wait count
(R289). -/
structure RouteTx where
  lane : Nat
  route : Nat
  line : Nat
  dl : Nat
  first : Nat
  count : Nat
  target : Nat
  blank : Bool
  next : Nat := 0
  late : Bool := false
  w : Nat := 0
  deriving DecidableEq, Repr

/-- A frame that waits at a link transmitter (R265): type, FLAGS, CLASS, TARGET, deadline and payload words; for a
reflex frame the trigger time; and the wait count (R289). -/
structure TxFrame where
  type : Nat
  flags : Nat
  cls : Nat
  target : Nat
  dl : Nat
  words : List Nat
  trig : Nat := 0
  w : Nat := 0
  deriving DecidableEq, Repr

/-- A frame in a receive FIFO (R254, R282): its header words and payload words. -/
structure RxFrame where
  hdr : List Nat
  words : List Nat
  deriving DecidableEq, Repr

/-- A Keati link behind its registers (R253 to R267): what its transmitter has to send; per pool the transmitter's units
granted, sent and reported freed; per pool the receiver's units in use and freed; whether a CREDIT is due; since when a
RESYNC stops credited frames; when the receiver's own resync began, and whether it still answers with FULL; the SEQ
count; the receive FIFO, oldest first; the instants of the last frame and CREDIT sent, of the last header received and
of entry to the state; training: the peer's last REQSEQ, whether it has been applied, the own request number, and who is
ready; the instants of uncorrectable codewords, with their number (R259); the instants, in ps, until which the frames sent, and
the frame last granted, last on the wire (R280, R299); while LOOP is 1 the frames sent that have not come back (R282); and the
routes that have sent all of a line whose output buffer is still held (R332). -/
structure Link where
  routes : List RouteTx := []
  sent : List RouteTx := []
  mailbox : Option TxFrame := none
  reflex : List TxFrame := []
  cap : Option TxFrame := none
  base0 : Nat := 0
  base1 : Nat := 0
  sent0 : Nat := 0
  sent1 : Nat := 0
  got0 : Nat := 0
  got1 : Nat := 0
  used0 : Nat := 0
  used1 : Nat := 0
  freed0 : Nat := 0
  freed1 : Nat := 0
  owe : Bool := false
  txStop : Option Nat := none
  resyncAt : Option Nat := none
  full : Bool := false
  seq : Nat := 0
  rx : List RxFrame := []
  lastTx : Nat := 0
  lastCredit : Nat := 0
  lastRx : Nat := 0
  stateAt : Nat := 0
  reqSeen : Option Nat := none
  ack : Bool := false
  ownReq : Nat := 0
  peerReady : Bool := false
  ownReady : Bool := false
  peerPools : Bool := false
  fec : List (Nat × Nat) := []
  wire : Nat := 0
  till : Nat := 0
  loop : List KFrame := []
  deriving DecidableEq, Repr

/-- A request that waits at an arbiter (R287, R289): its input, its member number within a group, its deadline, its
wait count, the bytes still to transfer, the node that makes it, at a compute die's outbound arbiter the crown arbiter it is
for, and the arbiter of the compute die it goes on to. -/
structure ArbReq where
  input : Nat
  member : Nat := 0
  dl : Nat
  w : Nat := 0
  bytes : Nat := 0
  who : Option Node := none
  target : Nat := 0
  dest : Option Nat := none
  deriving DecidableEq, Repr

/-- An arbiter behind its registers (R286, R290, R293, R296): the requests that wait, the rotation pointer of its group
that has no registers, and the transfer in progress with the instant of its grant. -/
structure Arbiter where
  waiting : List ArbReq := []
  gptr : Nat := 0
  grant : Option (Nat × ArbReq) := none
  deriving DecidableEq, Repr

/-- The thermal state of a compute die behind THERM_STAT (R534, R535, R235): the step decided, lowerings waiting for
their LEAD (step, and when its broadcast went out), and since when every reading was 3 °C below the step's threshold. -/
structure Therm where
  step : Nat := 0
  leads : List (Nat × Option Nat) := []
  coolSince : Option Nat := none
  dramCool : Option Nat := none
  deriving DecidableEq, Repr

/-- What leaves the package: frames, messages and pin events, newest first. -/
inductive OutMsg where
  /-- An MSI-X vector sent to the host (R368, R369). -/
  | msix (vec : Nat)
  /-- A CAN FD frame begun by controller `c` (R419). -/
  | canFrame (c : Nat) (ide fdf brs : Bool) (id dlc : Nat) (data : List Nat)
  /-- A keep frame to the field die (R407): role active, claim, LINERUN. -/
  | keep (active : Bool) (claim : Nat) (lineRun : Bool)
  /-- A claim-exchange frame (R336): its 48 bits, the first sent highest, a dominant bit 0. -/
  | clx (frame : Nat)
  /-- A message on a standby path (0 path A, 1 path B): the words of its header and payload, and its CRC (R310). -/
  | standby (path : Nat) (header payload : List Nat) (crc : Nat)
  /-- A ring frame sent on a port: its name, the words of its header and payload, and its CRC (R384). -/
  | ringFrame (port : Nat) (name : String) (words : List Nat) (crc : Nat)
  /-- A Keati frame started by a link transmitter: header words, payload words and CRC (R244, R245). -/
  | linkFrame (d m : Nat) (header payload : List Nat) (crc : Nat)
  /-- A completion written to a host queue (R376): queue and words. -/
  | completion (q : Nat) (words : List Nat)
  /-- A read completion returned to the host (R365): data bytes, or Completer Abort, or Unsupported Request in D3hot. -/
  | hostRead (abort : Bool) (bytes : List Nat)
  /-- A service-port answer (R483). -/
  | svc (words : List Nat)
  /-- WAKE_N driven low for 100 µs (R514). -/
  | wakeN
  deriving DecidableEq, Repr

/-- The machine (R10, R17, R45, R46): `regs` holds every register field that differs from its reset value. -/
structure State where
  pending : List Instr := []
  /-- Elapsed time in ns, by which the durations of the crown clock, the field die and the wake island are judged (R20). -/
  now : Nat := 0
  /-- The counter from which free values are drawn; the model's own field, not the spec's. -/
  free : Nat := 0
  straps : Straps := {}
  regs : Tab RegKey Nat := []
  mems : Tab MemId Cells := []
  ecc : Tab (MemId × Nat) Ecc := []
  recorder : Recorder := {}
  nvs : Nvs := {}
  rest : Restart := {}
  wdt : Wdt := {}
  can : Tab Nat Can := []
  rtc : Rtc := {}
  tmb : Tmb := {}
  field : FieldDie := {}
  pwr : Pwr := {}
  hsb : Hsb := {}
  upd : Upd := {}
  cry : Cry := {}
  cores : Tab (Nat × Nat) Core := []
  job : JobSt := {}
  ings : Tab Nat Ing := []
  /-- The lines announced since reset, oldest first (R186, R440). -/
  lines : List Line := []
  lanes : Tab (Nat × Nat) Lane := []
  links : Tab (Nat × Nat) Link := []
  /-- The arbiters: 0 for the crown die or 1 + die, and the arbiter's number (R286). -/
  arbs : Tab (Nat × Nat) Arbiter := []
  therm : Tab Nat Therm := []
  /-- Nodes whose junction is hot, and when a reading last was 120 °C or more (R535). -/
  hot : List Nat := []
  hotCool : Option Nat := none
  /-- The trigger FIFO of each reflex engine, oldest first (R275). -/
  rfx : Tab Nat (List Trigger) := []
  /-- Writes held in their writers' paths, oldest first, by requester (R541). -/
  held : Tab Nat (List Posted) := []
  /-- The commands in the command sequencer, oldest first (R39). -/
  seqQ : List NodeCmd := []
  img : Img := {}
  queues : Tab Nat Queue := []
  cmdEng : CmdEngine := {}
  pcie : Pcie := {}
  ctxCry : CtxEngine := {}
  ctxCrc : CtxEngine := {}
  ring : Ring := {}
  out : List OutMsg := []
  deriving DecidableEq, Repr

/-- Why the machine stops with a fault: never. Everything the spec calls an error of a command is an effect on the
state (a refusal code, a trap, a capture), so no meaning ends in a fault. -/
inductive Fault where
  deriving DecidableEq, Repr

/-- Why the machine refuses a command. -/
inductive Refusal where
  /-- A command that has no meaning yet. Safe: the machine stops. -/
  | notModelled (mnemonic : String)
  deriving DecidableEq, Repr

/-- The machine right after reset: the first power-on of a new EK-896, its reset just ended (R14, R507). -/
def State.reset : State := {}

end Sys2Proof.Machine
end

