-- ==== Sys2Proof/Machine/Ops.lean ====
section
/-! DEFINITION. The named operations over registers and memories that every family uses, and the operations that
cross families: offering an event record (R466), raising an interrupt source (R340, R369), a node fault (R32). -/

namespace Sys2Proof.Machine

/-- The time that the timebase has counted since the reset, in ns, on which durations are measured (R20). -/
def State.tb (s : State) : Nat := s.tmb.ran

/-! ### Register fields -/

/-- The value of a register field. -/
def State.rd (s : State) (b : Blk) (f : Field) : Nat := Tab.get s.regs (f.key b) f.reset

/-- The state with a register field set to `v`, cut to the field's width. -/
def State.wr (s : State) (b : Blk) (f : Field) (v : Nat) : State :=
  { s with regs := Tab.set RegKey.code s.regs (f.key b) f.reset (v % 2 ^ f.width) }

/-- A one-bit field reads 1. -/
def State.is (s : State) (b : Blk) (f : Field) : Bool := s.rd b f != 0

/-- The state with a field written from a Bool. -/
def State.wrB (s : State) (b : Blk) (f : Field) (v : Bool) : State := s.wr b f v.toNat

/-- A count that goes up by `n` and saturates at the greatest value of its field. -/
def State.bump (s : State) (b : Blk) (f : Field) (n : Nat := 1) : State :=
  s.wr b f (min (s.rd b f + n) (2 ^ f.width - 1))

/-- Bit `i` of a field. -/
def State.bit (s : State) (b : Blk) (f : Field) (i : Nat) : Bool := (s.rd b f).testBit i

/-- The state with bits of a field set. -/
def State.orBits (s : State) (b : Blk) (f : Field) (m : Nat) : State := s.wr b f (s.rd b f ||| m)

/-- A number without the bits of a mask. -/
def clearBits (v m : Nat) : Nat := v ^^^ (v &&& m)

/-- The state with bits of a field cleared. -/
def State.clrBits (s : State) (b : Blk) (f : Field) (m : Nat) : State := s.wr b f (clearBits (s.rd b f) m)

/-- The state with bit `i` of a field set to `v`. -/
def State.setBit (s : State) (b : Blk) (f : Field) (i : Nat) (v : Bool) : State :=
  if v then s.orBits b f (2 ^ i) else s.clrBits b f (2 ^ i)

/-- Bits `[lo + width - 1 : lo]` of a word. -/
def bits (w lo width : Nat) : Nat := w / 2 ^ lo % 2 ^ width

/-- The part of a written word that belongs to a field. -/
def Field.of (f : Field) (w : Nat) : Nat := bits w f.lo f.width

/-- A signed number from its two's-complement form of `width` bits. -/
def toSigned (width v : Nat) : Int := if v % 2 ^ width < 2 ^ (width - 1) then v % 2 ^ width else (v % 2 ^ width : Int) - 2 ^ width

/-- The two's-complement form of a signed number in `width` bits. -/
def ofSigned (width : Nat) (i : Int) : Nat := (i % (2 ^ width : Int)).toNat

/-- The state after `f` for each element of a list, first to last. -/
def State.each {α : Type} (s : State) : List α → (State → α → State) → State
  | [], _ => s
  | x :: xs, f => State.each (f s x) xs f

/-- Several fields of one block written, first to last. -/
def State.wrs (s : State) (b : Blk) (l : List (Field × Nat)) : State := s.each l fun t p => t.wr b p.1 p.2

/-- Several fields of one block written from one word. -/
def State.wrOf (s : State) (b : Blk) (l : List Field) (w : Nat) : State := s.each l fun t f => t.wr b f (f.of w)

/-! ### Free values -/

/-- The next free bit, and the state that has drawn it. -/
def State.freeBit (s : State) : Bool × State := (Config.freeBit s.free, { s with free := s.free + 1 })

/-- The next free word. -/
def State.freeWord (s : State) : Word × State := (Config.freeWord s.free, { s with free := s.free + 1 })

/-- The next free number. -/
def State.freeNat (s : State) : Nat × State := (Config.freeNat s.free, { s with free := s.free + 1 })

/-! ### Memories -/

/-- One memory of the package. -/
def State.mem (s : State) (m : MemId) : Cells := Tab.get s.mems m []

/-- The state with one memory replaced. -/
def State.setMem (s : State) (m : MemId) (c : Cells) : State := { s with mems := Tab.set MemId.code s.mems m [] c }

/-- One byte of one memory. -/
def State.byte (s : State) (m : MemId) (a : Nat) : Byte := (s.mem m).get a

/-- `n` bytes of a memory as a little-endian number (R7). -/
def State.load (s : State) (m : MemId) (a n : Nat) : Nat := leNat ((s.mem m).getList a n)

/-- The state with the `n` low bytes of `v` stored little-endian (R7). -/
def State.store (s : State) (m : MemId) (a n v : Nat) : State := s.setMem m ((s.mem m).setList a (leBytes n v))

/-- The state with a list of bytes stored. -/
def State.storeBytes (s : State) (m : MemId) (a : Nat) (bs : List Byte) : State :=
  s.setMem m ((s.mem m).setList a bs)

/-- The state with the bytes `[a, a + n)` of a memory zeroed. -/
def State.zeroMem (s : State) (m : MemId) (a n : Nat) : State :=
  s.setMem m ((s.mem m).filter fun e => e.1 < a || a + n ≤ e.1)

/-- The ECC state of a word (SRAM, by byte address ÷ 4) or a line (DRAM, by byte address ÷ 64) (R540). -/
def State.eccOf (s : State) (m : MemId) (w : Nat) : Ecc := Tab.get s.ecc (m, w) .good

/-- The state with the ECC of a word or line replaced. -/
def State.setEcc (s : State) (m : MemId) (w : Nat) (e : Ecc) : State :=
  { s with ecc := Tab.set (fun p => Nat.pair p.1.code p.2) s.ecc (m, w) .good e }

/-! ### Nodes -/

/-- The ring is up, wrapped or split (R383, R388). -/
def State.ringUp (s : State) : Bool := s.straps.ringEn && decide (s.rd .ring RING_STAT_STATE ∈ [2, 3, 4])

/-- The ring position of this package, 0 while no ring is up (R33, R383). -/
def State.ringPos (s : State) : Nat := if s.ringUp then s.rd .ring RING_POS_POS else 0

/-- The NODE_ID of a node (R33). -/
def State.path (s : State) (n : Node) : Nat :=
  match n with
  | .ring => Node.path 0 .ring
  | n => Node.path s.ringPos n

/-- The package is strapped as the ring head (R382). -/
def State.isHead (s : State) : Bool := s.straps.ringEn && s.straps.ringHead

/-- The ring node exists: in the head, while the ring is up (R34, R383). -/
def State.hasRing (s : State) : Bool := s.isHead && s.ringUp

/-- The captures a fault of a node is offered to, nearest first, each with the VIA it records (R32). How a member package's
fault reaches the ring node's capture is open; the model offers it the head's own faults, with VIA 0 (DESIGN CHOICE, log
entry 144). -/
def State.captures (s : State) (n : Node) : List (Node × Nat) :=
  let top := if s.hasRing then [(Node.ring, 0)] else []
  match n with
  | .ring => [(.ring, 0xFF)]
  | .pkg => (.pkg, 0xFF) :: top
  | .crown => [(.crown, 0xFF), (.pkg, 0)] ++ top
  | .field => [(.field, 0xFF), (.pkg, 1)] ++ top
  | .die d => [(.die d, 0xFF), (.pkg, 2 + d)] ++ top
  | .core d k => [(.core d k, 0xFF), (.die d, k), (.pkg, 2 + d)] ++ top
  | .lane d j => [(.lane d j, 0xFF), (.core d (j / 3), j % 3), (.die d, j / 3), (.pkg, 2 + d)] ++ top

/-- The compute die exists in this variant (R3). -/
def State.hasDie (s : State) (d : Nat) : Bool := decide (d < s.straps.dies)

/-- The node exists in this package (R34). -/
def State.hasNode (s : State) : Node → Bool
  | .ring => s.hasRing
  | .pkg | .crown | .field => true
  | .die d => s.hasDie d
  | .core d k => s.hasDie d && decide (k < 4)
  | .lane d j => s.hasDie d && decide (j < 12)

/-- The compute dies of the variant. -/
def State.diesList (s : State) : List Nat := List.range s.straps.dies

/-- The scan cores of the package. -/
def State.coresList (s : State) : List (Nat × Nat) := s.diesList.flatMap fun d => (List.range 4).map fun k => (d, k)

/-- The lanes of the package. -/
def State.lanesList (s : State) : List (Nat × Nat) := s.diesList.flatMap fun d => (List.range 12).map fun j => (d, j)

/-- The links of the package. -/
def State.linksList (s : State) : List (Nat × Nat) := s.diesList.flatMap fun d => (List.range 32).map fun m => (d, m)

/-! ### Scan cores -/

/-- A scan core; one that is not listed stands as a reset leaves it (R117). -/
def State.core (s : State) (d k : Nat) : Core := Tab.get s.cores (d, k) (Core.fresh d k)

/-- The state with a scan core replaced. -/
def State.setCore (s : State) (d k : Nat) (c : Core) : State :=
  { s with cores := Tab.set pairCode s.cores (d, k) (Core.fresh d k) c }

/-! ### Event records, faults and interrupt sources -/

/-- The payload words of a 40-bit or 64-bit item, low word first (R464). -/
def twoWords (v : Nat) : List Nat := [v % 2 ^ 32, v / 2 ^ 32 % 2 ^ 32]

/-- The record a rule names, as it stands at this instant. -/
def State.record (s : State) (code : Nat) (n : Node) (payload : List Nat) : Offered :=
  { code := code, path := s.path n, opsec := s.recorder.opNs / 1000000000 % 2 ^ 32, payload := payload.map (· % 2 ^ 32), ns := s.now }

/-- Of two records offered in the same cycle the one of the lower PATH, then of the lower CODE, is accepted first (R466). -/
def Offered.before (a b : Offered) : Bool := decide (a.ns = b.ns ∧ (a.path < b.path ∨ (a.path = b.path ∧ a.code < b.code)))

/-- A record takes its place in the hold: behind all that came earlier, in the order of R466 among those of its cycle. The
model's instant stands for the crown cycle (DEDUCED, log 203). -/
def holdPut (r : Offered) : List Offered → List Offered
  | [] => [r]
  | x :: xs => if r.before x then r :: x :: xs else x :: holdPut r xs

/-- A record is offered to the recorder's hold, which takes 64; beyond that it is lost and counted (R466). -/
def State.offerRec (s : State) (r : Offered) : State :=
  if s.recorder.hold.length < 64 then { s with recorder := { s.recorder with hold := holdPut r s.recorder.hold } }
  else { s with recorder := { s.recorder with lost := s.recorder.lost + 1 } }.bump .evr EVR_LOSTCNT_COUNT

/-- The record a rule names is offered (R466). -/
def State.offer (s : State) (code : Nat) (n : Node) (payload : List Nat := []) : State := s.offerRec (s.record code n payload)

/-- BOOT_DONE is recorded once the restart is done and a scan core has been released (R508). -/
def State.bootMark (s : State) : State :=
  if !s.pwr.bootDone && s.img.begun && !s.img.restarting && s.cores.any (fun e => e.2.started) then
    { s with pwr := { s.pwr with bootDone := true } }.offer Ev.BOOT_DONE .pkg
      [s.rd .upd UPD_STAT_RUNBANK, s.rd .upd (if s.is .upd UPD_STAT_RUNBANK then UPD_VER_B_VERSION else UPD_VER_A_VERSION)]
  else s

/-- A record to be offered at the next boot (R468). -/
def State.offerAtBoot (s : State) (code : Nat) (n : Node) (payload : List Nat := []) : State :=
  { s with recorder := { s.recorder with atBoot := s.recorder.atBoot ++ [s.record code n payload] } }

/-- One capture is offered a fault, and takes it if it holds none (R32). -/
def State.capture (s : State) (n : Node) (via code path : Nat) : State :=
  if s.is n.blk NODE_FAULT_VALID then s
  else (((s.wr n.blk NODE_FAULT_CODE code).wr n.blk NODE_FAULT_VIA via).wr n.blk NODE_FAULT_PATH_PATH path).wr n.blk NODE_FAULT_VALID 1

/-- A node fault arises: OWN_FAULT of the node, and the captures from the node to the root (R32). -/
def State.nodeFault (s : State) (n : Node) (code : Nat) : State :=
  (s.wr n.blk NODE_STATUS_OWN_FAULT 1).each (s.captures n) fun t c => t.capture c.1 c.2 code (s.path n)

/-- An output of the package. -/
def State.emit (s : State) (m : OutMsg) : State := { s with out := m :: s.out }

/-- The header words of a ring frame (R384). -/
def State.ringHeader (s : State) (type dst count tag len addr : Nat) : List Nat :=
  [type * 2 ^ 24 + s.rd .ring RING_POS_POS * 2 ^ 16 + dst * 2 ^ 8 + count, tag % 2 ^ 16 * 2 ^ 16 + len, addr]

/-- A ring frame goes out on a port, with the CRC-32C of its header and payload (R384). -/
def State.ringEmit (s : State) (p : Nat) (name : String) (words : List Nat) : State :=
  s.emit (.ringFrame p name words (crc32c ((words.flatMap octets).map (BitVec.ofNat 8))))

/-- The port that the package sends its frames from: port 0, or port 1 where port 0 is down and the ring turned back there
(R382, R388). -/
def State.ringOut (s : State) : Nat := if s.rd .ring RING_STAT_PORT0 = 0 ∧ s.rd .ring RING_STAT_PORT1 ≠ 0 then 1 else 0

/-- A ring frame of this package is sent (R382, R384). -/
def State.ringSend (s : State) (name : String) (type dst count tag addr : Nat) (payload : List Nat) : State :=
  s.ringEmit s.ringOut name (s.ringHeader type dst count tag (4 * payload.length) addr ++ payload)

/-- The islands of the interrupt controllers are stopped: in nap, and during power-up, until the boot that follows (R349). -/
def State.ctlStopped (s : State) : Bool :=
  decide (s.pwr.phase = .nap ∨ s.pwr.phase = .off ∨ (s.pwr.phase = .reset ∧ (s.pwr.cause = 1 ∨ s.pwr.cause = 9)))

/-- A pending bit of a controller rises; while the controller's island is stopped the latch also sets the wake
bit (R340, R349). -/
def State.raiseAt (s : State) (b : Blk) (src : Nat) : State :=
  let t := s.setBit b (IRQ_PEND_PEND (src / 32)) (src % 32) true
  if s.ctlStopped then t.setBit b (IRQ_WAKE_WAKE (src / 32)) (src % 32) true else t

/-- A compute-die source becomes pending (R340). -/
def State.raiseDie (s : State) (d src : Nat) : State := s.raiseAt (.irqDie d) src

/-- HOOD_STAT.RESULT of a core takes a code, and its source becomes pending (R159, R340). -/
def State.hoodRes (s : State) (d k r : Nat) : State := (s.wr (.core d k) HOOD_STAT_RESULT r).raiseDie d (80 + 4 * k)

/-- Word `w` (0 address low, 1 address high, 2 data, 3 control) of MSI-X table entry `e` (R368); bit 0 of the control
word masks the vector and is set at reset, as PCIe has it. -/
abbrev MSIX_ENTRY (e w : Nat) : Field :=
  { off := 0x8000 + 16 * e + 4 * w, lo := 0, width := 32, acc := .rw, reset := if w = 3 then 1 else 0 }

/-- Word `w` of the MSI-X pending bit array (R368). -/
abbrev MSIX_PBA (w : Nat) : Field := { off := 0x9000 + 4 * w, lo := 0, width := 32, acc := .ro, reset := 0 }

/-- The MSI-X capability: table size, BIR, and offset of the table (R361, R368). -/
abbrev msixVectors : Nat := 256
abbrev msixBir : Nat := 0
abbrev msixOffset : Nat := 0x00038000

/-- A vector is sent to the host while MSI-X is enabled, or its PBA bit set while the vector or the function is masked
(R368, R369). -/
def State.sendMsix (s : State) (v : Nat) : State :=
  if ¬ s.pcie.msixEn then s
  else if (s.rd .host (MSIX_ENTRY v 3)).testBit 0 || s.pcie.msixMask then s.setBit .host (MSIX_PBA (v / 32)) (v % 32) true else s.emit (.msix v)

/-- A crown source becomes pending; if the bit rises and HOST_FWD names it, the forwarding vector is sent
(R341, R369). -/
def State.raiseCrown (s : State) (src : Nat) : State :=
  let rose := !s.bit .irqCrown (IRQ_PEND_PEND (src / 32)) (src % 32)
  let t := s.raiseAt .irqCrown src
  if rose && s.is .host HOST_FWDVEC_FWDEN && s.bit .host (HOST_FWD_FWD (src / 32)) (src % 32) then
    t.sendMsix (s.rd .host HOST_FWDVEC_VEC)
  else t

/-- The crown die works: the package runs, enters nap, or makes a power-fail store, and the crown clock is locked
(R510). -/
def State.crownRuns (s : State) : Bool :=
  decide (s.pwr.phase = .on ∨ s.pwr.phase = .napEntry ∨ s.pwr.phase = .store) && s.bit .crownNode CLK_LOCK_LOCK 0

/-- The standby links and the other ports of the crown die are not held DOWN by a nap entry or a power-fail store
(R503, R511). -/
def State.portsUp (s : State) : Bool := s.crownRuns && decide (s.pwr.phase = .on)

/-- The ring takes a state; source 208 rises at a change, and the ring node holds a warning while the ring is wrapped, and a
fault while it is split (R341, R383, R388). -/
def State.setRing (s : State) (v : Nat) : State :=
  if s.rd .ring RING_STAT_STATE = v then s
  else
    ((s.wr .ring RING_STAT_STATE v).wrs .ringNode
      [(NODE_STATUS_OWN_WARN, if v = 3 ∨ v = 4 then 1 else 0), (NODE_STATUS_OWN_FAULT, if v = 4 then 1 else 0)]).raiseCrown 208

/-! ### Calibration (R463) -/

/-- The effective value of a calibration item: factory plus user value, saturated to 16 bits (R463). -/
def State.calEff (s : State) (i : Nat) : Int :=
  max (-32768) (min 32767 (toSigned 16 (s.rd .cal (CAL_FACT_VAL i)) + toSigned 16 (s.rd .cal (CAL_USER_VAL i))))

/-- A reading with gain item `g` and offset item `o` applied (R463). The spec does not say how the product is rounded:
a free bit decides between the two neighbours. -/
def State.calibrate (s : State) (g o raw : Nat) : Int × State :=
  let p : Int := raw * (65536 + s.calEff g)
  let (up, t) := s.freeBit
  (p / 65536 + (if up && decide (p % 65536 ≠ 0) then 1 else 0) + s.calEff o, t)

/-! ### Retained store -/

/-- A retained-store segment has been written to, by any path (R449). -/
def State.dirty (s : State) (seg : Nat) : State := s.setBit .nvs NVS_DIRTY_DIRTY seg true

end Sys2Proof.Machine
end

