-- ==== Sys2Proof/Machine/Claims.lean ====
section
/-! DEFINITION. Claims, roles and the sending of standby messages (R302 to R311, R329). -/

namespace Sys2Proof.Machine

/-- The states of the hot-standby block (R303), as HSB_STAT.STATE codes them. -/
abbrev hsbOFF : Nat := 0
abbrev hsbSEEK : Nat := 1
abbrev hsbSOLO : Nat := 2
abbrev hsbACTIVE : Nat := 3
abbrev hsbJOINING : Nat := 4
abbrev hsbSTANDBY : Nat := 5

/-- HSB_STAT.STATE. -/
def State.hsbState (s : State) : Nat := s.rd .hsb HSB_STAT_STATE

/-- The role of a state of R303: 0 none, 1 active, 2 standby. -/
def hsbRole (st : Nat) : Nat := if st = 2 ∨ st = 3 then 1 else if st = 4 ∨ st = 5 then 2 else 0

/-- A handover ends without effect (R335). -/
def State.handoverFail (s : State) : State :=
  ({ s with hsb := { s.hsb with handover := none } }.wr .hsb HSB_CTRL_HANDOVER 0).offer Ev.HANDOVER_FAIL .crown

/-- A handover that is pending when the unit leaves its state: in ACTIVE it has failed (R335). -/
def State.handoverEnd (s : State) : State :=
  if s.hsb.handover = none then s
  else if s.hsbState = hsbACTIVE then s.handoverFail
  else { s with hsb := { s.hsb with handover := none } }

/-- STATE takes a value, ROLE and TMB_STAT.FOLLOW with it, and crown source 168 rises at a change; a pending handover ends
(R303, R335, R341, R444). -/
def State.setHsbState (s : State) (st : Nat) : State :=
  if s.hsbState = st then s
  else (((s.handoverEnd.wr .hsb HSB_STAT_STATE st).wr .hsb HSB_STAT_ROLE (hsbRole st)).wrB .tmb TMB_STAT_FOLLOW
    (decide (hsbRole st = 2))).raiseCrown 168

/-- The package is strapped into a pair (R302). -/
def State.strapped (s : State) : Bool := s.straps.hsbPair

/-- The unit is in role active. -/
def State.isActive (s : State) : Bool := decide (hsbRole s.hsbState = 1)

/-- The unit is in role standby. -/
def State.isStandby (s : State) : Bool := decide (hsbRole s.hsbState = 2)

/-- A passed CHECK of a ring nap would fail if the unit took a role (R28, R389). -/
def State.ringHoldsRole (s : State) : Bool :=
  match s.ring.check with
  | some w => w.testBit 17 && w.testBit 1
  | none => false

/-- The unit may drive outputs: an unstrapped unit always, a strapped one in role active (R302, R304). -/
def State.mayDrive (s : State) : Bool := !s.strapped || s.isActive

/-! ### Messages of the standby links (R310) -/

/-- KIND of a message. -/
def SbKind.code : SbKind → Nat
  | .hb => 0x01 | .resign => 0x02 | .handover => 0x03 | .handack => 0x04
  | .arm => 0x10 | .reply => 0x11 | .atN => 0x12 | .miss => 0x13
  | .karm => 0x18 | .ack => 0x19 | .nak => 0x1A | .kgo => 0x1B | .kcancel => 0x1C
  | .line => 0x20 | .mirror => 0x21 | .eq => 0x22 | .eqskip => 0x23
  | .job => 0x25 | .cap => 0x26 | .join => 0x30 | .leave => 0x31 | .hash => 0x24

/-- The order of a kind among the messages that wait. -/
def SbKind.order : SbKind → Nat
  | .hb | .resign | .handover | .handack => 1
  | .arm | .reply | .atN | .miss | .karm | .ack | .nak | .kgo | .kcancel => 2
  | .line => 3
  | .mirror => 4
  | .eq | .eqskip => 5
  | .job | .cap | .join | .leave => 6
  | .hash => 7

/-- The header of a message whose first octet goes out at a package time. -/
def SbMsg.header (m : SbMsg) (time : Nat) : List Nat :=
  [m.kind.code * 2 ^ 24 + m.state % 256 * 2 ^ 16 + 4 * m.words.length, m.claim, m.seq, time % 2 ^ 32]

/-- How long a message, with its CRC, takes at 25 Gbit/s, in ps (R309). -/
def SbMsg.time (m : SbMsg) : Nat := 320 * (20 + 4 * m.words.length)

/-- The transmitter of a path. -/
def Hsb.tx (h : Hsb) (p : Nat) : SbTx := if p = 0 then h.txA else h.txB
def Hsb.setTx (h : Hsb) (p : Nat) (x : SbTx) : Hsb := if p = 0 then { h with txA := x } else { h with txB := x }

/-- The first message of the least order in a list. -/
def leastOrder : List SbMsg → Option SbMsg
  | [] => none
  | m :: ms =>
    match leastOrder ms with
    | none => some m
    | some x => if x.kind.order < m.kind.order then some x else some m

/-- The message that a transmitter sends next: one that has waited 1 ms, else the first of the least order. -/
def SbTx.next (x : SbTx) (now : Nat) : Option SbMsg :=
  match x.q.find? fun m => decide (m.made + 1000000 ≤ now) with
  | some m => some m
  | none => leastOrder x.q

/-- A message goes out on a path. -/
def State.sbEmit (s : State) (p : Nat) (m : SbMsg) : State :=
  let x := s.hsb.tx p
  let h := m.header s.tmb.count
  let crc := crc32c (((h ++ m.words).flatMap octets).map (BitVec.ofNat 8))
  { s.emit (.standby p h m.words crc) with
    hsb := s.hsb.setTx p { x with cur := some m, wire := max x.wire (s.tb * 1000) + m.time } }

/-- The transmitter of a path sends its next message once the one before has ended on the wire. -/
def State.sbPump (s : State) (p : Nat) : State :=
  let x := s.hsb.tx p
  if s.portsUp ∧ x.wire ≤ s.tb * 1000 then
    match x.next s.tb with
    | some m => { s with hsb := s.hsb.setTx p { x with q := x.q.erase m } }.sbEmit p m
    | none => s
  else s

/-- Both transmitters. -/
def State.sbPumps (s : State) : State := (s.sbPump 0).sbPump 1

/-- The words of a content in parts of at most `n`. -/
def partsOf (n : Nat) : Nat → List Nat → List (List Nat)
  | 0, _ => []
  | _, [] => []
  | f + 1, l => l.take n :: partsOf n f (l.drop n)

/-- A message is made and waits at both transmitters. -/
def State.sbQueue (s : State) (k : SbKind) (words : List Nat) : State :=
  let m : SbMsg := { kind := k, state := s.hsbState, claim := s.rd .hsb HSB_CLAIM_CLAIM, seq := s.hsb.seq, words := words, made := s.tb }
  let h := s.hsb
  { s with hsb := { h with seq := (h.seq + 1) % 2 ^ 32, txA := { h.txA with q := h.txA.q ++ [m] }, txB := { h.txB with q := h.txB.q ++ [m] } } }

/-- A message is made and sent on both paths with one SEQ; a content above 4,096 octets goes in parts, each of which begins
with the words of `pre`. -/
def State.hsbSend (s : State) (k : SbKind) (pre : List Nat := []) (body : List Nat := []) : State :=
  let ps := if body = [] then [[]] else partsOf (1024 - pre.length) body.length body
  (s.each ps fun t p => t.sbQueue k (pre ++ p)).sbPumps

/-- RESIGN is sent by an active unit on both paths at once, before the reset that may follow (R329). -/
def State.resign (s : State) (cause : Nat) : State :=
  if s.isActive ∧ s.portsUp then
    let m : SbMsg := { kind := .resign, state := s.hsbState, claim := s.rd .hsb HSB_CLAIM_CLAIM, seq := s.hsb.seq, words := [cause], made := s.tb }
    { (s.sbEmit 0 m).sbEmit 1 m with hsb := { ((s.sbEmit 0 m).sbEmit 1 m).hsb with seq := (s.hsb.seq + 1) % 2 ^ 32 } }
  else s

/-- EQ of a core is still being sent on some path (R326). -/
def State.eqSending (s : State) (core : Nat) : Bool :=
  [s.hsb.txA, s.hsb.txB].any fun x =>
    (x.q ++ (if s.tb * 1000 < x.wire then x.cur.toList else [])).any fun m => decide (m.kind = .eq ∧ m.words.head? = some core)

/-- The unit's parity: unit A even, unit B odd (R305). -/
def State.ownParity (s : State) : Nat := s.straps.hsbUnit.toNat

/-- The least number of the unit's parity above both HSB_HC and HSB_CLAIM (R307). -/
def State.nextClaim (s : State) : Nat :=
  let m := max (s.rd .hsb HSB_HC_CLAIM) (s.rd .hsb HSB_CLAIM_CLAIM)
  if (m + 1) % 2 = s.ownParity then m + 1 else m + 2

/-- The unit becomes active with its next claim, storing segment 28 as it does, unless the claims are exhausted, which
is recorded and leaves the state as it is (R307). -/
def State.takeClaim (s : State) : Option State :=
  if s.nextClaim < 2 ^ 32 then
    let c := s.nextClaim
    some ((((s.wr .hsb HSB_CLAIM_CLAIM c).wr .hsb HSB_HC_CLAIM c).dirty 28).orBits .nvs NVS_PEND_PEND (2 ^ 28))
  else none

end Sys2Proof.Machine
end

