-- ==== Sys2Proof/Machine/CanFd.lean ====
section
/-! DEFINITION. The CAN FD controllers (R415 to R427): objects, buffer, sending, receiving and error states. -/

namespace Sys2Proof.Machine

/-- Controller `c` behind its registers. -/
def State.canOf (s : State) (c : Nat) : Can := Tab.get s.can c {}

/-- The state with controller `c` replaced. -/
def State.setCan (s : State) (c : Nat) (x : Can) : State := { s with can := Tab.set (fun k => k) s.can c {} x }

/-- Message object `o` of controller `c`. -/
def State.canObj (s : State) (c o : Nat) : CanObj := Tab.get (s.canOf c).objs o {}

/-- The state with message object `o` of controller `c` replaced. -/
def State.setCanObj (s : State) (c o : Nat) (x : CanObj) : State :=
  s.setCan c { s.canOf c with objs := Tab.set (fun k => k) (s.canOf c).objs o {} x }

/-- The data length that a length code encodes under ISO 11898-1 (R424). -/
def dlcLength (dlc : Nat) : Nat :=
  match dlc with
  | 9 => 12 | 10 => 16 | 11 => 20 | 12 => 24 | 13 => 32 | 14 => 48 | 15 => 64
  | n => min n 8

/-- The identifier as compared: bits [10:0] only where IDE is 0 (R417, R427). -/
def canIdent (ide : Bool) (id : Nat) : Nat := if ide then id % 2 ^ 29 else id % 2 ^ 11

/-- CAN_TSC: whole µs of package time, modulo 2^32 (R418). -/
def State.canTsc (s : State) : Nat := s.tmb.count / 1000 % 2 ^ 32

/-- The object numbers of a controller. -/
def canObjNums : List Nat := List.range 128

/-- Object `o` is the heartbeat object of HSB_CFG while CANHB is 1 (R330, R425). -/
def State.isHeartbeatObj (s : State) (c o : Nat) : Bool :=
  s.is .hsb HSB_CTRL_CANHB && decide (s.rd .hsb HSB_CFG_CANCTL = c ∧ s.rd .hsb HSB_CFG_CANOBJ = o)

/-- Object `o` is the cap object of CAP_CFG while CANEN is 1 (R239, R425). -/
def State.isCapObj (s : State) (c o : Nat) : Bool :=
  s.is .pkgNode CAP_CFG_CANEN && decide (s.rd .pkgNode CAP_CFG_CANCTL = c ∧ s.rd .pkgNode CAP_CFG_OBJ = o)

/-- ERRST takes a value; a change raises source 122 + 8c, and entry to and return from bus-off are recorded (R422). -/
def State.setErrst (s : State) (c e : Nat) : State :=
  let o := s.rd (.can c) CAN_STAT_ERRST
  if o = e then s
  else
    let t := (s.wr (.can c) CAN_STAT_ERRST e).raiseCrown (122 + 8 * c)
    if e = 2 then t.offer Ev.CAN_BUSOFF .crown [c] else if o = 2 then t.offer Ev.CAN_RECOVERED .crown [c] else t

/-- The error state that the counts give under ISO 11898-1: bus-off at a transmit count of 256, error passive at a
count of 128 (R422, PRESUMED from the standard). -/
def errState (tec rec : Nat) : Nat := if 256 ≤ tec then 2 else if 128 ≤ max tec rec then 1 else 0

/-- The counts of a participating controller take new values, and its error state follows (R422, R427). -/
def State.setCounts (s : State) (c tec rec : Nat) : State :=
  ((s.wr (.can c) CAN_ERRCNT_TEC (min tec 255)).wr (.can c) CAN_ERRCNT_REC (min rec 255)).setErrst c (errState tec rec)

/-- The controller takes part in traffic: its die works, and it is enabled and neither bus-off nor still integrating. -/
def State.canLive (s : State) (c : Nat) : Bool :=
  decide (c < 4) && s.crownRuns && s.is (.can c) CAN_CTRL_EN && decide (s.rd (.can c) CAN_STAT_ERRST ≤ 1)

/-- A write of CAN_CTRL: leaving the bus stops a frame that has begun and returns to the not-integrated state; joining
starts there (R416, R419, R422). -/
def State.canCtrl (s : State) (c w : Nat) : State :=
  let t := ((s.wr (.can c) CAN_CTRL_LISTEN (CAN_CTRL_LISTEN.of w)).wr (.can c) CAN_CTRL_FDEN (CAN_CTRL_FDEN.of w)).wr
    (.can c) CAN_CTRL_EN (CAN_CTRL_EN.of w)
  if CAN_CTRL_EN.of w = 0 ∧ s.is (.can c) CAN_CTRL_EN then
    (t.each canObjNums fun u o => if (u.canObj c o).begun then u.setCanObj c o { u.canObj c o with begun := false } else u).setErrst c 3
  else t

/-- CAN_ENABLE: a write of `w` to CAN_CTRL of controller `c` (R416). -/
def execCanEnable (c w : Nat) (s : State) : Host.Outcome State Fault Refusal := .next (if c < 4 then s.canCtrl c w else s)

/-- CAN_INTEGRATED: an enabled controller has seen the bus idle and becomes error active (R422). -/
def execCanIntegrated (c : Nat) (s : State) : Host.Outcome State Fault Refusal :=
  .next (if c < 4 ∧ s.is (.can c) CAN_CTRL_EN ∧ s.rd (.can c) CAN_STAT_ERRST = 3 then
    ((s.wr (.can c) CAN_ERRCNT_TEC 0).wr (.can c) CAN_ERRCNT_REC 0).setErrst c 0 else s)

/-! ### Receiving -/

/-- The enabled receive object whose format and identifier equal the frame's (R417). -/
def State.canMatch (s : State) (c : Nat) (f : CanFrame) : Option Nat :=
  canObjNums.find? fun o =>
    let x := s.canObj c o
    x.en && !x.dir && x.ide == f.ide && canIdent x.ide x.id == canIdent f.ide f.id

/-- The frame is a heartbeat of the peer: its identifier differs from the heartbeat object's only in bit 0 (R425). -/
def State.isPeerHeartbeat (s : State) (c : Nat) (f : CanFrame) : Bool :=
  canObjNums.any fun o =>
    let x := s.canObj c o
    s.isHeartbeatObj c o && x.ide == f.ide && decide (canIdent x.ide x.id / 2 = canIdent f.ide f.id / 2)

/-- A frame is stored in a receive object (R417, R418). -/
def CanObj.take (x : CanObj) (f : CanFrame) : CanObj :=
  { x with data := (f.data.take (dlcLength f.dlc)).map (· % 256), rxdlc := f.dlc, rxfdf := f.fdf, rxbrs := f.brs, ts := f.sofUs % 2 ^ 32,
           lost := x.lost || x.isNew, isNew := true, refreshed := true }

/-- A valid frame ends at a controller: the receive count falls, and the frame is stored, counted in NOMATCH, or left
to the hot-standby block (R417, R422, R425). ISO 11898-1 sets a count above 127 to between 119 and 127: a free value. -/
def State.canFrameRx (s : State) (c : Nat) (f : CanFrame) : State :=
  let r := s.rd (.can c) CAN_ERRCNT_REC
  let (n, t) := s.freeNat
  let t := if 127 < r then t.setCounts c (s.rd (.can c) CAN_ERRCNT_TEC) (119 + n % 9) else s.setCounts c (s.rd (.can c) CAN_ERRCNT_TEC) (r - 1)
  if f.remote then t.bump (.can c) CAN_NOMATCH_COUNT
  else if t.isPeerHeartbeat c f then t
  else
    match t.canMatch c f with
    | some o => (t.setCanObj c o ((t.canObj c o).take f)).raiseCrown (120 + 8 * c)
    | none => t.bump (.can c) CAN_NOMATCH_COUNT

/-- CAN_FRAME_RX: a valid frame is received by controller `c`; with FDEN 0 an FD frame is a form error instead, which
CAN_RX_ERROR brings (R417, R427). -/
def execCanFrameRx (c : Nat) (f : CanFrame) (s : State) : Host.Outcome State Fault Refusal :=
  .next (if s.canLive c && (s.is (.can c) CAN_CTRL_FDEN || !f.fdf) then s.canFrameRx c f else s)

/-- CAN_RX_ERROR: an error of a kind (LASTERR code) in a frame being received; the receive count rises by 1, or by 8
where ISO 11898-1 has it so (R422). -/
def execCanRxError (c kind : Nat) (eight : Bool) (s : State) : Host.Outcome State Fault Refusal :=
  .next (if s.canLive c then
    (s.wr (.can c) CAN_ERRCNT_LASTERR kind).setCounts c (s.rd (.can c) CAN_ERRCNT_TEC)
      (s.rd (.can c) CAN_ERRCNT_REC + if eight then 8 else 1) else s)

/-! ### Sending -/

/-- The identifier an object sends with: the heartbeat object's bit 0 is the HSB_UNIT strap (R425). -/
def State.canSendId (s : State) (c o : Nat) : Nat :=
  let x := s.canObj c o
  let i := canIdent x.ide x.id
  if s.isHeartbeatObj c o then i / 2 * 2 + s.straps.hsbUnit.toNat else i

/-- The arbitration order of a pending frame under ISO 11898-1: 11 base bits, then a base frame before an extended one,
then the 18 extension bits; the least wins (R419). -/
def State.arbKey (s : State) (c o : Nat) : Nat :=
  let x := s.canObj c o
  let i := s.canSendId c o
  if x.ide then i / 2 ^ 18 * 2 ^ 19 + 2 ^ 18 + i % 2 ^ 18 else i * 2 ^ 19

/-- Object `o` is pending and may be sent: an enabled transmit object with TXREQ whose frame has not begun; outside role
active a strapped unit sends only its heartbeat object (R304, R419). -/
def State.canReady (s : State) (c o : Nat) : Bool :=
  let x := s.canObj c o
  x.en && x.dir && x.txreq && !x.begun && (s.mayDrive || s.isHeartbeatObj c o)

/-- The pending object the controller starts: the one that wins arbitration, the lower number on equal identifiers
(R419). -/
def State.canChoice (s : State) (c : Nat) : Option Nat :=
  canObjNums.foldl (fun b o =>
    if s.canReady c o then
      match b with
      | none => some o
      | some p => if s.arbKey c o < s.arbKey c p then some o else some p
    else b) none

/-- An object's frame goes out as an FD frame: its FDF is 1 and the controller sends FD frames; while FDEN is 0 it goes
out as a Classical frame (R415, R427; DESIGN CHOICE, log 199). -/
def State.canFdf (s : State) (c o : Nat) : Bool := (s.canObj c o).fdf && s.is (.can c) CAN_CTRL_FDEN

/-- The frame of an object: format, bit-rate switch, identifier, length code and as many data bytes as the code gives, at
most 8 in a Classical frame (R415, R424, R427). -/
def State.canFrameOf (s : State) (c o : Nat) : OutMsg :=
  let x := s.canObj c o
  let n := if s.canFdf c o then dlcLength x.dlc else min (dlcLength x.dlc) 8
  .canFrame c x.ide (s.canFdf c o) (s.canFdf c o && x.brs) (s.canSendId c o) x.dlc (x.data.take n ++ List.replicate (n - x.data.length) 0)

/-- CAN_TX_START: controller `c` starts the pending frame that wins, stamping the start-of-frame time; a nap entry lets none
begin (R418, R419, R426, R511). -/
def execCanTxStart (c : Nat) (s : State) : Host.Outcome State Fault Refusal :=
  .next (if s.canLive c && s.portsUp && !s.is (.can c) CAN_CTRL_LISTEN && !(canObjNums.any fun o => (s.canObj c o).begun) then
    match s.canChoice c with
    | some o =>
      let x := s.canObj c o
      (s.setCanObj c o { x with begun := true, sofTs := s.canTsc }).emit (s.canFrameOf c o)
    | none => s
    else s)

/-- The object's content as a WRITE copies it: CFG, ID, IMG and data of the buffer (R426). -/
def CanObj.write (x b : CanObj) : CanObj :=
  { x with en := b.en, dir := b.dir, ide := b.ide, fdf := b.fdf, brs := b.brs, dlc := b.dlc, imgen := b.imgen, id := b.id,
           point := b.point, data := b.data }

/-- The object whose frame has begun. -/
def State.canBegun (s : State) (c : Nat) : Option Nat := canObjNums.find? fun o => (s.canObj c o).begun

/-- An object write as a list of numbers, for the write held while a frame has begun (R421). -/
def CanObj.pack (x : CanObj) : List Nat :=
  [x.en.toNat, x.dir.toNat, x.ide.toNat, x.fdf.toNat, x.brs.toNat, x.dlc, x.imgen.toNat, x.id, x.point] ++ x.data
def CanObj.unpack (l : List Nat) : CanObj :=
  { en := l.getD 0 0 != 0, dir := l.getD 1 0 != 0, ide := l.getD 2 0 != 0, fdf := l.getD 3 0 != 0, brs := l.getD 4 0 != 0,
    dlc := l.getD 5 0, imgen := l.getD 6 0 != 0, id := l.getD 7 0, point := l.getD 8 0, data := l.drop 9 }

/-- The attempt of a begun frame ends, and a held WRITE is applied (R421). -/
def CanObj.endAttempt (x : CanObj) : CanObj :=
  let y := { x with begun := false, heldWrite := none }
  match x.heldWrite with
  | some l => y.write (CanObj.unpack l)
  | none => y

/-- CAN_TX_DONE: the begun frame is sent (R419). -/
def execCanTxDone (c : Nat) (s : State) : Host.Outcome State Fault Refusal :=
  .next (if c < 4 then
    match s.canBegun c with
    | some o =>
      let x := (s.canObj c o).endAttempt
      let t := s.setCanObj c o { x with txreq := false, result := 1, ts := (s.canObj c o).sofTs }
      (t.setCounts c (t.rd (.can c) CAN_ERRCNT_TEC - 1) (t.rd (.can c) CAN_ERRCNT_REC)).raiseCrown (121 + 8 * c)
    | none => s
    else s)

/-- CAN_TX_RETRY: the begun frame loses arbitration (kind 0) or meets an error of a LASTERR kind, which raises the
transmit count by 8 unless an exception of ISO 11898-1 applies; the frame is pending again (R419, R422). -/
def execCanTxRetry (c kind : Nat) (noInc : Bool) (s : State) : Host.Outcome State Fault Refusal :=
  .next (if c < 4 then
    match s.canBegun c with
    | some o =>
      let t := s.setCanObj c o (s.canObj c o).endAttempt
      if kind = 0 then t
      else (t.wr (.can c) CAN_ERRCNT_LASTERR kind).setCounts c
        (t.rd (.can c) CAN_ERRCNT_TEC + if noInc then 0 else 8) (t.rd (.can c) CAN_ERRCNT_REC)
    | none => s
    else s)

/-- CAN_BUSOFF_RECOVERY: 128 occurrences of 11 recessive bits have been seen in bus-off (R422). -/
def execCanBusoffRecovery (c : Nat) (s : State) : Host.Outcome State Fault Refusal :=
  .next (if c < 4 ∧ s.is (.can c) CAN_CTRL_EN ∧ s.rd (.can c) CAN_STAT_ERRST = 2 then s.setCounts c 0 0 else s)

/-- CAN_BUS_STUCK: the receive input has been dominant for 8 ms (R423). -/
def execCanBusStuck (c : Nat) (s : State) : Host.Outcome State Fault Refusal :=
  .next (if c < 4 then ((s.wr (.can c) CAN_STAT_BUSSTUCK 1).raiseCrown (123 + 8 * c)).offer Ev.CAN_BUS_STUCK .crown [c] else s)

/-! ### The buffer and its commands -/

/-- The selected object is copied into the buffer, and its NEW and LOST clear (R426). -/
def State.canSelect (s : State) (c o : Nat) : State :=
  let t := s.wr (.can c) CAN_OBJSEL_OBJ o
  let x := s.canObj c o
  let t := t.setCan c { t.canOf c with buf := x }
  t.setCanObj c o { x with isNew := false, lost := false }

/-- CAN_OBJSEL: a write of object `o` to CAN_OBJSEL (R426). -/
def execCanObjsel (c o : Nat) (s : State) : Host.Outcome State Fault Refusal :=
  .next (if c < 4 then s.canSelect c (o % 128) else s)

/-- The selected object. -/
def State.canSel (s : State) (c : Nat) : Nat := s.rd (.can c) CAN_OBJSEL_OBJ

/-- Another enabled receive object has the format and identifier of `b` (R417). -/
def State.canClash (s : State) (c o : Nat) (b : CanObj) : Bool :=
  b.en && !b.dir && canObjNums.any fun p =>
    let x := s.canObj c p
    decide (p ≠ o) && x.en && !x.dir && x.ide == b.ide && canIdent x.ide x.id == canIdent b.ide b.id

/-- The WRITE command: the buffer is copied into the object, or held while its frame has begun; an enable that clashes
leaves EN at 0 and sets CFGERR (R417, R421, R426). -/
def State.canWrite (s : State) (c : Nat) : State :=
  let o := s.canSel c
  let b := (s.canOf c).buf
  let clash := s.canClash c o b
  let b := if clash then { b with en := false } else b
  let t := if clash then s.wr (.can c) CAN_STAT_CFGERR 1 else s
  let x := t.canObj c o
  if x.begun then t.setCanObj c o { x with heldWrite := some b.pack } else t.setCanObj c o (x.write b)

/-- CAN_OBJ_WRITE: the WRITE command on the selected object (R426). -/
def execCanObjWrite (c : Nat) (s : State) : Host.Outcome State Fault Refusal := .next (if c < 4 then s.canWrite c else s)

/-- The TXREQ command: a selected transmit object becomes pending (R419, R426). -/
def State.canTxreq (s : State) (c : Nat) : State :=
  let x := s.canObj c (s.canSel c)
  if x.dir then s.setCanObj c (s.canSel c) { x with txreq := true } else s

/-- CAN_OBJ_TXREQ: the TXREQ command on the selected object (R426). -/
def execCanObjTxreq (c : Nat) (s : State) : Host.Outcome State Fault Refusal := .next (if c < 4 then s.canTxreq c else s)

/-- The CANCEL command: a pending frame not begun is cancelled; a begun one is not, and the result says so (R420). -/
def State.canCancel (s : State) (c : Nat) : State :=
  let x := s.canObj c (s.canSel c)
  if x.begun then s.setCanObj c (s.canSel c) { x with result := 3 }
  else if x.txreq then s.setCanObj c (s.canSel c) { x with txreq := false, result := 2 }
  else s

/-- CAN_OBJ_CANCEL: the CANCEL command on the selected object (R420). -/
def execCanObjCancel (c : Nat) (s : State) : Host.Outcome State Fault Refusal := .next (if c < 4 then s.canCancel c else s)

/-- A write of CAN_OBJ_CMD: its bits act in the order WRITE, TXREQ, CANCEL (R426). -/
def State.canCmd (s : State) (c w : Nat) : State :=
  let t := if CAN_OBJ_CMD_WRITE.of w = 1 then s.canWrite c else s
  let t := if CAN_OBJ_CMD_TXREQ.of w = 1 then t.canTxreq c else t
  if CAN_OBJ_CMD_CANCEL.of w = 1 then t.canCancel c else t

/-- The buffer's word at a CAN_OBJ register (R426, R427). -/
def CanObj.word (x : CanObj) (o : Nat) : Nat :=
  if o = 0x104 then
    x.en.toNat + 2 * x.dir.toNat + 4 * x.ide.toNat + 8 * x.fdf.toNat + 16 * x.brs.toNat + 256 * (x.dlc % 16) + 4096 * x.imgen.toNat
  else if o = 0x108 then x.id % 2 ^ 29
  else if o = 0x10C then x.point % 2 ^ 16
  else if o = 0x110 then
    x.isNew.toNat + 2 * x.lost.toNat + 4 * x.txreq.toNat + 8 * x.begun.toNat + 16 * (x.result % 4) + 256 * (x.rxdlc % 16) +
      4096 * x.rxfdf.toNat + 8192 * x.rxbrs.toNat
  else if o = 0x114 then x.ts % 2 ^ 32
  else if 0x140 ≤ o ∧ o < 0x180 then
    let i := o - 0x140
    x.data.getD i 0 + 2 ^ 8 * x.data.getD (i + 1) 0 + 2 ^ 16 * x.data.getD (i + 2) 0 + 2 ^ 24 * x.data.getD (i + 3) 0
  else 0

/-- A list with its element `i` replaced, zeros put before it where the list is shorter. -/
def putAt (l : List Nat) (i v : Nat) : List Nat := (l ++ List.replicate (i + 1 - l.length) 0).set i v

/-- The buffer after a write of a CAN_OBJ register (R426, R427). -/
def CanObj.putWord (x : CanObj) (o w : Nat) : CanObj :=
  if o = 0x104 then
    { x with en := w.testBit 0, dir := w.testBit 1, ide := w.testBit 2, fdf := w.testBit 3, brs := w.testBit 4, dlc := bits w 8 4,
             imgen := w.testBit 12 }
  else if o = 0x108 then { x with id := bits w 0 29 }
  else if o = 0x10C then { x with point := bits w 0 16 }
  else if 0x140 ≤ o ∧ o < 0x180 then
    let i := o - 0x140
    { x with data := putAt (putAt (putAt (putAt x.data i (bits w 0 8)) (i + 1) (bits w 8 8)) (i + 2) (bits w 16 8)) (i + 3) (bits w 24 8) }
  else x

/-- A 32-bit word with bit `b` taken from object 32w + b (R427). -/
def State.canMask (s : State) (c w : Nat) (f : CanObj → Bool) : Nat :=
  (List.range 32).foldl (fun a b => if f (s.canObj c (32 * w + b)) then a + 2 ^ b else a) 0

/-- An owner (the cap sender, the heartbeat) puts data into its transmit object and requests transmission (R239, R330);
the write is held while a frame has begun (R421). -/
def State.canOwnerSend (s : State) (c o : Nat) (data : List Nat) : State :=
  let x := s.canObj c o
  if x.begun then s.setCanObj c o { x with txreq := true, heldWrite := some { x with data := data }.pack }
  else s.setCanObj c o { x with data := data, txreq := true }

end Sys2Proof.Machine
end

