-- ==== Sys2Proof/Machine/Space.lean ====
section
/-! DEFINITION. D-space (R45): where an address lies, what R48 says of it, and reads and writes through ECC (R205, R207,
R540). -/

namespace Sys2Proof.Machine

/-- The first byte of compute die n's DRAM window, and the size of its populated part and of the window (R45). -/
abbrev dramBase (n : Nat) : Nat := 0x1000000000 + n * 0x800000000
abbrev dramSize : Nat := 0x600000000
abbrev dramWindow : Nat := 0x800000000

/-- Where a D-space address lies for a requester: a memory and an offset, or the region code that refuses it (R45,
R48). -/
def State.dLoc (s : State) (r : Req) (a : Nat) : Except Nat (MemId × Nat) :=
  if a < 0x40000 then
    match r with
    | .core d k => .ok (.lram d k, a)
    | _ => .error 0xF0
  else if 0x100000000 ≤ a ∧ a < 0x101000000 then .ok (.img, a - 0x100000000)
  else if 0x200000000 ≤ a ∧ a < 0x200200000 then .ok (.ret, a - 0x200000000)
  else if dramBase 0 ≤ a ∧ a < dramBase 8 then
    let n := (a - dramBase 0) / dramWindow
    let o := (a - dramBase 0) % dramWindow
    if s.straps.dies ≤ n then .error 0xF1 else if o < dramSize then .ok (.dram n, o) else .error 0xF2
  else .error 0xF0

/-- The row of R45's map in which an address lies (R48, code 0xF4); none where it is unmapped. -/
def dRow (a : Nat) : Option Nat :=
  if a < 0x40000 then some 0
  else if 0x100000000 ≤ a ∧ a < 0x101000000 then some 1
  else if 0x200000000 ≤ a ∧ a < 0x200200000 then some 2
  else if dramBase 0 ≤ a ∧ a < dramBase 8 then
    some (3 + 2 * ((a - dramBase 0) / dramWindow) + if (a - dramBase 0) % dramWindow < dramSize then 0 else 1)
  else none

/-! ### ECC -/

/-- The unit of ECC of a memory in bytes: a DRAM line, or a word of SRAM (R205, R540). -/
def MemId.eccUnit : MemId → Nat
  | .dram _ => 64
  | _ => 4

/-- The ECC units that the bytes `[a, a + n)` touch. -/
def eccUnits (m : MemId) (a n : Nat) : List Nat :=
  if n = 0 then [] else
    let u := m.eccUnit
    (List.range ((a + n - 1) / u + 1 - a / u)).map fun i => a / u + i

/-- A correctable error is corrected, written back and counted once (R184, R207, R540). -/
def State.eccCorrect (s : State) (m : MemId) (w : Nat) : State :=
  let t := s.setEcc m w .good
  match m with
  | .dram d => (t.bump (.drc d) DRC_ECC_CORR_COUNT).raiseDie d 73
  | .lsram d j => t.bump (.lane d j) LANE_ECCCNT_COUNT
  | .ks d j _ => t.bump (.lane d j) LANE_ECCCNT_COUNT
  | _ => t

/-- An uncorrectable error is met: in DRAM it is counted and DRAM_ECC recorded with the address (R207). -/
def State.eccReport (s : State) (m : MemId) (w : Nat) : State :=
  match m with
  | .dram d => ((s.bump (.drc d) DRC_ECC_UNCORR_COUNT).raiseDie d 74).offer Ev.DRAM_ECC (.die d) (twoWords (dramBase d + 64 * w))
  | _ => s

/-- A read of bytes passes their ECC: whether it meets an uncorrectable error, and the state after corrections and
counts. -/
def State.eccRead (s : State) (m : MemId) (a n : Nat) : Bool × State :=
  let us := eccUnits m a n
  let bad := us.filter fun w => decide (s.eccOf m w = .uncorrectable)
  let fix := us.filter fun w => decide (s.eccOf m w = .correctable)
  let t := s.each fix fun t w => t.eccCorrect m w
  (!bad.isEmpty, t.each bad fun t w => t.eccReport m w)

/-- A write of bytes passes their ECC: a unit written in part is read first, and an uncorrectable error there refuses
the whole write; units written whole become good (R205, R540). -/
def State.eccWrite (s : State) (m : MemId) (a n : Nat) : Bool × State :=
  let u := m.eccUnit
  let us := eccUnits m a n
  let part := us.filter fun w => decide (w * u < a ∨ a + n < w * u + u)
  let bad := part.filter fun w => decide (s.eccOf m w = .uncorrectable)
  if bad = [] then (true, s.each us fun t w => if w ∈ part ∧ t.eccOf m w = .correctable then t.eccCorrect m w else t.setEcc m w .good)
  else (false, s.each bad fun t w => t.eccReport m w)

/-- Bytes of a memory read through ECC: the bytes, or none at an uncorrectable error. -/
def State.readBytes (s : State) (m : MemId) (a n : Nat) : Option (List Byte) × State :=
  let (bad, t) := s.eccRead m a n
  (if bad then none else some ((s.mem m).getList a n), t)

/-- Bytes written through ECC; nothing is written where the read of a partial unit fails. -/
def State.writeBytes (s : State) (m : MemId) (a : Nat) (bs : List Byte) : Bool × State :=
  let (ok, t) := s.eccWrite m a bs.length
  (ok, if ok then t.storeBytes m a bs else t)

/-- The ECC units in a state that the bytes `[a, a + n)` of a memory touch, lowest first. -/
def State.eccMarks (s : State) (m : MemId) (a n : Nat) (e : Ecc) : List Nat :=
  let u := m.eccUnit
  (s.ecc.filter fun x => decide (x.1.1 = m ∧ x.2 = e ∧ a < x.1.2 * u + u ∧ x.1.2 * u < a + n)).map fun x => x.1.2

/-- The units of the bytes `[a, a + n)`, which are written whole, become good (R540). -/
def State.wholeGood (s : State) (m : MemId) (a n : Nat) : State :=
  { s with ecc := s.ecc.filter fun e => decide (e.1.1 ≠ m ∨ e.1.2 * m.eccUnit < a ∨ a + n < e.1.2 * m.eccUnit + m.eccUnit) }

/-- The state after an engine has read the bytes `[a, a + n)` of a memory: errors are corrected and counted (R540). -/
def State.scan (s : State) (m : MemId) (a n : Nat) : State :=
  let t := s.each (s.eccMarks m a n .correctable) fun t w => t.eccCorrect m w
  t.each (s.eccMarks m a n .uncorrectable) fun t w => t.eccReport m w

/-- Bytes that an engine takes from a memory, through ECC; those of a unit with an uncorrectable error are free, since the
spec gives them no value (R540; DESIGN CHOICE, log entry 160). -/
def State.scanBytes (s : State) (m : MemId) (a n : Nat) : List Byte × State :=
  let bad := s.eccMarks m a n .uncorrectable
  let bs := (s.mem m).getList a n
  if bad = [] then (bs, s.scan m a n)
  else
    ((List.range n).map fun i => if bad.contains ((a + i) / m.eccUnit) then Config.freeByte (s.free + i) else bs.getD i 0,
     { s.scan m a n with free := s.free + n })

/-- Bytes written one ECC unit at a time: a unit written in part that holds an uncorrectable error keeps it, the others are
written (R540). -/
def State.putEach (s : State) (m : MemId) (a : Nat) (bs : List Byte) : State :=
  s.each (eccUnits m a bs.length) fun t w =>
    let lo := max a (w * m.eccUnit)
    let hi := min (a + bs.length) (w * m.eccUnit + m.eccUnit)
    (t.writeBytes m lo ((bs.drop (lo - a)).take (hi - lo))).2

/-- Bytes of D-space as an engine reads them (R45): none outside the map or at an uncorrectable error. -/
def State.engineRead (s : State) (a n : Nat) : Option (List Byte) × State :=
  match s.dLoc .engine a, s.dLoc .engine (a + n - 1) with
  | .ok (m, o), .ok (m', _) => if m = m' then s.readBytes m o n else (none, s)
  | _, _ => (none, s)

/-- A number in a list of bytes, little-endian, from byte `a`. -/
def numAt (bs : List Byte) (a n : Nat) : Nat := leNat ((bs.drop a).take n)

end Sys2Proof.Machine
end

