-- ==== Sys2Proof/Machine/Lines.lean ====
section
/-! DEFINITION. The units of the data path (ingest engines, lanes, links, thermal state) and the instants of a line at a
lane (R186, R187). Lines are named by their place in the list of announced lines. -/

namespace Sys2Proof.Machine

/-- The record of an ingest engine, a lane, a link, a die's thermal state. -/
def State.ing (s : State) (d : Nat) : Ing := Tab.get s.ings d {}
def State.setIng (s : State) (d : Nat) (v : Ing) : State := { s with ings := Tab.set (fun k => k) s.ings d {} v }
def State.lane (s : State) (d j : Nat) : Lane := Tab.get s.lanes (d, j) {}
def State.setLane (s : State) (d j : Nat) (v : Lane) : State := { s with lanes := Tab.set pairCode s.lanes (d, j) {} v }
def State.link (s : State) (d m : Nat) : Link := Tab.get s.links (d, m) {}
def State.setLink (s : State) (d m : Nat) (v : Link) : State := { s with links := Tab.set pairCode s.links (d, m) {} v }
def State.thermOf (s : State) (d : Nat) : Therm := Tab.get s.therm d {}
def State.setTherm (s : State) (d : Nat) (v : Therm) : State := { s with therm := Tab.set (fun k => k) s.therm d {} v }

/-- The die block of the admitted job for die d, if the die takes part. -/
def State.dieJob (s : State) (d : Nat) : Option DieJob :=
  match s.job.job with
  | some j => j.dies.find? fun b => decide (b.die = d)
  | none => none

/-- Group count of lane j in a die block; 0 where the lane takes no part. -/
def DieJob.n (b : DieJob) (j : Nat) : Nat := b.laneN.getD j 0

/-- The lanes of a die block. -/
def DieJob.lanes (b : DieJob) : List Nat := (List.range 12).filter fun j => decide (b.n j ≠ 0)

/-- The lane belongs to the admitted job. -/
def State.laneInJob (s : State) (d j : Nat) : Bool :=
  match s.dieJob d with
  | some b => decide (b.n j ≠ 0)
  | none => false

/-- Every lane of the admitted job. -/
def State.jobLanes (s : State) : List (Nat × Nat) :=
  match s.job.job with
  | some j => j.dies.flatMap fun b => b.lanes.map fun l => (b.die, l)
  | none => []

/-- Package time in ps. -/
def State.ps (s : State) : Int := s.tmb.count * 1000

/-- A line by its place. -/
def State.lineAt (s : State) (i : Nat) : Line := s.lines.getD i { n := 0, f := 0, at_ := 0 }

/-- The number of the line of a place: as announced, or as the generator will number it (R214, R440). -/
def State.lineNo (s : State) (i : Nat) : Nat :=
  if i < s.lines.length then (s.lineAt i).n else (s.tmb.nextN + (i - s.lines.length)) % 2 ^ 32

/-- The next lines are numbered: the generator runs, or follows the lines of the active unit (R317, R440). -/
def State.linesNumbered (s : State) : Bool :=
  if s.is .tmb TMB_STAT_FOLLOW then !s.lines.isEmpty else s.is .tmb TMB_CTRL_LINEEN

/-- S(n) at a lane, in ps; a line announced after its S takes the instant of announcement (R186). -/
def State.lineS (s : State) (d j i : Nat) : Int :=
  max ((s.lineAt i).f - s.rd (.lane d j) LANE_LEAD_NS * 1000 : Int) ((s.lineAt i).at_ * 1000)

/-- E(n) at a lane, in ps (R186). -/
def State.lineE (s : State) (d j i : Nat) : Int := (s.lineAt i).f - s.rd (.lane d j) LANE_FIN_NS * 1000

/-- D(n) at a lane, in ns modulo 2^32 (R186, R246). -/
def State.lineD (s : State) (d j i : Nat) : Nat :=
  ofSigned 32 (((s.lineAt i).f - s.rd (.lane d j) LANE_LINKBUD_NS * 1000 : Int) / 1000)

/-- The lane handles the line: its S falls after RUN = 1 took effect (R187). -/
def State.handles (s : State) (d j i : Nat) : Bool :=
  match (s.lane d j).runAt with
  | some t => decide ((t : Int) * 1000 < s.lineS d j i)
  | none => false

/-- The first line, from place `i` on, for which `p` holds. -/
def firstFrom (p : Nat → Bool) : Nat → Nat → Option Nat
  | _, 0 => none
  | i, n + 1 => if p i then some i else firstFrom p (i + 1) n

/-- The first announced line that a lane handles and has not finished. -/
def State.laneNext (s : State) (d j : Nat) : Option Nat :=
  firstFrom (s.handles d j) (s.lane d j).finished (s.lines.length - (s.lane d j).finished)

/-- The last announced line with a number, by place. -/
def lastPlace (n : Nat) : List Line → Nat → Option Nat → Option Nat
  | [], _, r => r
  | l :: ls, i, r => lastPlace n ls (i + 1) (if l.n = n then some i else r)

/-- The place of the last announced line with a number. -/
def State.placeOf (s : State) (n : Nat) : Option Nat := lastPlace (n % 2 ^ 32) s.lines 0 none

/-- The place that a line to come with a number will take. -/
def State.futurePlace (s : State) (n : Nat) : Nat := s.lines.length + (n % 2 ^ 32 + 2 ^ 32 - s.tmb.nextN) % 2 ^ 32

/-- The next line takes a number. Where it is not the number expected, what the engines have filled ahead is for no line to
come, and job line 0 of a started job is looked for again (R215, R440). -/
def State.renumber (s : State) (n : Nat) : State :=
  if s.tmb.nextN = n then s
  else
    let len := s.lines.length
    let t := { s with
      tmb := { s.tmb with nextN := n }
      ings := s.ings.map fun e => (e.1, { e.2 with
        done := e.2.done.map fun x => (x.1, min x.2 len), failed := e.2.failed.filter fun x => decide (x.2 ≤ len) })
      lanes := s.lanes.map fun e => (e.1, { e.2 with src := e.2.src.filter fun x => decide (x.2 ≤ len) }) }
    if len < s.job.first then
      let s0 := s.rd .pkgNode JOB_START_LINE
      { t with job := { t.job with first := if toSigned 32 (s0 + 2 ^ 32 - n) < 0 then len else t.futurePlace s0 } }
    else t

end Sys2Proof.Machine
end

