-- ==== Sys2Proof/Machine/Timebase.lean ====
section
/-! DEFINITION. The package timebase, its references and the line generator (R437 to R446, R539, R544). Line instants
and periods are held in ps. -/

namespace Sys2Proof.Machine

/-- A job is admitted: JOB_STAT.STATE is not NONE. -/
def State.jobAdmitted (s : State) : Bool := decide (s.rd .pkgNode JOB_STAT_STATE ≠ 0)

/-- The references as TMB_STAT codes them. -/
abbrev refFree : Nat := 0
abbrev refPtp : Nat := 1
abbrev refEnc : Nat := 2

/-- The valid and qualified bits of a reference; free-running has neither field and always holds (R441). -/
def State.refValid (s : State) (r : Nat) : Bool :=
  if r = 2 then s.is .tmb TMB_STAT_ENCVAL else if r = 1 then s.is .tmb TMB_STAT_PTPVAL else true
def State.refQual (s : State) (r : Nat) : Bool :=
  if r = 2 then s.is .tmb TMB_STAT_ENCQUAL else if r = 1 then s.is .tmb TMB_STAT_PTPQUAL else true
def State.setQual (s : State) (r : Nat) (v : Bool) : State :=
  if r = 2 then s.wrB .tmb TMB_STAT_ENCQUAL v else if r = 1 then s.wrB .tmb TMB_STAT_PTPQUAL v else s
def State.refSince (s : State) (r : Nat) : Nat := if r = 2 then s.tmb.encSince else s.tmb.ptpSince
def State.setSince (s : State) (r t : Nat) : State :=
  if r = 2 then { s with tmb := { s.tmb with encSince := t } }
  else if r = 1 then { s with tmb := { s.tmb with ptpSince := t } } else s

/-- A reference becomes valid at this instant, if it was not (R441). -/
def State.makeValid (s : State) (r : Nat) : State :=
  if s.refValid r then s
  else (if r = 2 then s.wr .tmb TMB_STAT_ENCVAL 1 else if r = 1 then s.wr .tmb TMB_STAT_PTPVAL 1 else s).setSince r s.tb

/-- The best qualified reference (R441, R443). -/
def State.bestRef (s : State) : Nat := if s.refQual 2 then 2 else if s.refQual 1 then 1 else 0

/-- The encoder's latest grid instant and period in ps: quadrature over AVG instants, or the last LINE event; none while
it gives no grid (R441, R445). -/
def State.encGrid (s : State) : Option (Nat × Nat) :=
  if s.is .tmb TMB_ENC_SRC then
    match s.tmb.lineAt with
    | some _ => if s.tmb.linePer = 0 then none else some (s.tmb.lineT * 1000, s.tmb.linePer)
    | none => none
  else
    let n := s.rd .tmb TMB_ENC_AVG
    match s.tmb.encGrid with
    | [] => none
    | g :: gs =>
      match gs[n - 1]? with
      | some g' => if g ≤ g' then none else some (g, (g - g') / n)
      | none => none

/-- Origin and period of a reference's grid, in ps (R441). -/
def State.grid (s : State) (r : Nat) : Option (Nat × Nat) :=
  if r = 2 then s.encGrid
  else if r = 1 then
    some ((s.rd .tmb TMB_EPOCH_LO_NS + s.rd .tmb TMB_EPOCH_HI_NS * 2 ^ 32) * 1000, s.rd .tmb TMB_PNOM_PS)
  else none

/-- The first instant of a grid at or after `t`. -/
def gridAfter (o p t : Nat) : Nat := if p = 0 then t else if o ≤ t then o + (t - o + p - 1) / p * p else o - (o - t) / p * p

/-- The signed distance from the nearest grid instant to `t`. -/
def gridError (o p t : Nat) : Int :=
  if p = 0 then 0
  else
    let r := ((t : Int) - o) % p
    if 2 * r ≤ p then r else r - p

/-- A switch completes: REF takes the target, and what has not stayed qualified from its start begins its qualification again
(R443, R539). -/
def State.finishSwitch (s : State) (target : Nat) : State :=
  let t := (((s.wr .tmb TMB_STAT_REF target).wr .tmb TMB_STAT_SWITCHING 0).wr .tmb TMB_STAT_HOLDOVER 0).bump .tmb TMB_SWCNT_COUNT
  let t := t.each [1, 2] fun u r => if r = target ∨ r ∈ s.tmb.kept then u else (u.setQual r false).setSince r u.tb
  t.offer Ev.REF_SWITCH .crown [target]

/-- A switch to a target starts; without lines to steer it completes at once and only source 160 rises (R443, R539). -/
def State.startSwitch (s : State) (target : Nat) : State :=
  let s := { s with tmb := { s.tmb with kept := [1, 2].filter s.refQual } }
  if s.is .tmb TMB_CTRL_LINEEN then
    let ps := s.tmb.periods
    let held := if ps = [] then s.rd .tmb TMB_PNOM_PS else ps.sum / ps.length
    let t := ((s.wr .tmb TMB_STAT_TARGET target).wr .tmb TMB_STAT_SWITCHING 1).wr .tmb TMB_STAT_HOLDOVER 1
    ({ t with tmb := { t.tmb with heldP := held, swLines := 0, swGood := 0 } }.raiseCrown 160).raiseCrown 161
  else (s.wr .tmb TMB_STAT_TARGET target).finishSwitch target |>.raiseCrown 160

/-- A reference becomes invalid or loses its enable: it loses qualification, and if it is the present reference a switch
to the best qualified one starts; the target of a running switch becomes free-running (R441, R443). -/
def State.loseRef (s : State) (r : Nat) : State :=
  let t := if r = 2 then (s.wr .tmb TMB_STAT_ENCVAL 0).wr .tmb TMB_STAT_ENCQUAL 0 else (s.wr .tmb TMB_STAT_PTPVAL 0).wr .tmb TMB_STAT_PTPQUAL 0
  let t := { t with tmb := { t.tmb with kept := t.tmb.kept.filter (· ≠ r) } }
  if s.is .tmb TMB_STAT_FOLLOW then t
  else if s.is .tmb TMB_STAT_SWITCHING then
    if s.rd .tmb TMB_STAT_TARGET = r then (t.wr .tmb TMB_STAT_HOLDOVER 1).wr .tmb TMB_STAT_TARGET 0 else t
  else if s.rd .tmb TMB_STAT_REF = r then t.startSwitch t.bestRef
  else t

/-- The condition under which a reference counts as invalid at this instant (R441). -/
def State.refBroken (s : State) (r : Nat) : Bool :=
  if r = 2 then
    !s.is .tmb TMB_CTRL_ENCEN ||
      if s.is .tmb TMB_ENC_SRC then
        match s.tmb.lineAt with
        | some a => decide (s.tmb.linePer ≠ 0 ∧ a + 1000000 ≤ s.tb)
        | none => true
      else s.tmb.encBad
  else if r = 1 then !s.is .tmb TMB_CTRL_PTPEN || decide (1000 < (toSigned 32 (s.rd .tmb TMB_PTPOFS_NS)).natAbs)
  else false

/-- REF_INVALID: reference `r` (1 PTP, 2 encoder) has become invalid (R443). -/
def execRefInvalid (r : Nat) (s : State) : Host.Outcome State Fault Refusal :=
  .next (if s.refValid r && s.refBroken r then s.loseRef r else s)

/-- REF_QUALIFIED: reference `r` has been valid for 64 ms without a break; a better one than REF is switched to while no
switch runs (R441, R443). -/
def execRefQualified (r : Nat) (s : State) : Host.Outcome State Fault Refusal :=
  .next (if (r = 1 ∨ r = 2) ∧ s.refValid r ∧ ¬ s.refQual r ∧ s.refSince r + 64000000 ≤ s.tb then
    let t := s.setQual r true
    if ¬ s.is .tmb TMB_STAT_FOLLOW ∧ ¬ s.is .tmb TMB_STAT_SWITCHING ∧ s.rd .tmb TMB_STAT_REF < r then t.startSwitch r else t
    else s)

/-! ### The count -/

/-- The count steps to a value, which is recorded (R438). A backward step ends what an earlier forward step has passed over
(R137). -/
def State.tbStep (s : State) (v : Nat) : State :=
  let v := v % 2 ^ 64
  let m := { s.tmb with count := v }
  let m := if s.tmb.count < v then { m with stepTo := v } else if v < s.tmb.count then { m with stepTo := 0, backs := m.backs + 1 } else m
  { s with tmb := m }.offer Ev.TB_STEP .crown

/-- A write of TMB_CTRL.SET steps the count, or is refused while a job is admitted (R438). -/
def State.tmbSet (s : State) : State :=
  if s.jobAdmitted then (s.wr .tmb TMB_STAT_STEPREF 1).offer Ev.TB_STEP_REFUSED .crown
  else s.tbStep (s.rd .tmb TMB_SET_LO_NS + s.rd .tmb TMB_SET_HI_NS * 2 ^ 32)

/-- TMB_SET: a write of 1 to TMB_CTRL.SET (R438). -/
def execTmbSet (s : State) : Host.Outcome State Fault Refusal := .next s.tmbSet

/-- A PTP message has been handled with a measured offset from the master, in ns: more than 1 ms is removed by a step
while no job is admitted; else the rate is disciplined, by at most 200 ppm, or 100 ppm for such an offset during a job.
The rate the crown core picks is a free value inside those bounds (R438, R439). -/
def State.ptpMessage (s : State) (ofs : Int) : State :=
  let sat := max (-(2 ^ 31 : Int)) (min (2 ^ 31 - 1) ofs)
  let t := s.wr .tmb TMB_PTPOFS_NS (ofSigned 32 sat)
  let far := decide (1000000 < ofs.natAbs)
  let t :=
    if far && !s.jobAdmitted then
      ({ t with tmb := { t.tmb with rate := 0 } }.tbStep (ofSigned 64 ((s.tmb.count : Int) - ofs)))
    else
      let (n, u) := t.freeNat
      let b : Nat := if far then 100000 else 200000
      { u with tmb := { u.tmb with rate := (n % (2 * b + 1) : Int) - b } }
  if ofs.natAbs ≤ 1000 then t.makeValid 1 else if t.refValid 1 then t.loseRef 1 else t

/-- A frame is received and its timestamp captured at the Ethernet MAC of TMB_PTP (R341, R439). -/
def State.macFrame (s : State) : State :=
  let i := s.rd .tmb TMB_PTP_MAC
  (s.raiseCrown (152 + 4 * i)).raiseCrown (154 + 4 * i)

/-- PTP_MESSAGE: a PTP message arrives and gives an offset from the master (R439), which has no effect while PTPEN is 0. -/
def execPtpMessage (ofs : Int) (s : State) : Host.Outcome State Fault Refusal :=
  .next (if s.is .tmb TMB_CTRL_PTPEN then s.macFrame.ptpMessage ofs else s.macFrame)

/-- A read of TMB_TIME_LO freezes TMB_TIME_HI (R446). -/
def State.tmbTimeLo (s : State) : Nat × State :=
  (s.tmb.count % 2 ^ 32, { s with tmb := { s.tmb with frozenHi := some (s.tmb.count / 2 ^ 32 % 2 ^ 32) } })

/-- TMB_TIME_LO_READ: a read of TMB_TIME_LO (R446). -/
def execTmbTimeLoRead (s : State) : Host.Outcome State Fault Refusal := .next s.tmbTimeLo.2

/-- A read of TMB_TIME_HI returns the frozen value and ends the freeze, or the live value (R446). -/
def State.tmbTimeHi (s : State) : Nat × State :=
  (s.tmb.frozenHi.getD (s.tmb.count / 2 ^ 32 % 2 ^ 32), { s with tmb := { s.tmb with frozenHi := none } })

/-! ### Encoder -/

/-- A qualified edge of fast input 0 or 1 at an instant in ps reaches the quadrature decoder: the count moves, a multiple
of DIV is a grid instant, and both inputs changing within 50 ns is a quadrature error (R441). -/
def State.encoderEdge (s : State) (input : Nat) (level : Bool) (atPs : Nat) : State :=
  let a := if input = 0 then level else s.tmb.encA
  let b := if input = 1 then level else s.tmb.encB
  let fwd := if input = 0 then xor a s.tmb.encB else !xor b s.tmb.encA
  let fwd := xor fwd (s.is .tmb TMB_ENC_INV)
  let cnt := s.tmb.encCnt + if fwd then 1 else -1
  let both := decide (s.tmb.encLastEdge % 4 = 1 - input ∧ s.tmb.encLastEdge ≠ 0 ∧ atPs < s.tmb.encLastEdge / 4 + 50000)
  let g := if cnt % (s.rd .tmb TMB_ENC_DIV : Int) = 0 then (atPs :: s.tmb.encGrid).take 64 else s.tmb.encGrid
  let t := { s with tmb := { s.tmb with encA := a, encB := b, encCnt := cnt, encGrid := g, encLastEdge := 4 * atPs + input } }
  if both ∧ s.is .tmb TMB_CTRL_ENCEN ∧ ¬ s.is .tmb TMB_ENC_SRC then
    let t := { t with tmb := { t.tmb with encBad := true } }.wr .tmb TMB_STAT_ENCERR 1
    if t.refValid 2 then t.loseRef 2 else t
  else t

/-- A LINE event arrives with T and a period in ps (R445): T is taken as the instant nearest to now with those low 32
bits. -/
def State.lineEvent (s : State) (t32 per : Nat) : State :=
  let d := toSigned 32 ((t32 + 2 ^ 32 - s.tmb.count % 2 ^ 32) % 2 ^ 32)
  let t := { s with tmb := { s.tmb with lineT := ((s.tmb.count : Int) + d).toNat, linePer := per, lineAt := some s.tb } }
  if s.is .tmb TMB_CTRL_ENCEN ∧ s.is .tmb TMB_ENC_SRC then t.makeValid 2 else t

/-! ### Lines -/

/-- The generator's lines start or stop: LINERUN changes, source 162 rises, and the change is recorded (R440). -/
def State.lineRun (s : State) (on : Bool) : State :=
  if s.is .tmb TMB_STAT_LINERUN = on then s
  else ((s.wrB .tmb TMB_STAT_LINERUN on).raiseCrown 162).offer (if on then Ev.LINE_START else Ev.LINE_STOP) .crown

/-- The encoder gives no lines at present: no grid, or a period above 10^9 ÷ TMB_MINRATE ns. Quadrature that passes no
grid instant for so long has stopped too: a cut cable looks like a stopped web (R442; DEDUCED, log 201). -/
def State.encStopped (s : State) : Bool :=
  match s.encGrid with
  | none => true
  | some (g, p) =>
    decide (10 ^ 12 < p * s.rd .tmb TMB_MINRATE_HZ) ||
      !s.is .tmb TMB_ENC_SRC && decide (10 ^ 12 < (s.tmb.count * 1000 - g) * s.rd .tmb TMB_MINRATE_HZ)

/-- A write of LINEEN = 1 fixes the first line and its F (R440). -/
def State.lineEnable (s : State) : State :=
  if s.is .tmb TMB_CTRL_LINEEN then s
  else
    let t0 := (s.tmb.count + s.rd .tmb TMB_ANN_NS + 1000) * 1000
    let r := s.rd .tmb TMB_STAT_REF
    let f := if r = 0 then some t0
      else if r = 2 ∧ s.encStopped then none
      else (s.grid r).map fun g => gridAfter g.1 g.2 t0
    let t := (s.wr .tmb TMB_CTRL_LINEEN 1).renumber (s.rd .tmb TMB_LINE_NEXT_LINE)
    { t with tmb := { t.tmb with nextF := f, periods := [] } }

/-- LINE_ENABLE: a write of LINEEN = 1 (R440). -/
def execLineEnable (s : State) : Host.Outcome State Fault Refusal := .next s.lineEnable

/-- A write of LINEEN = 0 ends announcements and completes any running switch (R440, R443). -/
def State.lineDisable (s : State) : State :=
  if s.is .tmb TMB_CTRL_LINEEN then
    let t := s.wr .tmb TMB_CTRL_LINEEN 0
    let t := { t with tmb := { t.tmb with nextF := none } }.lineRun false
    if s.is .tmb TMB_STAT_SWITCHING then (t.finishSwitch (s.rd .tmb TMB_STAT_TARGET)).raiseCrown 160 else t
  else s

/-- LINE_DISABLE: a write of LINEEN = 0 (R440). -/
def execLineDisable (s : State) : Host.Outcome State Fault Refusal := .next s.lineDisable

/-- A reference whose condition holds after a write of its settings is valid from this instant; one whose condition no
longer holds is invalid (R441). -/
def State.refsCheck (s : State) : State :=
  s.each [1, 2] fun t r => if t.refBroken r then (if t.refValid r then t.loseRef r else t) else t.makeValid r

/-- A write of TMB_CTRL: PTPEN and ENCEN as written, then LINEEN, then SET (R438, R440, R441). -/
def State.tmbCtrl (s : State) (w : Nat) : State :=
  let p := TMB_CTRL_PTPEN.of w
  let e := TMB_CTRL_ENCEN.of w
  let t := (s.wr .tmb TMB_CTRL_PTPEN p).wr .tmb TMB_CTRL_ENCEN e
  let t := if e = 1 ∧ ¬ s.is .tmb TMB_CTRL_ENCEN then { t with tmb := { t.tmb with encBad := false } } else t
  let t := t.refsCheck
  let t := if TMB_CTRL_LINEEN.of w = 1 then t.lineEnable else t.lineDisable
  if TMB_CTRL_SET.of w = 1 then t.tmbSet else t

/-- The 0.05 % of a period by which steering may move a line (R443, R544). -/
def steer (p : Nat) (e : Int) : Nat := if 0 ≤ e then p - min e.natAbs (p / 2000) else p + min e.natAbs (p / 2000)

/-- The period that the line after one at `f` takes, and the state of the switch after that line (R443, R544). -/
def State.nextPeriod (s : State) (f : Nat) : Nat × State :=
  let pn := s.rd .tmb TMB_PNOM_PS
  let tgt := s.rd .tmb TMB_STAT_TARGET
  if s.is .tmb TMB_STAT_SWITCHING then
    if s.is .tmb TMB_STAT_HOLDOVER ∧ (s.tmb.swLines = 0 ∨ ¬ s.refValid tgt) then
      (s.tmb.heldP, { s with tmb := { s.tmb with swLines := s.tmb.swLines + 1 } })
    else if tgt = 0 then
      let last := s.tmb.periods.headD s.tmb.heldP
      let p := if last ≤ pn then min pn (last + last / 2000) else max pn (last - last / 2000)
      let t := s.wr .tmb TMB_STAT_HOLDOVER 0
      (p, if p = pn then t.finishSwitch 0 else t)
    else
      match s.grid tgt with
      | none => (s.tmb.heldP, s)
      | some (o, p) =>
        let e := gridError o p f
        let good := if e.natAbs ≤ 20000 then s.tmb.swGood + 1 else 0
        let t := { s.wr .tmb TMB_STAT_HOLDOVER 0 with tmb := { s.tmb with swGood := good } }
        (steer p e, if 16 ≤ good then t.finishSwitch tgt else t)
  else
    match s.grid (s.rd .tmb TMB_STAT_REF) with
    | none => (pn, s)
    | some (o, p) => (steer p (gridError o p f), s)

/-- The phase error of a line against the grid it is steered to (R446). -/
def State.lineError (s : State) (f : Nat) : Int :=
  match s.grid (if s.is .tmb TMB_STAT_SWITCHING then s.rd .tmb TMB_STAT_TARGET else s.rd .tmb TMB_STAT_REF) with
  | none => 0
  | some (o, p) => gridError o p f

/-- The registers show a line as the last announced (R446). -/
def State.showLine (s : State) (n f : Nat) : State :=
  (((s.wr .tmb TMB_LINE_NUM_LINE n).wr .tmb TMB_LINE_F_NS (f / 1000)).wr .tmb TMB_PHERR_NS (ofSigned 32 (s.lineError f / 1000))).lineRun true

/-- The generator at this instant: the line it announces, if one is due, with its F in ps, and the state after
(R440, R442). A period below 1,000 ns is taken as 1,000 ns. -/
def State.generate (s : State) : Option (Nat × Nat) × State :=
  if ¬ s.is .tmb TMB_CTRL_LINEEN ∨ s.is .tmb TMB_STAT_FOLLOW then (none, s)
  else if ¬ s.is .tmb TMB_STAT_SWITCHING ∧ s.rd .tmb TMB_STAT_REF = 2 ∧ s.encStopped then
    (none, { s with tmb := { s.tmb with nextF := none } }.lineRun false)
  else
    let ann := s.rd .tmb TMB_ANN_NS * 1000
    let f := s.tmb.nextF.getD
      (match s.grid (s.rd .tmb TMB_STAT_REF) with
        | none => s.tmb.count * 1000 + ann
        | some (o, p) => gridAfter o p (s.tmb.count * 1000 + ann))
    if s.tmb.count * 1000 + ann < f then (none, { s with tmb := { s.tmb with nextF := some f } })
    else
      let n := s.tmb.nextN
      let (p, t) := (s.showLine n f).nextPeriod f
      let p := max p 1000000
      (some (n, f), { t with tmb := { t.tmb with nextF := some (f + p), nextN := (n + 1) % 2 ^ 32, periods := (p :: t.tmb.periods).take 16 } })

end Sys2Proof.Machine
end

