-- ==== Sys2Proof/Machine/FieldIo.lean ====
section
/-! DEFINITION. The field die's inputs, load switches, supply groups, keep watchdog (R392 to R414) and the drive rule of
the claim exchange line (R337). -/

namespace Sys2Proof.Machine

/-! ### Supply groups -/

/-- The state of supply group `g` as FSUP_STAT codes it: 0 NORMAL, 1 LOW, 2 MISSING (R414). -/
def State.supply (s : State) (g : Nat) : Nat := if g = 0 then s.rd .sup FSUP_STAT_G0 else s.rd .sup FSUP_STAT_G1

/-- The group counts as MISSING; after a package reset other than power-on the reading alone does not, in a group that was not
MISSING before (R408, R414). -/
def State.missing (s : State) (g : Nat) : Bool :=
  decide (s.supply g = 2) && !(if g = 0 then s.field.readOnly0 else s.field.readOnly1)

/-- The next state of a group under a measured voltage in mV (R393). -/
def supplyNext (st : Nat) (mv : Int) : Nat :=
  if st = 2 then (if 11000 < mv then 1 else 2)
  else if mv < 10000 then 2
  else if st = 0 then (if mv < 19200 then 1 else 0)
  else if 19600 < mv then 0 else 1

/-! ### Load switches -/

/-- The phases of LSW_CHc_STAT.PHASE (R413). -/
abbrev phOFF : Nat := 0
abbrev phTURNON : Nat := 1
abbrev phON : Nat := 2
abbrev phTURNOFF : Nat := 3
abbrev phHELDOFF : Nat := 4

/-- The supply group of a channel, and of an input (R392). -/
def chanGroup (c : Nat) : Nat := c / 8
def inputGroup (i : Nat) : Nat := i / 16

/-- The channel may drive: command on, not LATCHED, supply not MISSING, and in a strapped unit DRIVE at 1 (R400). -/
def State.chanDrives (s : State) (c : Nat) : Bool :=
  s.bit .lsw LSW_CMD_CMD c && !s.is .lsw (LSW_CH_STAT_LATCHED c) && !s.missing (chanGroup c) &&
    (!s.strapped || s.is .sup CLX_STAT_DRIVE)

/-- The channel's phase follows its conditions (R400 to R402, R406). -/
def State.chanUpdate (s : State) (c : Nat) : State :=
  let ph := s.rd .lsw (LSW_CH_STAT_PHASE c)
  let set (t : State) (p pend : Nat) := (t.wr .lsw (LSW_CH_STAT_PHASE c) p).wr .lsw (LSW_CH_STAT_PEND c) pend
  if s.missing (chanGroup c) then set s phHELDOFF 0
  else if s.chanDrives c then
    if ph = phOFF ∨ ph = phHELDOFF then set s phTURNON 0
    else if ph = phTURNOFF then set s phTURNOFF 1
    else s
  else if ph = phTURNON ∨ ph = phON then set s phTURNOFF 0
  else if ph = phTURNOFF then set s phTURNOFF 0
  else set s phOFF 0

/-- The channels. -/
def chanNums : List Nat := List.range 16

/-- Every channel's phase follows its conditions. -/
def State.chanUpdateAll (s : State) : State := s.each chanNums fun t c => t.chanUpdate c

/-- A command for one channel (R399), applied whatever FAILSAFE says. -/
def State.chanCommand (s : State) (c : Nat) (on : Bool) : State := (s.setBit .lsw LSW_CMD_CMD c on).chanUpdate c

/-- A command from the image service, a register or the reflex engine: no effect while FAILSAFE is 1 (R399). -/
def State.lswCommand (s : State) (c : Nat) (on : Bool) : State :=
  if s.is .lsw LSW_STAT_FAILSAFE then s else s.chanCommand c on

/-- LSW_SET: a write of `w` to LSW_SET commands channels on (R399). -/
def execLswSet (w : Nat) (s : State) : Host.Outcome State Fault Refusal :=
  .next (s.each (chanNums.filter fun c => w.testBit c) fun t c => t.lswCommand c true)

/-- LSW_CLR: a write of `w` to LSW_CLR commands channels off (R399). -/
def execLswClr (w : Nat) (s : State) : Host.Outcome State Fault Refusal :=
  .next (s.each (chanNums.filter fun c => w.testBit c) fun t c => t.lswCommand c false)

/-- A write of RESUME clears FAILSAFE while KEEPOK is 1, and the image service then forwards every enabled %QX channel
point at its next refresh (R410). -/
def State.lswResume (s : State) : State :=
  if s.is .lsw LSW_STAT_KEEPOK then { s.wr .lsw LSW_STAT_FAILSAFE 0 with field := { s.field with qxAll := true } } else s

/-- LSW_RESUME: a write of 1 to LSW_CTRL.RESUME (R410). -/
def execLswResume (s : State) : Host.Outcome State Fault Refusal := .next s.lswResume

/-- TURNON_DONE: the output of channel `c` has reached the supply voltage (R401). -/
def execTurnonDone (c : Nat) (s : State) : Host.Outcome State Fault Refusal :=
  .next (if c < 16 ∧ s.rd .lsw (LSW_CH_STAT_PHASE c) = phTURNON then s.wr .lsw (LSW_CH_STAT_PHASE c) phON else s)

/-- PHASE reads OFF, and a pending turn-on starts (R402). -/
def State.turnedOff (s : State) (c : Nat) : State :=
  ((s.wr .lsw (LSW_CH_STAT_PHASE c) phOFF).wr .lsw (LSW_CH_STAT_PEND c) 0).chanUpdate c

/-- TURNOFF_DONE: the output of channel `c` has fallen below 1.0 V (R402). -/
def execTurnoffDone (c : Nat) (s : State) : Host.Outcome State Fault Refusal :=
  .next (if c < 16 ∧ s.rd .lsw (LSW_CH_STAT_PHASE c) = phTURNOFF then s.turnedOff c else s)

/-- A diagnostic bit becomes 1: source 96 + c rises and LSW_DIAG is recorded with the channel and the bit (R404). -/
def State.chanDiag (s : State) (c : Nat) (f : Field) : State :=
  if s.is .lsw f then s else ((s.wr .lsw f 1).raiseCrown (96 + c)).offer Ev.LSW_DIAG .field [c, f.lo]

/-- The channel is held off by the claim rule (R337, R404). -/
def State.heldOff (s : State) : Bool := s.strapped && !s.is .sup CLX_STAT_DRIVE

/-- TURNOFF_TIMEOUT: the output of channel `c` has not fallen below 1.0 V after 50 ms: SHORT, where it is evaluated, and
PHASE OFF (R402, R404). -/
def execTurnoffTimeout (c : Nat) (s : State) : Host.Outcome State Fault Refusal :=
  .next (if c < 16 ∧ s.rd .lsw (LSW_CH_STAT_PHASE c) = phTURNOFF then
    (if s.is .lsw (LSW_CH_CFG_SHORTEN c) ∧ ¬ s.heldOff then s.chanDiag c (LSW_CH_STAT_SHORT c) else s).turnedOff c
    else s)

/-- The output current of a channel as LSW_CHc_I shows it: measured anew every 100 µs, with the calibration of items 6 and 7
(R413, R463). The measured current is open. -/
def State.outputMa (s : State) (c : Nat) : Nat :=
  let p : Int := Config.outCurrent c (s.now / 100000) * (65536 + s.calEff 6)
  let up := Config.outRoundUp c (s.now / 100000) && decide (p % 65536 ≠ 0)
  min (p / 65536 + (if up then 1 else 0) + s.calEff 7).toNat 4095

/-- The output of a channel is on: TURNON or ON. -/
def State.chanOn (s : State) (c : Nat) : Bool := decide (s.rd .lsw (LSW_CH_STAT_PHASE c) ∈ [phTURNON, phON])

/-- OC_TRIP: channel `c` has been in current limit for `ms` ms without a break while driving; after OCBLANK ms it turns off and is
LATCHED (R404). -/
def execOcTrip (c ms : Nat) (s : State) : Host.Outcome State Fault Refusal :=
  .next (if c < 16 ∧ s.chanDrives c ∧ s.chanOn c ∧ s.rd .lsw (LSW_CH_CFG_OCBLANK c) ≤ ms then
    ((s.chanDiag c (LSW_CH_STAT_OC c)).wr .lsw (LSW_CH_STAT_LATCHED c) 1).chanUpdate c else s)

/-- OT_TRIP: the junction of channel `c` is above 150 °C; it turns off and is LATCHED (R404). -/
def execOtTrip (c : Nat) (s : State) : Host.Outcome State Fault Refusal :=
  .next (if c < 16 then ((s.chanDiag c (LSW_CH_STAT_OT c)).wr .lsw (LSW_CH_STAT_LATCHED c) 1).chanUpdate c else s)

/-- OPEN_DETECT: the current of channel `c`, measured as `ma` before calibration, has stood for 10 ms in ON; OPEN is set where
it is below 10 mA (R404, R406, R463). -/
def execOpenDetect (c ma : Nat) (s : State) : Host.Outcome State Fault Refusal :=
  .next (if c < 16 ∧ s.rd .lsw (LSW_CH_STAT_PHASE c) = phON ∧ s.is .lsw (LSW_CH_CFG_OPENEN c) ∧ ¬ s.missing (chanGroup c) then
    let (v, t) := s.calibrate 6 7 ma
    if v < 10 then t.chanDiag c (LSW_CH_STAT_OPEN c) else t
  else s)

/-- SHORT_DETECT: the output of channel `c` has been above 3.0 V for 1 ms in OFF (R404, R406). -/
def execShortDetect (c : Nat) (s : State) : Host.Outcome State Fault Refusal :=
  .next (if c < 16 ∧ s.rd .lsw (LSW_CH_STAT_PHASE c) = phOFF ∧ s.is .lsw (LSW_CH_CFG_SHORTEN c) ∧ ¬ s.heldOff ∧
      ¬ s.missing (chanGroup c) then
    s.chanDiag c (LSW_CH_STAT_SHORT c) else s)

/-- A write of a channel's STAT word: 1 clears OPEN and SHORT, 1 clears OC, and 1 clears OT while the junction is below
135 °C; LATCHED clears with both (R404, R405). -/
def State.diagClear (s : State) (c w : Nat) (cool : Bool) : State :=
  let t := if (LSW_CH_STAT_OC c).of w = 1 then s.wr .lsw (LSW_CH_STAT_OC c) 0 else s
  let t := if (LSW_CH_STAT_OT c).of w = 1 ∧ cool then t.wr .lsw (LSW_CH_STAT_OT c) 0 else t
  let t := if (LSW_CH_STAT_OPEN c).of w = 1 then t.wr .lsw (LSW_CH_STAT_OPEN c) 0 else t
  let t := if (LSW_CH_STAT_SHORT c).of w = 1 then t.wr .lsw (LSW_CH_STAT_SHORT c) 0 else t
  if t.is .lsw (LSW_CH_STAT_OC c) ∨ t.is .lsw (LSW_CH_STAT_OT c) then t
  else (t.wr .lsw (LSW_CH_STAT_LATCHED c) 0).chanUpdate c

/-- LSW_DIAG_CLEAR: a write of `w` to LSW_CHc_STAT, with whether the junction is below 135 °C (R405). -/
def execLswDiagClear (c w : Nat) (cool : Bool) (s : State) : Host.Outcome State Fault Refusal :=
  .next (if c < 16 then s.diagClear c w cool else s)

/-- The fail-safe commands of LSW_FS, with FAILSAFE set (R408). -/
def State.failSafe (s : State) : State :=
  (s.wr .lsw LSW_STAT_FAILSAFE 1).each chanNums fun t c =>
    match bits (s.rd .lsw LSW_FS_FS) (2 * c) 2 with
    | 1 => t.chanCommand c true
    | 2 => t.chanUpdate c
    | _ => t.chanCommand c false

/-! ### Claims at the field die, and the keep watchdog -/

/-- The drive rule: role active, and no valid peer or a claim above the peer's, and a claim that has risen only once a frame
carrying it has ended; the channels follow (R337). -/
def State.clxUpdate (s : State) : State :=
  let own := s.rd .sup CLX_OWN_CLAIM
  let drive := s.field.keepRole && (s.is .sup CLX_STAT_DRIVE || decide (own ≤ s.field.clxClaim)) &&
    (!s.is .sup CLX_STAT_PEERVALID || decide (s.rd .sup CLX_PEER_CLAIM < own))
  (s.wrB .sup CLX_STAT_DRIVE drive).chanUpdateAll

/-- A valid keep frame arrives with role, claim and LINERUN (R407, R336 to R338): a claim-exchange frame begins at once when
claim or role have changed. -/
def State.keepFrame (s : State) (active : Bool) (claim : Nat) (lineRun : Bool) : State :=
  let claim := claim % 2 ^ 32
  let f := s.field
  let next := if active = f.keepRole ∧ claim = f.keepClaim then f.clxNext else s.now
  let t := { (s.wr .lsw LSW_STAT_KEEPOK 1) with
    field := { f with lastKeep := s.now, keepRole := active, keepClaim := claim, keepLineRun := lineRun, clxNext := next } }
  let t := t.wrs .sup [(CLX_STAT_ROLE, active.toNat), (CLX_OWN_CLAIM, claim)]
  if s.strapped then t.clxUpdate else t

/-- KEEP_FRAME_RX: the field die receives a keep frame (R407). -/
def execKeepFrameRx (active : Bool) (claim : Nat) (lineRun : Bool) (s : State) : Host.Outcome State Fault Refusal :=
  .next (s.keepFrame active claim lineRun)

/-- LSW_KEEP_TMO ms have passed without a keep frame: fail-safe states, FAILSAFE, and LSW_KEEPLOST once the crown die
records again (R408). -/
def State.keepTimeout (s : State) : State :=
  if s.is .lsw LSW_STAT_KEEPOK ∧ s.field.lastKeep + s.rd .lsw LSW_KEEP_TMO_MS * 1000000 ≤ s.now then
    let t := (s.wr .lsw LSW_STAT_KEEPOK 0).failSafe
    if s.crownRuns then t.offer Ev.LSW_KEEPLOST .field else t.offerAtBoot Ev.LSW_KEEPLOST .field
  else s

/-- KEEP_TIMEOUT: the keep timeout passes (R408). -/
def execKeepTimeout (s : State) : Host.Outcome State Fault Refusal := .next s.keepTimeout

/-! ### Digital inputs -/

/-- Input `i` is a fast input: FAST set, for inputs 0 to 3 (R398). -/
def State.isFast (s : State) (i : Nat) : Bool := decide (i < 4) && s.bit .din DIN_CFG_FAST i

/-- The filtered state of an input changes: DIN_CHG, the change bit of the next refresh, and source 64 + i unless the
input is fast (R396, R398, R411). -/
def State.dinChange (s : State) (i : Nat) (v : Bool) : State :=
  if s.bit .din DIN_STATE_STATE i = v then s
  else
    let t := (s.setBit .din DIN_STATE_STATE i v).setBit .din DIN_CHG_CHG i true
    let t := { t with field := { t.field with chgSince := t.field.chgSince ||| 2 ^ i } }
    if s.isFast i then t else t.raiseCrown (64 + i)

/-- One sample of one input steps its counter and perhaps its state (R395, R397). -/
def State.dinStep (s : State) (i : Nat) (raw : Bool) : State :=
  if s.isFast i then s
  else if s.missing (inputGroup i) then s.setBit .din DIN_RAW_RAW i raw
  else
    let mx := s.rd .din (DIN_FILT_MAX i)
    let n := s.rd .din (DIN_FILT_COUNT i)
    let n' := if raw then min (n + 1) mx else n - 1
    let t := (s.wr .din (DIN_FILT_COUNT i) n').setBit .din DIN_RAW_RAW i raw
    if n' = mx then (t.setBit .din DIN_VALID_VALID i true).dinChange i true
    else if n' = 0 then (t.setBit .din DIN_VALID_VALID i true).dinChange i false
    else t

/-- The field die's logic outside the wake island runs: not in nap, nor without power (R511). -/
def State.fieldRuns (s : State) : Bool := decide (s.pwr.phase ≠ .nap ∧ s.pwr.phase ≠ .off)

/-- All inputs are sampled together, and the next sample is due after DIN_PERIOD µs (R394, R395). -/
def State.dinSample (s : State) (raw : Nat) : State :=
  { s with field := { s.field with nextSample := s.now + 1000 * s.rd .din DIN_PERIOD_US } }.each (List.range 32) fun t i =>
    t.dinStep i (raw.testBit i)

/-- DIN_SAMPLE: a sample is due, with the raw level of input i in bit i (R394). -/
def execDinSample (raw : Nat) (s : State) : Host.Outcome State Fault Refusal :=
  .next (if s.fieldRuns ∧ s.field.nextSample ≤ s.now then s.dinSample raw else s)

/-- A write of FILT_MAX sets the counter to match the filtered state; 0 leaves the field unchanged (R395, R412). -/
def State.dinFilt (s : State) (i w : Nat) : State :=
  let m := (DIN_FILT_MAX i).of w
  if m = 0 then s
  else (s.wr .din (DIN_FILT_MAX i) m).wr .din (DIN_FILT_COUNT i) (if s.bit .din DIN_STATE_STATE i then m else 0)

/-- DIN_FILT_WRITE: a write of `w` to DIN_FILT of input `i` (R395). -/
def execDinFiltWrite (i w : Nat) (s : State) : Host.Outcome State Fault Refusal := .next (if i < 32 then s.dinFilt i w else s)

/-- A write of DIN_CFG; an input that leaves FAST takes its counter as a FILT_MAX write does (R395, R398). -/
def State.dinCfg (s : State) (w : Nat) : State :=
  let t := (s.wr .din DIN_CFG_TYPE (DIN_CFG_TYPE.of w)).wr .din DIN_CFG_FAST (DIN_CFG_FAST.of w)
  t.each ((List.range 4).filter fun i => s.isFast i && !t.isFast i) fun u i => u.dinFilt i (u.rd .din (DIN_FILT_MAX i))

/-- A trigger reaches a die's reflex engine: taken while the engine is enabled, dropped and counted at a full FIFO
(R275, R284). -/
def State.rfxPush (s : State) (d : Nat) (g : Trigger) : State :=
  if ¬ s.is (.rfx d) RFX_CTRL_EN then s
  else
    let q := Tab.get s.rfx d []
    if q.length < 16 then { s with rfx := Tab.set (fun k => k) s.rfx d [] (q ++ [g]) }
    else ((s.wr (.rfx d) RFX_STAT_DROP 1).bump (.rfx d) RFX_DROPCNT_COUNT).offer Ev.REFLEX_DROP (.die d)

/-- The levels of the fast inputs 0 to 3. -/
def State.fastLevels (s : State) : Nat := s.rd .din DIN_STATE_STATE % 16

/-- A qualified edge of a fast input: state, count, change bit, every reflex engine, and the encoder (R398, R275,
R441). -/
def State.fastEdge (s : State) (i : Nat) (level : Bool) (atPs : Nat) : State :=
  if s.isFast i ∧ ¬ s.missing (inputGroup i) ∧ s.bit .din DIN_STATE_STATE i ≠ level then
    let t := (((s.dinChange i level).setBit .din DIN_RAW_RAW i level).setBit .din DIN_VALID_VALID i true).bump .din (DIN_FASTCNT_COUNT i)
    let g : Trigger := { edge := some (i, level), levels := t.fastLevels, time := s.tmb.count % 2 ^ 32 }
    let t := t.each s.diesList fun u d => u.rfxPush d g
    if i < 2 then t.encoderEdge i level atPs else t
  else s

/-- FAST_EDGE: the level of fast input `i` has held for 50 ns; the edge reached its ball at `atPs` (R398). -/
def execFastEdge (i : Nat) (level : Bool) (atPs : Nat) (s : State) : Host.Outcome State Fault Refusal :=
  .next (s.fastEdge i level atPs)

/-! ### A change of supply -/

/-- A group enters MISSING: its inputs lose validity and read 0, its channels are held off (R397, R406). -/
def State.groupLost (s : State) (g : Nat) : State :=
  (s.each ((List.range 32).filter fun i => inputGroup i = g) fun t i =>
    ((t.setBit .din DIN_VALID_VALID i false).wr .din (DIN_FILT_COUNT i) 0).dinChange i false).chanUpdateAll

/-- A group has measured `raw` mV for 100 µs without a break (R393): its voltage and its state, with their effects. -/
def State.supplyMeasured (s : State) (g raw : Nat) : State :=
  let (mv, t) := s.calibrate (2 * g) (2 * g + 1) raw
  let t := t.wr .sup (if g = 0 then FSUP_MV0_MV else FSUP_MV1_MV) (min mv.toNat 65535)
  let o := s.supply g
  let n := supplyNext o mv
  let t := { t with field := if g = 0 then { t.field with readOnly0 := false } else { t.field with readOnly1 := false } }
  if o = n then (if n = 2 ∧ ¬ s.missing g then t.groupLost g else t)
  else
    let t := t.wr .sup (if g = 0 then FSUP_STAT_G0 else FSUP_STAT_G1) n
    let t := (t.raiseCrown (113 + g)).offer Ev.FIELD_SUPPLY .field [g, n, mv.toNat]
    if n = 2 then t.groupLost g else t.chanUpdateAll

/-- FIELD_SUPPLY_CHANGE: group `g` has read `raw` mV, before calibration, for 100 µs (R393). -/
def execFieldSupplyChange (g raw : Nat) (s : State) : Host.Outcome State Fault Refusal :=
  .next (if g < 2 then s.supplyMeasured g raw else s)

end Sys2Proof.Machine
end

