-- ==== Sys2Proof/Machine/Job.lean ====
section
/-! DEFINITION. The line-rate cap (R235 to R239), the admission of a job (R225 to R233), and its end. -/

namespace Sys2Proof.Machine

/-- JOB_STAT.STATE (R240): 0 NONE, 1 ADMITTED, 2 RUNNING, 3 COMPLETE; a change raises source 178. -/
def State.jobState (s : State) : Nat := s.rd .pkgNode JOB_STAT_STATE
def State.setJobState (s : State) (v : Nat) : State :=
  if s.jobState = v then s else (s.wr .pkgNode JOB_STAT_STATE v).raiseCrown 178

/-! ### The cap (R235 to R239) -/

/-- θ of a step in hundredths (R534). -/
def theta100 (step : Nat) : Nat := [100, 90, 81, 72, 66, 60].getD step 60

/-- The lane rate R_j (R236), with θ the one about to take effect. -/
def State.laneRate (s : State) (d j n : Nat) : Nat :=
  let c := s.rd (.lane d j) LANE_KCOST_PERGROUP * n
  let th := theta100 (s.thermOf d).step
  if c = 0 then 0xFFFFFFFF
  else if c * 10000 ≤ 108 * th * (s.rd (.lane d j) LANE_LEAD_NS - s.rd (.lane d j) LANE_FIN_NS) then 108 * th * 100000 / c
  else 0

/-- The memory rate R_d (R236). -/
def State.memRate (s : State) (b : DieJob) : Nat :=
  let lim := s.rd (.drc b.die) DRC_LIMIT_MBS
  if b.srcBpl = 0 then 0xFFFFFFFF else (lim - b.hostMbs - b.rsvMbs) * 1000000 / b.srcBpl

/-- What decides a cap, as the low 16 bits of CAP_CAUSE without HELD (R240); WINDOW, that a lane rate is 0, whatever decides. -/
def capWord (mem lane window : Bool) (d j : Nat) : Nat :=
  mem.toNat + 2 * lane.toNat + 4 * window.toNat + 256 * d + 4096 * j

/-- Every rate that bounds the cap, with its cause; RATE first (R237). -/
def State.capRates (s : State) (jb : Job) : List (Nat × Nat) :=
  (jb.rate, 0) :: jb.dies.flatMap fun b =>
    (s.memRate b, capWord true false false b.die 0) ::
      b.lanes.map fun j => (s.laneRate b.die j (b.n j), capWord false true false b.die j)

/-- The least entry of a list of rates, the first among equals. -/
def leastRate : (Nat × Nat) → List (Nat × Nat) → (Nat × Nat)
  | b, [] => b
  | b, x :: xs => leastRate (if x.1 < b.1 then x else b) xs

/-- A lane rate of a job is 0 (R236, R240). -/
def State.capWindow (s : State) (jb : Job) : Bool :=
  jb.dies.any fun b => b.lanes.any fun j => decide (s.laneRate b.die j (b.n j) = 0)

/-- The result of an evaluation of the cap, with its cause (R237, R240). -/
def State.capEval (s : State) (jb : Job) : Nat × Nat :=
  let r := leastRate (0xFFFFFFFF, 0) (s.capRates jb)
  (r.1, r.2 + 4 * (s.capWindow jb).toNat)

/-- CAP_CAUSE takes a cause word, HELD left as it is. -/
def State.setCapCause (s : State) (w : Nat) : State :=
  s.wrOf .pkgNode [CAP_CAUSE_MEM, CAP_CAUSE_LANE, CAP_CAUSE_WINDOW, CAP_CAUSE_DIE, CAP_CAUSE_LANEIDX] w

/-- LINE_RATE_CAP. -/
def State.cap (s : State) : Nat := s.rd .pkgNode LINE_RATE_CAP_HZ

/-- A cap message is due (R239). -/
def State.oweCap (s : State) : State := { s with job := { s.job with owed := true } }

/-- LINE_RATE_CAP changes: CAP_SEQ increments, source 176 rises, and a cap message is due; in a pair CAP is sent
(R239, R324). -/
def State.setCap (s : State) (v : Nat) : State :=
  if s.cap = v then s
  else
    let t := ((s.wrs .pkgNode [(LINE_RATE_CAP_HZ, v), (CAP_SEQ_SEQ, s.rd .pkgNode CAP_SEQ_SEQ + 1)]).raiseCrown 176).oweCap
    if t.isActive ∨ t.isStandby then t.hsbSend .cap [v] else t

/-- An evaluation of the cap (R237): a lower result takes effect at once; a higher one is held. -/
def State.capEvaluate (s : State) : State :=
  match s.job.job with
  | none => s
  | some jb =>
    let (v, w) := s.capEval jb
    let t := { s with job := { s.job with evals := (s.tb, v) :: s.job.evals } }
    if v < s.cap then
      let t := ((t.setCap v).setCapCause w).wr .pkgNode CAP_CAUSE_HELD 0
      let t := { t with job := { t.job with loweredAt := s.tb } }.offer Ev.CAP_LOWERED .pkg
      if v = 0 then t.offer Ev.CAP_STOP .pkg else t
    else t.wrB .pkgNode CAP_CAUSE_HELD (decide (s.cap < v))

/-- The least value that the evaluations of the last second, and the one in force when it began, have given. -/
def evalFloor (now : Nat) : List (Nat × Nat) → Option Nat
  | [] => none
  | (t, v) :: rest =>
    if t + 1000000000 ≤ now then some v
    else (evalFloor now rest).map fun m => min v m

/-- The cap rises to what every evaluation for 1 s has given at least (R237). -/
def State.capRaise (s : State) : State :=
  match s.job.job, evalFloor s.tb s.job.evals with
  | some jb, some v =>
    if s.cap < v then
      let t := (s.setCap v).offer Ev.CAP_RAISED .pkg
      let (e, w) := s.capEval jb
      (t.setCapCause w).wrB .pkgNode CAP_CAUSE_HELD (decide (v < e))
    else s
  | _, _ => s

/-- CAP_RAISE: evaluations for 1 s have given at least a higher value (R237). -/
def execCapRaise (s : State) : Host.Outcome State Fault Refusal := .next s.capRaise

/-- The cap that messages carry: the lower of the unit's own and the peer's while the peer is STANDBY (R324). -/
def State.capSent (s : State) : Nat :=
  if s.isActive ∧ s.hsb.peerState = hsbSTANDBY then min s.cap (s.rd .hsb HSB_PEERCAP_HZ) else s.cap

/-- CAP_CAUSE bits [7:0]. -/
def State.capCauseByte (s : State) : Nat :=
  s.rd .pkgNode CAP_CAUSE_MEM + 2 * s.rd .pkgNode CAP_CAUSE_LANE + 4 * s.rd .pkgNode CAP_CAUSE_WINDOW + 8 * s.rd .pkgNode CAP_CAUSE_HELD

/-- The eight bytes of the cap message (R239). -/
def State.capBytes (s : State) : List Nat :=
  let c := s.capSent
  [c / 2 ^ 24 % 256, c / 2 ^ 16 % 256, c / 2 ^ 8 % 256, c % 256, s.rd .pkgNode CAP_SEQ_SEQ / 256, s.rd .pkgNode CAP_SEQ_SEQ % 256,
    s.capCauseByte, 0]

/-! ### θ and the DRAM derate (R234, R235, R534) -/

/-- The lower θ of the die takes effect in its lanes: THERM_STAT.STEP. -/
def State.thetaNow (s : State) (d step : Nat) : State := s.wr (.dieNode d) THERM_STAT_STEP step

/-- The thermal state of a die with a list of lowerings that wait for their LEAD. -/
def State.setLeads (s : State) (d : Nat) (l : List (Nat × Option Nat)) : State :=
  (s.setTherm d { s.thermOf d with leads := l }).wrB (.dieNode d) THERM_STAT_PENDING (!l.isEmpty)

/-- A cap message will be sent, on CAN FD or a link (R239). -/
def State.capRouted (s : State) : Bool := s.is .pkgNode CAP_CFG_CANEN || s.is .pkgNode CAP_CFG_KEEN

/-- θ of a die steps down (R235): with a job admitted the cap is evaluated and the step waits for its LEAD from the
broadcast; otherwise it takes effect at once. -/
def State.thetaLower (s : State) (d step : Nat) : State :=
  let t := s.setTherm d { s.thermOf d with step := step, coolSince := none }
  if s.job.job = none then t.thetaNow d step
  else
    let t := t.capEvaluate
    t.setLeads d ((t.thermOf d).leads ++ [(step, if t.job.owed && t.capRouted then none else some s.tb)])

/-- θ of a die steps up, at once; lowerings still in their LEAD are overtaken (R235). -/
def State.thetaRaise (s : State) (d step : Nat) : State :=
  let t := (s.setTherm d { s.thermOf d with step := step, coolSince := none }).setLeads d []
  (t.thetaNow d step).capEvaluate

/-- Case thresholds of R534, by step. -/
def caseStep (c : Int) : Nat := if c < 86 then 0 else if c < 91 then 1 else if c < 96 then 2 else if c < 101 then 3 else if c < 105 then 4 else 5
def caseLimit (step : Nat) : Int := [-1000, 86, 91, 96, 101, 105].getD step 105

/-- The number that stands for a node in the list of hot nodes (R535). -/
def hotKey (n : Node) : Nat := n.unitPath

/-- The die is held at step 5 by a hot junction (R535). -/
def State.heldHot (s : State) (d : Nat) : Bool := decide (hotKey (.die d) ∈ s.hot)

/-- A case reading of a die, with its highest junction reading (R534). -/
def State.caseReading (s : State) (d : Nat) (c jmax : Int) : State :=
  let t := (s.wr (.dieNode d) THERM_STAT_CASE (ofSigned 8 c)).wr (.dieNode d) THERM_STAT_JMAX (ofSigned 8 jmax)
  let t := if 120 ≤ jmax ∧ t.hot ≠ [] then { t with hotCool := some t.tb } else t
  let th := t.thermOf d
  let want := if t.heldHot d then 5 else caseStep c
  if th.step < want then t.thetaLower d want
  else if want < th.step ∧ c ≤ caseLimit th.step - 3 then
    t.setTherm d { th with coolSince := some (th.coolSince.getD s.tb) }
  else t.setTherm d { th with coolSince := none }

/-- CASE_TEMP_READING: die `d` reads its case temperature, in °C, and its junctions (R534). -/
def execCaseTempReading (d : Nat) (c jmax : Int) (s : State) : Host.Outcome State Fault Refusal :=
  .next (if s.hasDie d then s.caseReading d c jmax else s)

/-- THETA_RAISE: for 1 s every reading of die `d` was 3 °C below the threshold of its step (R534). -/
def execThetaRaise (d : Nat) (s : State) : Host.Outcome State Fault Refusal :=
  .next (match (s.thermOf d).coolSince with
    | some t0 =>
      if s.hasDie d ∧ t0 + 1000000000 ≤ s.tb then s.thetaRaise d (caseStep (toSigned 8 (s.rd (.dieNode d) THERM_STAT_CASE))) else s
    | none => s)

/-- THETA_LEAD_EXPIRY: the LEAD of the first waiting lowering of die `d` has passed since its broadcast (R235). -/
def execThetaLeadExpiry (d : Nat) (s : State) : Host.Outcome State Fault Refusal :=
  .next (match (s.thermOf d).leads with
    | (step, some t0) :: rest =>
      if s.hasDie d ∧ t0 + s.rd .pkgNode CAP_CFG_LEAD * 1000000 ≤ s.tb then (s.thetaNow d step).setLeads d rest else s
    | _ => s)

/-- A reading of a die's DRAM stack in 1/16 °C, after its calibration item (R234, R463): above 85 °C the refresh
doubles; after 1 s at 80 °C or less it returns. -/
def State.dramReading (s : State) (d : Nat) (raw16 : Int) : State :=
  let t16 := raw16 + s.calEff (8 + d)
  let t := s.wr (.drc d) DRC_TEMP_DEGC (ofSigned 8 (t16 / 16))
  let th := t.thermOf d
  if ¬ t.is (.drc d) DRC_DERATE_HOT then
    if 85 * 16 < t16 then
      let t := ((t.setTherm d { th with dramCool := none }).wr (.drc d) DRC_DERATE_HOT 1).wr (.drc d) DRC_LIMIT_MBS 538902
      ((t.raiseDie d 72).offer Ev.DRAM_HOT (.die d)).capEvaluate
    else t
  else if t16 ≤ 80 * 16 then
    match th.dramCool with
    | none => t.setTherm d { th with dramCool := some s.tb }
    | some t0 =>
      if t0 + 1000000000 ≤ s.tb then
        let t := ((t.setTherm d { th with dramCool := none }).wr (.drc d) DRC_DERATE_HOT 0).wr (.drc d) DRC_LIMIT_MBS 573300
        ((t.raiseDie d 72).offer Ev.DRAM_COOL (.die d)).capEvaluate
      else t
  else t.setTherm d { th with dramCool := none }

/-- DRAM_TEMP_READING: die `d`'s stack reads `raw16` sixteenths of a °C (R234). -/
def execDramTempReading (d : Nat) (raw16 : Int) (s : State) : Host.Outcome State Fault Refusal :=
  .next (if s.hasDie d then s.dramReading d raw16 else s)

/-! ### The end of an admission (R233) -/

/-- Admission ends with a reason (R233). Lowerings of θ that wait for their LEAD take effect, since no job is admitted
then (R235). -/
def State.jobEnd (s : State) (reason : Nat) (atBoot : Bool := false) : State :=
  match s.job.job with
  | none => s
  | some jb =>
    let t := s.each s.jobLanes fun t l => t.wr (.lane l.1 l.2) LANE_BUDGET_CYCLES 0
    let t := t.each jb.dies fun t b =>
      let th := t.thermOf b.die
      let t := match th.leads.getLast? with
        | some (st, _) => (t.thetaNow b.die st).setLeads b.die []
        | none => t
      (t.wr (.drc b.die) DRC_GUAR_MBS 0).wr (.ing b.die) ING_STAT_STATE 0
    let t := { t with job := { t.job with job := none, evals := [] } }
    let t := ((t.setCap 0xFFFFFFFF).setCapCause 0).wr .pkgNode CAP_CAUSE_HELD 0
    let t := (t.setJobState 0).wrs .pkgNode [(JOB_RATE_HZ, 0), (JOB_LENGTH_LINES, 0), (JOB_START_LINE, 0), (JOB_DIES_DIES, 0)]
    if atBoot then t.offerAtBoot Ev.JOB_ENDED .pkg [reason] else t.offer Ev.JOB_ENDED .pkg [reason]

/-! ### Admission (R225 to R231) -/

/-- The bytes of a descriptor: a 64-byte header and eight 128-byte die blocks (R225). -/
abbrev descSize : Nat := 64 + 8 * 128

/-- Die block `d` of a descriptor. -/
def descDie (bs : List Byte) (d : Nat) : DieJob :=
  let o := 64 + 128 * d
  { die := d, ringBase := numAt bs o 8, ringPages := numAt bs (o + 8) 4, tileCount := numAt bs (o + 12) 4
    tileBase := numAt bs (o + 16) 8, segtab := numAt bs (o + 24) 8, segs := numAt bs (o + 32) 4
    srcBpl := numAt bs (o + 36) 4, hostMbs := numAt bs (o + 40) 4, rsvMbs := numAt bs (o + 44) 4
    runsMax := numAt bs (o + 48) 4, stored := numAt bs (o + 56) 8
    laneN := (List.range 12).map fun j => numAt bs (o + 64 + 2 * j) 2 }

/-- The dies that a descriptor's DIES names. -/
def descDies (bs : List Byte) : List DieJob :=
  ((List.range 8).filter fun d => (numAt bs 2 1).testBit d).map fun d => descDie bs d

/-- Bytes `[a, a + n)` are zero. -/
def zeroAt (bs : List Byte) (a n : Nat) : Bool := ((bs.drop a).take n).all fun b => decide (b = 0)

/-- A region lies in the populated DRAM of a die. -/
def inDram (d : Nat) (r : Nat × Nat) : Bool := decide (r.2 = 0 ∨ (dramBase d ≤ r.1 ∧ r.1 + r.2 ≤ dramBase d + dramSize))

/-- The segment table of a die block: LINES and BYTES of each segment. One that is out of range, misplaced or of a die that
the variant lacks is not read, since its own case of R226 refuses the descriptor: the empty list stands for it. -/
def State.segTable (s : State) (b : DieJob) : Option (List Byte) × State :=
  if ¬ s.hasDie b.die ∨ 65536 < b.segs ∨ ¬ inDram b.die (b.segtab, 16 * b.segs) then (some [], s)
  else s.readBytes (.dram b.die) (b.segtab - dramBase b.die) (16 * b.segs)

/-- The entries of a segment table. -/
def segEntries (bs : List Byte) (n : Nat) : List (Nat × Nat) := (List.range n).map fun k => (numAt bs (16 * k) 4, numAt bs (16 * k + 8) 8)

/-- Half-open ranges overlap. -/
def overlaps (x y : Nat × Nat) : Bool := decide (x.1 < y.1 + y.2 ∧ y.1 < x.1 + x.2 ∧ 0 < x.2 ∧ 0 < y.2)

/-- The ring, tile store and segment table of a die block. -/
def DieJob.regions (b : DieJob) : List (Nat × Nat) :=
  [(b.ringBase, 4096 * b.ringPages), (b.tileBase, 8192 * b.tileCount), (b.segtab, 16 * b.segs)]

/-- No two regions of a list overlap. -/
def disjointRegions : List (Nat × Nat) → Bool
  | [] => true
  | x :: xs => xs.all (fun y => !overlaps x y) && disjointRegions xs

/-- DETAIL 3: a field of a descriptor outside its range, or a reserved field not zero (R225). -/
def descRangeOk (bs : List Byte) : Bool :=
  decide (1 ≤ numAt bs 4 4 ∧ numAt bs 4 4 ≤ 1000000 ∧ 1 ≤ numAt bs 8 4) && zeroAt bs 3 1 && zeroAt bs 12 48 &&
    (descDies bs).all fun b =>
      decide (16 ≤ b.ringPages ∧ b.ringPages ≤ 4194304 ∧ 1 ≤ b.segs ∧ b.segs ≤ 65536) && zeroAt bs (64 + 128 * b.die + 52) 4 && zeroAt bs (64 + 128 * b.die + 88) 40

/-- DETAIL 4: placing and alignment of the regions (R226). -/
def regionsOk (dies : List DieJob) : Bool :=
  dies.all (fun b => decide (b.ringBase % 4096 = 0 ∧ b.tileBase % 4096 = 0 ∧ b.segtab % 16 = 0) && b.regions.all (inDram b.die)) &&
    disjointRegions (dies.flatMap DieJob.regions)

/-- The CRC of a descriptor can be judged: every segment table that it covers can be read. -/
def State.tabsPlaced (s : State) (dies : List DieJob) : Bool :=
  dies.all fun b => s.hasDie b.die && decide (b.segs ≤ 65536) && inDram b.die (b.segtab, 16 * b.segs)

/-- The first case of R226 that fails, as its DETAIL; the CRC is over the header with its last field 0, the blocks and
the segment tables. A segment table with an uncorrectable error counts as a wrong CRC; one that cannot be placed leaves
the CRC unjudged, and the case that says so is reported (DESIGN CHOICE, log entry 171). -/
def State.layoutDetail (s : State) (bs : List Byte) (tabs : List (Option (List Byte))) : Option Nat :=
  let dies := descDies bs
  let whole := bs.take 60 ++ [0, 0, 0, 0] ++ (bs.drop 64).take 1024 ++ tabs.flatMap fun t => t.getD []
  if numAt bs 0 2 ≠ 1 ∨ none ∈ tabs ∨ (s.tabsPlaced dies ∧ crc32c whole ≠ numAt bs 60 4) then some 1
  else if dies = [] ∨ dies.any (fun b => !s.hasDie b.die) then some 2
  else if ¬ descRangeOk bs then some 3
  else if ¬ regionsOk dies then some 4
  else if dies.any (fun b => b.lanes.isEmpty || b.lanes.any fun j => decide (b.n j ≠ s.rd (.lane b.die j) LANE_GROUPS_N)) then some 5
  else if (dies.zip tabs).any (fun p =>
      let e := segEntries (p.2.getD []) p.1.segs
      e.any (fun x => decide (x.1 = 0)) || decide ((e.map Prod.fst).sum ≠ numAt bs 8 4)) then some 6
  else if dies.any (fun b => decide (256 * b.ringPages ≤ s.rd (.ing b.die) ING_WPTR_OFFSET)) then some 7
  else none

/-- The enabled links of a die: L_d. -/
def State.linksEnabled (s : State) (d : Nat) : Nat := ((List.range 32).filter fun m => s.is (.link d m) LINK_CTRL_EN).length

/-- The LINK check of a die with `l` links (R227): 2,048 × Σ n × 8 × R ≤ 96.875 Gbit/s × L. -/
def linkCheck (b : DieJob) (rate l : Nat) : Bool := decide (2048 * b.laneN.sum * 8 * rate ≤ 96875000000 * l)

/-- floor(0.9 × 1.2 × min(Pa, LEAD − FIN)) with Pa = 10^9 ÷ R (R192). -/
def State.laneBudget (s : State) (d j rate : Nat) : Nat :=
  min (108 * 1000000000 / (100 * rate)) (108 * (s.rd (.lane d j) LANE_LEAD_NS - s.rd (.lane d j) LANE_FIN_NS) / 100)

/-- The LANE check of one lane: its DETAIL on failure (R227, R192). -/
def State.laneCheck (s : State) (d j n rate : Nat) : Option Nat :=
  let bud := s.laneBudget d j rate
  let kc := s.rd (.lane d j) LANE_KCOST_PERGROUP
  let lead := s.rd (.lane d j) LANE_LEAD_NS
  let fin := s.rd (.lane d j) LANE_FIN_NS
  let lb := s.rd (.lane d j) LANE_LINKBUD_NS
  if bud < kc * n then some 1
  else if ((fin : Int) - lb) * rate < 1000000000 then some 2
  else if 4 * 1000000000 < ((lead : Int) - lb) * rate then some 3
  else if kc = 0 then some 4
  else if s.rd (.lane d j) LANE_KHOOD_STAT_STATE ≠ 0 ∧ bud < s.rd (.lane d j) LANE_KHOOD_COST_PERGROUP * n then some 5
  else none

/-- G_d of the MEM check (R227). -/
def guarOf (b : DieJob) (rate : Nat) : Nat := (rate * b.srcBpl + 999999) / 1000000 + b.hostMbs + b.rsvMbs

/-- Condition (c) of the INGEST check over the segments (R227), from the first line and bytes so far. -/
def segmentsFed (b : DieJob) (rate : Nat) : List (Nat × Nat) → Nat → Nat → Bool
  | [], _, _ => true
  | (lines, bytes) :: rest, f, sum =>
    decide ((sum + bytes) * rate ≤ b.stored * rate + b.hostMbs * 1000000 * (f - 4)) && segmentsFed b rate rest (f + lines) (sum + bytes)

/-- The INGEST check of one die: the condition that fails, with (a) told apart by the whole job (R227). -/
def ingestCheck (b : DieJob) (rate hostSum : Nat) (segs : List (Nat × Nat)) : Option Nat :=
  if 56000 < hostSum then some 1
  else if 4096 * b.ringPages < b.stored then some 2
  else if ¬ segmentsFed b rate segs 0 0 then some 3
  else if 9 * 1000000000 < 10 * rate * ((b.lanes.map fun j => 4 * b.n j + 16).sum + (b.runsMax + 3) / 4) then some 4
  else none

/-- A failed check: its place in the order LINK, LANE, MEM, INGEST, the die, the lane and the DETAIL. -/
structure CheckFail where
  kind : Nat
  die : Nat
  lane : Nat
  detail : Nat
  deriving DecidableEq, Repr

/-- Every check that fails, in the order of its kind, then die, then lane (R227, R229). -/
def State.checkFails (s : State) (rate : Nat) (dies : List DieJob) (segs : Nat → List (Nat × Nat)) : List CheckFail :=
  let hostSum := (dies.map DieJob.hostMbs).sum
  (dies.filterMap fun b => if linkCheck b rate (s.linksEnabled b.die) then none else some ⟨0, b.die, 0, 0⟩) ++
  (dies.flatMap fun b => b.lanes.filterMap fun j => (s.laneCheck b.die j (b.n j) rate).map fun x => ⟨1, b.die, j, x⟩) ++
  (dies.filterMap fun b => if guarOf b rate ≤ s.rd (.drc b.die) DRC_LIMIT_MBS then none else some ⟨2, b.die, 0, 0⟩) ++
  dies.filterMap fun b => (ingestCheck b rate hostSum (segs b.die)).map fun x => ⟨3, b.die, 0, x⟩

/-- JOB_STAT takes the result of an admission (R229). -/
def State.admitResult (s : State) (code mask die lane detail : Nat) : State :=
  let t := s.wrs .pkgNode [(JOB_STAT_RESULT, code), (JOB_STAT_FAILMASK, mask), (JOB_STAT_DIE, die), (JOB_STAT_LANE, lane), (JOB_STAT_DETAIL, detail)]
  t.offer (if code = 1 then Ev.JOB_ADMITTED else Ev.JOB_REFUSED) .pkg [code]

/-- The place of the first line that the engine of a newly admitted die fills for a lane: one that the lane has neither
finished nor begun, and whose E has not passed. -/
def State.firstFill (s : State) (d j : Nat) : Nat :=
  let l := s.lane d j
  let i := max l.finished (match l.kern with | some k => k.line + 1 | none => 0)
  (firstFrom (fun i => decide (s.ps < s.lineE d j i)) i (s.lines.length - i)).getD s.lines.length

/-- The engine of a die starts at the beginning of its ring. -/
def State.startIngest (s : State) (b : DieJob) : State :=
  s.setIng b.die { cal := (s.ing b.die).cal, patched := (s.ing b.die).patched,
                   done := b.lanes.foldl (fun t j => Tab.set (fun k => k) t j 0 (s.firstFill b.die j)) [] }

/-- Admission takes effect (R217, R230). -/
def State.takeJob (s : State) (jb : Job) : State :=
  let t := { s with job := { s.job with job := some jb, evals := [], lastF := none, from_ := 0 } }
  let t := t.each jb.dies fun t b =>
    let t := t.each b.lanes fun t j => t.wr (.lane b.die j) LANE_BUDGET_CYCLES (s.laneBudget b.die j jb.rate)
    let t := ((t.wr (.drc b.die) DRC_GUAR_MBS (guarOf b jb.rate)).wr (.ing b.die) ING_STAT_STATE 1).wr (.ing b.die) ING_RPTR_OFFSET 0
    t.startIngest b
  let t := t.wrs .pkgNode [(JOB_RATE_HZ, jb.rate), (JOB_LENGTH_LINES, jb.length), (JOB_START_LINE, 0),
    (JOB_DIES_DIES, (jb.dies.map fun b => 2 ^ b.die).sum)]
  let t := (t.setJobState 1).admitResult 1 0 0 0 0
  t.capEvaluate

/-- The segment tables of a list of die blocks, read in order. -/
def State.segTables (s : State) : List DieJob → List (Option (List Byte)) × State
  | [] => ([], s)
  | b :: bs =>
    let (x, t) := s.segTable b
    let (xs, t) := State.segTables t bs
    (x :: xs, t)

/-- The entries of the segment table of die `d`. -/
def segsOf (dies : List DieJob) (tabs : List (Option (List Byte))) (d : Nat) : List (Nat × Nat) :=
  match (dies.zip tabs).find? fun p => decide (p.1.die = d) with
  | some p => segEntries (p.2.getD []) p.1.segs
  | none => []

/-- JOB_ADMIT of the descriptor at an address (R226 to R229): the code, and the state. `busy`: a check of the ring node
holds admissions off (R389). -/
def State.jobAdmit (s : State) (addr : Nat) (busy : Bool) : Nat × State :=
  if s.job.job.isSome ∨ busy then (7, s.admitResult 7 0 0 0 0)
  else
    let (bs, s) := s.engineRead addr descSize
    match bs with
    | none => (6, s.admitResult 6 0 0 0 1)
    | some bs =>
      let dies := descDies bs
      let (tabs, s) := s.segTables dies
      match s.layoutDetail bs tabs with
      | some x => (6, s.admitResult 6 0 0 0 x)
      | none =>
        let rate := numAt bs 4 4
        let fails := s.checkFails rate dies (segsOf dies tabs)
        match fails with
        | f :: _ =>
          let mask := (fails.map fun f => 2 ^ f.kind).foldl (fun m x => m ||| x) 0
          (2 + f.kind, s.admitResult (2 + f.kind) mask f.die f.lane f.detail)
        | [] => (1, s.takeJob { rate := rate, length := numAt bs 8 4, crc := numAt bs 60 4, dies := dies })

end Sys2Proof.Machine
end

