-- ==== Sys2Proof/Machine/Ingest.lean ====
section
/-! DEFINITION. The ingest engine (R208 to R221): parsing records, decoding a line into a source batt, abandoning a line;
and calibration transfers (R222 to R224). -/

namespace Sys2Proof.Machine

/-- Fields of ING_STAT that hardware sets, each with its source (R221, R338). -/
def State.ingSet (s : State) (d : Nat) (f : Field) (src : Nat) : State := (s.wr (.ing d) f 1).raiseDie d src

/-- The job line that the timebase line of a place carries (R215, R323); none for a line of the zero batt. -/
def State.jobLine (s : State) (i : Nat) : Option Nat :=
  match s.job.job with
  | some jb =>
    let x := (s.lineNo i + 2 ^ 32 - s.rd .pkgNode JOB_START_LINE) % 2 ^ 32
    if 2 ≤ s.jobState ∧ s.job.first ≤ i ∧ s.job.from_ ≤ x ∧ x < jb.length then some x else none
  | none => none

/-! ### Records (R208 to R213) -/

/-- The ring of a die block in bytes. -/
def DieJob.ring (b : DieJob) : Nat := 4096 * b.ringPages

/-- `n` bytes of the ring from offset `o`, as they stand in DRAM, wrapping at the ring's end. -/
def State.ringBytes (s : State) (b : DieJob) (o n : Nat) : List Byte :=
  (List.range n).map fun i => s.byte (.dram b.die) (b.ringBase - dramBase b.die + (o + i) % b.ring)

/-- The ECC of `n` ring bytes from offset `o`: the parts before and after the ring's end are read in order. -/
def State.ringEcc (s : State) (b : DieJob) (o n : Nat) : Bool × State :=
  let base := b.ringBase - dramBase b.die
  let k := min n (b.ring - o % b.ring)
  let (x, s) := s.eccRead (.dram b.die) (base + o % b.ring) k
  let (y, s) := if k < n then s.eccRead (.dram b.die) base (n - k) else (false, s)
  (x || y, s)

/-- The entries of a TILE body: identifier and REPEAT (R211). -/
def tileEntries (body : List Byte) : List (Nat × Nat) :=
  (List.range (body.length / 8)).map fun k => (numAt body (8 * k) 4, numAt body (8 * k + 4) 2)

/-- The runs of one 16-byte block: value and points (R212). -/
def runBlock (blk : List Byte) : List (Nat × Nat) :=
  (List.range 7).map fun i => (bits (numAt blk 0 2) (2 * i) 2, numAt blk (2 + 2 * i) 2 + 1)

/-- Runs that fill exactly `n` points from a list; what is left of the list, or none where a run passes the end or the
list is too short. -/
def takeRuns : List (Nat × Nat) → Nat → Option (List (Nat × Nat))
  | rest, 0 => some rest
  | [], _ + 1 => none
  | (_, c) :: rest, n + 1 => if c ≤ n + 1 then takeRuns rest (n + 1 - c) else none

/-- All runs of a RUN body. -/
def runsOf (body : List Byte) : List (Nat × Nat) :=
  (List.range (body.length / 16)).flatMap fun k => runBlock ((body.drop (16 * k)).take 16)

/-- A RUN body keeps R212 for `n` groups: runs fill the points exactly, the last block is needed, and what it has left is
zero. -/
def runBodyOk (body : List Byte) (n : Nat) : Bool :=
  match takeRuns (runsOf body) (2048 * n) with
  | some rest => decide (rest.length < 7) && rest.all (fun r => decide (r.1 = 0 ∧ r.2 = 1)) &&
      (List.range (body.length / 16)).all fun k => decide (numAt body (16 * k) 2 < 2 ^ 14)
  | none => false

/-- The body of a record is free of the format errors of R213, for a lane of `n` groups. -/
def bodyOk (b : DieJob) (fmt n : Nat) (body : List Byte) : Bool :=
  if fmt = 1 then decide (body.length = 512 * n)
  else if fmt = 2 then
    let e := tileEntries body
    decide (body.length % 8 = 0 ∧ (e.map Prod.snd).sum = n) &&
      e.all fun x => decide (x.1 < b.tileCount ∨ x.1 = 0xFFFFFFFF)
  else decide (body.length % 16 = 0) && runBodyOk body n

/-- A record keeps R209 in its stream: after the last one in order, at the lane's next uncovered line (at any line for the
lane's first record after a late start, R323), not wholly beyond the job. -/
def orderOk (e : Ing) (length lane first : Nat) : Bool :=
  (match e.last with
    | some (f, l) => decide (f < first ∨ (f = first ∧ l < lane))
    | none => true) && decide ((first = Tab.get e.cover lane 0 ∨ lane ∈ e.late) ∧ first < length)

/-- The header of a record is in range: format code, lane of the job, lines covered (R208). -/
def headOk (b : DieJob) (h : List Byte) : Bool :=
  let f := numAt h 0 1
  let l := numAt h 2 2
  decide (1 ≤ f ∧ f ≤ 3 ∧ numAt h 1 1 < 12 ∧ b.n (numAt h 1 1) ≠ 0 ∧ 1 ≤ l ∧ (f = 2 → l ≤ 16))

/-- The engine of a die halts at a record that starts at ring offset `o` (R220). -/
def State.ingestHalt (s : State) (d o : Nat) : State :=
  let t := ((s.ingSet d ING_STAT_CRCERR 65).wr (.ing d) ING_STAT_STATE 3).bump (.ing d) ING_ERRCNT_COUNT
  t.offer Ev.INGEST_HALT (.die d) [o]

/-- A record with a format error is noted (R220). -/
def State.ingestFormat (s : State) (d : Nat) : State :=
  ((s.ingSet d ING_STAT_FMTERR 66).bump (.ing d) ING_ERRCNT_COUNT).offer Ev.INGEST_FORMAT (.die d)

/-- The bytes between the engine's next record and ING_WPTR. -/
def State.ringAvail (s : State) (b : DieJob) (parse : Nat) : Nat :=
  (16 * s.rd (.ing b.die) ING_WPTR_OFFSET + b.ring - parse) % b.ring

/-- The engine reads one more record, if one lies wholly below ING_WPTR (R213, R216, R220): none where it does not. -/
def State.readRecord (s : State) (b : DieJob) (length : Nat) : Option State :=
  let e := s.ing b.die
  let av := s.ringAvail b e.parse
  if av < 16 ∨ s.rd (.ing b.die) ING_STAT_STATE = 3 then none
  else
    let h := s.ringBytes b e.parse 16
    let n := numAt h 8 4
    let size := 16 + (n + 15) / 16 * 16
    if av < size then none
    else
      let body := s.ringBytes b (e.parse + 16) n
      let (bad, t) := s.ringEcc b e.parse 16
      if bad then some ((t.ingSet b.die ING_STAT_ECCERR 67).ingestHalt b.die e.parse)
      else if crc32c (h.take 12 ++ body) ≠ numAt h 12 4 then some (t.ingestHalt b.die e.parse)
      else
        let lane := numAt h 1 1
        let first := numAt h 4 4
        let lines := numAt h 2 2
        let ok := headOk b h && orderOk e length lane first &&
          (decide (first + lines ≤ s.job.from_) || bodyOk b (numAt h 0 1) (b.n lane) body)
        let r : Rec := { off := e.parse, size := size, lane := lane, first := first, lines := lines, fmt := numAt h 0 1, bodyLen := n, good := ok }
        let t := t.setIng b.die { e with
          parse := (e.parse + size) % b.ring, recs := e.recs ++ [r], last := some (first, lane), late := e.late.erase lane
          cover := Tab.set (fun k => k) e.cover lane 0 (max (Tab.get e.cover lane 0) (first + lines)) }
        some (if ok then t else t.ingestFormat b.die)

/-- The record that covers a job line of a lane. -/
def Ing.covering (e : Ing) (lane x : Nat) : Option Rec :=
  e.recs.find? fun r => decide (r.lane = lane ∧ r.first ≤ x ∧ x < r.first + r.lines)

/-- The engine reads records until one covers the line, or no more can be read; at most `fuel` of them. -/
def State.readUntil (s : State) (b : DieJob) (length lane x : Nat) : Nat → State
  | 0 => s
  | fuel + 1 =>
    if ((s.ing b.die).covering lane x).isSome then s
    else match s.readRecord b length with
      | some t => t.readUntil b length lane x fuel
      | none => s

/-! ### Decoding (R210 to R212, R219) -/

/-- Points of the runs as 2-bit values. -/
def runPoints (l : List (Nat × Nat)) : List Nat := l.flatMap fun r => List.replicate r.2 r.1

/-- The 256 bytes of one plane from 2,048 point values: position x is bit x mod 8 of byte x div 8 (R181). -/
def planeBytes (k : Nat) (pts : List Nat) : List Byte :=
  (List.range 256).map fun i =>
    BitVec.ofNat 8 ((List.range 8).foldl (fun a j => a + if (pts.getD (8 * i + j) 0).testBit k then 2 ^ j else 0) 0)

/-- Source planes 0 and 1 of every group from the points of a line (R210). -/
def groupBytes (n : Nat) (pts : List Nat) : List Byte :=
  (List.range n).flatMap fun g =>
    let p := (pts.drop (2048 * g)).take 2048
    planeBytes 0 p ++ planeBytes 1 p

/-- One line slice of a tile: 512 bytes, or none at an uncorrectable error (R211). -/
def State.tileSlice (s : State) (b : DieJob) (id slice : Nat) : Option (List Byte) × State :=
  if id = 0xFFFFFFFF then (some (List.replicate 512 0), s)
  else s.readBytes (.dram b.die) (b.tileBase - dramBase b.die + 8192 * id + 512 * slice) 512

/-- The groups that a list of tile entries gives for one slice. -/
def State.tileGroups (s : State) (b : DieJob) (slice : Nat) : List (Nat × Nat) → Option (List Byte) × State
  | [] => (some [], s)
  | (id, rep) :: rest =>
    let (x, s) := s.tileSlice b id slice
    let (y, s) := State.tileGroups s b slice rest
    match x, y with
    | some x, some y => (some ((List.replicate rep x).flatten ++ y), s)
    | _, _ => (none, s)

/-- The source batt of a job line of a lane of `n` groups, decoded from its record; none at an uncorrectable error. -/
def State.decodeLine (s : State) (b : DieJob) (r : Rec) (n x : Nat) : Option (List Byte) × State :=
  let (bad, s) := s.ringEcc b (r.off + 16) r.bodyLen
  if bad then (none, s)
  else
    let body := s.ringBytes b (r.off + 16) r.bodyLen
    if r.fmt = 1 then (some body, s)
    else if r.fmt = 2 then s.tileGroups b (x - r.first) (tileEntries body)
    else (some (groupBytes n ((runPoints (runsOf body)).take (2048 * n))), s)

/-! ### Filling and abandoning (R214 to R218) -/

/-- The byte offset of source buffer `n mod 4` (R181). -/
def srcBuf (n : Nat) : Nat := 0x300000 + 0x20000 * (n % 4)

/-- A line lies before the line at which the lane's handling of lines began, or will begin (R187, R214). -/
def State.beforeHandling (s : State) (d j k : Nat) : Bool :=
  decide (k < s.lines.length) && !s.handles d j k && ((s.lane d j).runAt.isSome || decide (s.lineS d j k ≤ s.ps))

/-- The lane has released the source buffer of a line: every earlier line of that buffer is finished, or lies before the
line at which handling began (R214). -/
def State.srcReleased (s : State) (d j i : Nat) : Bool :=
  let l := s.lane d j
  let b := s.lineNo i % 4
  ((List.range i).all fun k => decide (k < l.finished) || s.beforeHandling d j k || decide (s.lineNo k % 4 ≠ b)) &&
    match l.kern with
    | some k => decide (i ≤ k.line ∨ s.lineNo k.line % 4 ≠ b)
    | none => true

/-- How many lines the engine has completed or abandoned for a lane. -/
def State.fillPlace (s : State) (d j : Nat) : Nat := Tab.get (s.ing d).done j 0

/-- The engine moves to a lane's next line. -/
def State.passLine (s : State) (d j : Nat) : State :=
  let e := s.ing d
  s.setIng d { e with done := Tab.set (fun k => k) e.done j 0 (Tab.get e.done j 0 + 1), failed := Tab.set (fun k => k) e.failed j 0 0 }

/-- A job line of a lane has been completed or abandoned: job lines below the returned number are. -/
def State.jobDone (s : State) (d j : Nat) : Nat :=
  match s.job.job, s.fillPlace d j with
  | some jb, i + 1 =>
    if s.jobState < 2 ∨ i < s.job.first then 0
    else if jb.length ≤ i - s.job.first then jb.length
    else min ((s.lineNo i + 2 ^ 32 - s.rd .pkgNode JOB_START_LINE) % 2 ^ 32 + 1) jb.length
  | _, _ => 0

/-- A record is passed once every line it covers is completed or abandoned for its lane (R216). -/
def State.recPassed (s : State) (d : Nat) (length : Nat) (r : Rec) : Bool :=
  !s.laneInJob d r.lane || decide (length ≤ r.first ∨ min length (r.first + r.lines) ≤ s.jobDone d r.lane)

/-- ING_RPTR advances past the records at the head that are passed. -/
def State.passRecords (s : State) (d length : Nat) : List Rec → State
  | [] => s
  | r :: rs =>
    if s.recPassed d length r then
      ((s.setIng d { s.ing d with recs := rs }).wr (.ing d) ING_RPTR_OFFSET
        ((match s.dieJob d with | some b => (r.off + r.size) % b.ring | none => r.off + r.size) / 16)).passRecords d length rs
    else s

/-- A lane's line may be filled now: its buffer is released, no error keeps it incomplete, its E has not passed (R214,
R215, R218). It need not be announced; what it waits for is its number. -/
def State.fillable (s : State) (d j : Nat) : Bool :=
  let i := s.fillPlace d j
  (if i < s.lines.length then decide (s.ps < s.lineE d j i) else s.linesNumbered) && s.srcReleased d j i &&
    decide (Tab.get (s.ing d).failed j 0 ≠ i + 1 ∧ s.rd (.ing d) ING_STAT_STATE ≠ 3)

/-- A batt is written into its source buffer and marked complete (R214, R187). -/
def State.completeBatt (s : State) (d j : Nat) (bs : List Byte) : State :=
  let i := s.fillPlace d j
  let n := s.lineNo i
  let t := (s.writeBytes (.lsram d j) (srcBuf n) bs).2
  let l := t.lane d j
  let t := t.setLane d j { l with src := Tab.set (fun k => k) l.src (n % 4) 0 (i + 1) }
  let t := (t.wr (.ing d) ING_LINE_LINE n).passLine d j
  t.setIng d { t.ing d with starved := false }

/-- A line that an error keeps incomplete until it is abandoned. -/
def State.failLine (s : State) (d j : Nat) : State :=
  let e := s.ing d
  s.setIng d { e with failed := Tab.set (fun k => k) e.failed j 0 (s.fillPlace d j + 1) }

/-- The engine of a die fills one line of one lane (R214 to R220). -/
def State.fillLane (s : State) (b : DieJob) (length j : Nat) : State :=
  let d := b.die
  let i := s.fillPlace d j
  let n := b.n j
  match s.jobLine i with
  | none => s.completeBatt d j (List.replicate (512 * n) 0)
  | some x =>
    let s := s.readUntil b length j x (b.ring / 16 + 1)
    match (s.ing d).covering j x with
    | some r =>
      if s.rd (.ing d) ING_STAT_STATE = 3 then s
      else if ¬ r.good then s.failLine d j
      else
        match s.decodeLine b r n x with
        | (some bs, s) => (s.completeBatt d j bs).passRecords d length (s.ing d).recs
        | (none, s) => (s.ingSet d ING_STAT_ECCERR 67).failLine d j
    | none => s

/-- Of the lanes of a job that may be filled, the one with the earliest line, then the lowest number (R214). -/
def State.fillChoice (s : State) (d : Nat) : List Nat → Option Nat
  | [] => none
  | j :: js =>
    match State.fillChoice s d js with
    | some k => if s.fillable d j ∧ s.fillPlace d j ≤ s.fillPlace d k then some j else some k
    | none => if s.fillable d j then some j else none

/-- INGEST_FILL: the engine of die `d` fills its next source batt, if it can (R214). -/
def execIngestFill (d : Nat) (s : State) : Host.Outcome State Fault Refusal :=
  .next (match s.dieJob d, s.job.job with
    | some b, some jb =>
      match s.fillChoice d b.lanes with
      | some j => s.fillLane b jb.length j
      | none => s
    | _, _ => s)

/-- The engine abandons the next line of a lane (R218). -/
def State.abandonLine (s : State) (d j : Nat) : State :=
  let n := (s.lineAt (s.fillPlace d j)).n
  let t := (s.ingSet d ING_STAT_STARVED 64).bump (.ing d) ING_ABANDON_COUNT
  let t := if (t.ing d).starved then t else t.offer Ev.INGEST_STARVED (.die d) [n]
  let t := (t.setIng d { t.ing d with starved := true }).passLine d j
  match s.job.job with
  | some jb => t.passRecords d jb.length (t.ing d).recs
  | none => t

/-- INGEST_ABANDON: E(n) of the next line of lane `j` passes with its source batt not complete (R218). -/
def execIngestAbandon (d j : Nat) (s : State) : Host.Outcome State Fault Refusal :=
  .next (if s.laneInJob d j ∧ s.fillPlace d j < s.lines.length ∧ s.lineE d j (s.fillPlace d j) ≤ s.ps then s.abandonLine d j else s)

/-- ING_WPTR_WRITE: a write of ING_WPTR of die `d` (R217, R221). -/
def execIngWptrWrite (d w : Nat) (s : State) : Host.Outcome State Fault Refusal :=
  let v := ING_WPTR_OFFSET.of w
  .next (match s.dieJob d with
    | some b => if 16 * v < b.ring then s.wr (.ing d) ING_WPTR_OFFSET v else s
    | none => if s.hasDie d then s.wr (.ing d) ING_WPTR_OFFSET v else s)

/-! ### Calibration transfers (R222 to R224) -/

/-- A calibration transfer ends with a result: 0x01 CAL_OK, 0x02 CAL_PATCH_LONG, 0x03 CAL_RANGE, 0x04 CAL_ECC,
0x05 CAL_BUSY; source 68. -/
def State.calResult (s : State) (d r : Nat) : State := (s.wr (.ing d) ING_CAL_STAT_RESULT r).raiseDie d 68

/-- The records of a source list: bytes of each, from its first to the first that cannot be read. -/
def State.calRead (s : State) (m : MemId) (size : Nat) : List Nat → List (List Byte) × Bool × State
  | [] => ([], false, s)
  | a :: as =>
    match s.readBytes m a size with
    | (none, s) => ([], true, s)
    | (some bs, s) =>
      let (l, e, s) := State.calRead s m size as
      (bs :: l, e, s)

/-- GO starts a transfer or refuses it (R223). A COUNT of 0, the reset value, and a target lane above 11 name nothing to
write, and are refused as CAL_RANGE (DESIGN CHOICE, log entry 170). -/
def State.calStart (s : State) (d : Nat) : State :=
  let mode := s.rd (.ing d) ING_CAL_CTRL_MODE
  let lane := s.rd (.ing d) ING_CAL_CTRL_LANE
  let count := s.rd (.ing d) ING_CAL_COUNT_COUNT
  let src := s.rd (.ing d) ING_CAL_SRC_LO_ADDR * 16 + s.rd (.ing d) ING_CAL_SRC_HI_ADDR * 2 ^ 32
  let size := if mode = 1 then 8 else 2
  if mode = 1 ∧ 64 < count then s.calResult d 2
  else if count = 0 ∨ 11 < lane ∨ ¬ inDram d (src, size * count) then s.calResult d 3
  else
    let (l, ecc, t) := s.calRead (.dram d) size ((List.range count).map fun i => src - dramBase d + size * i)
    let recs := if mode = 1 then l.map fun b => (numAt b 0 4, numAt b 4 2)
      else (l.zip (List.range l.length)).map fun p => (p.2, numAt p.1 0 2)
    if recs.any fun r => decide (524287 < r.1) then s.calResult d 3
    else (t.setIng d { t.ing d with cal := some { lane := lane, mode := mode, recs := recs, ecc := ecc } }).wr (.ing d) ING_CAL_CTRL_GO 1

/-- A write of ING_CAL_CTRL: LANE and MODE are taken; GO = 1 starts a transfer, or reads CAL_BUSY while one runs, which
goes on with the lane and mode it began with (R221, R223). -/
def State.calCtrl (s : State) (d w : Nat) : State :=
  let t := s.wrOf (.ing d) [ING_CAL_CTRL_LANE, ING_CAL_CTRL_MODE] w
  if ING_CAL_CTRL_GO.of w = 0 then t
  else if (s.ing d).cal.isSome then t.calResult d 5
  else t.calStart d

/-- CAL_TRANSFER: a write of ING_CAL_CTRL of die `d` (R223). -/
def execCalTransfer (d w : Nat) (s : State) : Host.Outcome State Fault Refusal :=
  .next (if s.hasDie d then s.calCtrl d w else s)

/-- Bytes written to the lane SRAM of a lane, word ECC included. -/
def State.laneWrite (s : State) (d j a : Nat) (bs : List Byte) : State := (s.writeBytes (.lsram d j) a bs).2

/-- A calibration write reaches a lane: held while a kernel runs, else applied (R183). -/
def State.calWrite (s : State) (d j a : Nat) (bs : List Byte) : State :=
  let l := s.lane d j
  if l.kern.isSome then s.setLane d j { l with held := l.held ++ [(a, bs)] } else s.laneWrite d j a bs

/-- The first `n` records of a transfer are passed to the lane. -/
def State.calPass (s : State) (d : Nat) (c : CalRun) (n : Nat) : State :=
  (s.each (c.recs.take n) fun t r => t.calWrite d c.lane (2 * r.1) (leBytes 2 r.2)).setIng d
    { s.ing d with cal := some { c with recs := c.recs.drop n } }

/-- Free places in the hold of a lane; while no kernel runs, no write waits (R183). -/
def State.holdRoom (s : State) (d j n : Nat) : Bool :=
  decide ((s.lane d j).kern = none ∨ (s.lane d j).held.length + n ≤ 64)

/-- A transfer ends: what is left of it is passed, a patch list whole or not at all (R223, R224). -/
def State.calEnd (s : State) (d : Nat) (c : CalRun) : State :=
  let n := if c.mode = 1 ∧ c.ecc then 0 else c.recs.length
  let t := s.calPass d c n
  let t := t.setIng d { t.ing d with cal := none, patched := if c.mode = 1 ∧ ¬ c.ecc then some c.lane else (t.ing d).patched }
  (t.wr (.ing d) ING_CAL_CTRL_GO 0).calResult d (if c.ecc then 4 else 1)

/-- CAL_TRANSFER_DONE: the transfer of die `d` ends, if the lane can take what is left of it (R224). -/
def execCalTransferDone (d : Nat) (s : State) : Host.Outcome State Fault Refusal :=
  .next (match (s.ing d).cal with
    | some c => if s.holdRoom d c.lane c.recs.length then s.calEnd d c else s
    | none => s)

end Sys2Proof.Machine
end

