-- ==== Sys2Proof/Machine/Lanes.lean ====
section
/-! DEFINITION. The lane timer (R186 to R196), the handing of a batt to its routes (R263 to R268), and lane memories
(R181 to R185). -/

namespace Sys2Proof.Machine

/-! ### Lane SRAM and kernel store -/

/-- The physical slot that runs, and the hood slot (R179). -/
def State.slotOf (s : State) (d j : Nat) : Nat := s.rd (.lane d j) LANE_STAT_SLOT
def State.hoodSlot (s : State) (d j : Nat) : Nat := 1 - s.slotOf d j

/-- The place in lane SRAM of the LUT tables of a physical slot. -/
def lutBase (slot : Nat) : Nat := 0x380000 + 0x100 * slot

/-- The byte of lane SRAM that an address names: the tables of the running slot stand first (R179, R181). -/
def State.laneAddr (s : State) (d j a : Nat) : Nat :=
  if 0x380000 ≤ a ∧ a < 0x380200 then
    (if a < 0x380100 then lutBase (s.slotOf d j) else lutBase (s.hoodSlot d j)) + a % 0x100
  else a

/-- Byte offset of output buffer `n mod 4` (R181). -/
def outBuf (n : Nat) : Nat := 0x100000 + 0x80000 * (n % 4)

/-- The state of the lane's kernel hood: 0 NONE, 1 LOADED, 2 ARMED. -/
def State.khood (s : State) (d j : Nat) : Nat := s.rd (.lane d j) LANE_KHOOD_STAT_STATE

/-- A hood command of a lane ends with a result: source 256 + 8j + 6 (R195, R203). -/
def State.khoodResult (s : State) (d j r : Nat) (detail : Nat := 0) : State :=
  (s.wrs (.lane d j) [(LANE_KHOOD_STAT_RESULT, r), (LANE_KHOOD_STAT_DETAIL, detail)]).raiseDie d (256 + 8 * j + 6)

/-- The kernel-hood state takes a value; SWITCH reads 1 while ARMED. -/
def State.setKhood (s : State) (d j v : Nat) : State :=
  s.wrs (.lane d j) [(LANE_KHOOD_STAT_STATE, v), (LANE_KHOOD_CTRL_SWITCH, if v = 2 then 1 else 0)]

/-- The lane's hood is no longer armed. -/
def State.disarm (s : State) (d j v : Nat) : State := (s.setLane d j { s.lane d j with arm := none }).setKhood d j v

/-- A kernel hood is discarded by a happening (1 package reset, 2 node reset, 3 nap entry): the state becomes NONE, and
HOOD_LOST is its result and is recorded, at the next boot for a package reset (R164, R201). -/
def State.khoodLost (s : State) (d j why : Nat) : State :=
  let st := s.khood d j
  if st = 0 then s
  else
    let t := (s.disarm d j 0).khoodResult d j 0x0A
    if why = 1 then t.offerAtBoot Ev.HOOD_LOST (.lane d j) [1, st, why] else t.offer Ev.HOOD_LOST (.lane d j) [1, st, why]

/-- What becomes of a write at its destination: taken, refused with a region code (R48), or held (R541). -/
inductive WriteResult where
  | taken (s : State)
  | refused (code : Nat)
  | held

/-- LANE_SRAM_ADDR advances by a word, wrapping within 8 MiB (R118, R203). -/
def State.stepLaneAddr (s : State) (d j : Nat) : State :=
  s.wr (.lane d j) LANE_SRAM_ADDR_ADDR (s.rd (.lane d j) LANE_SRAM_ADDR_ADDR + 1)

/-- The word that LANE_SRAM_DATA names has a held calibration write, for which a read waits (R183). -/
def State.calHeld (s : State) (d j : Nat) : Bool :=
  let a := 4 * s.rd (.lane d j) LANE_SRAM_ADDR_ADDR
  (s.lane d j).held.any fun w => decide (a < w.1 + w.2.length ∧ w.1 < a + 4)

/-- A read of LANE_SRAM_DATA: the word, and the address advanced; an uncorrectable error records LANE_ECC (R184). -/
def State.laneSramRead (s : State) (d j : Nat) : Nat × State :=
  let a := 4 * s.rd (.lane d j) LANE_SRAM_ADDR_ADDR
  let p := s.laneAddr d j a
  let (bad, t) := s.eccRead (.lsram d j) p 4
  let t := if bad then t.offer Ev.LANE_ECC (.lane d j) [a] else t
  (s.load (.lsram d j) p 4, t.stepLaneAddr d j)

/-- A write of LANE_SRAM_DATA (R183, R185, R198): running tables are refused while RUN is 1, hood tables while ARMED; a
calibration write under a running kernel is held, or waits for a place. -/
def State.laneSramWrite (s : State) (d j w : Nat) : WriteResult :=
  let a := 4 * s.rd (.lane d j) LANE_SRAM_ADDR_ADDR
  if 0x380000 ≤ a ∧ a < 0x380100 ∧ s.is (.lane d j) LANE_CTRL_RUN then .refused 0xF3
  else if 0x380100 ≤ a ∧ a < 0x380200 ∧ s.khood d j = 2 then .refused 0xF3
  else if a < 0x100000 then
    if s.holdRoom d j 1 then .taken ((s.calWrite d j a (leBytes 4 w)).stepLaneAddr d j) else .held
  else
    let t := (s.laneWrite d j (s.laneAddr d j a) (leBytes 4 w)).stepLaneAddr d j
    .taken (if 0x380100 ≤ a ∧ a < 0x380200 then t.setKhood d j 0 else t)

/-- The physical slot that LANE_KS_ADDR selects. -/
def State.ksSlot (s : State) (d j : Nat) : Nat := if s.is (.lane d j) LANE_KS_ADDR_RUNSLOT then s.slotOf d j else s.hoodSlot d j

/-- LANE_KS_ADDR advances by two parcels (R203). -/
def State.stepKsAddr (s : State) (d j : Nat) : State :=
  s.wr (.lane d j) LANE_KS_ADDR_ADDR (s.rd (.lane d j) LANE_KS_ADDR_ADDR + 1)

/-- A read of LANE_KS_DATA (R203). -/
def State.laneKsRead (s : State) (d j : Nat) : Nat × State :=
  let a := 4 * s.rd (.lane d j) LANE_KS_ADDR_ADDR
  let m := MemId.ks d j (s.ksSlot d j)
  (s.load m a 4, ((s.eccRead m a 4).2).stepKsAddr d j)

/-- A write of LANE_KS_DATA (R185, R198, R203). -/
def State.laneKsWrite (s : State) (d j w : Nat) : WriteResult :=
  if s.is (.lane d j) LANE_KS_ADDR_RUNSLOT ∨ s.khood d j = 2 then .refused 0xF3
  else
    let a := 4 * s.rd (.lane d j) LANE_KS_ADDR_ADDR
    .taken ((((s.writeBytes (.ks d j (s.hoodSlot d j)) a (leBytes 4 w)).2).stepKsAddr d j).setKhood d j 0)

/-! ### State of a lane -/

/-- The lane is FAULTED (R196). -/
def State.faulted (s : State) (d j : Nat) : Bool := decide (s.rd (.lane d j) LANE_STAT_STATE = 3)

/-- The lane is frozen; stopped by EN = 0 or NAP = 1. -/
def State.laneFrozen (s : State) (d j : Nat) : Bool := s.is (.lane d j) NODE_CTRL_FRZ
def State.laneGated (s : State) (d j : Nat) : Bool := !s.is (.lane d j) NODE_CTRL_EN || s.is (.lane d j) NODE_CTRL_NAP

/-- Output buffer `n mod 4` is free (R187, R268). -/
def State.outFree (s : State) (d j n : Nat) : Bool := decide (Tab.get (s.lane d j).out (n % 4) (0, 0) = (0, 0))

/-- The source batt of a line is complete; a lane outside any job has every buffer complete (R187, R215). -/
def State.srcComplete (s : State) (d j i : Nat) : Bool :=
  !s.laneInJob d j || decide (Tab.get (s.lane d j).src ((s.lineAt i).n % 4) 0 = i + 1)

/-- A line that the lane may not start although it is no longer FAULTED: its S fell before FAULTED was cleared (R196). -/
def State.inFault (s : State) (d j i : Nat) : Bool :=
  s.faulted d j || match (s.lane d j).faultEnd with
    | some t => decide (s.lineS d j i ≤ (t : Int) * 1000)
    | none => false

/-- LANE_STAT.STATE as it reads: 0 STOPPED, 1 WAITING, 2 KERNEL, 3 FAULTED, 4 FROZEN. A lane whose RUN is 0 reads STOPPED,
also while frozen, as the reset value has it (R203). -/
def State.laneState (s : State) (d j : Nat) : Nat :=
  if s.faulted d j then 3
  else if (s.lane d j).kern.isSome then 2
  else if !s.is (.lane d j) LANE_CTRL_RUN then 0
  else if s.laneFrozen d j then 4 else 1

/-- The line whose start is due and waits (R187). -/
def State.dueStart (s : State) (d j : Nat) : Option Nat :=
  match s.laneNext d j with
  | some i => if s.lineS d j i ≤ s.ps ∧ (s.lane d j).kern = none then some i else none
  | none => none

/-- LANE_STAT.HOLD_SRC and HOLD_OUT as they read. -/
def State.holdSrc (s : State) (d j : Nat) : Bool :=
  match s.dueStart d j with | some i => !s.srcComplete d j i | none => false
def State.holdOut (s : State) (d j : Nat) : Bool :=
  match s.dueStart d j with | some i => !s.outFree d j (s.lineAt i).n | none => false

/-! ### LANE_CTRL (R191, R196, R203) -/

/-- A route of the lane reaches past group N − 1 (R263). -/
def State.routesOver (s : State) (d j : Nat) : Bool :=
  (List.range 32).any fun r =>
    decide (s.rd (.lane d j) (LANE_ROUTE_A_COUNT r) ≠ 0 ∧
      s.rd (.lane d j) LANE_GROUPS_N < s.rd (.lane d j) (LANE_ROUTE_A_FIRST r) + s.rd (.lane d j) (LANE_ROUTE_A_COUNT r))

/-- The cases that refuse RUN = 1 (R203, R263). -/
def State.runRefused (s : State) (d j : Nat) : Bool :=
  let b := Blk.lane d j
  let lead := s.rd b LANE_LEAD_NS
  let fin := s.rd b LANE_FIN_NS
  decide (s.rd b LANE_KCOST_PERGROUP = 0 ∨ s.rd b LANE_GROUPS_N = 0 ∨ lead < 1000 ∨ 200000 < lead ∨ lead ≤ fin ∨ fin < 500 ∨
    fin ≤ s.rd b LANE_LINKBUD_NS) || s.routesOver d j

/-- Handling of lines begins now. -/
def State.beginLines (s : State) (d j : Nat) : State :=
  s.setLane d j { s.lane d j with runAt := some s.tmb.count, stopping := false }

/-- RUN = 1 written (R187, R203). -/
def State.laneRun (s : State) (d j : Nat) : State :=
  if s.is (.lane d j) LANE_CTRL_RUN ∧ ¬ (s.lane d j).stopping then s
  else if s.runRefused d j then s.wr (.lane d j) LANE_STAT_CFGERR 1
  else (s.wr (.lane d j) LANE_CTRL_RUN 1).beginLines d j

/-- LANE_RUN: a write of LANE_CTRL.RUN = 1 (R203). -/
def execLaneRun (d j : Nat) (s : State) : Host.Outcome State Fault Refusal :=
  .next (if s.hasNode (.lane d j) then s.laneRun d j else s)

/-- RUN = 0 written: ignored under a budget; a running kernel runs to its end first (R191). -/
def State.laneStop (s : State) (d j : Nat) : State :=
  if s.rd (.lane d j) LANE_BUDGET_CYCLES ≠ 0 ∨ ¬ s.is (.lane d j) LANE_CTRL_RUN then s
  else
    let l := s.lane d j
    if l.kern.isSome then s.setLane d j { l with runAt := none, stopping := true }
    else (s.setLane d j { l with runAt := none }).wr (.lane d j) LANE_CTRL_RUN 0

/-- LANE_STOP: a write of LANE_CTRL.RUN = 0 (R191). -/
def execLaneStop (d j : Nat) (s : State) : Host.Outcome State Fault Refusal :=
  .next (if s.hasNode (.lane d j) then s.laneStop d j else s)

/-- FAULTED is cleared (R196). -/
def State.clearFaulted (s : State) (d j : Nat) : State :=
  if s.faulted d j then
    (s.setLane d j { s.lane d j with faultEnd := some s.tmb.count }).wrs (.lane d j) [(LANE_STAT_STATE, 0), (LANE_CTRL_RESUME, 0)]
  else s

/-- LANE_RESUME: a write of LANE_CTRL.RESUME = 1 (R196). -/
def execLaneResume (d j : Nat) (s : State) : Host.Outcome State Fault Refusal :=
  .next (if s.hasNode (.lane d j) then s.clearFaulted d j else s)

/-- A write of LANE_CTRL: FAULTX as written, then RESUME, then RUN. -/
def State.laneCtrl (s : State) (d j w : Nat) : State :=
  let t := s.wr (.lane d j) LANE_CTRL_FAULTX (LANE_CTRL_FAULTX.of w)
  let t := if LANE_CTRL_RESUME.of w = 1 then t.clearFaulted d j else t
  if LANE_CTRL_RUN.of w = 1 then t.laneRun d j else t.laneStop d j

/-! ### Handing a batt (R188, R189, R194, R263 to R268) -/

/-- A route of a lane that sends its line: for each route with groups, a link that is UP takes the line, and another
counts LINK_TXDROP (R263, R267). The number of links that took it. -/
def State.handRoutes (s : State) (d j i : Nat) (blank : Bool) : List Nat → Nat × State
  | [] => (0, s)
  | r :: rs =>
    let count := s.rd (.lane d j) (LANE_ROUTE_A_COUNT r)
    if count = 0 then s.handRoutes d j i blank rs
    else
      let m := s.rd (.lane d j) (LANE_ROUTE_A_LINK r)
      if s.rd (.link d m) LINK_STAT_STATE = 2 then
        let l := s.link d m
        let x : RouteTx := { lane := j, route := r, line := (s.lineAt i).n, dl := s.lineD d j i,
                             first := s.rd (.lane d j) (LANE_ROUTE_A_FIRST r), count := count,
                             target := s.rd (.lane d j) (LANE_ROUTE_B_TARGET r), blank := blank }
        let (k, t) := (s.setLink d m { l with routes := l.routes ++ [x] }).handRoutes d j i blank rs
        (k + 1, t)
      else (s.bump (.link d m) LINK_TXDROP_COUNT).handRoutes d j i blank rs

/-- The job is COMPLETE once its last line has been handed in every lane (R232). -/
def State.jobComplete (s : State) : State :=
  match s.job.job with
  | some jb =>
    match s.placeOf (s.rd .pkgNode JOB_START_LINE + jb.length - 1) with
    | some p =>
      if s.jobState = 2 ∧ s.job.first ≤ p ∧ s.jobLanes.all (fun l => decide (p < (s.lane l.1 l.2).finished)) then
        (s.setJobState 3).each jb.dies fun t b =>
          if t.rd (.ing b.die) ING_STAT_STATE = 2 then t.wr (.ing b.die) ING_STAT_STATE 1 else t
      else s
    | none => s
  | none => s

/-- A lane hands the batt of a line: counts are published (source 4 of the lane), the routes take it, and the output
buffer stays held until they have finished (R188, R194, R268). -/
def State.handBatt (s : State) (d j i : Nat) (blank : Bool) (acc : List Nat) : State :=
  let n := (s.lineAt i).n
  let (k, t) := s.handRoutes d j i blank (List.range 32)
  let l := t.lane d j
  let out := if blank ∨ k = 0 then l.out else Tab.set (fun k => k) l.out (n % 4) (0, 0) (i + 1, k)
  let t := t.setLane d j { l with finished := max l.finished (i + 1), owed := if l.owed = some i then none else l.owed, out := out, counts := acc, cntLine := n, cntBlank := blank }
  ((t.wr (.lane d j) LANE_LINE_LINE n).raiseDie d (256 + 8 * j + 4)).jobComplete

/-- A line of a lane gets a blank batt with a reason (R189). -/
def State.blankBatt (s : State) (d j i reason : Nat) : State :=
  let n := (s.lineAt i).n
  let t := (s.bump (.lane d j) LANE_BLANKCNT_COUNT).wrs (.lane d j) [(LANE_BLANKINFO_REASON, reason), (LANE_BLANKLINE_LINE, n)]
  let t := (t.offer Ev.BATT_LATE (.lane d j) [n, reason]).raiseDie d (256 + 8 * j + 5)
  t.handBatt d j i true [0, 0, 0, 0, 0, 0, 0, 0]

/-- Held calibration writes are applied in arrival order (R183). -/
def State.applyHeld (s : State) (d j : Nat) : State :=
  ((s.lane d j).held.foldl (fun t w => t.laneWrite d j w.1 w.2) s).setLane d j { s.lane d j with held := [] }

/-- The lane's kernel is over: held writes are applied, and a stop that waited for it is complete (R183, R191). -/
def State.kernelOver (s : State) (d j : Nat) : State :=
  let t := s.setLane d j { s.lane d j with kern := none }
  let t := t.applyHeld d j
  if (t.lane d j).stopping then (t.setLane d j { t.lane d j with stopping := false }).wr (.lane d j) LANE_CTRL_RUN 0 else t

/-- The capture of a plane fault is loaded, or LOST is set where it is held (R196). A fault of the LOAD check has no line and
no group: these take free values, and PARCEL the parcel that the check had reached (DESIGN CHOICE, log entry 166). -/
def State.laneCapture (s : State) (d j kind pos : Nat) : State :=
  let b := Blk.lane d j
  if s.is b LANE_FAULT_VALID then s.wr b LANE_FAULT_LOST 1
  else
    let (line, t) := s.freeNat
    let (group, t) := t.freeNat
    let (pos, line, group, t) := match (s.lane d j).kern with
      | some k => (k.pos, (s.lineAt k.line).n, k.group, s)
      | none => (pos, line, group, t)
    t.wrs b [(LANE_FAULT_KIND, kind), (LANE_FAULT_PARCEL, pos), (LANE_FAULT_VALID, 1), (LANE_FAULT_LINE_LINE, line),
      (LANE_FAULT_GROUP_GROUP, group)]

/-- A plane fault (R196, R197): the kernel stops, and its line is owed a blank batt; the lane is FAULTED, the capture is
loaded or LOST set, and with FAULTX the owning core has an exception pending. `pos` is the parcel that a LOAD check had
reached. -/
def State.planeFault (s : State) (d j kind : Nat) (pos : Nat := 0) : State :=
  let b := Blk.lane d j
  let t := s.laneCapture d j kind pos
  let t := match (s.lane d j).kern with
    | some k => t.setLane d j { t.lane d j with owed := some k.line }
    | none => t
  let t := ((t.kernelOver d j).wr b LANE_STAT_STATE 3).nodeFault (.lane d j) Ev.PLANE_FAULT
  let t := t.offer Ev.PLANE_FAULT (.lane d j)
  if t.is b LANE_CTRL_FAULTX then t.setLane d j { t.lane d j with xfault := some kind } else t

/-- The reason of a blank batt of line `i` at its E (R189); `abandoned`: its kernel has just been abandoned. -/
def State.blankReason (s : State) (d j i : Nat) (abandoned : Bool) : Nat :=
  if s.inFault d j i ∨ (s.lane d j).owed = some i then 6
  else if abandoned then 1
  else if s.laneFrozen d j then 5
  else if (s.lane d j).kern.isSome then 2
  else if ¬ s.srcComplete d j i then 3
  else if ¬ s.outFree d j (s.lineAt i).n then 4
  else 1

/-- The line of a lane without a running kernel that is the next to get a blank batt: one whose kernel a plane fault stopped,
also after RUN = 0, else the first that is handled and not finished (R189, R191). -/
def State.blankNext (s : State) (d j : Nat) : Option Nat := (s.lane d j).owed.or (s.laneNext d j)

/-- KERNEL_DEADLINE: at E(n) of a lane's first unfinished line, a running kernel is abandoned, and the line gets its
blank batt (R188, R189). -/
def execKernelDeadline (d j : Nat) (s : State) : Host.Outcome State Fault Refusal :=
  .next (if ¬ s.hasNode (.lane d j) ∨ s.laneGated d j then s
    else match (s.lane d j).kern with
      | some k =>
        if s.lineE d j k.line ≤ s.ps then (s.kernelOver d j).blankBatt d j k.line (s.blankReason d j k.line true) else s
      | none =>
        match s.blankNext d j with
        | some i => if s.lineE d j i ≤ s.ps then s.blankBatt d j i (s.blankReason d j i false) else s
        | none => s)

/-! ### Kernel switch and start (R187, R193, R199, R200) -/

/-- The switch of a lane's hood, at its switch point; `line` is the first line on the new code, if it is known now
(R200). -/
def State.khoodSwitch (s : State) (d j : Nat) (line : Option Nat) : State :=
  let b := Blk.lane d j
  let cost := s.rd b LANE_KHOOD_COST_PERGROUP
  let bud := s.rd b LANE_BUDGET_CYCLES
  if bud ≠ 0 ∧ bud < cost * s.rd b LANE_GROUPS_N then (s.disarm d j 1).khoodResult d j 3
  else
    let t := (s.disarm d j 0).wrs b [(LANE_STAT_SLOT, s.hoodSlot d j), (LANE_KCOST_PERGROUP, cost)]
    let t := t.clearFaulted d j
    let t := match line with
      | some n => t.wr b LANE_KHOOD_LINE_LINE n
      | none => t.setLane d j { t.lane d j with klinePending := true }
    let t := (t.khoodResult d j 1).offer Ev.KHOOD_SWITCHED (.lane d j)
    if t.laneInJob d j then t.capEvaluate else t

/-- The armed hood switches at the start of line `i`, if it waits for the next start or for that line (R199, R202). -/
def State.switchAtStart (s : State) (d j i : Nat) : State :=
  let n := (s.lineAt i).n
  match (s.lane d j).arm with
  | some a => if (a.line = none ∨ a.line = some n) ∧ (a.paired → a.agreed) then s.khoodSwitch d j (some n) else s
  | none => s

/-- A table load under way has passed some of its records by the time a kernel starts; how many is free (R224). -/
def State.loadedSoFar (s : State) (d j : Nat) : State :=
  match (s.ing d).cal with
  | some c =>
    if c.mode = 0 ∧ c.lane = j then
      let (k, t) := s.freeNat
      t.calPass d c (k % (c.recs.length + 1))
    else s
  | none => s

/-- The kernel of line `i` starts (R170, R177, R187, R193, R200, R224). -/
def State.kernelBegin (s : State) (d j i : Nat) : State :=
  let n := (s.lineAt i).n
  let t := (s.switchAtStart d j i).loadedSoFar d j
  let t := if (t.lane d j).klinePending then
      (t.setLane d j { t.lane d j with klinePending := false }).wr (.lane d j) LANE_KHOOD_LINE_LINE n else t
  let t := if (t.ing d).patched = some j then
      (t.setIng d { t.ing d with patched := none }).wr (.ing d) ING_CAL_LINE_LINE n else t
  t.setLane d j { t.lane d j with kern := some { line := i, slot := t.slotOf d j, step := t.rd (.dieNode d) THERM_STAT_STEP } }

/-- The lane's clock is locked (R19, R510). -/
def State.laneClocked (s : State) (d j : Nat) : Bool := s.bit (.dieNode d) CLK_DLOCK_LANE (j / 4)

/-- The conditions of a kernel start (R187). -/
def State.mayStart (s : State) (d j i : Nat) : Bool :=
  s.laneClocked d j && !s.inFault d j i && !s.laneFrozen d j && !s.laneGated d j && (s.lane d j).kern.isNone && s.srcComplete d j i &&
    s.outFree d j (s.lineAt i).n && decide (s.lineS d j i ≤ s.ps ∧ s.ps < s.lineE d j i)

/-- KERNEL_START: the kernel of the lane's next line starts, if its conditions hold (R187). -/
def execKernelStart (d j : Nat) (s : State) : Host.Outcome State Fault Refusal :=
  .next (match s.laneNext d j with
    | some i => if s.hasNode (.lane d j) ∧ s.mayStart d j i then s.kernelBegin d j i else s
    | none => s)

/-! ### Announcements (R238, R440) -/

/-- A line period shorter than the cap allows (R238). -/
def State.capExceeded (s : State) (f : Nat) : State :=
  match s.job.lastF with
  | some g =>
    if s.cap ≠ 0 ∧ s.cap ≠ 0xFFFFFFFF ∧ (f - g) * 1000 * s.cap < 999 * 10 ^ 12 ∧
        s.job.loweredAt + s.rd .pkgNode CAP_GRACE_MS * 1000000 ≤ s.tb then
      ((s.bump .pkgNode CAP_EXCEED_COUNT).offer Ev.CAP_EXCEEDED .pkg).raiseCrown 177
    else if s.cap = 0 ∧ s.job.loweredAt + s.rd .pkgNode CAP_GRACE_MS * 1000000 ≤ s.tb then
      ((s.bump .pkgNode CAP_EXCEED_COUNT).offer Ev.CAP_EXCEEDED .pkg).raiseCrown 177
    else s
  | none => s

/-- A line is announced to every lane and engine (R186, R440). -/
def State.announce (s : State) (n f : Nat) : State :=
  let t := s.capExceeded f
  { t with lines := t.lines ++ [{ n := n, f := f, at_ := s.tmb.count }], job := { t.job with lastF := some f } }

/-- LINE_ANNOUNCE: the generator announces its next line, if it is due; an active unit sends it to its standby in LINE
(R317, R440). -/
def execLineAnnounce (s : State) : Host.Outcome State Fault Refusal :=
  .next (match s.generate with
    | (some (n, f), t) =>
      let t := t.announce n f
      if t.hsbState = hsbACTIVE then t.hsbSend .line ([n] ++ twoWords f) else t
    | (none, t) => t)

end Sys2Proof.Machine
end

