-- ==== Sys2Proof/Machine/PlaneOps.lean ====
section
/-! DEFINITION. The plane instructions (R168 to R178): their encodings, the plane stack, and one step of a lane. -/

namespace Sys2Proof.Machine

/-- A plane instruction (R175). -/
inductive LaneOp where
  | andp | orp | xorp | andnp | notp | selp | zerop | onesp | dupp | dropp | swapp | overp | rotp | nipp | tuckp
  | pickp (n : Nat) | shlp (n : Nat) | shrp (n : Nat) | loadp (k : Nat) | storep (q : Nat) | calp (f : Nat)
  | lutp (t w : Nat) | popcp (k : Nat) | flagp (k : Nat) | gend
  deriving DecidableEq, Repr

/-- The plane instruction that a class 0x6 parcel encodes; none where it is reserved (R175). -/
def laneDecode (p : Nat) : Option LaneOp :=
  let lo := p % 256
  match p / 256 with
  | 0x60 => match lo with
    | 1 => some .andp | 2 => some .orp | 3 => some .xorp | 4 => some .andnp | 5 => some .notp | 6 => some .selp
    | _ => none
  | 0x61 => match lo with
    | 0 => some .zerop | 1 => some .onesp | 2 => some .dupp | 3 => some .dropp | 4 => some .swapp | 5 => some .overp
    | 6 => some .rotp | 7 => some .nipp | 8 => some .tuckp
    | n => if 0x10 ≤ n ∧ n < 0x20 then some (.pickp (n - 0x10)) else none
  | 0x62 => if lo < 64 then some (.shlp (lo + 1)) else none
  | 0x63 => if lo < 64 then some (.shrp (lo + 1)) else none
  | 0x64 => if lo < 2 then some (.loadp lo) else none
  | 0x65 => if lo < 8 then some (.storep lo) else none
  | 0x66 => if lo < 16 then some (.calp lo) else none
  | 0x67 => if lo % 16 < 8 then some (.lutp (lo / 16) (lo % 16 + 1)) else none
  | 0x68 => if lo < 8 then some (.popcp lo) else none
  | 0x69 => if lo < 4 then some (.flagp lo) else none
  | 0x6F => if lo = 0 then some .gend else none
  | _ => none

/-! ### Planes (R171 to R173) -/

/-- Every position of an entry, positions −64 to 2,111 as bits 0 to 2,175. -/
abbrev allPos : Nat := 2 ^ 2176 - 1

/-- The body of an entry: positions 0 to 2,047. -/
def Plane.body (p : Plane) : Nat := p.bits / 2 ^ 64 % 2 ^ 2048

/-- A pointwise result with the least depths of its inputs (R173). -/
def pointwise (bits : Nat) (ps : List Plane) : Plane :=
  { bits := bits, lo := ps.foldl (fun m p => min m p.lo) 64, hi := ps.foldl (fun m p => min m p.hi) 64 }

/-- A plane shifted toward lower positions by `n` (R173). -/
def Plane.shl (p : Plane) (n : Nat) : Plane := { bits := p.bits / 2 ^ n, lo := min 64 (p.lo + n), hi := p.hi - n }

/-- A plane shifted toward higher positions by `n` (R173). -/
def Plane.shr (p : Plane) (n : Nat) : Plane := { bits := p.bits * 2 ^ n % 2 ^ 2176, lo := p.lo - n, hi := min 64 (p.hi + n) }

/-- The number whose bit `x` is `f x`, for `x` below `n`. -/
def ofBits (f : Nat → Bool) : Nat → Nat
  | 0 => 0
  | n + 1 => ofBits f n + if f n then 2 ^ n else 0

/-- The number of ones in the low `n` bits. -/
def popcount (v : Nat) : Nat → Nat
  | 0 => 0
  | n + 1 => popcount v n + if v.testBit n then 1 else 0

/-- What a stack-only plane instruction makes of the stack, top first; none where it is too short. -/
def stackOp : LaneOp → List Plane → Option (List Plane)
  | .andp, b :: a :: r => some (pointwise (a.bits &&& b.bits) [a, b] :: r)
  | .orp, b :: a :: r => some (pointwise (a.bits ||| b.bits) [a, b] :: r)
  | .xorp, b :: a :: r => some (pointwise (a.bits ^^^ b.bits) [a, b] :: r)
  | .andnp, b :: a :: r => some (pointwise (clearBits a.bits b.bits) [a, b] :: r)
  | .notp, a :: r => some (pointwise (allPos - a.bits) [a] :: r)
  | .selp, m :: b :: a :: r => some (pointwise ((b.bits &&& m.bits) ||| clearBits a.bits m.bits) [a, b, m] :: r)
  | .zerop, r => some ({ bits := 0, lo := 64, hi := 64 } :: r)
  | .onesp, r => some ({ bits := allPos, lo := 64, hi := 64 } :: r)
  | .dupp, a :: r => some (a :: a :: r)
  | .dropp, _ :: r => some r
  | .swapp, b :: a :: r => some (a :: b :: r)
  | .overp, b :: a :: r => some (a :: b :: a :: r)
  | .rotp, c :: b :: a :: r => some (a :: c :: b :: r)
  | .nipp, b :: _ :: r => some (b :: r)
  | .tuckp, b :: a :: r => some (b :: a :: b :: r)
  | .pickp n, r => r[n]?.map fun x => x :: r
  | .shlp n, a :: r => some (a.shl n :: r)
  | .shrp n, a :: r => some (a.shr n :: r)
  | _, _ => none

/-! ### Loads from lane SRAM (R172, R181) -/

/-- A number of lane SRAM read by the kernel port, and whether the read met an uncorrectable error. -/
def State.kernelRead (s : State) (d j a n : Nat) : Nat × Bool × State :=
  let (bad, t) := s.eccRead (.lsram d j) a n
  (s.load (.lsram d j) a n, bad, t)

/-- `n` ones or zeros. -/
def fill (b : Bool) (n : Nat) : Nat := if b then 2 ^ n - 1 else 0

/-- Source plane `k` of group `g` of a source buffer with its edges (R172). -/
def State.loadPlane (s : State) (d j buf k g : Nat) : Plane × Bool × State :=
  let n := s.rd (.lane d j) LANE_GROUPS_N
  let e := fill ((s.rd (.lane d j) LANE_EDGE_SRC).testBit k) 64
  let at_ (g : Nat) := buf + (2 * g + k) * 256
  let (body, x, t) := s.kernelRead d j (at_ g) 256
  let (lo, y, t) := if g = 0 then (e, false, t) else t.kernelRead d j (at_ (g - 1) + 248) 8
  let (hi, z, t) := if g + 1 < n then t.kernelRead d j (at_ (g + 1)) 8 else (e, false, t)
  ({ bits := lo + body * 2 ^ 64 + hi * 2 ^ 2112, lo := 64, hi := 64 }, x || y || z, t)

/-- Bit `f` of `n` calibration records packed as 16-bit words of a number. -/
def recBits (f v n : Nat) : Nat := ofBits (fun i => v.testBit (16 * i + f)) n

/-- Calibration plane `f` of group `g` with its edges (R172, R181). -/
def State.calPlane (s : State) (d j f g : Nat) : Plane × Bool × State :=
  let n := s.rd (.lane d j) LANE_GROUPS_N
  let e := fill ((s.rd (.lane d j) LANE_EDGE_CAL).testBit f) 64
  let (body, x, t) := s.kernelRead d j (4096 * g) 4096
  let (lo, y, t) := if g = 0 then (0, false, t) else t.kernelRead d j (4096 * g - 128) 128
  let (hi, z, t) := if g + 1 < n then t.kernelRead d j (4096 * (g + 1)) 128 else (0, false, t)
  let l := if g = 0 then e else recBits f lo 64
  let h := if g + 1 < n then recBits f hi 64 else e
  ({ bits := l + recBits f body 2048 * 2 ^ 64 + h * 2 ^ 2112, lo := 64, hi := 64 }, x || y || z, t)

/-- Bit `b` of the table entry that four planes index, at every position (R176). -/
def lutPlane (tab b : Nat) (x3 x2 x1 x0 : Plane) : Plane :=
  pointwise (ofBits (fun p =>
    tab.testBit (8 * (8 * (x3.bits.testBit p).toNat + 4 * (x2.bits.testBit p).toNat + 2 * (x1.bits.testBit p).toNat +
      (x0.bits.testBit p).toNat) + b)) 2176) [x3, x2, x1, x0]

/-! ### One instruction of a lane -/

/-- The running kernel moves on to its next parcel with a new stack. -/
def State.kernNext (s : State) (d j : Nat) (k : Kern) (st : List Plane) : State :=
  s.setLane d j { s.lane d j with kern := some { k with pos := k.pos + 1, stack := st } }

/-- GEND: the next group, or the end of the kernel (R170, R174, R188). -/
def State.gend (s : State) (d j : Nat) (k : Kern) : State :=
  if k.group + 1 < s.rd (.lane d j) LANE_GROUPS_N then
    s.setLane d j { s.lane d j with kern := some { k with group := k.group + 1, pos := 0, stack := [] } }
  else
    let slack := ((s.lineE d j k.line - s.ps) / 1000).toNat
    let t := s.wr (.lane d j) LANE_SLACK_NS (min slack (s.rd (.lane d j) LANE_SLACK_NS))
    (t.kernelOver d j).handBatt d j k.line false k.acc

/-- The effect of a plane instruction of the running kernel (R170 to R178). -/
def State.laneExec (s : State) (d j : Nat) (k : Kern) (op : LaneOp) : State :=
  let n := (s.lineAt k.line).n
  match op, k.stack with
  | .loadp p, st =>
    let (x, bad, t) := s.loadPlane d j (srcBuf n) p k.group
    if bad then t.planeFault d j 2 else t.kernNext d j k (x :: st)
  | .calp f, st =>
    let (x, bad, t) := s.calPlane d j f k.group
    if bad then t.planeFault d j 1 else t.kernNext d j k (x :: st)
  | .lutp i w, x0 :: x1 :: x2 :: x3 :: st =>
    let (tab, bad, t) := s.kernelRead d j (lutBase k.slot + 16 * i) 16
    if bad then t.planeFault d j 3
    else t.kernNext d j k ((List.range w).map (fun b => lutPlane tab b x3 x2 x1 x0) ++ st)
  | .storep q, x :: st =>
    (s.laneWrite d j (outBuf n + (8 * k.group + q) * 256) (leBytes 256 x.body)).kernNext d j k st
  | .popcp c, x :: st =>
    s.kernNext d j { k with acc := k.acc.set c (min (k.acc.getD c 0 + popcount x.body 2048) 0xFFFFFFFF) } st
  | .flagp c, x :: st =>
    let t := s.kernNext d j k st
    if x.body ≠ 0 then (t.orBits (.lane d j) LANE_FLAGS_FLAG (2 ^ c)).raiseDie d (256 + 8 * j + c) else t
  | .gend, _ => s.gend d j k
  | op, st =>
    match stackOp op st with
    | some st => s.kernNext d j k st
    | none => s

/-- The running kernel executes `op`, its next parcel; a parcel that cannot be read is a plane fault of kind 0 (R170,
R196). -/
def State.laneCycle (s : State) (d j : Nat) (k : Kern) (op : LaneOp) : State :=
  let m := MemId.ks d j k.slot
  if laneDecode (s.load m (2 * k.pos) 2) = some op then
    let (bad, t) := s.eccRead m (2 * k.pos) 2
    if bad then t.planeFault d j 0 else t.laneExec d j k op
  else s

/-- One lane cycle of lane j of die d in which the running kernel is to execute `op`: nothing happens unless a kernel
runs before its E and its next parcel is that instruction. In the deadline cycle, the first at or after E, only a plane fault
still counts (R170, R188, R190). -/
def State.laneStep (s : State) (d j : Nat) (op : LaneOp) : State :=
  match (s.lane d j).kern with
  | none => s
  | some k =>
    if s.laneGated d j ∨ ¬ s.laneClocked d j ∨ s.lineE d j k.line + 1000 ≤ s.ps then s
    else
      let t := s.laneCycle d j k op
      if s.lineE d j k.line ≤ s.ps ∧ ¬ t.faulted d j then s else t

/-- ANDP on lane j of die d: a ∧ b (R175). -/
def execAndp (d j : Nat) (s : State) : Host.Outcome State Fault Refusal := .next (s.laneStep d j .andp)

/-- ORP on lane j of die d: a ∨ b (R175). -/
def execOrp (d j : Nat) (s : State) : Host.Outcome State Fault Refusal := .next (s.laneStep d j .orp)

/-- XORP on lane j of die d: a ⊕ b (R175). -/
def execXorp (d j : Nat) (s : State) : Host.Outcome State Fault Refusal := .next (s.laneStep d j .xorp)

/-- ANDNP on lane j of die d: a ∧ ¬b (R175). -/
def execAndnp (d j : Nat) (s : State) : Host.Outcome State Fault Refusal := .next (s.laneStep d j .andnp)

/-- NOTP on lane j of die d: ¬a (R175). -/
def execNotp (d j : Nat) (s : State) : Host.Outcome State Fault Refusal := .next (s.laneStep d j .notp)

/-- SELP on lane j of die d: b where m is 1, a where it is 0 (R175). -/
def execSelp (d j : Nat) (s : State) : Host.Outcome State Fault Refusal := .next (s.laneStep d j .selp)

/-- ZEROP on lane j of die d: a plane of zeros (R172). -/
def execZerop (d j : Nat) (s : State) : Host.Outcome State Fault Refusal := .next (s.laneStep d j .zerop)

/-- ONESP on lane j of die d: a plane of ones (R172). -/
def execOnesp (d j : Nat) (s : State) : Host.Outcome State Fault Refusal := .next (s.laneStep d j .onesp)

/-- DUPP on lane j of die d: the top plane twice (R175). -/
def execDupp (d j : Nat) (s : State) : Host.Outcome State Fault Refusal := .next (s.laneStep d j .dupp)

/-- DROPP on lane j of die d: the top plane dropped (R175). -/
def execDropp (d j : Nat) (s : State) : Host.Outcome State Fault Refusal := .next (s.laneStep d j .dropp)

/-- SWAPP on lane j of die d: the two top planes exchanged (R175). -/
def execSwapp (d j : Nat) (s : State) : Host.Outcome State Fault Refusal := .next (s.laneStep d j .swapp)

/-- OVERP on lane j of die d: the second plane copied to the top (R175). -/
def execOverp (d j : Nat) (s : State) : Host.Outcome State Fault Refusal := .next (s.laneStep d j .overp)

/-- ROTP on lane j of die d: the third plane moved to the top (R175). -/
def execRotp (d j : Nat) (s : State) : Host.Outcome State Fault Refusal := .next (s.laneStep d j .rotp)

/-- NIPP on lane j of die d: the second plane removed (R175). -/
def execNipp (d j : Nat) (s : State) : Host.Outcome State Fault Refusal := .next (s.laneStep d j .nipp)

/-- TUCKP on lane j of die d: the top plane copied below the second (R175). -/
def execTuckp (d j : Nat) (s : State) : Host.Outcome State Fault Refusal := .next (s.laneStep d j .tuckp)

/-- PICKP on lane j of die d: plane n copied to the top (R175). -/
def execPickp (d j n : Nat) (s : State) : Host.Outcome State Fault Refusal := .next (s.laneStep d j (.pickp n))

/-- SHLP on lane j of die d: y[x] = a[x + n] (R173). -/
def execShlp (d j n : Nat) (s : State) : Host.Outcome State Fault Refusal := .next (s.laneStep d j (.shlp n))

/-- SHRP on lane j of die d: y[x] = a[x − n] (R173). -/
def execShrp (d j n : Nat) (s : State) : Host.Outcome State Fault Refusal := .next (s.laneStep d j (.shrp n))

/-- LOADP on lane j of die d: source plane k of the current group (R172). -/
def execLoadp (d j k : Nat) (s : State) : Host.Outcome State Fault Refusal := .next (s.laneStep d j (.loadp k))

/-- STOREP on lane j of die d: the body into output plane q of the current group (R175). -/
def execStorep (d j q : Nat) (s : State) : Host.Outcome State Fault Refusal := .next (s.laneStep d j (.storep q))

/-- CALP on lane j of die d: calibration plane f of the current group (R172). -/
def execCalp (d j f : Nat) (s : State) : Host.Outcome State Fault Refusal := .next (s.laneStep d j (.calp f))

/-- LUTP on lane j of die d: w planes of LUT table i (R176). -/
def execLutp (d j i w : Nat) (s : State) : Host.Outcome State Fault Refusal := .next (s.laneStep d j (.lutp i w))

/-- POPCP on lane j of die d: the ones of the body added to accumulator k (R177). -/
def execPopcp (d j k : Nat) (s : State) : Host.Outcome State Fault Refusal := .next (s.laneStep d j (.popcp k))

/-- FLAGP on lane j of die d: LANE_FLAGS bit k if any body position is 1 (R178). -/
def execFlagp (d j k : Nat) (s : State) : Host.Outcome State Fault Refusal := .next (s.laneStep d j (.flagp k))

/-- GEND on lane j of die d: the end of the body for a group (R170, R188). -/
def execGend (d j : Nat) (s : State) : Host.Outcome State Fault Refusal := .next (s.laneStep d j .gend)

end Sys2Proof.Machine
end

