-- ==== Sys2Proof/Machine/Cores.lean ====
section
/-! DEFINITION. What a scan core and the other requesters share: protection and fault captures (R48 to R52), accesses to
D-space and I-space (R43 to R45, R77, R126, R449), taking an exception (R110 to R114), halting (R113), and leaving
reset (R117). -/

namespace Sys2Proof.Machine

/-! ### Protection and captures -/

/-- The node whose window holds a requester's capture (R50). -/
def Req.node : Req → Node
  | .core d k => .core d k | .crown => .crown | .host => .pkg | .engine => .crown

/-- Region `i` of a block forbids an access to the bytes `[a, a + n)` of a space (1 D-space, 2 I/O space) (R51). -/
def State.regionForbids (s : State) (b : Blk) (i space a n : Nat) (write : Bool) : Bool :=
  s.is b (PROT_ATTR_EN i) && decide (s.rd b (PROT_ATTR_SPACE i) = space) &&
  decide (s.rd b (PROT_BASE_BASE i) ≤ s.rd b (PROT_LIMIT_LIMIT i)) &&
  decide (s.rd b (PROT_BASE_BASE i) * 256 < a + n) && decide (a ≤ s.rd b (PROT_LIMIT_LIMIT i) * 256 + 255) &&
  !(s.is b (if write then PROT_ATTR_WR i else PROT_ATTR_RD i))

/-- The lowest region of a requester that forbids an access (R48, R51). -/
def State.regionHit (s : State) (r : Req) (space a n : Nat) (write : Bool) : Option Nat :=
  match r.blk with
  | none => none
  | some b => (List.range 8).find? fun i => s.regionForbids b i space a n write

/-- A refused access loads its requester's capture, or marks it LOST, and is recorded (R49, R50). Addresses are in the
units of their space: bytes, or parcels in I-space (space 0). -/
def State.refuse (s : State) (r : Req) (space first last : Nat) (write : Bool) (code : Nat) : State :=
  match r.blk with
  | none => s
  | some b =>
    let t := s.offer Ev.ACCESS_FAULT r.node
    if t.is b FLT_INFO_VALID then t.wr b FLT_INFO_LOST 1
    else t.wrs b [(FLT_FIRST_LO_ADDR, first), (FLT_FIRST_HI_ADDR, first / 2 ^ 32), (FLT_LAST_LO_ADDR, last),
      (FLT_LAST_HI_ADDR, last / 2 ^ 32), (FLT_INFO_REGION, code), (FLT_INFO_SPACE, space), (FLT_INFO_WRITE, write.toNat),
      (FLT_INFO_VALID, 1)]

/-! ### D-space -/

/-- How an access ends: with its value, refused (its capture loaded), or at an uncorrectable memory error. -/
inductive Acc (α : Type) where
  | ok (a : α) (s : State)
  | refused (s : State)
  | ecc (s : State)

/-- The codes of R48, apart from regions, that refuse an access to `[a, a + n)`, `n ≥ 1`; writes into segments 28 to 31
count among them (R449). -/
def State.dCodes (s : State) (r : Req) (a n : Nat) (write : Bool) : List Nat :=
  let e := fun x => match s.dLoc r x with | .error c => [c] | .ok _ => []
  let z := a + n - 1
  e a ++ e z ++ (if dRow a ≠ dRow z then [0xF4] else []) ++
    (if write ∧ 0x2001C0000 ≤ z ∧ a < 0x200200000 then [0xF0] else [])

/-- The code or region with which an access to D-space is refused: the lowest of those that refuse (R48). -/
def State.dCheck (s : State) (r : Req) (a n : Nat) (write : Bool) : Option Nat :=
  match s.regionHit r 1 a n write with
  | some i => some i
  | none => (s.dCodes r a n write).min?

/-- A read of `n` bytes of D-space (R45, R48, R77). -/
def State.dRead (s : State) (r : Req) (a n : Nat) : Acc (List Byte) :=
  match s.dCheck r a n false with
  | some c => .refused (s.refuse r 1 a (a + n - 1) false c)
  | none =>
    match s.dLoc r a with
    | .error _ => .refused s
    | .ok (m, o) =>
      match s.readBytes m o n with
      | (some bs, t) => .ok bs t
      | (none, t) => .ecc t

/-- An image offset lies in an input region (R125, R126). -/
def imgInput (o : Nat) : Bool := decide (o < 0x8000 ∨ (0x20000 ≤ o ∧ o < 0x40000))

/-- The image pages of a write are due to be mirrored (R151). -/
def State.touchPages (s : State) (o n : Nat) : State :=
  let new := ((List.range ((o + n - 1) / 4096 + 1 - o / 4096)).map fun i => o / 4096 + i).filter fun p => decide (p ∉ s.img.pages)
  { s with img := { s.img with pages := s.img.pages ++ new } }

/-- Bytes written within one region of the control image: into an input region only by the crown core, and there into the
idle half (R126). -/
def State.imgPart (s : State) (r : Req) (o : Nat) (bs : List Byte) : Bool × State :=
  if imgInput o then (if r = .crown then s.writeBytes .imgIdle o bs else (true, s)) else s.writeBytes .img o bs

/-- Bytes written into the control image region by region, where they meet an input region; `cuts` are the regions' ends. -/
def State.imgParts (s : State) (r : Req) (o : Nat) (bs : List Byte) : List Nat → Bool × State
  | [] => (true, s)
  | c :: cs =>
    if bs.take (c - o) = [] then s.imgParts r o bs cs
    else
      match s.imgPart r o (bs.take (c - o)) with
      | (false, t) => (false, t)
      | (true, t) => t.imgParts r (max o c) (bs.drop (c - o)) cs

/-- Bytes stored in a memory that no rule refuses, with what a store there brings about: input regions (R126), dirty
segments (R449) and pages to mirror (R151). False: the read of a partial unit met an uncorrectable error (R540). -/
def State.memWrite (s : State) (r : Req) (m : MemId) (o : Nat) (bs : List Byte) : Bool × State :=
  match m with
  | .img =>
    let (ok, t) := if imgInput o || imgInput (o + bs.length - 1) then s.imgParts r o bs [0x8000, 0x20000, 0x40000, 0x1000000]
      else s.writeBytes m o bs
    (ok, if ok then t.touchPages o bs.length else t)
  | .ret => let (ok, t) := s.writeBytes m o bs
            (ok, if ok then (t.dirty (o / 0x10000)).dirty ((o + bs.length - 1) / 0x10000) else t)
  | m => s.writeBytes m o bs

/-- A write of bytes to D-space (R45, R48, R540). -/
def State.dWrite (s : State) (r : Req) (a : Nat) (bs : List Byte) : Acc Unit :=
  match s.dCheck r a bs.length true with
  | some c => .refused (s.refuse r 1 a (a + bs.length - 1) true c)
  | none =>
    match s.dLoc r a with
    | .error _ => .refused s
    | .ok (m, o) =>
      match s.memWrite r m o bs with
      | (true, t) => .ok () t
      | (false, t) => .ecc t

/-- An indivisible read-modify-write of `n` bytes of D-space, checked as a read and as a write (R66, R75): the old
value, and memory with `f` of it. -/
def State.dRmw (s : State) (r : Req) (a n : Nat) (f : Nat → Nat) : Acc Nat :=
  match s.dCheck r a n true with
  | some c => .refused (s.refuse r 1 a (a + n - 1) true c)
  | none =>
    match s.dRead r a n with
    | .refused t => .refused t
    | .ecc t => .ecc t
    | .ok bs t =>
      match t.dWrite r a (leBytes n (f (leNat bs))) with
      | .refused t => .refused t
      | .ecc t => .ecc t
      | .ok _ t => .ok (leNat bs) t

/-! ### I-space -/

/-- A memory that an I-space parcel address names for a core: the running bank, the hood bank or the shared code SRAM
(R43). -/
def State.iLoc (s : State) (d k a : Nat) : Option (MemId × Nat) :=
  let run := (s.core d k).bank
  if a < 0x40000 then some (.bank d k run, 2 * a)
  else if a < 0x80000 then some (.bank d k (1 - run), 2 * (a - 0x40000))
  else if a < 0x480000 then some (.shared d, 2 * (a - 0x80000))
  else none

/-- A parcel address from which a core fetches (R83). -/
def fetchable (a : Nat) : Bool := decide (a < 0x40000 ∨ (0x80000 ≤ a ∧ a < 0x480000))

/-- `n` bytes of I-space from a parcel address, through ECC; none at an uncorrectable error or outside the map. -/
def State.iBytes (s : State) (d k a n : Nat) : Option Nat × State :=
  match s.iLoc d k a with
  | none => (none, s)
  | some (m, o) =>
    match s.readBytes m o n with
    | (some bs, t) => (some (leNat bs), t)
    | (none, t) => (none, t)

/-- The parcel that stands at an address, as it decodes for the length of a delay slot (R87); none where it cannot be
fetched. -/
def State.peekParcel (s : State) (d k a : Nat) : Option Nat := if fetchable a then (s.iBytes d k a 2).1 else none

/-- Some task of the core is enabled (R44). -/
def State.anyTask (s : State) (d k : Nat) : Bool := (List.range 16).any fun t => s.is (.core d k) (TASK_CFG_EN t)

/-- The hood bank is treated as running (R160). -/
def State.hoodFixed (s : State) (d k : Nat) : Bool := decide (2 ≤ s.rd (.core d k) HOOD_STAT_STATE)

/-- The code that refuses a write to I-space: unmapped, or a bank that runs or is fixed (R44, R48, R160). -/
def State.iWriteCheck (s : State) (d k a : Nat) : Option Nat :=
  if 0x480000 ≤ a then some 0xF0
  else if a < 0x40000 then (if s.anyTask d k then some 0xF3 else none)
  else if a < 0x80000 then (if s.hoodFixed d k then some 0xF3 else none)
  else none

/-- `n` bytes stored in I-space; a write to the hood bank makes a loaded hood NONE (R158). -/
def State.iStore (s : State) (d k a n v : Nat) : Bool × State :=
  match s.iLoc d k a with
  | none => (false, s)
  | some (m, o) =>
    let t := if 0x40000 ≤ a ∧ a < 0x80000 then s.wr (.core d k) HOOD_STAT_STATE 0 else s
    t.writeBytes m o (leBytes n v)

/-! ### Held writes (R541) -/

/-- A requester's code in the table of held writes. -/
def Req.code : Req → Nat
  | .host => 0 | .crown => 1 | .engine => 2 | .core d k => 3 + Nat.pair d k

/-- What is held in a requester's path, oldest first. -/
def State.heldOf (s : State) (r : Req) : List Posted := s.held.get r.code []

/-- The state with what is held in a requester's path replaced. -/
def State.setHeld (s : State) (r : Req) (l : List Posted) : State :=
  { s with held := Tab.set (fun n => n) s.held r.code [] l }

/-- A read of D-space waits for a store of its core to the same memory that is still held (R23, R76). -/
def State.dBehind (s : State) (d k a : Nat) : Bool :=
  (s.heldOf (.core d k)).any fun p =>
    match p with
    | .mem a' _ | .bits a' _ _ | .ram a' _ => decide (dRow a' = dRow a)
    | _ => false

/-- A read of the core's own RAM, be it of a base word, a filled entry, a vector word or a frame, waits for a store of the
core to that RAM (R23). -/
def State.ramBehind (s : State) (d k : Nat) : Bool := s.dBehind d k 0

/-- Bytes that the instruction in progress writes into its core's own RAM, unchecked, behind the writes that the core's queue
holds (R57, R99, R541). -/
def State.ramPut (s : State) (d k a : Nat) (bs : List Byte) : State :=
  if s.heldOf (.core d k) = [] then (s.writeBytes (.lram d k) a bs).2
  else s.setHeld (.core d k) (s.heldOf (.core d k) ++ [.ram a bs])

/-- More writes than the core's queue of 8 entries holds: the instruction stalls (R76). -/
def State.overfull (s : State) (d k : Nat) : Bool := decide (8 < (s.heldOf (.core d k)).length)

/-- The instruction in progress waits; nothing is entered before it is complete (R91). -/
def State.stalled (s : State) (d k : Nat) : State := s.setCore d k { s.core d k with busy := true }

/-! ### Halting and exceptions -/

/-- A word of a core's own RAM, without any check (R110). -/
def State.lramWord (s : State) (d k a : Nat) : Nat := s.load (.lram d k) a 4

/-- A core halts: HALTED and OWN_FAULT are set and the event recorded (R113). -/
def State.haltCore (s : State) (d k code : Nat) : State :=
  (((s.wr (.core d k) CORE_TRAP_HALTED 1).raiseDie d (83 + 4 * k)).offer code (.core d k)).nodeFault (.core d k) code

/-- The core goes on at a handler's or the reset code's first parcel, or halts where that parcel cannot be fetched
(R113). Reset code whose first parcel holds an uncorrectable error halts it too, as a handler's does (DESIGN CHOICE beside
R77 and R113, log entry 148). -/
def State.goHandler (s : State) (d k vec : Nat) : State :=
  match s.readBytes (.lram d k) (0x40 + vec) 4 with
  | (none, t) => t.haltCore d k Ev.VECTOR_FAULT
  | (some bs, t) =>
    let a := leNat bs
    let t := t.setCore d k { t.core d k with pc := a }
    if fetchable a then
      match t.iBytes d k a 2 with
      | (some _, t) => t
      | (none, t) => t.haltCore d k Ev.VECTOR_FAULT
    else (t.refuse (.core d k) 0 a a false 0xF0).haltCore d k Ev.VECTOR_FAULT

/-- The cycles left of a set DI mask, at most 2,047: those that R63 counts, less a free number of cycles spent waiting,
which the model does not count (R90, R111). -/
def State.diLeft (s : State) (d k : Nat) : Nat × State :=
  match (s.core d k).di with
  | none => (0, s)
  | some e => let (w, t) := s.freeNat; (min 2047 (e - (s.core d k).cyc - w), t)

/-- The words of a trap frame (R111). -/
def Core.frame (c : Core) (x : Exc) (left time : Nat) : List Nat :=
  [x.vec + x.cause * 2 ^ 8 + c.form.toNat * 2 ^ 16 + c.br.isSome.toNat * 2 ^ 17 + c.di.isSome.toNat * 2 ^ 18 +
     c.blk.toNat * 2 ^ 19 + left * 2 ^ 20,
   x.opc + x.opidx * 2 ^ 16, x.reta, x.iaddr,
   match c.br with | none => 0 | some b => if b.toMem then 0xFFFFFFF0 else b.tgt,
   x.level, time, 0]

/-- Words stored in a core's RAM without a check (R110). -/
def State.lramWords (s : State) (d k a : Nat) (ws : List Nat) : State :=
  (s.writeBytes (.lram d k) a (ws.flatMap fun w => leBytes 4 w)).2

/-- What entry changes in the core: memory form, no DI mask, no pending branch (R110). -/
def Core.entered (c : Core) : Core := { c with form := false, di := none, br := none, blk := false, busy := false }

/-- What entry changes in the trap registers (R110, R118). -/
def State.countEntry (s : State) (d k : Nat) (x : Exc) : State :=
  let b := Blk.core d k
  (s.wrs b [(CORE_TRAP_DEPTH, s.rd b CORE_TRAP_DEPTH + 1), (CORE_TRAP_LAST_CAUSE, x.cause),
    (CORE_TRAP_LAST_VEC, x.vec)]).bump b CORE_TRAPCNT_COUNT

/-- TAKING AN EXCEPTION (R110 to R113): with 8 frames held the core halts; else the frame is written, DEPTH rises, the
core takes memory form without DI mask, and goes on at the vector word's address. The entry waits for the core's own
queued stores to its RAM (R23). -/
def State.enterExc (s : State) (d k : Nat) (x : Exc) : State :=
  let b := Blk.core d k
  if s.rd b CORE_TRAP_DEPTH = 8 then s.haltCore d k Ev.TRAP_DEPTH
  else if s.ramBehind d k then s.setCore d k { s.core d k with wait := some x }
  else
    let (left, t) := s.diLeft d k
    let slot := 0x100 + 32 * s.rd b CORE_TRAP_DEPTH
    let t := t.lramWords d k slot ((s.core d k).frame x left (s.tmb.count % 2 ^ 32))
    let t := t.countEntry d k x
    (t.setCore d k (s.core d k).entered).goHandler d k x.vec

/-! ### Boundaries -/

/-- The core is present, powered, clocked, enabled, not napping and not halted, and the package is not in recovery
(R487, R510). -/
def State.coreUp (s : State) (d k : Nat) : Bool :=
  let b := Blk.core d k
  s.hasNode (.core d k) && decide (s.pwr.phase = .on ∨ s.pwr.phase = .napEntry) && s.is (.dieNode d) CLK_DLOCK_SCAN &&
  !s.is .upd UPD_STAT_RECOVERY && s.is b NODE_CTRL_EN && !s.is b NODE_CTRL_NAP && !s.is b CORE_TRAP_HALTED

/-- The core is up, released from freeze or with an instruction still to complete, has left reset, and waits for no entry
(R41, R91, R117). -/
def State.coreLive (s : State) (d k : Nat) : Bool :=
  let c := s.core d k
  s.coreUp d k && (!s.is (.core d k) NODE_CTRL_FRZ || c.busy) && c.started && c.wait.isNone

/-- The running task executes instructions: it is in RUN with its copy-ins done (R140, R142). -/
def State.taskRuns (s : State) (d k t : Nat) : Bool :=
  let b := Blk.core d k
  decide (s.rd b (TASK_STAT_STATE t) = 3 ∧ s.rd b (TASK_IMG_COUNT t) ≤ ((s.core d k).tasks.get t {}).pos)

/-- The core executes an instruction now: live, with a handler, its background or a task to run. -/
def State.coreRuns (s : State) (d k : Nat) : Bool :=
  s.coreLive d k && (decide (0 < s.rd (.core d k) CORE_TRAP_DEPTH) ||
    match (s.core d k).ctx with
    | .idle => false
    | .background => true
    | .task t => s.taskRuns d k t)

/-- The core stands at an instruction boundary at which an exception may be entered: not between a branch and its delay
slot, and with no instruction begun that waits (R86, R91, R114). -/
def State.atBoundary (s : State) (d k : Nat) : Bool :=
  s.coreLive d k && decide ((s.core d k).br = none) && !(s.core d k).busy

/-- An asynchronous exception at a boundary: its frame names the next instruction to run (R112). -/
def State.enterAsync (s : State) (d k vec cause : Nat) (level : Nat := 0) : State :=
  let pc := (s.core d k).pc
  s.enterExc d k { vec := vec, cause := cause, reta := pc, iaddr := pc, level := level }

/-- An exception whose entry waited is entered once it can be; a pending bus error of a posted access is entered at the
boundary (R23, R77, R114). It is not entered between a branch and its delay slot, where R86 names interrupts only (DESIGN
CHOICE, log entry 149). -/
def State.boundary (s : State) (d k : Nat) : State :=
  match (s.core d k).wait with
  | some x => if s.ramBehind d k then s else (s.setCore d k { s.core d k with wait := none }).enterExc d k x
  | none =>
  if (s.core d k).busErr && s.atBoundary d k then
    (s.setCore d k { s.core d k with busErr := false }).enterAsync d k 0x24 0x62
  else s

/-- A bus error is reported for a posted access of a core: it is recorded with the address, and is pending (R77). -/
def State.reportBus (s : State) (d k a : Nat) : State :=
  (s.setCore d k { s.core d k with busErr := true }).offer Ev.BUS_ERROR (.core d k) (twoWords a)

/-- A core whose freeze is released for the first time after a reset reads its reset vector (R117). -/
def State.leaveReset (s : State) (d k : Nat) : State :=
  if s.coreUp d k ∧ ¬ s.is (.core d k) NODE_CTRL_FRZ ∧ ¬ (s.core d k).started then
    (s.setCore d k { s.core d k with started := true }).goHandler d k 0
  else s

/-- The vector of a cause that a scan core raises itself (R116). -/
def vecOf (cause : Nat) : Nat :=
  if cause < 0x10 then 0x08 else if cause < 0x20 then 0x0C else if cause < 0x30 then 0x10 else if cause < 0x40 then 0x14
  else if cause < 0x50 then 0x18 else if cause < 0x70 then 0x24 else if cause < 0x80 then 0x28 else 0x20

/-- Whether the frame of a cause names the parcel after the opcode parcel (R112). -/
def pastOpcode (cause : Nat) : Bool :=
  decide ((0x10 ≤ cause ∧ cause ≤ 0x13) ∨ cause = 0x16 ∨ cause = 0x17 ∨ cause = 0x70)

/-- An instruction traps: opcode parcel, length, cause and specifier (R93, R112, R115). -/
def State.trap (s : State) (d k opc len cause : Nat) (opidx : Nat := 0) : State :=
  let pc := (s.core d k).pc
  let reta := if pastOpcode cause then pc + 1 else if 0xB0 ≤ cause then pc + len else pc
  s.enterExc d k { vec := vecOf cause, cause := cause, opc := opc, opidx := opidx, reta := reta % 2 ^ 32, iaddr := pc }

/-- The fetch of `n` parcels from an address (R77, R83): the cause of a failed fetch, with the capture loaded where it
was refused. -/
def State.fetch (s : State) (d k a : Nat) : Nat → Except (Nat × State) State
  | 0 => .ok s
  | n + 1 =>
    if fetchable a then
      match s.iBytes d k a 2 with
      | (some _, t) => t.fetch d k (a + 1) n
      | (none, t) => .error (0x60, t)
    else .error (0x03, s.refuse (.core d k) 0 a a false 0xF0)

end Sys2Proof.Machine
end

