-- ==== Sys2Proof/Machine/Maps.lean ====
section
/-! DEFINITION. Layout maps of scan cores (R154, R155), and the synced region that a running map gives (R325). -/

namespace Sys2Proof.Machine

/-- An entry of a layout map (R154). -/
structure MapEntry where
  id : Nat
  addr : Nat
  size : Nat
  initOff : Nat
  type : Nat
  flags : Nat
  rslot : Nat
  conv : Nat
  deriving DecidableEq, Repr

def MapEntry.retain (e : MapEntry) : Bool := e.flags.testBit 0
def MapEntry.redundant (e : MapEntry) : Bool := e.flags.testBit 1
def MapEntry.imported (e : MapEntry) : Bool := e.flags.testBit 2

/-- A layout map as read: its header fields, entries and task records, whether its CRC field agrees, and its bytes. -/
structure LMap where
  format : Nat
  core : Nat
  init : Nat
  entries : List MapEntry
  recs : List (List Nat)
  crc : Nat
  crcOk : Bool
  bytes : List Byte
  deriving DecidableEq, Repr

/-- An entry from its 32 bytes. -/
def mapEntry (bs : List Byte) : MapEntry :=
  { id := numAt bs 0 4, addr := numAt bs 4 8, size := numAt bs 12 4, initOff := numAt bs 16 4, type := numAt bs 20 2,
    flags := numAt bs 22 2, rslot := numAt bs 24 4, conv := numAt bs 28 4 }

/-- The map that starts at a D-space address; none where its bytes or task records cannot be read. -/
def State.readMap (s : State) (a : Nat) : Option LMap × State :=
  match s.engineRead a 32 with
  | (none, t) => (none, t)
  | (some h, t) =>
    let n := numAt h 4 4
    match if n = 0 then (some [], t) else t.engineRead (a + 32) (32 * n), t.engineRead (numAt h 16 8) 512 with
    | (some es, t), (some rs, _) =>
      let body := h.take 28 ++ [0, 0, 0, 0] ++ es ++ rs
      (some { format := numAt h 0 2, core := numAt h 2 2, init := numAt h 8 8,
              entries := (List.range n).map fun i => mapEntry ((es.drop (32 * i)).take 32),
              recs := (List.range 16).map fun i => (List.range 6).map fun j => numAt rs (32 * i + 4 * j) 4,
              crc := numAt h 28 4, crcOk := decide (crc32c body = numAt h 28 4), bytes := h ++ es }, t)
    | (_, t), _ => (none, t)

/-- A map belongs to core k of die d and is well formed: FORMAT, CORE and CRC (R154, R156). -/
def LMap.valid (m : LMap) (d k : Nat) : Bool := decide (m.format = 1) && decide (m.core = (Node.core d k).unitPath) && m.crcOk

/-- The entries of the running map of a core; none where it has no valid one. -/
def State.runMap (s : State) (d k : Nat) : List MapEntry :=
  match (s.readMap (256 * s.rd (.core d k) HOOD_MAP_RUN_ADDR)).1 with
  | some m => if m.valid d k then m.entries else []
  | none => []

/-- The running map itself, if it is valid. -/
def State.runLMap (s : State) (d k : Nat) : Option LMap :=
  match (s.readMap (256 * s.rd (.core d k) HOOD_MAP_RUN_ADDR)).1 with
  | some m => if m.valid d k then some m else none
  | none => none

/-- Bytes of a variable of a core, as the device reads them: by the core's own map of D-space, without protection, through
ECC. -/
def State.varBytes (s : State) (d k a n : Nat) : List Byte × State :=
  match s.dLoc (.core d k) a with
  | .ok (m, o) => s.scanBytes m o n
  | .error _ => (List.replicate n 0, s)

/-- Bytes of a variable written by the device. -/
def State.putVar (s : State) (d k a : Nat) (bs : List Byte) : State :=
  match s.dLoc (.core d k) a with
  | .ok (m, o) => (s.memWrite .crown m o bs).2
  | .error _ => s

/-- The entries that a map's REDUNDANT entries sync, in map order, up to 32,768 bytes (R325). -/
def syncedOf : List MapEntry → Nat → List MapEntry
  | [], _ => []
  | e :: es, room => if ¬ e.redundant then syncedOf es room else if e.size ≤ room then e :: syncedOf es (room - e.size) else []

/-- The synced entries of a core. -/
def State.synced (s : State) (d k : Nat) : List MapEntry := syncedOf (s.runMap d k) 32768

/-- Some REDUNDANT entry lies beyond the limit (R325). -/
def State.syncTrunc (s : State) (d k : Nat) : Bool :=
  decide (32768 < (((s.runMap d k).filter MapEntry.redundant).map MapEntry.size).sum)

/-- The core's reference task is an enabled cyclic task (R165, R325). -/
def State.refValidTask (s : State) (d k : Nat) : Bool :=
  let t := s.rd (.core d k) HOOD_CTRL_REF
  s.is (.core d k) (TASK_CFG_EN t) && !s.is (.core d k) (TASK_CFG_KIND t)

/-- Entries as EQ carries them: each VAR_ID with its bytes (R326). -/
def State.eqEntries (s : State) (d k : Nat) : List MapEntry → List Nat × State
  | [] => ([], s)
  | e :: es =>
    let (bs, t) := s.varBytes d k e.addr e.size
    let (ws, u) := t.eqEntries d k es
    (e.id :: bs.map BitVec.toNat ++ ws, u)

/-- The entries that EQ(N) carries (R326). -/
def State.eqWords (s : State) (d k : Nat) : List Nat × State := s.eqEntries d k (s.synced d k)

end Sys2Proof.Machine
end

