-- ==== Sys2Proof/Machine/Recorder.lean ====
section
/-! DEFINITION. The event recorder (R464 to R471): taking an offered record, the buckets, and the read window. -/

namespace Sys2Proof.Machine

/-- The SEQ after a SEQ; 0 is skipped (R464). -/
def seqNext (n : Nat) : Nat := if n + 1 < 2 ^ 32 then n + 1 else 1

/-- The signed 32-bit difference of two SEQs (R467). -/
def seqDiff (a b : Nat) : Int := toSigned 32 ((a + 2 ^ 32 - b % 2 ^ 32) % 2 ^ 32)

/-- The eight words of a record as it lies in a slot (R464). -/
def recordWords (seq supp pwrcnt : Nat) (r : Offered) : List Nat :=
  [seq, r.code % 2 ^ 16 + (r.code / 2 ^ 12 + supp * 16) * 2 ^ 16, r.path, r.opsec, pwrcnt,
   r.payload.getD 0 0, r.payload.getD 1 0, r.payload.getD 2 0]

/-- The words of a slot; a slot never written holds zeros. -/
def State.slot (s : State) (n : Nat) : List Nat := Tab.get s.recorder.slots n [0, 0, 0, 0, 0, 0, 0, 0]

/-- OVERRUN is set and raises crown source 185 (R467). -/
def State.evrOverrun (s : State) : State := (s.wr .evr EVR_STAT_OVERRUN 1).raiseCrown 185

/-- EVR_CURSOR; it reads EVR_OLDEST from a reset until it is moved (R468, R471). -/
def State.evrCursor (s : State) : Nat :=
  if s.rd .evr EVR_CURSOR_SEQ = 0 then s.recorder.oldest else s.rd .evr EVR_CURSOR_SEQ

/-- A record is accepted into slot SEQ mod 16,384; the cursor's record, if that slot holds it, is overrun (R466, R467). -/
def State.accept (s : State) (r : Offered) (supp : Nat) : State :=
  let seq := s.recorder.next
  let cur := s.evrCursor
  let hit := decide (seq % 16384 = cur % 16384 ∧ cur ≠ seq)
  let old := s.recorder.oldest
  let oldest := if old % 16384 = seq % 16384 ∧ old ≠ seq then seqNext old else old
  let t := { s with recorder := { s.recorder with
    slots := Tab.set (fun k => k) s.recorder.slots (seq % 16384) [0, 0, 0, 0, 0, 0, 0, 0] (recordWords seq supp s.recorder.pwrcnt r)
    next := seqNext seq
    oldest := oldest } }
  let t := if s.rd .evr EVR_CURSOR_SEQ = 0 then t.wr .evr EVR_CURSOR_SEQ cur else t
  let t := (t.wholeGood .evr (32 * (seq % 16384)) 32).dirty 28
  let t := if hit then t.evrOverrun else t
  if s.rd .evr EVR_CFG_IRQSEV ≤ r.code / 2 ^ 12 then t.raiseCrown 184 else t

/-- One offered record is discarded, suppressed or accepted (R466). -/
def State.takeRecord (s : State) (r : Offered) : State :=
  let b := r.code % 256
  if r.code / 2 ^ 12 < s.rd .evr EVR_CFG_MINSEV then s
  else if s.is .evr (EVR_RATE_EN b) && decide (s.rd .evr (EVR_RATE_TOKENS b) = 0) then
    (s.bump .evr (EVR_SUP_COUNT b)).bump .evr EVR_SUPCNT_COUNT
  else
    let supp := s.rd .evr (EVR_SUP_COUNT b)
    let t := if s.is .evr (EVR_RATE_EN b) then s.wr .evr (EVR_RATE_TOKENS b) (s.rd .evr (EVR_RATE_TOKENS b) - 1) else s
    (t.wr .evr (EVR_SUP_COUNT b) 0).accept r supp

/-- The record at the front of the hold leaves it and is taken; when the hold empties after losses, RECORDER_LOST is
offered with the number lost (R466). -/
def State.eventOffer (s : State) : State :=
  match s.recorder.hold with
  | [] => s
  | r :: rs =>
    let t := { s with recorder := { s.recorder with hold := rs } }.takeRecord r
    if rs = [] ∧ s.recorder.lost ≠ 0 then
      { t with recorder := { t.recorder with lost := 0 } }.offer Ev.RECORDER_LOST .crown [s.recorder.lost]
    else t

/-- EVENT_OFFER: the record waiting longest in the hold is taken (R466). -/
def execEventOffer (s : State) : Host.Outcome State Fault Refusal := .next s.eventOffer

/-- A bucket gains a token up to BURST; with RATE 0 it never refills (R466). -/
def State.tokenRefill (s : State) (b : Nat) : State :=
  if b < 256 ∧ s.rd .evr (EVR_RATE_RATE b) ≠ 0 ∧ s.rd .evr (EVR_RATE_TOKENS b) < s.rd .evr (EVR_RATE_BURST b) then
    s.wr .evr (EVR_RATE_TOKENS b) (s.rd .evr (EVR_RATE_TOKENS b) + 1)
  else s

/-- TOKEN_REFILL: bucket `b`'s refill interval has passed (R466). -/
def execTokenRefill (b : Nat) (s : State) : Host.Outcome State Fault Refusal := .next (s.tokenRefill b)

/-- Word `i` of the record under the cursor; zero where the cursor has caught up (R467). -/
def State.evrWin (s : State) (i : Nat) : Nat :=
  if s.evrCursor = s.recorder.next then 0 else (s.slot (s.evrCursor % 16384)).getD i 0

/-- A read of EVR_WIN word `i` through the slot's ECC: none at an uncorrectable error (R467, R540). -/
def State.evrRead (s : State) (i : Nat) : Option Nat × State :=
  if s.evrCursor = s.recorder.next then (some 0, s)
  else
    let (bad, t) := s.eccRead .evr (32 * (s.evrCursor % 16384) + 4 * i) 4
    (if bad then none else some (s.evrWin i), t)

/-- A read of EVR_WIN7 returns the word and then advances the cursor, or finds the record overwritten; a word with an
uncorrectable error is not returned, and the cursor stays (R467, R540). -/
def State.evrWin7 (s : State) : Option Nat × State :=
  let c := s.evrCursor
  match s.evrRead 7 with
  | (none, t) => (none, t)
  | (some v, t) =>
    if c = s.recorder.next then (some v, t)
    else if (t.slot (c % 16384)).getD 0 0 = c then (some v, t.wr .evr EVR_CURSOR_SEQ (seqNext c))
    else (some v, (t.wr .evr EVR_CURSOR_SEQ s.recorder.oldest).evrOverrun)

/-- EVR_WIN7_READ: a read of EVR_WIN7 moves the cursor (R467). -/
def execEvrWin7Read (s : State) : Host.Outcome State Fault Refusal := .next s.evrWin7.2

/-- A write of EVR_CURSOR; outside EVR_OLDEST to EVR_NEXT it takes EVR_OLDEST and sets OVERRUN (R467). -/
def State.evrCursorWrite (s : State) (v : Nat) : State :=
  if 0 ≤ seqDiff v s.recorder.oldest ∧ 0 ≤ seqDiff s.recorder.next v then s.wr .evr EVR_CURSOR_SEQ v
  else (s.wr .evr EVR_CURSOR_SEQ s.recorder.oldest).evrOverrun

/-- EVR_CURSOR_WRITE: a write of `v` to EVR_CURSOR (R467). -/
def execEvrCursorWrite (v : Nat) (s : State) : Host.Outcome State Fault Refusal := .next (s.evrCursorWrite (v % 2 ^ 32))

end Sys2Proof.Machine
end

