-- ==== Sys2Proof/Machine/Standby.lean ====
section
/-! DEFINITION. Readiness, host-written pages and the job pair (R315, R320 to R322), the end of a join (R314), what a learned
claim does (R306, R308), and how a message of the standby links is taken (R310, R328). -/

namespace Sys2Proof.Machine

/-! ### Readiness and the job pair (R315, R320 to R322) -/

/-- A host-written page, 64 KiB at address 65,536 × p (R320). -/
def State.page (s : State) (p : Nat) : Page := s.hsb.pages.get p {}

/-- The pages that are DIFF, lowest first. -/
def State.diffPages (s : State) : List Nat := (s.hsb.pages.filter fun e => decide (e.2.state = .diff)).map Prod.fst

/-- A page takes a record; the count and the lowest DIFF page follow, and the first DIFF page is recorded (R321). -/
def State.setPage (s : State) (p : Nat) (x : Page) : State :=
  let t := { s with hsb := { s.hsb with pages := Tab.set (fun n => n) s.hsb.pages p {} x } }
  let ds := t.diffPages
  let a := ds.headD 0
  let t := t.wrs .hsb [(HSB_PAGEDIFF_COUNT, ds.length), (HSB_PAGEFIRST_LO_ADDR, a % 2 ^ 16), (HSB_PAGEFIRST_HI_ADDR, a / 2 ^ 16)]
  if s.diffPages = [] ∧ ds ≠ [] then (t.offer Ev.PAGE_DIFF .crown (twoWords (65536 * a))).raiseCrown 171 else t

/-- A page as its two hashes make it: PEND until both are known. -/
def Page.judge (x : Page) : Page :=
  match x.own, x.peer with
  | some a, some b => { x with state := if a = b then .same else .diff }
  | _, _ => { x with state := .pend }

/-- A host write through BAR2 returns its pages to PEND (R320). -/
def State.pageWrite (s : State) (a n : Nat) : State :=
  if s.strapped ∧ 0 < n ∧ dramBase 0 ≤ a then
    s.each ((List.range ((a + n - 1) / 65536 + 1 - a / 65536)).map (a / 65536 + ·)) fun t p =>
      t.setPage p { t.page p with own := none, state := .pend, writtenAt := s.tb + 1 }
  else s

/-- A DIFF page lies in a ring, tile store or segment table of the admitted job. -/
def State.jobPagesDiffer (s : State) : Bool :=
  match s.job.job with
  | none => false
  | some jb => s.diffPages.any fun p => jb.dies.any fun b => b.regions.any fun r => overlaps r (65536 * p, 65536)

/-- The peer has a job admitted, as its last JOB message says. -/
def State.peerHasJob (s : State) : Bool :=
  match s.hsb.peerJob with
  | some p => decide (p.state ≠ 0)
  | none => false

/-- HSB_STAT.READY (R315). -/
def State.hsbReady (s : State) : Bool :=
  decide (s.hsbState = hsbSTANDBY) && !s.jobPagesDiffer && ((s.job.job.isNone && !s.peerHasJob) || s.is .hsb HSB_STAT_JOBPAIR)

/-- READY as it was last seen follows its conditions; a change raises source 172 (R315, R341). -/
def State.readyUpdate (s : State) : State :=
  if s.is .hsb HSB_STAT_READY = s.hsbReady then s else (s.wrB .hsb HSB_STAT_READY s.hsbReady).raiseCrown 172

/-- PEER_READY takes a value; a change raises source 172, and with PEER_READY at 0 a handover that is not acknowledged has
failed (R335). -/
def State.setPeerReady (s : State) (v : Bool) : State :=
  if s.is .hsb HSB_STAT_PEER_READY = v then s
  else
    let t := (s.wrB .hsb HSB_STAT_PEER_READY v).raiseCrown 172
    if ¬ v ∧ s.hsbState = hsbACTIVE ∧ (s.hsb.handover.map Prod.snd) = some false then t.handoverFail else t

/-- STATE, descriptor CRC and S0 of the own job (R322). -/
def State.jobKey (s : State) : List Nat :=
  [s.jobState, match s.job.job with | some j => j.crc | none => 0, s.rd .pkgNode JOB_START_LINE]

/-- Both units hold the same job (R322). -/
def State.jobsPair (s : State) : Bool :=
  match s.job.job, s.hsb.peerJob with
  | some j, some p => decide (s.jobState ≠ 0 ∧ p.state ≠ 0 ∧ j.crc = p.crc ∧ s.rd .pkgNode JOB_START_LINE = p.s0)
  | _, _ => false

/-- JOBPAIR takes a value; when it clears with a job left in either unit, that is recorded (R322). -/
def State.setJobPair (s : State) (v left : Bool) : State :=
  let t := (s.wrB .hsb HSB_STAT_JOBPAIR v).readyUpdate
  if s.is .hsb HSB_STAT_JOBPAIR && !v && left then t.offer Ev.JOB_PAIR_SPLIT .crown else t

/-- JOBPAIR follows the two jobs (R322). -/
def State.jobPairUpdate (s : State) : State := s.setJobPair s.jobsPair (s.job.job.isSome || s.peerHasJob)

/-- There is no peer any more whose job could be the same: JOBPAIR clears (R322). -/
def State.jobPairEnd (s : State) : State :=
  { s with hsb := { s.hsb with peerJob := none } }.setJobPair false (s.job.job.isSome || s.peerHasJob)

/-! ### The end of a join -/

/-- A JOINING unit enters STANDBY once its time is locked, a full mirror is published, and every core with a synced
region that can be equalised has taken one EQ (R314). -/
def State.joinCheck (s : State) : State :=
  if s.hsbState = hsbJOINING ∧ s.is .hsb HSB_STAT_TLOCK ∧ s.hsb.fullMirror ∧
      s.coresList.all (fun c => decide (s.synced c.1 c.2 = []) || !s.refValidTask c.1 c.2 || s.hsb.eqDone.contains c) then
    (s.setHsbState hsbSTANDBY).readyUpdate
  else s

/-- A standby leaves its pair for a state, and its admission ends with reason 4 (R322). -/
def State.leaveStandby (s : State) (st : Nat) : State :=
  ((if s.isStandby then s.jobEnd 4 else s).setHsbState st).jobPairEnd.readyUpdate

/-! ### Claims learned -/

/-- The unit enters JOINING: nothing of the active peer's state has been taken yet (R312, R314, R317). -/
def State.enterJoining (s : State) : State :=
  ({ s with hsb := { s.hsb with fullMirror := false, mirrors := [], eqDone := [], eqGot := [], tGood := 0, tBad := 0 } }.wr .hsb
    HSB_STAT_TLOCK 0).setHsbState hsbJOINING

/-- A claim is learned: HSB_HC rises with it, and an active unit that learns a greater claim of the other parity is
demoted (R306, R308). -/
def State.learnClaim (s : State) (c : Nat) : State :=
  let t := if s.rd .hsb HSB_HC_CLAIM < c then s.wr .hsb HSB_HC_CLAIM c else s
  if s.isActive ∧ s.rd .hsb HSB_CLAIM_CLAIM < c ∧ c % 2 ≠ s.ownParity then
    (t.enterJoining.jobEnd 4).jobPairUpdate.offer Ev.DEMOTED .crown
  else t

/-! ### Paths and messages -/

/-- The bit that says a path is heard, and the instant of its last message. -/
def pathBit (p : Nat) : Field := if p = 0 then HSB_STAT_PATHA else HSB_STAT_PATHB
def State.pathLast (s : State) (p : Nat) : Option Nat := if p = 0 then s.hsb.lastA else s.hsb.lastB

/-- A path has carried no valid message for 30 µs (R328). -/
def State.pathSilent (s : State) (p : Nat) : Bool := decide ((s.pathLast p).getD 0 + 30000 ≤ s.tb)

/-- A path has failed, and has carried no valid message since (R328). -/
def Hsb.failed (h : Hsb) (p : Nat) : Bool := if p = 0 then h.failA else h.failB
def Hsb.setFailed (h : Hsb) (p : Nat) (v : Bool) : Hsb := if p = 0 then { h with failA := v } else { h with failB := v }

/-- The hot-standby record after a message on a path at this instant. -/
def Hsb.hear (h : Hsb) (p now : Nat) : Hsb :=
  if p = 0 then { h with lastA := some now, lastMsg := now } else { h with lastB := some now, lastMsg := now }

/-- A valid message is heard on a path; PATH_OK is recorded where the path had failed, with
source 169 (R311, R328, R341). -/
def State.pathHeard (s : State) (p : Nat) : State :=
  let t := if s.hsb.failed p then (s.offer Ev.PATH_OK .crown [p]).raiseCrown 169 else s
  { t with hsb := (t.hsb.hear p s.tb).setFailed p false }.wr .hsb (pathBit p) 1

/-- A SEQ has not been taken: it lies above the highest, or within the 65,536 below and is not in the record (R310). -/
def Hsb.fresh (h : Hsb) (q : Nat) : Bool :=
  match h.rxHigh with
  | none => true
  | some m => decide (0 < seqDiff q m) || (decide (-65536 ≤ seqDiff q m ∧ seqDiff q m < 0) && !h.rxTaken.contains q)

/-- The record with a SEQ taken. -/
def Hsb.takeSeq (h : Hsb) (q : Nat) : Hsb :=
  match h.rxHigh with
  | none => { h with rxHigh := some q }
  | some m =>
    if 0 < seqDiff q m then { h with rxHigh := some q, rxTaken := (m :: h.rxTaken).filter fun x => decide (-65536 ≤ seqDiff x q) }
    else { h with rxTaken := q :: h.rxTaken }

/-- A valid message arrives: its path is heard and its claim learned; what it says is acted on once, by a unit that is
not OFF. After a silence of both paths the record of SEQs starts afresh (R306, R310, R311). -/
def State.sbRx (s : State) (h : SbHdr) (act : State → State) : State :=
  if s.strapped ∧ s.portsUp ∧ h.path < 2 then
    let q := h.seq % 2 ^ 32
    let rec0 := if s.pathSilent 0 && s.pathSilent 1 then { s.hsb with rxHigh := none, rxTaken := [] } else s.hsb
    let t := ({ s with hsb := rec0 }.pathHeard h.path).learnClaim (h.claim % 2 ^ 32)
    if rec0.fresh q then
      let t := { t with hsb := t.hsb.takeSeq q }
      if t.hsbState = hsbOFF then t else act t
    else t
  else s

end Sys2Proof.Machine
end

