-- ==== Sys2Proof/Machine/Khood.lean ====
section
/-! DEFINITION. Kernel hoods (R198 to R202): the LOAD check, the switch, and the paired switch; the count snapshot
(R194). -/

namespace Sys2Proof.Machine

/-! ### The LOAD check (R198) -/

/-- What a plane instruction needs on the stack, and the depth of the stack after it. -/
def stackNeed : LaneOp → Nat
  | .andp | .orp | .xorp | .andnp | .swapp | .overp | .nipp | .tuckp => 2
  | .notp | .dupp | .dropp | .shlp _ | .shrp _ | .storep _ | .popcp _ | .flagp _ => 1
  | .selp | .rotp => 3
  | .lutp _ _ => 4
  | .pickp n => n + 1
  | .zerop | .onesp | .loadp _ | .calp _ | .gend => 0

/-- The edge depths (LO, HI) that an instruction leaves on the stack, top first, given those before it; negative depths
are kept, so that the check sees them. -/
def walkStack : LaneOp → List (Int × Int) → List (Int × Int)
  | .andp, b :: a :: r | .orp, b :: a :: r | .xorp, b :: a :: r | .andnp, b :: a :: r => (min a.1 b.1, min a.2 b.2) :: r
  | .selp, m :: b :: a :: r => (min (min a.1 b.1) m.1, min (min a.2 b.2) m.2) :: r
  | .zerop, r | .onesp, r | .loadp _, r | .calp _, r => (64, 64) :: r
  | .dupp, a :: r => a :: a :: r
  | .dropp, _ :: r | .storep _, _ :: r | .popcp _, _ :: r | .flagp _, _ :: r => r
  | .swapp, b :: a :: r => a :: b :: r
  | .overp, b :: a :: r => a :: b :: a :: r
  | .rotp, c :: b :: a :: r => a :: c :: b :: r
  | .nipp, b :: _ :: r => b :: r
  | .tuckp, b :: a :: r => b :: a :: b :: r
  | .pickp n, r => r.getD n (64, 64) :: r
  | .shlp n, a :: r => (min 64 (a.1 + n), a.2 - n) :: r
  | .shrp n, a :: r => (a.1 - n, min 64 (a.2 + n)) :: r
  | .lutp _ w, a :: b :: c :: d :: r =>
    List.replicate w (min (min a.1 b.1) (min c.1 d.1), min (min a.2 b.2) (min c.2 d.2)) ++ r
  | _, r => r

/-- The result of the LOAD walk: the parcels per group, or the parcel and DETAIL of the refusal. -/
inductive Walk where
  | ok (count : Nat)
  | bad (pos detail : Nat)
  deriving DecidableEq, Repr

/-- The walk over the parcels of the hood slot from `pos`, with the stack of depths and the output planes written so far
(R198). -/
def loadWalk (parcel : Nat → Nat) : Nat → Nat → List (Int × Int) → Nat → Walk
  | 0, _, _, _ => .bad 16383 2
  | fuel + 1, pos, st, outs =>
    match laneDecode (parcel pos) with
    | none => .bad pos 1
    | some op =>
      if st.length < stackNeed op then .bad pos 4
      else
        let st' := walkStack op st
        if 16 < st'.length then .bad pos 3
        else if st'.any fun e => decide (e.1 < 0 ∨ e.2 < 0) then .bad pos 5
        else match op with
          | .gend => if outs % 256 = 255 then .ok (pos + 1) else .bad pos 6
          | .storep q => loadWalk parcel fuel (pos + 1) st' (outs ||| 2 ^ q)
          | _ => loadWalk parcel fuel (pos + 1) st' outs

/-- The digest of a slot: CRC-32C of the parcels up to and including GEND and the 256 bytes of its tables (R198). -/
def State.slotDigest (s : State) (d j slot count : Nat) : Nat :=
  crc32c ((s.mem (.ks d j slot)).getList 0 (2 * count) ++ (s.mem (.lsram d j)).getList (lutBase slot) 256)

/-- LOAD ends in a refusal: the state is NONE. -/
def State.loadRefused (s : State) (d j code detail : Nat) : State := (s.setKhood d j 0).khoodResult d j code detail

/-- The LOAD check of the hood slot (R198). A slot or table that cannot be read is a plane fault on the kernel port
(R182, R196) and is refused as a parcel that is no listed encoding. -/
def State.khoodLoad (s : State) (d j : Nat) : State :=
  let b := Blk.lane d j
  if s.khood d j = 2 then s.khoodResult d j 6
  else
    let slot := s.hoodSlot d j
    let m := s.mem (.ks d j slot)
    match loadWalk (fun p => leNat (m.getList (2 * p) 2)) 16384 0 [] 0 with
    | .bad pos detail =>
      let (bad, t) := s.eccRead (.ks d j slot) 0 (2 * (pos + 1))
      if bad then (t.planeFault d j 0 pos).loadRefused d j 2 1
      else (t.wr b LANE_KHOOD_POS_PARCEL pos).loadRefused d j 2 detail
    | .ok count =>
      let (bad, t) := s.eccRead (.ks d j slot) 0 (2 * count)
      let (bad', t) := t.eccRead (.lsram d j) (lutBase slot) 256
      if bad then (t.planeFault d j 0 (count - 1)).loadRefused d j 2 1
      else if bad' then (t.planeFault d j 3 (count - 1)).loadRefused d j 2 1
      else
        let t := t.wrs b [(LANE_KHOOD_COST_PERGROUP, count), (LANE_KHOOD_DIGEST_CRC, s.slotDigest d j slot count)]
        let bud := t.rd b LANE_BUDGET_CYCLES
        if bud ≠ 0 ∧ bud < count * t.rd b LANE_GROUPS_N then t.loadRefused d j 3 0
        else (t.setKhood d j 1).khoodResult d j 1

/-- KHOOD_LOAD: a write of LANE_KHOOD_CTRL.LOAD (R198). -/
def execKhoodLoad (d j : Nat) (s : State) : Host.Outcome State Fault Refusal :=
  .next (if s.hasNode (.lane d j) then s.khoodLoad d j else s)

/-! ### SWITCH and ABORT (R199, R200, R202) -/

/-- Line `a` lies at or beyond line `b`, by signed difference of numbers. -/
def lineGe (a b : Nat) : Bool := decide (0 ≤ toSigned 32 ((a + 2 ^ 32 - b) % 2 ^ 32))

/-- A kernel or blank for a line at or beyond `n` has been handed or started (R199). -/
def State.lineBegun (s : State) (d j n : Nat) : Bool :=
  (match (s.lane d j).kern with
    | some k => lineGe (s.lineAt k.line).n n
    | none => false) ||
  match (s.lane d j).finished with
  | 0 => false
  | i + 1 => lineGe (s.lineAt i).n n

/-- The hood is armed for a line, or for the next kernel start. -/
def State.armHood (s : State) (d j : Nat) (line : Option Nat) (paired : Bool) : State :=
  (s.setLane d j { s.lane d j with arm := some { line := line, paired := paired } }).setKhood d j 2

/-- S(N) at a lane in ps, for a line that has been announced. -/
def State.switchS (s : State) (d j n : Nat) : Option Int := (s.placeOf n).map (s.lineS d j)

/-- S(N) lies at least `lead` ps ahead; a line not yet announced does. -/
def State.aheadBy (s : State) (d j n : Nat) (lead : Int) : Bool :=
  match s.switchS d j n with
  | some t => decide (s.ps + lead ≤ t)
  | none => match s.lines.getLast? with
    | some l => !lineGe l.n n
    | none => true

/-- The first line whose S lies at least 10 µs ahead, else the line after the last announced (R202, R335). -/
def State.firstAhead (s : State) (d j : Nat) : Nat :=
  match firstFrom (fun i => decide (s.ps + 10000000 ≤ s.lineS d j i)) 0 s.lines.length with
  | some i => (s.lineAt i).n
  | none => s.tmb.nextN

/-- A paired SWITCH in the active unit: armed for N, and KARM sent (R202). -/
def State.armPair (s : State) (d j n : Nat) : State :=
  let b := Blk.lane d j
  (s.armHood d j (some n) true).hsbSend .karm
    [d, j, n, s.rd b LANE_KHOOD_DIGEST_CRC, s.rd b LANE_KHOOD_COST_PERGROUP, s.rd b LANE_LEAD_NS]

/-- A write of SWITCH (R199, R202). -/
def State.khoodSwitchWrite (s : State) (d j : Nat) : State :=
  let b := Blk.lane d j
  let n := s.rd b LANE_KHOOD_LINE_LINE
  if s.isStandby then s.khoodResult d j 7
  else if s.khood d j ≠ 1 then s.khoodResult d j 4
  else if s.hsbState = hsbACTIVE then
    if s.is b LANE_KHOOD_CTRL_AT then
      if s.aheadBy d j n 10000000 then s.armPair d j n else s.khoodResult d j 5
    else s.armPair d j (s.firstAhead d j)
  else if ¬ s.is b LANE_CTRL_RUN then s.khoodSwitch d j none
  else if s.is b LANE_KHOOD_CTRL_AT then
    if s.lineBegun d j n then s.khoodResult d j 5 else s.armHood d j (some n) false
  else s.armHood d j none false

/-- KHOOD_SWITCH: a write of LANE_KHOOD_CTRL.SWITCH with AT as written (R199, R202). -/
def execKhoodSwitch (d j : Nat) (at_ : Bool) (s : State) : Host.Outcome State Fault Refusal :=
  .next (if s.hasNode (.lane d j) then (s.wrB (.lane d j) LANE_KHOOD_CTRL_AT at_).khoodSwitchWrite d j else s)

/-- A write of ABORT: an armed hood returns to LOADED (R200). -/
def State.khoodAbort (s : State) (d j : Nat) : State :=
  if s.khood d j = 2 then (s.disarm d j 1).khoodResult d j 0x0B else s

/-- KHOOD_ABORT: a write of LANE_KHOOD_CTRL.ABORT (R200). -/
def execKhoodAbort (d j : Nat) (s : State) : Host.Outcome State Fault Refusal :=
  .next (if s.hasNode (.lane d j) then s.khoodAbort d j else s)

/-- A write of LANE_KHOOD_CTRL: AT as written, then LOAD, SWITCH and ABORT. -/
def State.khoodCtrl (s : State) (d j w : Nat) : State :=
  let t := s.wr (.lane d j) LANE_KHOOD_CTRL_AT (LANE_KHOOD_CTRL_AT.of w)
  let t := if LANE_KHOOD_CTRL_LOAD.of w = 1 then t.khoodLoad d j else t
  let t := if LANE_KHOOD_CTRL_SWITCH.of w = 1 then t.khoodSwitchWrite d j else t
  if LANE_KHOOD_CTRL_ABORT.of w = 1 then t.khoodAbort d j else t

/-- KHOOD_SWITCH_POINT: S(N) of the armed hood's line comes; in a pair, after the agreement (R199, R200, R202). -/
def execKhoodSwitchPoint (d j : Nat) (s : State) : Host.Outcome State Fault Refusal :=
  .next (match (s.lane d j).arm with
    | some a =>
      match a.line with
      | some n =>
        match s.switchS d j n with
        | some t => if t ≤ s.ps ∧ (a.paired → a.agreed) then s.khoodSwitch d j (some n) else s
        | none => s
      | none => s
    | none => s)

/-! ### The paired switch (R202) -/

/-- The armed hood of a pair, with its line. -/
def State.pairArm (s : State) (d j : Nat) : Option (KArm × Nat) :=
  match (s.lane d j).arm with
  | some a => if a.paired then a.line.map fun n => (a, n) else none
  | none => none

/-- The armed hood has the agreement of the other unit. -/
def State.agree (s : State) (d j : Nat) (a : KArm) : State := s.setLane d j { s.lane d j with arm := some { a with agreed := true } }

/-- The request ends with KHOOD_PAIR_MISMATCH, the hood LOADED. -/
def State.pairMismatch (s : State) (d j : Nat) : State := (s.disarm d j 1).khoodResult d j 8

/-- KARM_RX: the standby compares the hood with KARM and arms, or sends NAK (R202). -/
def execKarmRx (h : SbHdr) (d j n digest cost lead : Nat) (s : State) : Host.Outcome State Fault Refusal :=
  let b := Blk.lane d j
  .next (s.sbRx h fun s => if ¬ s.hasNode (.lane d j) ∨ ¬ s.isStandby then s
    else if s.khood d j = 1 ∧ s.rd b LANE_KHOOD_DIGEST_CRC = digest ∧ s.rd b LANE_KHOOD_COST_PERGROUP = cost ∧
        s.rd b LANE_LEAD_NS = lead then
      (s.armHood d j (some (n % 2 ^ 32)) true).hsbSend .ack [d, j, n]
    else s.hsbSend .nak [d, j, n])

/-- KHOOD_ACK_RX: the active unit receives ACK by S(N) − 4 µs and sends KGO (R202). -/
def execKhoodAckRx (h : SbHdr) (d j : Nat) (s : State) : Host.Outcome State Fault Refusal :=
  .next (s.sbRx h fun s => match s.pairArm d j with
    | some (a, n) =>
      if s.isActive ∧ ¬ a.agreed ∧ s.aheadBy d j n 4000000 then (s.agree d j a).hsbSend .kgo [d, j, n] else s
    | none => s)

/-- KHOOD_NAK_RX: the active unit receives NAK and cancels (R202). -/
def execKhoodNakRx (h : SbHdr) (d j : Nat) (s : State) : Host.Outcome State Fault Refusal :=
  .next (s.sbRx h fun s => match s.pairArm d j with
    | some (a, n) => if s.isActive ∧ ¬ a.agreed then (s.pairMismatch d j).hsbSend .kcancel [d, j, n] else s
    | none => s)

/-- KGO_RX: the armed standby receives KGO before S(N) (R202). -/
def execKgoRx (h : SbHdr) (d j : Nat) (s : State) : Host.Outcome State Fault Refusal :=
  .next (s.sbRx h fun s => match s.pairArm d j with
    | some (a, n) => if s.isStandby ∧ s.aheadBy d j n 1 then s.agree d j a else s
    | none => s)

/-- KCANCEL_RX: the armed standby receives KCANCEL before S(N) (R202). -/
def execKcancelRx (h : SbHdr) (d j : Nat) (s : State) : Host.Outcome State Fault Refusal :=
  .next (s.sbRx h fun s => match s.pairArm d j with
    | some (_, n) => if s.isStandby ∧ s.aheadBy d j n 1 then s.pairMismatch d j else s
    | none => s)

/-- KHOOD_ACK_TIMEOUT: no ACK by S(N) − 4 µs: the active unit cancels (R202). -/
def execKhoodAckTimeout (d j : Nat) (s : State) : Host.Outcome State Fault Refusal :=
  .next (match s.pairArm d j with
    | some (a, n) =>
      if s.isActive ∧ ¬ a.agreed ∧ ¬ s.aheadBy d j n 4000000 then (s.pairMismatch d j).hsbSend .kcancel [d, j, n] else s
    | none => s)

/-- A unit leaves the pair: LEAVE goes out, HSB_CTRL.EN clears, the state is OFF, and a standby's admission ends with
reason 4 (R312, R322). -/
def State.leavePair (s : State) : State :=
  let t := s.hsbSend .leave
  let t := if s.isStandby then t.jobEnd 4 else t
  ((t.wr .hsb HSB_CTRL_EN 0).setHsbState hsbOFF).jobPairEnd

/-- KHOOD_STANDBY_SPLIT: S(N) comes at an armed standby with neither KGO nor KCANCEL (R202). -/
def execKhoodStandbySplit (d j : Nat) (s : State) : Host.Outcome State Fault Refusal :=
  .next (match s.pairArm d j with
    | some (a, n) =>
      if s.isStandby ∧ ¬ a.agreed ∧ ¬ s.aheadBy d j n 1 then
        (((s.disarm d j 1).khoodResult d j 9).offer Ev.KHOOD_PAIR_SPLIT (.lane d j)).leavePair
      else s
    | none => s)

/-! ### Counts (R194) -/

/-- A read of LANE_CNT_LINE: the snapshot registers take the last published set (R194). -/
def State.laneCntLine (s : State) (d j : Nat) : Nat × State :=
  let l := s.lane d j
  let t := (List.range 8).foldl (fun t k => t.wr (.lane d j) (LANE_CNT_COUNT k) (l.counts.getD k 0)) s
  (l.cntLine, t.wrs (.lane d j) [(LANE_CNT_LINE_LINE, l.cntLine), (LANE_CNT_STAT_BLANK, l.cntBlank.toNat)])

/-- LANE_CNT_LINE: a read of LANE_CNT_LINE (R194). -/
def execLaneCntLine (d j : Nat) (s : State) : Host.Outcome State Fault Refusal :=
  .next (if s.hasNode (.lane d j) then (s.laneCntLine d j).2 else s)

end Sys2Proof.Machine
end

