-- ==== Sys2Proof/Machine/Order.lean ====
section
/-! DEFINITION. The order by which every arbiter decides (R288, R290), and the arbiters' state (R286, R297). -/

namespace Sys2Proof.Machine

/-! ### The order -/

/-- The key of a deadline at this instant (R288). -/
def State.arbKeyOf (s : State) (dl : Nat) : Int :=
  max (-(2 ^ 30 : Int)) (min (2 ^ 30) (toSigned 32 ((dl % 2 ^ 32 + 2 ^ 32 - s.tmb.count % 2 ^ 32) % 2 ^ 32)))

/-- Rank of an input in a decision: forced inputs first by rotation, else the least key, then the greater wait count,
then rotation (R288, R290). The least rank wins. -/
def State.arbRank (s : State) (limit ptr n anyForced : Nat) (input dl w : Nat) : Int × Int × Nat :=
  let rot := (input + n - ptr % n) % n
  if anyForced = 1 then (if limit ≤ w then 0 else 1, 0, rot) else (s.arbKeyOf dl, -(w : Int), rot)

/-- Lexicographic order of ranks. -/
def rankLt (a b : Int × Int × Nat) : Bool :=
  decide (a.1 < b.1 ∨ (a.1 = b.1 ∧ (a.2.1 < b.2.1 ∨ (a.2.1 = b.2.1 ∧ a.2.2 < b.2.2))))

/-- The element of least rank, the first among equals. -/
def leastBy {α : Type} (r : α → Int × Int × Nat) : List α → Option α
  | [] => none
  | x :: xs =>
    match leastBy r xs with
    | some y => if rankLt (r y) (r x) then some y else some x
    | none => some x

/-- The earlier of two deadlines, by signed difference (R246, R293). -/
def earlier (x y : Nat) : Nat := if toSigned 32 ((y + 2 ^ 32 - x % 2 ^ 32) % 2 ^ 32) < 0 then y else x

/-! ### Arbiters -/

/-- The key of an arbiter: of compute die `some d`, or of the crown die. -/
def arbKeyNo (c : Option Nat) (a : Nat) : Nat × Nat := (match c with | some d => d + 1 | none => 0, a)

/-- An arbiter. -/
def State.arbiter (s : State) (c : Option Nat) (a : Nat) : Arbiter := Tab.get s.arbs (arbKeyNo c a) {}

/-- An arbiter replaced. -/
def State.setArbiter (s : State) (c : Option Nat) (a : Nat) (v : Arbiter) : State :=
  { s with arbs := Tab.set pairCode s.arbs (arbKeyNo c a) {} v }

/-- The waiting requests of nodes are withdrawn from every arbiter (R297). -/
def State.withdraw (s : State) (l : List Node) : State :=
  let stays (r : ArbReq) := match r.who with | some n => decide (n ∉ l) | none => true
  let left := s.arbs.map fun e => (e.1, { e.2 with waiting := e.2.waiting.filter stays })
  { s with arbs := left.filter fun e => decide (e.2 ≠ ({} : Arbiter)) }

/-- A transfer in progress was granted to one of some nodes (R297). -/
def State.transferring (s : State) (l : List Node) : Bool :=
  s.arbs.any fun e => match e.2.grant with | some (_, g) => l.any fun n => decide (g.who = some n) | none => false

end Sys2Proof.Machine
end

