-- ==== Sys2Proof/Machine/Links.lean ====
section
/-! DEFINITION. Keati links (R242 to R269): frames received and sent, credits, states and training, routes, the mailbox
and the receive FIFO (R282). -/

namespace Sys2Proof.Machine

/-! ### Frames (R245 to R251) -/

/-- LINK_STAT.STATE: 0 DOWN, 1 TRAIN, 2 UP, 3 FAULT. -/
def State.linkState (s : State) (d m : Nat) : Nat := s.rd (.link d m) LINK_STAT_STATE

/-- SOURCE of a link (R251). -/
def State.linkSource (s : State) (d m : Nat) : Nat :=
  s.ringPos * 2 ^ 9 + d * 2 ^ 6 + m * 2 + s.straps.hsbUnit.toNat

/-- Words of a list of octets, most significant first, padded with zeros. -/
def wordsOf : List Nat → List Nat
  | a :: b :: c :: d :: r => (a * 2 ^ 24 + b * 2 ^ 16 + c * 2 ^ 8 + d) :: wordsOf r
  | [] => []
  | [a] => [a * 2 ^ 24]
  | [a, b] => [a * 2 ^ 24 + b * 2 ^ 16]
  | [a, b, c] => [a * 2 ^ 24 + b * 2 ^ 16 + c * 2 ^ 8]

/-- The five header words of a frame, HCRC included (R245, R249). -/
def headerWords (type flags cls len claim dl seq source target : Nat) : List Nat :=
  let w0 := type % 16 * 2 ^ 28 + flags % 16 * 2 ^ 24 + cls % 256 * 2 ^ 16 + len % 2 ^ 16
  let w := [w0, claim % 2 ^ 32, dl % 2 ^ 32, seq % 2 ^ 16 * 2 ^ 16 + source % 2 ^ 16]
  let t := target % 2 ^ 16
  w ++ [t * 2 ^ 16 + crc16 (w.flatMap octets ++ [t / 256, t % 256])]

/-- Units of a pool that a frame costs (R255). -/
def creditCost (len : Nat) : Nat := max 1 ((len + 511) / 512)

/-- The credit pool of a frame type (R247); none for the types that use none. -/
def poolOf (type : Nat) : Option Nat := if type = 1 then some 0 else if 2 ≤ type ∧ type ≤ 5 then some 1 else none

/-- LENGTH keeps the row of its type in R248; `blank`: a BATT frame with BLANK. -/
def lengthOk (type len : Nat) (blank : Bool) : Bool :=
  match type with
  | 1 => if blank then decide (len = 0) else decide (2048 ≤ len ∧ len ≤ 8192 ∧ len % 2048 = 0)
  | 2 => decide (8 ≤ len ∧ len ≤ 8192 ∧ len % 4 = 0)
  | 3 => decide (len = 8)
  | 4 => decide (4 ≤ len ∧ len ≤ 256 ∧ len % 4 = 0)
  | 5 => decide (4 ≤ len ∧ len ≤ 64 ∧ len % 4 = 0)
  | 6 => decide (len = 8)
  | 7 | 8 => decide (len = 0)
  | 9 => decide (len = 32)
  | _ => false

/-! ### Credits (R255 to R257) -/

/-- A receiver's own pool (R255). -/
def ownPool (p : Nat) : Nat := max 32 (min 65535 (Config.linkPool p))

/-- Units available to the transmitter (R256). After FULL the peer may report more units freed than were sent since then
(R257). -/
def Link.avail (l : Link) (p : Nat) : Nat :=
  if p = 0 then (l.base0 - toSigned 32 (l.sent0 + 2 ^ 32 - l.got0 % 2 ^ 32)).toNat
  else (l.base1 - toSigned 32 (l.sent1 + 2 ^ 32 - l.got1 % 2 ^ 32)).toNat

/-- Units leave the receiver's use: they are freed, and a CREDIT is due (R256). While FULL figures are sent, they show in
those (R257). -/
def Link.free (l : Link) (p n : Nat) : Link :=
  let k := if l.full then 0 else n
  if p = 0 then { l with used0 := l.used0 - n, freed0 := (l.freed0 + k) % 2 ^ 32, owe := true }
  else { l with used1 := l.used1 - n, freed1 := (l.freed1 + k) % 2 ^ 32, owe := true }

/-- The receiver's resync is complete: the transmitter has taken its FULL figures (R257, t4). -/
def Link.resumed (l : Link) : Link := if l.full then { l with full := false, resyncAt := none } else l

/-- Units come into the receiver's use; a credited frame shows that the transmitter has taken the FULL figures (R257). -/
def Link.take (l : Link) (p n : Nat) : Link :=
  if p = 0 then { l.resumed with used0 := l.used0 + n } else { l.resumed with used1 := l.used1 + n }

/-- A frame's units are counted as taken and freed at once (R252). -/
def State.freeAtOnce (s : State) (d m type len : Nat) : State :=
  match poolOf type with
  | some p => s.setLink d m (((s.link d m).take p (creditCost len)).free p (creditCost len))
  | none => s

/-- The pool of a frame lacks the units for it (R252). -/
def Link.overrun (l : Link) (p n : Nat) : Bool := decide (ownPool p < (if p = 0 then l.used0 else l.used1) + n)

/-! ### Sending -/

/-- The time in ps that a frame of a number of payload octets takes on the wire: header, CRC, and 16 octets of delimiting
and gap, at 100 Gbit/s (R242, R244). -/
def frameTime (len : Nat) : Nat := 80 * (20 + len + 4 + 16)

/-- The header fields of a frame that starts on a link (R245): CLAIM is the unit's own, SEQ the line number for a BATT
frame and else the count of frames other than BATT since UP. -/
def State.frameOf (s : State) (d m type flags cls dl target : Nat) (line : Option Nat) (words : List Nat) : KFrame :=
  { type := type, flags := flags, cls := cls, len := 4 * words.length, claim := s.rd .hsb HSB_CLAIM_CLAIM, deadline := dl
    seq := line.getD (s.link d m).seq, source := s.linkSource d m, target := target, payload := words.flatMap octets, crcOk := true }

/-- A frame starts on a link (R244, R245); in near-end loopback it comes back to the link's receiver (R282). -/
def State.linkSend (s : State) (d m type flags cls dl target : Nat) (line : Option Nat) (words : List Nat) : State :=
  let l := s.link d m
  let f := s.frameOf d m type flags cls dl target line words
  let h := headerWords f.type f.flags f.cls f.len f.claim f.deadline f.seq f.source f.target
  let l := { l with
    lastTx := s.tb
    seq := if line.isNone then (l.seq + 1) % 2 ^ 16 else l.seq
    wire := max l.wire (1000 * s.tb) + frameTime f.len
    loop := if s.is (.link d m) LINK_CTRL_LOOP then l.loop ++ [f] else l.loop }
  (s.setLink d m l).emit (.linkFrame d m h words (crc32c (f.payload.map (BitVec.ofNat 8))))

/-- A frame without deadline of its own: DEADLINE is package time (R246). -/
def State.linkSendNow (s : State) (d m type flags : Nat) (words : List Nat) : State :=
  s.linkSend d m type flags 0 (s.tmb.count % 2 ^ 32) 0xFFFF none words

/-- A CREDIT frame with flags and figures (R256, R257). -/
def State.creditSend (s : State) (d m flags a b : Nat) : State :=
  let t := s.linkSendNow d m 6 flags [a % 2 ^ 32, b % 2 ^ 32]
  t.setLink d m { t.link d m with lastCredit := s.tb, owe := false }

/-- The FULL figures: the free units of each pool (R257). -/
def State.sendFull (s : State) (d m : Nat) : State :=
  s.creditSend d m 4 (ownPool 0 - (s.link d m).used0) (ownPool 1 - (s.link d m).used1)

/-! ### States (R258, R259, R262) -/

/-- The link changes state, which is recorded, raises source 384 + 4m and is timed (R258, R285). -/
def State.setLinkState (s : State) (d m st why : Nat) : State :=
  if s.linkState d m = st then s
  else
    let t := (s.wr (.link d m) LINK_STAT_STATE st).raiseDie d (384 + 4 * m)
    let t := t.setLink d m { t.link d m with stateAt := s.tb }
    if st = 2 then t.offer Ev.LINK_UP (.die d) [m]
    else if st = 3 then (t.wr (.link d m) LINK_STAT_WHY why).offer Ev.LINK_FAULT (.die d) [m, why]
    else if st = 0 then t.offer Ev.LINK_DOWN (.die d) [m]
    else t

/-- A route has sent, blanked or dropped its part of a line: the output buffer is released once all have (R268). -/
def State.routeDone (s : State) (d : Nat) (x : RouteTx) : State :=
  let l := s.lane d x.lane
  let b := x.line % 4
  match Tab.get l.out b (0, 0) with
  | (i + 1, k) =>
    if (s.lineAt i).n = x.line then
      s.setLane d x.lane { l with out := Tab.set (fun k => k) l.out b (0, 0) (if k ≤ 1 then (0, 0) else (i + 1, k - 1)) }
    else s
  | _ => s

/-- The output buffer of a route's line still holds it (R268). -/
def State.lineHeld (s : State) (d : Nat) (x : RouteTx) : Bool :=
  match Tab.get (s.lane d x.lane).out (x.line % 4) (0, 0) with
  | (i + 1, _) => decide ((s.lineAt i).n = x.line)
  | _ => false

/-- A route has sent the last frame of its part of a line; the link keeps it while the output buffer is held (R268, R332). -/
def State.routeSent (s : State) (d m : Nat) (x : RouteTx) : State :=
  let l := s.link d m
  let t := (s.setLink d m { l with routes := l.routes.erase x }).routeDone d x
  t.setLink d m { t.link d m with sent := ((t.link d m).sent ++ [x]).filter fun y => t.lineHeld d y }

/-- The mailbox frame ends with a result: 1 SENT, 2 ABORTED, 3 REFUSED; source 386 + 4m (R282, R285). -/
def State.mailboxEnd (s : State) (d m r : Nat) : State :=
  ((s.setLink d m { s.link d m with mailbox := none }).wrs (.link d m) [(LINK_TX_GO_GO, 0), (LINK_TX_GO_RESULT, r)]).raiseDie d (386 + 4 * m)

/-- The link leaves UP: what it had to send is dropped, credited frames and route lines counted (R262, R267). SEQ counts
on until the next entry to UP (R245). -/
def State.leaveUp (s : State) (d m : Nat) : State :=
  if s.linkState d m ≠ 2 then s
  else
    let l := s.link d m
    let t := s.each l.routes fun t x => t.routeDone d x
    let t := t.bump (.link d m) LINK_TXDROP_COUNT
      (l.routes.length + l.mailbox.toList.length + l.reflex.length + l.cap.toList.length)
    let t := t.bump (.rfx d) RFX_DROPCNT_COUNT l.reflex.length
    let t := if l.mailbox.isSome then t.mailboxEnd d m 2 else t
    t.setLink d m { rx := l.rx, lastTx := l.lastTx, lastRx := l.lastRx, stateAt := l.stateAt, seq := l.seq, fec := l.fec, wire := l.wire, loop := l.loop }

/-- The link enters TRAIN from preset 1 (R258, R260). -/
def State.beginTrain (s : State) (d m : Nat) : State :=
  let t := (s.leaveUp d m).setLinkState d m 1 0
  let b := Blk.link d m
  let t := t.wrs b [(LINK_CTRL_RETRAIN, 0), (LINK_EQ_CM3, Config.linkPreset 0), (LINK_EQ_CM2, Config.linkPreset 1),
    (LINK_EQ_CM1, Config.linkPreset 2), (LINK_EQ_C0, Config.linkPreset 3), (LINK_EQ_C1, Config.linkPreset 4)]
  t.setLink d m { t.link d m with stateAt := s.tb, reqSeen := none, ack := false, peerReady := false, ownReady := false, peerPools := false }

/-- The link enters TRAIN, unless its group's clock has stopped (R510). -/
def State.enterTrain (s : State) (d m : Nat) : State :=
  if s.bit (.dieNode d) CLK_DLOCK_LINK (m / 8) then s.beginTrain d m else s

/-- The link enters UP: credits, SEQ and LINK_HC start anew (R253, R256, R262). -/
def State.enterUp (s : State) (d m : Nat) : State :=
  let t := (s.setLinkState d m 2 0).wr (.link d m) LINK_HC_CLAIM 0
  let b := Blk.link d m
  t.setLink d m { rx := (t.link d m).rx, wire := (t.link d m).wire, loop := (t.link d m).loop, base0 := t.rd b LINK_POOL_POOL0, base1 := t.rd b LINK_POOL_POOL1, lastTx := s.tb,
                  lastCredit := s.tb, lastRx := s.tb, stateAt := s.tb,
                  used1 := ((t.link d m).rx.map fun f => creditCost (f.hdr.headD 0 % 2 ^ 16)).sum }

/-- The link enters FAULT from UP for a reason (R259). -/
def State.linkFault (s : State) (d m why : Nat) : State :=
  if s.linkState d m = 2 then (s.leaveUp d m).setLinkState d m 3 why else s

/-- The link goes DOWN (R258). -/
def State.linkDown (s : State) (d m : Nat) : State := (s.leaveUp d m).setLinkState d m 0 0

/-- The link exists: 32 on each compute die of the variant. -/
def State.hasLink (s : State) (d m : Nat) : Bool := s.hasDie d && decide (m < 32)

/-- A write of EN = 1 (R258). -/
def State.linkEnable (s : State) (d m : Nat) : State :=
  let t := s.wr (.link d m) LINK_CTRL_EN 1
  if s.linkState d m = 0 then t.enterTrain d m else t

/-- LINK_ENABLE: a write of LINK_CTRL.EN = 1 (R258). -/
def execLinkEnable (d m : Nat) (s : State) : Host.Outcome State Fault Refusal :=
  .next (if s.hasLink d m then s.linkEnable d m else s)

/-- A write of EN = 0: no effect if the LINK check of the admitted job would then fail (R230, R258). -/
def State.linkDisable (s : State) (d m : Nat) : State :=
  if ¬ s.is (.link d m) LINK_CTRL_EN then s
  else
    match s.dieJob d, s.job.job with
    | some b, some jb =>
      if linkCheck b jb.rate (s.linksEnabled d - 1) then (s.wr (.link d m) LINK_CTRL_EN 0).linkDown d m
      else s.offer Ev.LINK_DISABLE_REFUSED (.die d) [m]
    | _, _ => (s.wr (.link d m) LINK_CTRL_EN 0).linkDown d m

/-- LINK_DISABLE: a write of LINK_CTRL.EN = 0 (R230, R258). -/
def execLinkDisable (d m : Nat) (s : State) : Host.Outcome State Fault Refusal :=
  .next (if s.hasLink d m then s.linkDisable d m else s)

/-- A write of RETRAIN: from UP to TRAIN; in TRAIN, training starts again from preset 1. RETRAIN reads 1 until TRAIN is
entered (R258, R282). -/
def State.linkRetrain (s : State) (d m : Nat) : State :=
  let t := s.wr (.link d m) LINK_CTRL_RETRAIN 1
  if s.linkState d m = 1 ∨ s.linkState d m = 2 then t.enterTrain d m else t

/-- LINK_RETRAIN: a write of LINK_CTRL.RETRAIN (R258). -/
def execLinkRetrain (d m : Nat) (s : State) : Host.Outcome State Fault Refusal :=
  .next (if s.hasLink d m then s.linkRetrain d m else s)

/-- A write of LINK_CTRL: LOOP, EN, then RETRAIN. What was in the loop is gone when LOOP changes. -/
def State.linkCtrl (s : State) (d m w : Nat) : State :=
  let t := s.wr (.link d m) LINK_CTRL_LOOP (LINK_CTRL_LOOP.of w)
  let t := if LINK_CTRL_LOOP.of w = s.rd (.link d m) LINK_CTRL_LOOP then t else t.setLink d m { t.link d m with loop := [] }
  let t := if LINK_CTRL_EN.of w = 1 then t.linkEnable d m else t.linkDisable d m
  if LINK_CTRL_RETRAIN.of w = 1 then t.linkRetrain d m else t

/-! ### Receiving (R252, R253) -/

/-- The header of a frame is valid: a heartbeat (R261), and its CLAIM is noted and passed on (R253). -/
def State.headerRx (s : State) (d m : Nat) : State := s.setLink d m { s.link d m with lastRx := s.tb }

/-- A valid inbound frame's CLAIM (R253). -/
def State.claimRx (s : State) (d m c : Nat) : State :=
  let t := if s.rd (.link d m) LINK_HC_CLAIM < c then s.wr (.link d m) LINK_HC_CLAIM c else s
  if t.rd .hsb HSB_CLAIM_CLAIM < c then t.learnClaim c else t

/-- A frame enters the receive FIFO, or is refused by a full one, its credits freed all the same (R254). -/
def State.rxPut (s : State) (d m : Nat) (f : KFrame) : State :=
  let l := s.link d m
  let c := creditCost f.len
  if l.rx.length < 32 then
    let h := headerWords f.type f.flags f.cls f.len f.claim f.deadline f.seq f.source f.target
    let t := s.setLink d m { l.take 1 c with rx := l.rx ++ [{ hdr := h, words := wordsOf f.payload }] }
    if l.rx = [] then t.raiseDie d (385 + 4 * m) else t
  else (s.freeAtOnce d m f.type f.len).wr (.link d m) LINK_RX_STAT_OVF 1

/-- An EVENT frame reaches the reflex engine, and a LINE event of the encoder's link the timebase (R253, R275, R445). -/
def State.eventRx (s : State) (d m : Nat) (f : KFrame) : State :=
  let ws := wordsOf f.payload
  let kind := ws.headD 0 / 2 ^ 16
  let g : Trigger := { link := m, source := f.source, kind := kind, words := ws, levels := s.fastLevels, time := s.tmb.count % 2 ^ 32 }
  let t := s.rfxPush d g
  if kind = 1 ∧ s.rd .tmb TMB_ENCLINK_DIE = d ∧ s.rd .tmb TMB_ENCLINK_LINK = m then t.lineEvent (ws.getD 1 0) (ws.getD 2 0) else t

/-- The setting index of an equaliser tap after a request (R260): hold, increment, decrement, return to preset 1; a request
at a limit changes nothing. -/
def tapNext (tap req cur : Nat) : Nat :=
  match req with
  | 0 => cur
  | 1 => if cur < Config.linkEqHigh tap then cur + 1 else cur
  | 2 => if Config.linkEqLow tap < cur then cur - 1 else cur
  | _ => Config.linkPreset tap

/-- The setting of one equaliser tap after a request (R260). -/
def State.applyTap (s : State) (d m : Nat) (f : Field) (tap req : Nat) : State :=
  s.wr (.link d m) f (tapNext tap req (s.rd (.link d m) f))

/-- Training is complete: both ends report RXREADY, and each has received the other's pools, of 32 units at least (R258,
R260). -/
def State.trained (s : State) (d m : Nat) : Bool :=
  let l := s.link d m
  l.ownReady && l.peerReady && l.peerPools && decide (32 ≤ s.rd (.link d m) LINK_POOL_POOL0 ∧ 32 ≤ s.rd (.link d m) LINK_POOL_POOL1)

/-- The link enters UP from TRAIN once training is complete (R258). -/
def State.trainDone (s : State) (d m : Nat) : State := if s.linkState d m = 1 ∧ s.trained d m then s.enterUp d m else s

/-- A TRAIN frame in TRAIN (R260). -/
def State.trainRx (s : State) (d m : Nat) (f : KFrame) : State :=
  let b := Blk.link d m
  let o (i : Nat) := f.payload.getD i 0
  let t := s.wrs b [(LINK_PEER_PEER, f.source), (LINK_POOL_POOL0, o 10 * 256 + o 11), (LINK_POOL_POOL1, o 14 * 256 + o 15)]
  let taps := o 4 * 256 + o 5
  let t := if (t.link d m).reqSeen = some (o 3) then t
    else
      let u := (List.zip [LINK_EQ_CM3, LINK_EQ_CM2, LINK_EQ_CM1, LINK_EQ_C0, LINK_EQ_C1] (List.range 5)).foldl
        (fun u p => u.applyTap d m p.1 p.2 (bits taps (2 * p.2) 2)) t
      u.setLink d m { u.link d m with reqSeen := some (o 3), ack := true }
  let big := decide (0 < o 8 * 256 + o 9 ∨ 0 < o 12 * 256 + o 13)
  (t.setLink d m { t.link d m with peerReady := (o 2).testBit 0, peerPools := !big }).trainDone d m

/-- The figures of a CREDIT frame. -/
def KFrame.figures (f : KFrame) : Nat × Nat := ((wordsOf f.payload).getD 0 0, (wordsOf f.payload).getD 1 0)

/-- A CREDIT frame (R256, R257): FULL sets absolute figures, MARK is answered with FULL, RESYNC stops credited frames and
is answered with MARK, and a normal one gives freed figures. -/
def State.creditRx (s : State) (d m : Nat) (f : KFrame) : State :=
  let l := s.link d m
  let (a, b) := f.figures
  if f.flags.testBit 2 then
    s.setLink d m { l with base0 := a, base1 := b, sent0 := 0, sent1 := 0, got0 := 0, got1 := 0, txStop := none }
  else if f.flags.testBit 1 then
    if l.resyncAt.isSome then (s.setLink d m { l with full := true, freed0 := 0, freed1 := 0 }).sendFull d m else s
  else if f.flags.testBit 0 then (s.setLink d m { l with txStop := some s.tb }).creditSend d m 2 0 0
  else s.setLink d m { l with got0 := a, got1 := b }

/-- A valid frame is acted on by its type (R253). -/
def State.frameAct (s : State) (d m : Nat) (f : KFrame) : State :=
  match f.type with
  | 4 => s.rxPut d m f
  | 5 => (s.eventRx d m f).rxPut d m f
  | 6 => s.creditRx d m f
  | 9 => if s.linkState d m = 2 then (s.enterTrain d m).trainRx d m f else s.trainRx d m f
  | 7 | 8 => s
  | _ => (s.bump (.link d m) LINK_RXBAD_COUNT).freeAtOnce d m f.type f.len

/-- In loopback the receiver gets what the link itself has sent, in order, and nothing else (R282): the state without that
frame, or none. -/
def State.fromLoop (s : State) (d m : Nat) (f : KFrame) : Option State :=
  if s.is (.link d m) LINK_CTRL_LOOP then
    match (s.link d m).loop with
    | g :: gs => if f = g then some (s.setLink d m { s.link d m with loop := gs }) else none
    | [] => none
  else some s

/-- A frame with a valid header passes the checks of R252 in order. Outside UP only TRAIN frames in TRAIN are accepted
(R258). -/
def State.frameRx (s : State) (d m : Nat) (f : KFrame) : State :=
  let b := Blk.link d m
  if ¬ (s.linkState d m = 2 ∨ (s.linkState d m = 1 ∧ f.type = 9)) then s
  else
    let s := s.headerRx d m
    if f.type = 0 ∨ 9 < f.type ∨ f.len ≠ f.payload.length then (s.bump b LINK_RXBAD_COUNT).freeAtOnce d m f.type f.len
    else if ¬ f.crcOk then (s.bump b LINK_CRCERR_COUNT).freeAtOnce d m f.type f.len
    else if ¬ lengthOk f.type f.len (f.flags.testBit 0) then (s.bump b LINK_RXBAD_COUNT).freeAtOnce d m f.type f.len
    else
      match poolOf f.type with
      | some p =>
        if (s.link d m).overrun p (creditCost f.len) then (s.bump b LINK_RXBAD_COUNT).linkFault d m 4
        else (s.claimRx d m f.claim).frameAct d m f
      | none => (s.claimRx d m f.claim).frameAct d m f

/-- A frame with a valid header arrives at a link (R252, R282). -/
def State.linkRx (s : State) (d m : Nat) (f : KFrame) : State :=
  match s.fromLoop d m f with
  | some t => if s.hasLink d m then t.frameRx d m f else s
  | none => s

/-- HCRC_FAIL_RX: a frame's header fails its HCRC: it is counted, and in UP the credit resync starts, or starts again
(R252, R257). -/
def execHcrcFailRx (d m : Nat) (s : State) : Host.Outcome State Fault Refusal :=
  .next (if ¬ s.hasLink d m then s
    else if s.linkState d m = 2 then
      let t := s.bump (.link d m) LINK_HCRCERR_COUNT
      (t.setLink d m { t.link d m with resyncAt := some s.tb, full := false }).creditSend d m 1 0 0
    else if s.linkState d m = 1 then s.bump (.link d m) LINK_HCRCERR_COUNT else s)

/-- BATT_RX: a frame of TYPE BATT, CWRITE or CREAD, which the device does not accept, or of a reserved TYPE (R252,
R253). -/
def execBattRx (d m : Nat) (f : KFrame) (s : State) : Host.Outcome State Fault Refusal :=
  .next (if f.type ≤ 3 ∨ 9 < f.type then s.linkRx d m f else s)

/-- CRESP_RX: a CRESP frame (R253). -/
def execCrespRx (d m : Nat) (f : KFrame) (s : State) : Host.Outcome State Fault Refusal := .next (s.linkRx d m { f with type := 4 })

/-- EVENT_RX: an EVENT frame (R253). -/
def execEventRx (d m : Nat) (f : KFrame) (s : State) : Host.Outcome State Fault Refusal := .next (s.linkRx d m { f with type := 5 })

/-- CREDIT_RX: a normal CREDIT frame (R256). -/
def execCreditRx (d m : Nat) (f : KFrame) (s : State) : Host.Outcome State Fault Refusal :=
  .next (s.linkRx d m { f with type := 6, flags := 0 })

/-- CREDIT_RESYNC_RX: a CREDIT frame with RESYNC (R257). -/
def execCreditResyncRx (d m : Nat) (f : KFrame) (s : State) : Host.Outcome State Fault Refusal :=
  .next (s.linkRx d m { f with type := 6, flags := 1 })

/-- CREDIT_MARK_RX: a CREDIT frame with MARK (R257). -/
def execCreditMarkRx (d m : Nat) (f : KFrame) (s : State) : Host.Outcome State Fault Refusal :=
  .next (s.linkRx d m { f with type := 6, flags := 2 })

/-- CREDIT_FULL_RX: a CREDIT frame with FULL (R257). -/
def execCreditFullRx (d m : Nat) (f : KFrame) (s : State) : Host.Outcome State Fault Refusal :=
  .next (s.linkRx d m { f with type := 6, flags := 4 })

/-- IDLE_RX: an IDLE frame, or a CLAIM frame (R253, R261). -/
def execIdleRx (d m : Nat) (f : KFrame) (s : State) : Host.Outcome State Fault Refusal :=
  .next (s.linkRx d m { f with type := if f.type = 7 then 7 else 8 })

/-- TRAIN_RX: a TRAIN frame (R260). -/
def execTrainRx (d m : Nat) (f : KFrame) (s : State) : Host.Outcome State Fault Refusal := .next (s.linkRx d m { f with type := 9 })

/-! ### Routes (R263 to R269) -/

/-- The heads of a link's routes: of each lane and route, the earliest line it has still to send (R265). -/
def routeHeads : List RouteTx → List RouteTx
  | [] => []
  | x :: xs => x :: (routeHeads xs).filter fun y => decide (¬ (y.lane = x.lane ∧ y.route = x.route))

/-- Payload octets of the next frame of a route (R264). -/
def RouteTx.octets (x : RouteTx) : Nat := if x.blank then 0 else 2048 * min 4 (x.count - 4 * x.next)

/-- The route's first frame has not started and its deadline has passed (R246, R266). -/
def State.routeLate (s : State) (x : RouteTx) : Bool :=
  decide (0 < toSigned 32 ((s.tmb.count % 2 ^ 32 + 2 ^ 32 - x.dl % 2 ^ 32) % 2 ^ 32))

/-- A list of routes with one entry replaced. -/
def replaceRoute (x y : RouteTx) (l : List RouteTx) : List RouteTx := l.map fun z => if z = x then y else z

/-- LINK_LATE increments, and raises source 387 + 4m (R266, R285). -/
def State.linkLate (s : State) (d m : Nat) : State := (s.bump (.link d m) LINK_LATE_COUNT).raiseDie d (387 + 4 * m)

/-- A route whose first frame has not started by D(n) takes the blank frame, once, and is counted and recorded (R266). -/
def State.routeBlank (s : State) (d m : Nat) (x : RouteTx) : State :=
  if x.next = 0 ∧ ¬ x.late ∧ s.routeLate x then
    let l := s.link d m
    let t := s.setLink d m { l with routes := replaceRoute x { x with blank := true, late := true } l.routes }
    (t.linkLate d m).offer Ev.BATT_LINK_LATE (.die d) [x.line, x.lane, m]
  else s

/-- ROUTE_DEADLINE: D(n) passes for routes of a link whose first frames have not started (R266). -/
def execRouteDeadline (d m : Nat) (s : State) : Host.Outcome State Fault Refusal :=
  .next (if s.hasLink d m then s.each (s.link d m).routes fun t x => t.routeBlank d m x else s)

/-- The band switch reads a batt's whole buffer before its first frame; an uncorrectable error blanks the batt on every
route that has not begun it, with reason 7, once (R184, R189). -/
def State.battCheck (s : State) (d m : Nat) (x : RouteTx) : State :=
  if (s.link d m).routes.all fun y => decide (y.lane ≠ x.lane ∨ y.line ≠ x.line ∨ y.next ≠ 0) || y.blank then s
  else
    let (bad, t) := s.eccRead (.lsram d x.lane) (outBuf x.line) (2048 * s.rd (.lane d x.lane) LANE_GROUPS_N)
    if bad then
      let t := (List.range 32).foldl (fun t k =>
        let l := t.link d k
        t.setLink d k { l with routes := l.routes.map fun y =>
          if y.lane = x.lane ∧ y.line = x.line ∧ y.next = 0 then { y with blank := true } else y }) t
      let t := (t.bump (.lane d x.lane) LANE_BLANKCNT_COUNT).wrs (.lane d x.lane) [(LANE_BLANKINFO_REASON, 7), (LANE_BLANKLINE_LINE, x.line)]
      (t.offer Ev.BATT_LATE (.lane d x.lane) [x.line, 7]).raiseDie d (256 + 8 * x.lane + 5)
    else t

/-- The payload of a route's next frame (R248, R264). -/
def State.battWords (s : State) (d : Nat) (x : RouteTx) : List Nat :=
  let a := outBuf x.line + (x.first + 4 * x.next) * 2048
  wordsOf (((s.mem (.lsram d x.lane)).getList a x.octets).map BitVec.toNat)

/-- Units are charged to a pool of the transmitter (R255). -/
def Link.charge (l : Link) (p n : Nat) : Link :=
  if p = 0 then { l with sent0 := (l.sent0 + n) % 2 ^ 32 } else { l with sent1 := (l.sent1 + n) % 2 ^ 32 }

/-- A route's next frame starts; after its last frame the route is done with the line (R264, R266, R268). -/
def State.battStart (s : State) (d m : Nat) (x : RouteTx) : State :=
  let last := x.blank || decide (x.count ≤ 4 * (x.next + 1))
  let flags := x.blank.toNat + (if x.next = 0 then 2 else 0) + (if last then 4 else 0)
  let t := if ¬ x.late ∧ 0 < x.next ∧ s.routeLate x then s.linkLate d m else s
  let t := t.setLink d m ((t.link d m).charge 0 (creditCost x.octets))
  let t := t.linkSend d m 1 flags (if x.blank then 0 else 4 * x.next) x.dl x.target (some (x.line % 2 ^ 16)) (s.battWords d x)
  let l := t.link d m
  if last then t.routeSent d m x
  else t.setLink d m { l with routes := replaceRoute x { x with next := x.next + 1, w := 0 } l.routes }

/-! ### Choosing the next frame (R265, R287 to R293) -/

/-- Something that waits at a link transmitter: its input (0 routes, 1 mailbox, 2 reflex engine, 3 cap message), deadline
and wait count, and the route it is of. -/
structure TxReq where
  input : Nat
  dl : Nat
  w : Nat
  route : Option RouteTx := none
  deriving DecidableEq, Repr

/-- A pool has the units for a frame, and no resync stops it (R255, R257). -/
def Link.canSend (l : Link) (p len : Nat) : Bool := l.txStop.isNone && decide (creditCost len ≤ l.avail p)

/-- What may start on a link now (R265). -/
def Link.requests (l : Link) : List TxReq :=
  ((routeHeads l.routes).filter fun x => l.canSend 0 x.octets).map (fun x => { input := 0, dl := x.dl, w := x.w, route := some x }) ++
  ((l.mailbox.toList.filter fun f => l.canSend 1 (4 * f.words.length)).map fun f => { input := 1, dl := f.dl, w := f.w }) ++
  ((l.reflex.head?.toList.filter fun f => l.canSend 1 (4 * f.words.length)).map fun f => { input := 2, dl := f.dl, w := f.w }) ++
  (l.cap.toList.filter fun f => l.canSend 1 (4 * f.words.length)).map fun f => { input := 3, dl := f.dl, w := f.w }

/-- What an input presents: the earliest deadline and the greatest wait count of what waits there (R293). -/
def present (i : Nat) (l : List TxReq) : Option TxReq :=
  match l.filter fun r => decide (r.input = i) with
  | [] => none
  | r :: rs => some (rs.foldl (fun a b => { a with dl := earlier a.dl b.dl, w := max a.w b.w }) { r with route := none })

/-- The member number of a route in the route group of a link, 384 in all: 32 × lane + route. -/
def TxReq.member (r : TxReq) : Nat := match r.route with | some x => 32 * x.lane + x.route | none => 0

/-- The wait count of what presented itself and was not granted goes up by one (R289, R294). -/
def Link.waited (l : Link) (reqs : List TxReq) (pick : TxReq) : Link :=
  let up (w : Nat) := min 255 (w + 1)
  let lost (i : Nat) := decide (pick.input ≠ i) && reqs.any fun r => decide (r.input = i)
  { l with
    routes := l.routes.map fun x => if reqs.any (fun r => decide (r.route = some x)) ∧ pick.route ≠ some x then { x with w := up x.w } else x
    mailbox := if lost 1 then l.mailbox.map fun f => { f with w := up f.w } else l.mailbox
    reflex := match l.reflex with | f :: fs => (if lost 2 then { f with w := up f.w } else f) :: fs | [] => []
    cap := if lost 3 then l.cap.map fun f => { f with w := up f.w } else l.cap }

/-- The decision of a link's transmitter: the winning request, and the state with its counters, pointers and wait counts
updated (R265, R288 to R294, R298). The route group has no registers: it decides with the arbiter's LIMIT and a pointer of its
own (DESIGN CHOICE, log entry 174). -/
def State.linkDecide (s : State) (d m : Nat) : Option TxReq × State :=
  let b := Blk.arb d
  let a := 16 + m
  let l := s.link d m
  let reqs := l.requests
  let ins := (List.range 4).filterMap fun i => present i reqs
  let limit := s.rd b (ARB_LIMIT_LIMIT a)
  let ptr := s.rd b (ARB_STAT_PTR a)
  let forced := if ins.any (fun r => decide (limit ≤ r.w)) then 1 else 0
  match leastBy (fun r => s.arbRank limit ptr 4 forced r.input r.dl r.w) ins with
  | none => (none, s)
  | some win =>
    let mem := reqs.filter fun r => decide (r.input = win.input)
    let gf := if mem.any (fun r => decide (limit ≤ r.w)) then 1 else 0
    let g := s.arbiter (some d) a
    let pick := (leastBy (fun r => s.arbRank limit g.gptr 384 gf r.member r.dl r.w) mem).getD win
    let t := s.wrs b [(ARB_STAT_PTR a, (ptr + 1) % 4), (ARB_STAT_HOLDER a, win.input)]
    let t := if forced = 1 then t.bump b (ARB_FORCECNT_COUNT a) else t
    let t := if s.arbKeyOf pick.dl < 0 then t.bump b (ARB_LATEGRANT_COUNT a) else t
    let t := if win.input = 0 then t.setArbiter (some d) a { g with gptr := (g.gptr + 1) % 384 } else t
    (some pick, t.setLink d m (l.waited reqs pick))

/-- A frame that is no BATT frame starts. -/
def State.frameStart (s : State) (d m : Nat) (f : TxFrame) : State :=
  (s.setLink d m ((s.link d m).charge 1 (creditCost (4 * f.words.length)))).linkSend d m f.type f.flags f.cls f.dl f.target none f.words

/-- A reflex frame starts: its latency is noted (R280, R284). -/
def State.reflexStart (s : State) (d m : Nat) (f : TxFrame) : State :=
  let lat := (s.tmb.count % 2 ^ 32 + 2 ^ 32 - f.trig % 2 ^ 32) % 2 ^ 32
  (s.frameStart d m f).wr (.rfx d) RFX_LATMAX_NS (max lat (s.rd (.rfx d) RFX_LATMAX_NS))

/-- The winning request's frame starts. -/
def State.txStart (s : State) (d m : Nat) (r : TxReq) : State :=
  let l := s.link d m
  match r.input, r.route with
  | 0, some x => s.battStart d m x
  | 1, _ => match l.mailbox with
    | some f => (s.frameStart d m f).mailboxEnd d m 1
    | none => s
  | 2, _ => match l.reflex with
    | f :: fs => (s.setLink d m { l with reflex := fs }).reflexStart d m f
    | [] => s
  | _, _ => match l.cap with
    | some f => (s.setLink d m { l with cap := none }).frameStart d m f
    | none => s

/-- The frame that a link's arbiter granted holds the transmitter until its end (R296, R299). -/
def State.linkHold (s : State) (d m : Nat) : State :=
  let l := s.link d m
  let t := s.setLink d m { l with till := l.wire }
  let hold := (l.wire - 1000 * s.tb + 999) / 1000
  t.wr (.arb d) (ARB_HOLDMAX_NS (16 + m)) (max hold (s.rd (.arb d) (ARB_HOLDMAX_NS (16 + m))))

/-- What precedes a decision of a link's transmitter: late routes take the blank frame, the output buffers of the routes' heads
are checked, and a reflex frame that waits for credit is noted (R184, R266, R280). -/
def State.txReady (s : State) (d m : Nat) : State :=
  let s := s.each (s.link d m).routes fun t x => t.routeBlank d m x
  let s := s.each (routeHeads (s.link d m).routes) fun t x => t.battCheck d m x
  match (s.link d m).reflex with
  | f :: _ => if (s.link d m).canSend 1 (4 * f.words.length) then s else s.wr (.rfx d) RFX_STAT_STALL 1
  | [] => s

/-- LINK_TX_SELECT: the transmitter of a link in UP starts its next frame, once no frame is in progress (R265); lateness
and the check of an output buffer come before a route's first frame (R184, R266), and a reflex frame that waits for credit is
noted (R280). -/
def execLinkTxSelect (d m : Nat) (s : State) : Host.Outcome State Fault Refusal :=
  .next (if ¬ s.hasLink d m ∨ s.linkState d m ≠ 2 ∨ 1000 * s.tb < (s.link d m).wire then s
    else
      match (s.txReady d m).linkDecide d m with
      | (some r, t) => (t.txStart d m r).linkHold d m
      | (none, t) => t)

/-- LINK_LOAD of a link (R269). -/
def State.linkLoad (s : State) (d m : Nat) : Nat :=
  ((List.range 12).map fun j => ((List.range 32).map fun r =>
    if s.rd (.lane d j) (LANE_ROUTE_A_LINK r) = m then 2048 * s.rd (.lane d j) (LANE_ROUTE_A_COUNT r) else 0).sum).sum

/-- LINK_STAT.STALL0 and STALL1: a frame waits for credit of the pool (R282). -/
def Link.stall (l : Link) (p : Nat) : Bool :=
  if p = 0 then (routeHeads l.routes).any fun x => decide (l.avail 0 < creditCost x.octets)
  else (l.mailbox.toList ++ l.reflex.head?.toList ++ l.cap.toList).any fun f => decide (l.avail 1 < creditCost (4 * f.words.length))

/-! ### IDLE, CREDIT and TRAIN frames -/

/-- IDLE_TX: 1 µs has passed since the last frame started (R261). -/
def execIdleTx (d m : Nat) (s : State) : Host.Outcome State Fault Refusal :=
  .next (if s.hasLink d m ∧ s.linkState d m = 2 ∧ (s.link d m).lastTx + 1000 ≤ s.tb then s.linkSendNow d m 8 0 [] else s)

/-- CREDIT_TX: units have been freed, or 10 µs have passed since the last CREDIT (R256); until t4 of a resync, units freed
show in FULL figures, and at the next 10 µs the receiver takes t4 to have come (R257; DESIGN CHOICE, log entry 172). -/
def execCreditTx (d m : Nat) (s : State) : Host.Outcome State Fault Refusal :=
  let l := s.link d m
  .next (if s.hasLink d m ∧ s.linkState d m = 2 ∧ (l.resyncAt = none ∨ l.full) ∧ (l.owe ∨ l.lastCredit + 10000 ≤ s.tb) then
      if l.full ∧ l.owe then s.sendFull d m else (s.setLink d m l.resumed).creditSend d m 0 l.freed0 l.freed1
    else s)

/-- TRAIN_TX: an end in TRAIN sends its TRAIN frame; `ready`: its receiver needs no further change; `taps`: its request
for the peer's taps, which counts as a new one unless it is all hold (R260). RXREADY is given only to a peer whose pools are
known and of 32 units at least; ACK stands while the peer's request is the one last applied. -/
def execTrainTx (d m : Nat) (ready : Bool) (taps : Nat) (s : State) : Host.Outcome State Fault Refusal :=
  let b := Blk.link d m
  let l := s.link d m
  .next (if s.hasLink d m ∧ s.linkState d m = 1 then
      let ok := ready && l.peerPools && decide (32 ≤ s.rd b LINK_POOL_POOL0 ∧ 32 ≤ s.rd b LINK_POOL_POOL1)
      let req := if taps % 2 ^ 10 = 0 then l.ownReq else (l.ownReq + 1) % 256
      let t := s.setLink d m { l with ownReady := ok, ownReq := req }
      let st := ok.toNat + 2 * l.ack.toNat
      (t.linkSendNow d m 9 0 [2 ^ 16 + st * 256 + req, taps % 2 ^ 10 * 2 ^ 16, ownPool 0, ownPool 1, 0, 0, 0, 0]).trainDone d m
    else s)

/-! ### Mailbox and receive FIFO (R282) -/

/-- The payload words of the mailbox. -/
def State.mailWords (s : State) (d m : Nat) : List Nat :=
  (List.range (s.rd (.link d m) LINK_TX_LEN_WORDS)).map fun i => s.rd (.link d m) (LINK_TX_DATA_DATA i)

/-- A write of GO: the mailbox frame is queued with its deadline fixed (R246, R287), or refused; ignored while one is
queued. -/
def State.mailGo (s : State) (d m : Nat) : State :=
  let b := Blk.link d m
  let type := s.rd b LINK_TX_CFG_TYPE
  let len := 4 * s.rd b LINK_TX_LEN_WORDS
  if s.is b LINK_TX_GO_GO then s
  else if s.linkState d m ≠ 2 ∨ ¬ (type = 2 ∨ type = 3 ∨ type = 5) ∨ 256 < len ∨ ¬ lengthOk type len false then s.mailboxEnd d m 3
  else
    let dl := if s.is b LINK_TX_LEN_USEDL then s.rd b LINK_TX_DL_DEADLINE
      else (s.tmb.count + s.rd (.arb d) ARB_BG_SLACK_NS) % 2 ^ 32
    let f : TxFrame := { type := type, flags := s.rd b LINK_TX_CFG_FLAGS, cls := s.rd b LINK_TX_CFG_CLASS,
                         target := s.rd b LINK_TX_CFG_TARGET, dl := dl, words := s.mailWords d m }
    (s.setLink d m { s.link d m with mailbox := some f }).wr b LINK_TX_GO_GO 1

/-- LINK_TX_GO: a write of LINK_TX_GO.GO (R282). -/
def execLinkTxGo (d m : Nat) (s : State) : Host.Outcome State Fault Refusal := .next (if s.hasLink d m then s.mailGo d m else s)

/-- The head frame leaves the receive FIFO, and its units are freed (R254, R256). -/
def State.rxPop (s : State) (d m : Nat) : State :=
  let l := s.link d m
  match l.rx with
  | f :: fs => s.setLink d m { l.free 1 (creditCost (f.hdr.headD 0 % 2 ^ 16)) with rx := fs }
  | [] => s

/-- LINK_RX_POP: a write of LINK_RX_POP.POP (R282). -/
def execLinkRxPop (d m : Nat) (s : State) : Host.Outcome State Fault Refusal := .next (if s.hasLink d m then s.rxPop d m else s)

/-! ### Timeouts (R257 to R260) -/

/-- LINK_HB_TIMEOUT: no valid header for HBTMO µs (R259). -/
def execLinkHbTimeout (d m : Nat) (s : State) : Host.Outcome State Fault Refusal :=
  .next (if s.hasLink d m ∧ (s.link d m).lastRx + 1000 * s.rd (.link d m) LINK_CFG_HBTMO ≤ s.tb then s.linkFault d m 1 else s)

/-- Codewords arrive that the FEC corrects, and that it cannot correct; of the latter, those of the last ms are kept (R252,
R259, R282). -/
def State.codewords (s : State) (d m corr unc : Nat) : State :=
  let b := Blk.link d m
  let t := (s.bump b LINK_FECCORR_COUNT corr).bump b LINK_FECUNC_COUNT unc
  let l := t.link d m
  t.setLink d m { l with fec := (if unc = 0 then [] else [(s.tb, unc)]) ++ l.fec.filter fun x => decide (s.tb < x.1 + 1000000) }

/-- LINK_LOCK_LOSS: the receiver of a link meets corrected and uncorrectable codewords, or loses block lock or FEC alignment;
loss, or FECTHR uncorrectable codewords within 1 ms, puts a link in UP into FAULT (R252, R259). -/
def execLinkLockLoss (d m : Nat) (codewords : FecReport) (s : State) : Host.Outcome State Fault Refusal :=
  .next (if ¬ s.hasLink d m ∨ s.linkState d m = 0 then s
    else
      let t := s.codewords d m codewords.corr codewords.unc
      if codewords.lock then t.linkFault d m 2
      else if s.rd (.link d m) LINK_CFG_FECTHR ≤ ((t.link d m).fec.map Prod.snd).sum then t.linkFault d m 3
      else t)

/-- An instant lies at least `n` ns back. -/
def State.sinceAtLeast (s : State) (t : Option Nat) (n : Nat) : Bool :=
  match t with
  | some t => decide (t + n ≤ s.tb)
  | none => false

/-- CREDIT_RESYNC_TIMEOUT: a resync is not complete within 100 µs, at either end of it (R257). -/
def execCreditResyncTimeout (d m : Nat) (s : State) : Host.Outcome State Fault Refusal :=
  let l := s.link d m
  .next (if s.hasLink d m ∧ (s.sinceAtLeast l.resyncAt 100000 ∨ s.sinceAtLeast l.txStop 100000) then s.linkFault d m 5 else s)

/-- FAULT_RETRAIN: 100 µs after entry to FAULT an enabled link trains (R258). -/
def execFaultRetrain (d m : Nat) (s : State) : Host.Outcome State Fault Refusal :=
  .next (if s.hasLink d m ∧ s.linkState d m = 3 ∧ s.is (.link d m) LINK_CTRL_EN ∧ (s.link d m).stateAt + 100000 ≤ s.tb then
      s.enterTrain d m else s)

/-- LINK_TRAIN_TIMEOUT: a link is still in TRAIN 500 ms after entry: it is recorded and trains again (R260). -/
def execLinkTrainTimeout (d m : Nat) (s : State) : Host.Outcome State Fault Refusal :=
  .next (if s.hasLink d m ∧ s.linkState d m = 1 ∧ (s.link d m).stateAt + 500000000 ≤ s.tb then
      (s.offer Ev.LINK_TRAIN_FAIL (.die d) [m]).enterTrain d m else s)

/-! ### The cap message (R239, R246) -/

/-- The cap message is sent: on the CAN FD object, and as an EVENT frame on the cap link if that is UP; lowerings of θ
that waited for a broadcast start their LEAD (R235, R239). -/
def State.capSend (s : State) : State :=
  let b := Blk.pkgNode
  let bytes := s.capBytes
  let t := { s with job := { s.job with owed := false, sentAt := s.tb } }
  let t := if s.is b CAP_CFG_CANEN then t.canOwnerSend (s.rd b CAP_CFG_CANCTL) (s.rd b CAP_CFG_OBJ) bytes else t
  let d := s.rd b CAP_KLINK_DIE
  let m := s.rd b CAP_KLINK_LINK
  let t := if s.is b CAP_CFG_KEEN ∧ s.hasDie d ∧ s.linkState d m = 2 then
      let f : TxFrame := { type := 5, flags := 0, cls := 0, target := 0xFFFF, dl := (s.tmb.count + 10000) % 2 ^ 32,
                           words := 0x10 * 2 ^ 16 :: wordsOf bytes }
      t.setLink d m { t.link d m with cap := some f } else t
  t.each s.diesList fun t d =>
    let l := (t.thermOf d).leads
    if l.any (fun x => decide (x.2 = none)) then t.setLeads d (l.map fun x => (x.1, some (x.2.getD s.tb))) else t

/-- CAP_MESSAGE: the cap has changed, or CAP_CFG.REPEAT ms have passed while a job is admitted; a strapped unit sends it
only in role active (R239, R304). -/
def execCapMessage (s : State) : Host.Outcome State Fault Refusal :=
  .next (if s.mayDrive ∧ (s.job.owed ∨ (s.job.job.isSome ∧ s.job.sentAt + 1000000 * s.rd .pkgNode CAP_CFG_REPEAT ≤ s.tb)) then
      s.capSend else s)

end Sys2Proof.Machine
end

