-- ==== Sys2Proof/Machine/Tasks.lean ====
section
/-! DEFINITION. Cyclic and event tasks of the scan cores (R125 to R144, R343, R543): due times, the scheduler's choice,
copy-in and copy-out, saving and restoring. -/

namespace Sys2Proof.Machine

/-- A task behind its registers. -/
def State.task (s : State) (d k t : Nat) : TaskRun := (s.core d k).tasks.get t {}

/-- The state with a task replaced. -/
def State.setTask (s : State) (d k t : Nat) (r : TaskRun) : State :=
  s.setCore d k { s.core d k with tasks := Tab.set (fun n => n) (s.core d k).tasks t {} r }

/-- TASK_STAT.STATE of a task: 0 OFF, 1 IDLE, 2 READY, 3 RUN, 4 SUSPENDED, 5 COPYOUT. -/
def State.taskState (s : State) (d k t : Nat) : Nat := s.rd (.core d k) (TASK_STAT_STATE t)

/-- The state with TASK_STAT.STATE written. -/
def State.setTaskState (s : State) (d k t v : Nat) : State := s.wr (.core d k) (TASK_STAT_STATE t) v

/-! ### Due times -/

/-- A due time is skipped: counted and recorded with the release number (R143). -/
def State.overrun (s : State) (d k t num : Nat) : State :=
  ((s.bump (.core d k) (TASK_OVRCNT_COUNT t)).raiseDie d (81 + 4 * k)).offer Ev.OVERRUN (.core d k) [t, num]

/-- A due time of a task that is not held back: the task becomes READY from IDLE, else the time is skipped (R138,
R143). Its place in the order of R138 is on the time that no step of the timebase moves. -/
def State.release (s : State) (d k t due num : Nat) : State :=
  if s.taskState d k t = 1 then
    (s.setTask d k t { s.task d k t with due := due, num := num, ord := s.tb + due - s.tmb.count, yielded := false, pos := 0, out := false }).setTaskState d k t 2
  else s.overrun d k t num

/-- The number of the release of a cyclic task that falls due at a package time (R136). -/
def State.dueNum (s : State) (d k t due : Nat) : Nat :=
  let b := Blk.core d k
  (due / 1000 - s.rd b (TASK_PHASE_PHASE t)) / s.rd b (TASK_PERIOD_PERIOD t) % 2 ^ 32

/-- A held due time is put with the others; one that is still held for the same task is an overrun (R167). -/
def State.holdDue (s : State) (d k t due num : Nat) : State :=
  let old := (s.core d k).hood.held.filter fun e => decide (e.1 = t)
  let u := s.each old fun u e => u.overrun d k t e.2.2
  let c := u.core d k
  u.setCore d k { c with hood := { c.hood with held := (c.hood.held.filter fun e => decide (e.1 ≠ t)) ++ [(t, due, num)] } }

/-- The held due times of a core are released, once nothing holds them back (R166, R327). -/
def State.releaseHeld (s : State) (d k : Nat) : State :=
  let c := s.core d k
  if c.hood.hold.isSome || c.eqHold.isSome then s
  else (s.setCore d k { c with hood := { c.hood with held := [] } }).each c.hood.held fun t e => t.release d k e.1 e.2.1 e.2.2

/-- The due time of release N + 1 of REF ends a wait for EQ(N), which counts as skipped (R327). -/
def State.eqLate (s : State) (d k t num : Nat) : State :=
  match (s.core d k).eqHold with
  | some n =>
    if t = s.rd (.core d k) HOOD_CTRL_REF ∧ num ≠ n then
      ((s.bump .hsb HSB_EQSKIP_COUNT).setCore d k { s.core d k with eqHold := none }).releaseHeld d k
    else s
  | none => s

/-- An enabled task falls due (R136, R138, R143, R144): nothing while the scheduler does not run, an overrun while the
core is frozen, else READY or held back. `due` is the package time; `num` the release number. -/
def State.fallDue (s : State) (d k t due num : Nat) : State :=
  let s := s.eqLate d k t num
  if ¬ s.is (.core d k) CORE_SCHED_RUN then s
  else if s.is (.core d k) NODE_CTRL_FRZ then s.overrun d k t num
  else if (s.core d k).hood.hold.isSome || (s.core d k).eqHold.isSome then s.holdDue d k t due num
  else s.release d k t due num

/-- An event task falls due; its release number counts the times it has done so (R136). -/
def State.eventDue (s : State) (d k t : Nat) : State :=
  let r := s.task d k t
  let n := r.count % 2 ^ 32
  if s.is (.core d k) CORE_SCHED_RUN then
    (s.setTask d k t { r with count := r.count + 1 }).fallDue d k t s.tmb.count n
  else s

/-- The latest due time of a cyclic task that the timebase has reached, with its period count (R136). -/
def State.lastDue (s : State) (d k t : Nat) : Option Nat :=
  let b := Blk.core d k
  let p := s.rd b (TASK_PERIOD_PERIOD t)
  let us := s.tmb.count / 1000
  let ph := s.rd b (TASK_PHASE_PHASE t)
  if p = 0 ∨ us < ph then none else some ((ph + (us - ph) / p * p) * 1000)

/-- The due times of a cyclic task that lie after what has been taken, oldest first (R136, R137). After a backward step
a due time counts again if its number is above TASK_RELNUM. -/
def State.newDues (s : State) (d k t : Nat) : List Nat :=
  let b := Blk.core d k
  let r := s.task d k t
  match s.lastDue d k t with
  | none => []
  | some l =>
    if r.backs ≠ s.tmb.backs ∧ l ≤ r.seen then
      let δ := (s.dueNum d k t l + 2 ^ 32 - s.rd b (TASK_RELNUM_NUM t)) % 2 ^ 32
      if 0 < δ ∧ δ < 2 ^ 31 then [l] else []
    else
      let p := s.rd b (TASK_PERIOD_PERIOD t) * 1000
      ((List.range ((l - r.seen + p - 1) / p)).map fun i => l - i * p).reverse.filter fun x => decide (r.seen < x)

/-- The due times of a cyclic task are taken as the replica reaches them: those that a forward step passed over are
overruns, each other one releases the task or is skipped (R136, R137, R143). -/
def State.taskDue (s : State) (d k t : Nat) : State :=
  let b := Blk.core d k
  if s.hasNode (.core d k) ∧ t < 16 ∧ s.is b (TASK_CFG_EN t) ∧ ¬ s.is b (TASK_CFG_KIND t) then
    let ds := s.newDues d k t
    match ds.getLast? with
    | none => s
    | some l =>
      let u := s.setTask d k t { s.task d k t with seen := l, backs := s.tmb.backs }
      u.each ds fun u x =>
        if x < s.tmb.stepTo then (if u.is b CORE_SCHED_RUN then u.overrun d k t (u.dueNum d k t x) else u)
        else u.fallDue d k t x (u.dueNum d k t x)
  else s

/-- TASK_DUE: a cyclic due time of task `t` is reached (R136, R137). -/
def execTaskDue (d k t : Nat) (s : State) : Host.Outcome State Fault Refusal := .next (s.taskDue d k t)

/-! ### Enabling -/

/-- EN becomes 1, unless the settings of a cyclic task are out of range, which sets CFGERR (R135). -/
def State.taskEnable (s : State) (d k t : Nat) : State :=
  let b := Blk.core d k
  let p := s.rd b (TASK_PERIOD_PERIOD t)
  if s.is b (TASK_CFG_EN t) then s
  else if ¬ s.is b (TASK_CFG_KIND t) ∧ (p < 25 ∨ p ≤ s.rd b (TASK_PHASE_PHASE t)) then (s.wr b (TASK_STAT_CFGERR t) 1).raiseDie d (82 + 4 * k)
  else
    let u := s.wr b (TASK_CFG_EN t) 1
    let u := if u.taskState d k t = 0 then u.setTaskState d k t 1 else u
    u.setTask d k t { u.task d k t with seen := s.tmb.count + 999, backs := s.tmb.backs, count := 0 }

/-- EN becomes 0: a release that has started runs to its end, and none follows (R135). -/
def State.taskDisable (s : State) (d k t : Nat) : State :=
  let u := s.wr (.core d k) (TASK_CFG_EN t) 0
  if u.taskState d k t ≤ 2 then u.setTaskState d k t 0 else u

/-- A write to TASK_CFG; KIND keeps its value while EN is 1 (R134, R135). -/
def State.taskCfg (s : State) (d k t w : Nat) : State :=
  let b := Blk.core d k
  let u := s.wrOf b [TASK_CFG_PRIO t, TASK_CFG_SRC t, TASK_CFG_SRCEN t] w
  let u := if s.is b (TASK_CFG_EN t) then u else u.wr b (TASK_CFG_KIND t) ((TASK_CFG_KIND t).of w)
  if (TASK_CFG_EN t).of w = 1 then u.taskEnable d k t else u.taskDisable d k t

/-- A write of TASK_TRIG makes an enabled event task fall due (R136). -/
def State.taskTrig (s : State) (d k t w : Nat) : State :=
  if w % 2 = 1 ∧ s.is (.core d k) (TASK_CFG_EN t) ∧ s.is (.core d k) (TASK_CFG_KIND t) then s.eventDue d k t else s

/-- TASK_TRIG: a write of 1 to TASK_TRIG of task `t` (R136). -/
def execTaskTrig (d k t : Nat) (s : State) : Host.Outcome State Fault Refusal :=
  .next (if s.hasNode (.core d k) ∧ t < 16 then s.taskTrig d k t 1 else s)

/-- An enabled event task of core k names a source of its die (R343). -/
def State.eventNames (s : State) (d k t src : Nat) : Bool :=
  let b := Blk.core d k
  s.is b (TASK_CFG_EN t) && s.is b (TASK_CFG_KIND t) && s.is b (TASK_CFG_SRCEN t) && decide (s.rd b (TASK_CFG_SRC t) = src)

/-- The tasks of a die that consume a source: core and task (R343). -/
def State.consumers (s : State) (d src : Nat) : List (Nat × Nat) :=
  ((List.range 4).flatMap fun k => (List.range 16).map fun t => (k, t)).filter fun p => s.eventNames d p.1 p.2 src

/-- A source with a rising pending bit is consumed by the event tasks that name it (R136, R343). -/
def State.eventSource (s : State) (d src : Nat) : State :=
  if s.hasDie d ∧ src < 512 ∧ s.bit (.irqDie d) (IRQ_PEND_PEND (src / 32)) (src % 32) ∧ s.consumers d src ≠ [] then
    (s.setBit (.irqDie d) (IRQ_PEND_PEND (src / 32)) (src % 32) false).each (s.consumers d src) fun u p => u.eventDue d p.1 p.2
  else s

/-- EVENT_TASK_SOURCE: a source of die `d` that event tasks name has become pending (R343). -/
def execEventTaskSource (d src : Nat) (s : State) : Host.Outcome State Fault Refusal := .next (s.eventSource d src)

/-! ### The scheduler's choice -/

/-- Task `x` comes before task `y` under R138. -/
def State.taskBefore (s : State) (d k x y : Nat) : Bool :=
  let b := Blk.core d k
  let px := s.rd b (TASK_CFG_PRIO x); let py := s.rd b (TASK_CFG_PRIO y)
  let kx := s.task d k x; let ky := s.task d k y
  decide (py < px) || (decide (px = py) &&
    (decide (kx.ord < ky.ord) || (decide (kx.ord = ky.ord) &&
      ((!kx.yielded && ky.yielded) || (kx.yielded == ky.yielded && decide (x < y))))))

/-- The first of some tasks under R138. -/
def State.firstTask (s : State) (d k : Nat) : List Nat → Option Nat
  | [] => none
  | t :: ts =>
    match s.firstTask d k ts with
    | none => some t
    | some u => if s.taskBefore d k t u then some t else some u

/-- The tasks of a core in one of some states. -/
def State.tasksIn (s : State) (d k : Nat) (sts : List Nat) : List Nat :=
  (List.range 16).filter fun t => sts.contains (s.taskState d k t)

/-- No switch is deferred: no delay slot, no DI mask, no frame held, not frozen (R139). -/
def State.maySwitch (s : State) (d k : Nat) : Bool :=
  s.atBoundary d k && decide ((s.core d k).di = none) && decide (s.rd (.core d k) CORE_TRAP_DEPTH = 0)

/-! ### Save slots -/

/-- A save slot's 320 bytes take a content that the spec does not fix (R141). -/
def State.blurSlot (s : State) (d k n : Nat) : State :=
  let a := s.rd (.core d k) CORE_SAVE_ADDR * 64 + 320 * n
  let bs := (List.range (min 320 (0x40000 - a))).map fun i => Config.freeByte (s.free + i)
  { (s.writeBytes (.lram d k) a bs).2 with free := s.free + 320 }

/-- The core's context is saved in slot `n`, and the core is left with nothing to run (R141). -/
def State.saveCtx (s : State) (d k n : Nat) : State :=
  let u := s.blurSlot d k n
  let c := u.core d k
  u.setCore d k { c with
    saved := Tab.set (fun i => i) c.saved n none (some { hot := c.hot, pc := c.pc, form := c.form })
    ctx := .idle
    blk := false }

/-- The context of slot `n`, if it holds one, is restored as what the core runs (R141). -/
def State.restoreCtx (s : State) (d k n : Nat) (ctx : Ctx) : State :=
  let c := s.core d k
  match c.saved.get n none with
  | none => s
  | some v =>
    s.setCore d k { c with hot := v.hot, pc := v.pc, form := v.form, br := none, ctx := ctx, saved := Tab.erase c.saved n }

/-! ### Copy-in and copy-out -/

/-- A copy descriptor (R129). -/
structure Desc where
  w0 : Nat
  local_ : Nat
  len : Nat
  mask : Nat
  deriving DecidableEq, Repr

def Desc.off (x : Desc) : Nat := x.w0 % 2 ^ 24
def Desc.out (x : Desc) : Bool := x.w0.testBit 24
def Desc.masked (x : Desc) : Bool := x.w0.testBit 25

/-- Descriptor `i` of a task's list (R129, R134). -/
def State.desc (s : State) (d k t i : Nat) : Desc :=
  let a := 16 * s.rd (.core d k) (TASK_IMG_ADDR t) + 16 * i
  { w0 := s.lramWord d k a, local_ := s.lramWord d k (a + 4), len := s.lramWord d k (a + 8), mask := s.lramWord d k (a + 12) }

/-- A field of a descriptor breaks R129, or a bound of R132. -/
def Desc.bad (x : Desc) : Bool :=
  decide (x.off % 4 ≠ 0 ∨ x.w0 / 2 ^ 26 ≠ 0 ∨ x.local_ % 4 ≠ 0 ∨ x.len % 4 ≠ 0 ∨ x.len < 4 ∨ 4096 < x.len ∨
    (x.masked ∧ ¬ x.out) ∨ (¬ x.masked ∧ x.mask ≠ 0) ∨ (x.masked ∧ (x.mask % 4 ≠ 0 ∨ 0x40000 < x.mask + x.len)) ∨
    0x40000 < x.local_ + x.len ∨ 0x1000000 < x.off + x.len)

/-- The first byte of the control image in D-space. -/
abbrev imgBase : Nat := 0x100000000

/-- The accesses that a descriptor makes: first byte, length, whether a write (R130, R132). -/
def Desc.accesses (x : Desc) : List (Nat × Nat × Bool) :=
  [(imgBase + x.off, x.len, x.out), (x.local_, x.len, !x.out)] ++ (if x.masked then [(x.mask, x.len, false)] else [])

/-- A descriptor is refused (R132); an access refused under R48 loads the core's capture. -/
def State.descRefused (s : State) (d k : Nat) (x : Desc) : Option State :=
  if x.bad then some s
  else
    match x.accesses.find? fun a => (s.dCheck (.core d k) a.1 a.2.1 a.2.2).isSome with
    | none => none
    | some a => some (s.refuse (.core d k) 1 a.1 (a.1 + a.2.1 - 1) a.2.2 ((s.dCheck (.core d k) a.1 a.2.1 a.2.2).getD 0))

/-- The first descriptor of a direction, from position `i` of `n` left, that is refused: its position and the state. -/
def State.findRefused (s : State) (d k t : Nat) (out : Bool) (i : Nat) : Nat → Option (Nat × State)
  | 0 => none
  | n + 1 =>
    let x := s.desc d k t i
    match if x.out = out then s.descRefused d k x else none with
    | some u => some (i, u)
    | none => s.findRefused d k t out (i + 1) n

/-- The masked bytes of a MASKED copy-out: each bit from the new byte where the mask byte has it, else from the old. -/
def mergeBytes : List Byte → List Byte → List Byte → List Byte
  | m :: ms, v :: vs, o :: os => ((v &&& m) ||| (o &&& ~~~m)) :: mergeBytes ms vs os
  | _, _, _ => []

/-- The bytes that a copy-out writes: those of the local part, or where it is MASKED merged with the image under the mask
words; none where one of these reads meets an uncorrectable error (R66, R130, R540). -/
def State.outBytes (s : State) (d k : Nat) (x : Desc) : Option (List Byte) × State :=
  let ram := MemId.lram d k
  match s.readBytes ram x.local_ x.len with
  | (none, u) => (none, u)
  | (some vs, u) =>
    if x.masked then
      match u.readBytes ram x.mask x.len with
      | (none, u) => (none, u)
      | (some ms, u) =>
        match u.readBytes .img x.off x.len with
        | (none, u) => (none, u)
        | (some os, u) => (some (mergeBytes ms vs os), u)
    else (some vs, u)

/-- A descriptor is carried out (R130). Bytes that cannot be read for an uncorrectable error move nothing. -/
def State.carry (s : State) (d k : Nat) (x : Desc) : State :=
  let ram := MemId.lram d k
  if x.out then
    match s.outBytes d k x with
    | (none, u) => u
    | (some bs, u) =>
      let u := (u.memWrite (.core d k) .img x.off bs).2
      { u with img := { u.img with copied := true } }
  else
    match s.readBytes .img x.off x.len with
    | (none, u) => u
    | (some vs, u) => (u.writeBytes ram x.local_ vs).2

/-- Up to `n` positions of a task's list are passed, from its position on, carrying out the descriptors of its direction
and stopping at a refused one (R130, R132). -/
def State.passDescs (s : State) (d k t : Nat) : Nat → State
  | 0 => s
  | n + 1 =>
    let r := s.task d k t
    if s.rd (.core d k) (TASK_IMG_COUNT t) ≤ r.pos ∨ (r.out ∧ r.stop = some r.pos) then s
    else
      let x := s.desc d k t r.pos
      let u := if x.out = r.out then s.carry d k x else s
      (u.setTask d k t { u.task d k t with pos := r.pos + 1 }).passDescs d k t n

/-! ### The end of a blocking request (R159 to R166) -/

/-- A hood command ends with a result and a state; BLOCK reads 0 again (R159). -/
def State.hoodEnd (s : State) (d k st result : Nat) : State :=
  (s.wrs (.core d k) [(HOOD_STAT_STATE, st), (HOOD_CTRL_BLOCK, 0)]).hoodRes d k result

/-- The hold of paired blocking ends (R166, R167). -/
def State.endHold (s : State) (d k : Nat) : State :=
  let c := s.core d k
  (s.setCore d k { c with hood := { c.hood with hold := none, look := none, atGot := none, miss := none } }).releaseHeld d k

/-- The unit runs in a pair: ACTIVE, JOINING or STANDBY (R165). -/
def State.inPair (s : State) : Bool := decide (s.hsbState = 3 ∨ s.hsbState = 4 ∨ s.hsbState = 5)

/-- The words that name a core in a hood message. -/
def coreNo (d k : Nat) : Nat := 4 * d + k

/-- A final MISS with a result goes to the standby, in a pair (R165, R166). -/
def State.finalMiss (s : State) (d k result : Nat) : State :=
  if s.inPair ∧ s.isActive then s.hsbSend .miss [coreNo d k, (s.core d k).hood.look.getD 0, result] else s

/-- A request ends without blocking: the hood stays loaded (R161, R165, R166). -/
def State.requestEnd (s : State) (d k result : Nat) : State :=
  ((s.finalMiss d k result).hoodEnd d k 1 result).endHold d k

/-- The reference task is no longer an enabled cyclic task while a pair request runs, however it came to be disabled
(R165). -/
def State.hoodRefCheck (s : State) (d k : Nat) : State :=
  let st := s.rd (.core d k) HOOD_STAT_STATE
  if (st = 2 ∨ st = 3) ∧ s.inPair ∧ s.isActive ∧ ¬ s.refValidTask d k then s.requestEnd d k 0x0C else s

/-- A task whose descriptor was refused: EN is cleared, IMGERR set and the fault recorded (R132). -/
def State.imgFault (s : State) (d k t : Nat) : State :=
  (((s.wrs (.core d k) [(TASK_CFG_EN t, 0), (TASK_STAT_IMGERR t, 1)]).raiseDie d (82 + 4 * k)).offer Ev.TASK_IMG_FAULT
    (.core d k)).hoodRefCheck d k

/-! ### Releases -/

/-- The core at the start of a release: the per-task registers, the entry address, stack form (R140). -/
def Core.begun (c : Core) (hot : Hot) (pc t : Nat) : Core :=
  { c with hot := hot, pc := pc, form := true, br := none, blk := false, ctx := .task t }

/-- Steps 1 and 2 of R140: spill registers, DWIN and IOB at reset values, empty stacks, the release number, RUN, and
stack form at TASK_ENTRY. -/
def State.beginRelease (s : State) (d k t : Nat) : State :=
  let b := Blk.core d k
  let base := s.rd b (TASK_SPILL_BASE t) * 64
  let hot := { Hot.fresh d k with dspBase := base, dsp := base % 2 ^ 19, dspLimit := s.rd b (TASK_SPILL_LIMIT t) * 64 }
  let u := s.setCore d k ((s.core d k).begun hot (s.rd b (TASK_ENTRY_ENTRY t)) t)
  (u.wr b (TASK_RELNUM_NUM t) (s.task d k t).num).setTaskState d k t 3

/-- The core has nothing to run at DEPTH 0, a switch is not deferred, no blocking is in progress, and no copy of its synced
region (R139, R163, R326). -/
def State.coreFree (s : State) (d k : Nat) : Bool :=
  s.maySwitch d k && decide ((s.core d k).ctx = .idle) && decide (s.rd (.core d k) HOOD_STAT_STATE ≠ 4) &&
    decide ((s.core d k).eqTill ≤ s.tb)

/-- A release starts, or one whose copy-ins are under way goes on: its descriptors are checked first, and up to `n`
positions of the list are passed (R132, R140). -/
def State.releaseStart (s : State) (d k n : Nat) : State :=
  if s.coreFree d k then
    match s.firstTask d k (s.tasksIn d k [2, 4]) with
    | none => s
    | some t =>
      if s.taskState d k t ≠ 2 then s
      else
        match s.findRefused d k t false 0 (s.rd (.core d k) (TASK_IMG_COUNT t)) with
        | some (_, u) => (u.imgFault d k t).setTaskState d k t 0
        | none => (s.beginRelease d k t).passDescs d k t n
  else
    match (s.core d k).ctx with
    | .task t => if s.taskState d k t = 3 ∧ s.coreLive d k then s.passDescs d k t n else s
    | _ => s

/-- RELEASE_START: the scheduler starts the READY task that comes first, passing `n` descriptors of its list (R140). -/
def execReleaseStart (d k n : Nat) (s : State) : Host.Outcome State Fault Refusal := .next (s.releaseStart d k n)

/-- A READY task of strictly higher priority suspends the running one, after `n` more descriptors where the running
one copies in or out (R138, R139, R140, R142). -/
def State.taskSuspend (s : State) (d k n : Nat) : State :=
  match (s.core d k).ctx with
  | .task t =>
    match s.firstTask d k (s.tasksIn d k [2]) with
    | none => s
    | some u =>
      if s.maySwitch d k ∧ s.rd (.core d k) (TASK_CFG_PRIO t) < s.rd (.core d k) (TASK_CFG_PRIO u) then
        ((s.passDescs d k t n).saveCtx d k t).setTaskState d k t 4
      else s
  | _ => s

/-- TASK_SUSPEND: the running task of a core is suspended, after `n` more descriptors of its list (R138). -/
def execTaskSuspend (d k n : Nat) (s : State) : Host.Outcome State Fault Refusal := .next (s.taskSuspend d k n)

/-- The suspended task that is next to run is restored (R138, R141). -/
def State.taskRestore (s : State) (d k : Nat) : State :=
  if s.coreFree d k then
    match s.firstTask d k (s.tasksIn d k [2, 4]) with
    | none => s
    | some t =>
      if s.taskState d k t = 4 then
        (s.restoreCtx d k t (.task t)).setTaskState d k t (if (s.task d k t).out then 5 else 3)
      else s
  else s

/-- TASK_RESTORE: the suspended task that comes first runs again (R141). -/
def execTaskRestore (d k : Nat) (s : State) : Host.Outcome State Fault Refusal := .next (s.taskRestore d k)

/-- A release of the reference task has ended with paired blocking under way: an active unit looks for a gap from here
on, a standby holds back due times, unless MISS of this release has come already (R166). -/
def State.refHood (s : State) (d k n : Nat) : State :=
  let c := s.core d k
  if s.rd (.core d k) HOOD_STAT_STATE = 3 ∧ s.straps.hsbPair ∧ (n + 2 ^ 32 - c.hood.n0) % 2 ^ 32 < 2 ^ 31 then
    if s.isActive then s.setCore d k { c with hood := { c.hood with look := some n } }
    else if c.hood.miss = some n then s.setCore d k { c with hood := { c.hood with miss := none } }
    else s.setCore d k { c with hood := { c.hood with hold := some s.tb, look := some n } }
  else s

/-- The synced entries of a core that differ from an EQ message take the active unit's bytes: each is counted, and the
first of a pass recorded with its VAR_ID (R327). -/
def State.eqWrite (s : State) (d k : Nat) (vals : List (Nat × List Nat)) : List MapEntry → Bool → State
  | [], _ => s
  | e :: es, first =>
    match vals.find? fun v => decide (v.1 = e.id ∧ v.2.length = e.size) with
    | none => s.eqWrite d k vals es first
    | some v =>
      let bs := v.2.map (BitVec.ofNat 8)
      let (old, s) := s.varBytes d k e.addr e.size
      if bs = old then s.eqWrite d k vals es first
      else
        let t := (s.putVar d k e.addr bs).bump .hsb HSB_EQDIFF_COUNT
        (if first then (t.offer Ev.EQ_DIFF (.core d k) [e.id]).raiseCrown 170 else t).eqWrite d k vals es false

/-- EQ or EQSKIP of release N is applied at a standby core, and the held due times are released (R314, R327). -/
def State.eqApply (s : State) (d k : Nat) (vals : Option (List (Nat × List Nat))) : State :=
  let t := match vals with
    | some v => { s.eqWrite d k v (s.synced d k) true with hsb := { s.hsb with eqDone := (d, k) :: s.hsb.eqDone } }
    | none => s
  (t.setCore d k { t.core d k with eqHold := none }).releaseHeld d k |>.joinCheck

/-- The active core is held while its synced region is copied, at most 300 ns + 0.25 ns a byte: how long is a free value, and
counts in TASK_TLAST of REF (R326). -/
def State.eqCopy (s : State) (d k : Nat) : State :=
  let b := Blk.core d k
  let r := s.rd b HOOD_CTRL_REF
  let (f, t) := s.freeNat
  let h := f % (301 + ((s.synced d k).map MapEntry.size).sum / 4)
  let ns := s.rd b (TASK_TLAST_NS r) + h
  (t.setCore d k { t.core d k with eqTill := s.tb + h }).wrs b [(TASK_TLAST_NS r, ns), (TASK_TMAX_NS r, max ns (s.rd b (TASK_TMAX_NS r)))]

/-- The active unit sends EQ(N) of a core, or EQSKIP(N), counted, while an earlier EQ of that core is still being sent
(R326). -/
def State.eqSend (s : State) (d k n : Nat) : State :=
  if s.eqSending (coreNo d k) then (s.hsbSend .eqskip [coreNo d k, n]).bump .hsb HSB_EQSKIP_COUNT
  else (s.eqWords d k).2.hsbSend .eq [coreNo d k, n] (s.eqWords d k).1

/-- A release of the reference task has ended in a pair: the active unit copies and sends the synced region; the standby applies
an EQ that has come already, else it holds back due times until one comes (R326, R327). -/
def State.refEq (s : State) (d k n : Nat) : State :=
  if s.refValidTask d k ∧ s.synced d k ≠ [] then
    if s.hsbState = 3 then (s.eqCopy d k).eqSend d k n
    else if s.hsbState = 4 ∨ s.hsbState = 5 then
      match s.hsb.eqGot.find? fun e => decide (e.1 = 4 * d + k ∧ e.2.1 = n) with
      | some e => s.eqApply d k e.2.2
      | none => s.setCore d k { s.core d k with eqHold := some n }
    else s
  else s

/-- The end of a release of a task, as pairs take it. -/
def State.refEnded (s : State) (d k t : Nat) : State :=
  if s.rd (.core d k) HOOD_CTRL_REF = t then
    let n := s.rd (.core d k) (TASK_RELNUM_NUM t)
    (s.refEq d k n).refHood d k n
  else s

/-- A release ends: TASK_TLAST and TASK_TMAX are written, and the task goes IDLE, or OFF where it is no longer enabled
(R132, R142). -/
def State.endRelease (s : State) (d k t : Nat) : State :=
  let b := Blk.core d k
  let r := s.task d k t
  let ns := (s.tmb.count - r.due) % 2 ^ 32
  let u := if r.stop.isSome then s.imgFault d k t else s
  let u := u.wrs b [(TASK_TLAST_NS t, ns), (TASK_TMAX_NS t, max ns (s.rd b (TASK_TMAX_NS t)))]
  let u := u.setTaskState d k t (if u.is b (TASK_CFG_EN t) then 1 else 0)
  let u := u.setTask d k t { r with pos := 0, out := false, stop := none }
  (u.setCore d k { u.core d k with ctx := .idle }).refEnded d k t

/-- The remaining copy-outs of a release take effect and the release ends (R130, R142). -/
def State.copyOutDone (s : State) (d k : Nat) : State :=
  match (s.core d k).ctx with
  | .task t =>
    if s.coreUp d k ∧ s.taskState d k t = 5 then (s.passDescs d k t 128).endRelease d k t else s
  | _ => s

/-- COPY_OUT_DONE: the last copy-out of the release that runs has taken effect (R142). -/
def execCopyOutDone (d k : Nat) (s : State) : Host.Outcome State Fault Refusal := .next (s.copyOutDone d k)

/-- TASKEND at DEPTH 0: the stacks are discarded; a task goes on to its copy-outs, which are checked now, and a
background ends (R59, R132, R142, R543). -/
def State.taskEnd (s : State) (d k : Nat) : State :=
  let c := s.core d k
  let hot := { c.hot with ds := [], rs := [], ts := [] }
  match c.ctx with
  | .task t =>
    let (stop, u) := match s.findRefused d k t true 0 (s.rd (.core d k) (TASK_IMG_COUNT t)) with
      | some (i, u) => (some i, u)
      | none => (none, s)
    let u := u.setCore d k { u.core d k with hot := hot }
    (u.setTask d k t { u.task d k t with pos := 0, out := true, stop := stop }).setTaskState d k t 5
  | _ => s.setCore d k { c with hot := hot, ctx := .idle }

/-- YIELD at DEPTH 0 offers the core to READY tasks of the same priority; in the background to any READY task (R138,
R543). -/
def State.yield (s : State) (d k : Nat) : State :=
  let b := Blk.core d k
  match (s.core d k).ctx with
  | .task t =>
    if (s.tasksIn d k [2]).any fun u => decide (s.rd b (TASK_CFG_PRIO t) ≤ s.rd b (TASK_CFG_PRIO u)) then
      let u := (s.saveCtx d k t).setTaskState d k t 4
      u.setTask d k t { u.task d k t with ord := s.tb, yielded := true }
    else s
  | .background => if s.tasksIn d k [2] ≠ [] then s.saveCtx d k 16 else s
  | .idle => s

/-- A READY task suspends the background while the scheduler runs (R543). -/
def State.backgroundSuspend (s : State) (d k : Nat) : State :=
  if (s.core d k).ctx = .background ∧ s.is (.core d k) CORE_SCHED_RUN ∧ s.maySwitch d k ∧ s.tasksIn d k [2] ≠ [] then s.saveCtx d k 16
  else s

/-- BACKGROUND_SUSPEND: the background of a core gives way to a READY task (R543). -/
def execBackgroundSuspend (d k : Nat) (s : State) : Host.Outcome State Fault Refusal := .next (s.backgroundSuspend d k)

/-- The background is held in slot 16. -/
def State.hasBackground (s : State) (d k : Nat) : Bool := ((s.core d k).saved.get 16 none).isSome

/-- With no task left, the background is restored (R543). -/
def State.backgroundResume (s : State) (d k : Nat) : State :=
  if s.coreFree d k ∧ s.hasBackground d k ∧ s.tasksIn d k [2, 3, 4, 5] = [] then s.restoreCtx d k 16 .background else s

/-- BACKGROUND_RESUME: the background of a core resumes (R543). -/
def execBackgroundResume (d k : Nat) (s : State) : Host.Outcome State Fault Refusal := .next (s.backgroundResume d k)

end Sys2Proof.Machine
end

