-- ==== Sys2Proof/Machine/NodeReset.lean ====
section
/-! DEFINITION. Resets of lanes, scan cores and compute dies, and what a node loses when it is stopped, naps or resets
(R41, R117, R153, R164, R191, R201, R233). -/

namespace Sys2Proof.Machine

/-- The freeze bit of a node that is no scan core and no lane: its reset value is 0 (R31). -/
abbrev NODE_CTRL_FRZ0 : Field := { off := 0x18, lo := 2, width := 1, acc := .rw, reset := 0 }

/-- The freeze bit of a node. -/
def Node.frz : Node → Field
  | .core _ _ | .lane _ _ => NODE_CTRL_FRZ
  | _ => NODE_CTRL_FRZ0

/-- The register fields of a block take their reset values, but for those that `keep` names. -/
def State.clearBlk (s : State) (b : Blk) (keep : RegKey → Bool) : State :=
  { s with regs := s.regs.filter fun e => decide (e.1.blk ≠ b) || keep e.1 }

/-- The lanes of a scan core (R34). -/
def lanesOf (k : Nat) : List Nat := [3 * k, 3 * k + 1, 3 * k + 2]

/-! ### Lanes -/

/-- A lane's handling of lines stops where it stands; its output buffers are empty. -/
def Lane.halted (l : Lane) : Lane := { l with runAt := none, kern := none, out := [], stopping := false, owed := none }

/-- A lane stops because it is disabled or naps: the running kernel is abandoned, held calibration writes are applied, and a
stop that waited for the kernel is complete (R41, R183, R191). -/
def State.gateLane (s : State) (d j : Nat) : State :=
  let t := (s.setLane d j (s.lane d j).halted).applyHeld d j
  if (s.lane d j).stopping then t.wr (.lane d j) LANE_CTRL_RUN 0 else t

/-- A lane that runs again after it was gated handles the lines announced from now on. -/
def State.ungateLane (s : State) (d j : Nat) : State := if s.is (.lane d j) LANE_CTRL_RUN then s.beginLines d j else s

/-- A lane resets: an admission that holds it ends, its hood is lost, the calibration writes held for its kernel are applied,
and its registers take their reset values; its SRAM and kernel store keep their content (R41, R180, R183, R191, R201, R233). -/
def State.resetLane (s : State) (d j why : Nat) : State :=
  let t := if why = 2 ∧ s.laneInJob d j then s.jobEnd 3 else s
  (((t.khoodLost d j why).applyHeld d j).withdraw [.lane d j] |>.clearBlk (.lane d j) fun _ => false).setLane d j {}

/-! ### Scan cores -/

/-- A control hood is discarded by a happening (R164). -/
def State.hoodLost (s : State) (d k why : Nat) : State :=
  let b := Blk.core d k
  let st := s.rd b HOOD_STAT_STATE
  if st = 0 then s
  else
    let t := (s.wrs b [(HOOD_STAT_STATE, 0), (HOOD_CTRL_BLOCK, 0)]).hoodRes d k 0x0A
    let t := t.setCore d k { t.core d k with hood := {} }
    if why = 1 then t.offerAtBoot Ev.HOOD_LOST (.core d k) [0, st, why] else t.offer Ev.HOOD_LOST (.core d k) [0, st, why]

/-- The registers of a core block that outlast a reset of its node: the protection regions, whose LOCK holds until a
package reset, and the fault capture (R50). -/
def coreKeeps (k : RegKey) : Bool := decide (0x100 ≤ k.off ∧ k.off < 0x194)

/-- A scan core alone takes its reset state (R117, R153). -/
def State.resetCoreOnly (s : State) (d k why : Nat) : State :=
  let t := (s.hoodLost d k why).clearBlk (.core d k) coreKeeps
  ((t.withdraw [.core d k]).setHeld (.core d k) []).setCore d k { Core.fresh d k with bank := (s.core d k).bank }

/-- A scan core and its lanes reset (R41). -/
def State.resetCore (s : State) (d k why : Nat) : State :=
  (s.resetCoreOnly d k why).each (lanesOf k) fun t j => t.resetLane d j why

/-! ### Compute dies -/

/-- A link resets: it goes DOWN, and its registers and FIFOs take their reset state (R253). -/
def State.resetLink (s : State) (d m : Nat) : State :=
  ((s.linkDown d m).clearBlk (.link d m) fun _ => false).setLink d m {}

/-- The hidden state of a die's shared blocks is cleared. -/
def State.clearDie (s : State) (d : Nat) : State :=
  { s.setIng d {} with
    rfx := s.rfx.filter fun e => decide (e.1 ≠ d)
    arbs := s.arbs.filter fun e => decide (e.1.1 ≠ d + 1)
    therm := s.therm.filter fun e => decide (e.1 ≠ d) }

/-- The clock generators of a compute die lock (R510). -/
def State.relock (s : State) (d : Nat) : State :=
  s.wrs (.dieNode d) [(CLK_DLOCK_SCAN, 1), (CLK_DLOCK_LANE, 7), (CLK_DLOCK_LINK, 15), (CLK_DLOCK_DRC, 1), (CLK_DLOCK_COMMON, 1)]

/-- RESULT reads BUSY in the nodes whose commands wait in the sequencer (R40). -/
def State.markWaiting (s : State) : State := s.each s.seqQ fun t c => t.wr c.node.blk NODE_CTRL_RESULT 1

/-- A compute die resets: its cores, lanes and blocks; the memories keep their content (R41). -/
def State.resetDie (s : State) (d why : Nat) : State :=
  let t := s.each (List.range 4) fun t k => t.resetCore d k why
  let t := t.each (List.range 32) fun t m => t.resetLink d m
  let t := t.each [Blk.dieNode d, .arb d, .rfx d, .irqDie d, .drc d, .ing d] fun t b => t.clearBlk b fun _ => false
  ((t.clearDie d).withdraw [.die d]).markWaiting

end Sys2Proof.Machine
end

