-- ==== Sys2Proof/Machine/Reset.lean ====
section
/-! DEFINITION. The package reset (R14, R507): what it clears, what it keeps, and what waits for it. -/

namespace Sys2Proof.Machine

/-- A memory that loses its content where its die loses power: causes 1 and 9 (R45, R117, R180, R450, R511, R513). -/
def MemId.volatile (cause : Nat) : MemId → Bool
  | .flash _ | .nv _ _ => false
  | .ret => decide (cause = 1)
  | _ => true

/-- The memories that lost power hold nothing; the others keep what they hold (R356). -/
def State.loseMems (s : State) (cause : Nat) : State :=
  if cause = 1 ∨ cause = 9 then
    { s with mems := s.mems.filter fun e => !e.1.volatile cause, ecc := s.ecc.filter fun e => !e.1.1.volatile cause }
  else s

/-- The command and the physical phase of a load switch, which a reset leaves to the fail-safe states (R408). -/
def lswKeeps (k : RegKey) : Bool :=
  decide (k.blk = .lsw) && (decide (k.off = 0x10) || (decide (0x100 ≤ k.off ∧ k.off % 0x10 = 4) && decide (k.lo < 4)))

/-- The registers that a package reset leaves: those marked held; the load switches' commands and phases while the
field die stays powered; after a wake from nap the crown controller's pending and wake bits (R14, R350, R408). -/
def resetKeeps (cause : Nat) (k : RegKey) : Bool :=
  k.held || (decide (cause ≠ 1) && lswKeeps k) ||
    (decide (cause = 9) && decide (k.blk = .irqCrown) && decide (k.off < 0x40 ∨ (0x180 ≤ k.off ∧ k.off < 0x1C0)))

/-- The hoods of the package are lost and an admission ends, both recorded at the next boot (R164, R233). -/
def State.resetLosses (s : State) : State :=
  let t := s.jobEnd 2 true
  let t := t.each s.coresList fun t c => t.hoodLost c.1 c.2 1
  t.each s.lanesList fun t l => t.khoodLost l.1 l.2 1

/-- Every register that is not kept takes its reset value; SUP_RSTCAUSE takes the cause; HSB_HC starts from the claim
(R14, R306, R507). -/
def State.resetRegs (s : State) (cause : Nat) : State :=
  ({ s with regs := s.regs.filter fun e => resetKeeps cause e.1 }.wr .sup SUP_RSTCAUSE_CAUSE cause).wr .hsb HSB_HC_CLAIM
    (s.rd .hsb HSB_CLAIM_CLAIM)

/-- The hidden state of the crown and compute dies, and of the field die's registers, is cleared; the memories, the
retained store's copies, the recorder, the clock of the VBAT domain, the flash side of the update engine and the key
fuses stay. -/
def State.resetHidden (s : State) (cause : Nat) : State :=
  { s with
    wdt := {}, can := [], tmb := {}, hsb := {}
    field := { readOnly0 := decide (cause ≠ 1) && !s.missing 0, readOnly1 := decide (cause ≠ 1) && !s.missing 1, lastKeep := s.now }
    cores := s.cores.filterMap fun e =>
      if e.2.bank = 0 then none else some (e.1, { Core.fresh e.1.1 e.1.2 with bank := e.2.bank })
    job := {}, ings := [], lines := [], lanes := [], links := [], arbs := [], therm := [], hot := [], hotCool := none, rfx := []
    held := [], seqQ := [], img := {}, queues := [], cmdEng := {}, pcie := {}, ctxCry := {}, ctxCrc := {}, ring := {} }

/-- The update engine's transfer in progress and an activation under way end; the retained-store engine is idle. -/
def State.resetEngines (s : State) : State :=
  { s with
    upd := { s.upd with writing := none, act := none, parts := [], partIdx := 0 }
    nvs := { s.nvs with run := none, pounceQ := [], pfList := [], pfPhase := .idle, pfRest := none, pfKeepInc := false, mustStore := 0, stored := 0,
                        failed := 0 }
    cry := { s.cry with runSince := 0 } }

/-- What is lost with the crown die's power, causes 1 and 9: records not yet accepted (R466), and that the retained
store has been recalled (R450, R460). -/
def State.resetPower (s : State) (cause : Nat) : State :=
  if cause = 1 ∨ cause = 9 then
    { s with
      recorder := { s.recorder with hold := [], lost := 0 }
      nvs := { s.nvs with recalled := false } }
  else s

/-- The package reset itself (R507): the losses, the memories, the registers, the hidden state, the fail-safe states
(R408); the package then waits
for its boot sequence with the cause. -/
def State.doReset (s : State) (cause : Nat) : State :=
  let t := (((((s.resetLosses.loseMems cause).resetRegs cause).resetHidden cause).resetEngines).resetPower cause).failSafe
  { t with pwr := { t.pwr with phase := .reset, cause := cause, warnStart := none, warnEnd := none, resetWaits := none, seqReset := false, bootDone := false } }

/-- A package reset begins: RESIGN goes out, and the reset itself waits for a segment store in progress, and for the
segments that must be stored before it (R329, R355, R458, R485, R488, R507). The lowest cause of several that wait is
recorded; a source that arrives while a reset runs changes nothing. -/
def State.packageReset (s : State) (cause : Nat) : State :=
  if s.pwr.phase = .reset ∨ s.pwr.phase = .off ∨ s.pwr.phase = .nap then s
  else
    let t := s.resign 2
    if t.nvs.run = none ∧ t.nvs.mustStore = 0 then t.doReset cause
    else { t with pwr := { t.pwr with resetWaits := some (min cause (t.pwr.resetWaits.getD cause)) } }

/-- A package reset that goes on once a segment has been stored (R488). -/
def State.resetAfterStore (s : State) (cause seg : Nat) : State :=
  { s.orBits .nvs NVS_PEND_PEND (2 ^ seg) with nvs := { s.nvs with mustStore := s.nvs.mustStore ||| 2 ^ seg } }.packageReset cause

end Sys2Proof.Machine
end

