-- ==== Sys2Proof/Machine/Wake.lean ====
section
/-! DEFINITION. Waking from nap (R500, R512, R514). -/

namespace Sys2Proof.Machine

/-- The package wakes: WAKE_SRC takes the sources, PWR_EN_MAIN rises, WAKE_N is driven if WAKE_CFG.PINOUT says so, and
the boot with cause 9 follows (R514). -/
def State.wakeStart (s : State) (srcs : Nat) : State :=
  let t := s.orBits .wake WAKE_SRC_SRC srcs
  let t := if s.is .wake WAKE_CFG_PINOUT then t.emit .wakeN else t
  { t with pwr := { t.pwr with pwrEnMain := true, latchedWake := 0 } }.doReset 9

/-- A wake source occurs: between t0 and t4 of nap entry, and within the 20 ms for which PWR_EN_MAIN stays low, it is
latched; in nap it wakes the package; otherwise it has no effect (R500, R512, R514). -/
def State.wakeEvent (s : State) (src : Nat) : State :=
  if s.pwr.phase = .napEntry ∨ (s.pwr.phase = .nap ∧ s.now < s.pwr.napAt + 20000000) then
    { s with pwr := { s.pwr with latchedWake := s.pwr.latchedWake ||| src } }
  else if s.pwr.phase = .nap then s.wakeStart src
  else s

end Sys2Proof.Machine
end

