-- ==== Sys2Proof/Machine/Rtc.lean ====
section
/-! DEFINITION. The real-time clock (R428 to R436). -/

namespace Sys2Proof.Machine

/-- Bit 63:0 arithmetic of the clock. -/
def rtcMod : Nat := 2 ^ 64

/-- The signed number of units RTC_SHIFT still has to apply (R431). -/
def State.rtcUnits (s : State) : Int := toSigned 16 (s.rd .rtc RTC_SHIFT_UNITS)

/-- VAL and MASK of an alarm as 64-bit numbers (R432). -/
def State.almVal (s : State) (k : Nat) : Nat := s.rd .rtc (ALM_VAL_LO_VAL k) + s.rd .rtc (ALM_VAL_HI_VAL k) * 2 ^ 32
def State.almMask (s : State) (k : Nat) : Nat := s.rd .rtc (ALM_MASK_LO_MASK k) + s.rd .rtc (ALM_MASK_HI_MASK k) * 2 ^ 32

/-- The match of an alarm at a time: equal outside the don't-care bits (R432). -/
def State.almMatch (s : State) (k t : Nat) : Bool := decide (clearBits (t ^^^ s.almVal k) (s.almMask k) = 0)

/-- Whether an alarm was armed late, and whether its match held at the tick before (R432, R433). -/
def Rtc.late (r : Rtc) (k : Nat) : Bool := if k = 0 then r.late0 else r.late1
def Rtc.prev (r : Rtc) (k : Nat) : Bool := if k = 0 then r.prev0 else r.prev1
def Rtc.setLate (r : Rtc) (k : Nat) (v : Bool) : Rtc := if k = 0 then { r with late0 := v } else { r with late1 := v }
def Rtc.fresh (r : Rtc) (k : Nat) : Bool := if k = 0 then r.fresh0 else r.fresh1
def Rtc.setFresh (r : Rtc) (k : Nat) (v : Bool) : Rtc := if k = 0 then { r with fresh0 := v } else { r with fresh1 := v }
def Rtc.setPrev (r : Rtc) (k : Nat) (v : Bool) : Rtc := if k = 0 then { r with prev0 := v } else { r with prev1 := v }

/-- The clock shows a new time at a tick: what matched before it is the match of the tick before, but for an alarm armed
since then (R432). -/
def State.rtcMove (s : State) (v : Nat) : Rtc :=
  { s.rtc with
    time := v % rtcMod
    prev0 := s.is .rtc (ALM_CTRL_EN 0) && !s.rtc.fresh0 && s.almMatch 0 s.rtc.time
    prev1 := s.is .rtc (ALM_CTRL_EN 1) && !s.rtc.fresh1 && s.almMatch 1 s.rtc.time
    fresh0 := false
    fresh1 := false }

/-- One tick of the crystal: 2 units, or 3 or 1 while a shift runs, whose last tick ends it; bit 0 of the fraction is 0
once no shift runs (R428, R431; DEDUCED for a shift of an odd number of units, log 200). -/
def State.rtcTick (s : State) : State :=
  let u := s.rtcUnits
  let busy := s.is .rtc RTC_STAT_SHBUSY
  let step : Nat := if busy then (if u > 0 then 3 else if u < 0 then 1 else 2) else 2
  let u' : Int := if u > 0 then u - 1 else if u < 0 then u + 1 else 0
  let t := if busy then (s.wr .rtc RTC_SHIFT_UNITS (ofSigned 16 u')).wrB .rtc RTC_STAT_SHBUSY (decide (u' ≠ 0)) else s
  let v := s.rtc.time + step
  { t with rtc := s.rtcMove (if t.is .rtc RTC_STAT_SHBUSY then v else v / 2 * 2) }

/-- RTC_SET: a write of 1 to RTC_CTRL.SET requests a load at the next tick (R430). -/
def execRtcSet (s : State) : Host.Outcome State Fault Refusal := .next (s.wr .rtc RTC_CTRL_SET 1)

/-- The tick at which a requested load takes place (R430). -/
def State.rtcLoad (s : State) : State :=
  if s.is .rtc RTC_CTRL_SET then
    let v := s.rd .rtc RTC_SETFRAC_FRAC + s.rd .rtc RTC_SETSEC_LO_SEC * 2 ^ 16 + s.rd .rtc RTC_SETSEC_HI_SEC * 2 ^ 48
    let t := ((((s.wr .rtc RTC_CTRL_SET 0).wr .rtc RTC_SHIFT_UNITS 0).wr .rtc RTC_STAT_SHBUSY 0).wr .rtc RTC_STAT_VALID 1).wr .rtc
      RTC_STAT_RETLATCH 0
    { t with rtc := s.rtcMove (v / 2 * 2) }
  else s

/-- RTC_SET_LOAD: the tick after a SET request (R430). -/
def execRtcSetLoad (s : State) : Host.Outcome State Fault Refusal := .next s.rtcLoad

/-- A write of RTC_SHIFT starts a shift of a non-zero number of units, unless one runs (R431). -/
def State.rtcShift (s : State) (w : Nat) : State :=
  if s.is .rtc RTC_STAT_SHBUSY ∨ RTC_SHIFT_UNITS.of w = 0 then s
  else (s.wr .rtc RTC_SHIFT_UNITS (RTC_SHIFT_UNITS.of w)).wr .rtc RTC_STAT_SHBUSY 1

/-- RTC_SHIFT: a write of `w` to RTC_SHIFT (R431). -/
def execRtcShift (w : Nat) (s : State) : Host.Outcome State Fault Refusal := .next (s.rtcShift w)

/-- RTC_SHIFT_DONE: the last tick of a running shift (R431). -/
def execRtcShiftDone (s : State) : Host.Outcome State Fault Refusal :=
  .next (if s.is .rtc RTC_STAT_SHBUSY ∧ s.rtcUnits.natAbs = 1 then s.rtcTick else s)

/-- The time that SEC_HI and FRAC show: the shadow while FROZEN, else the live time (R429). -/
def State.rtcShown (s : State) : Nat := if s.is .rtc RTC_STAT_FROZEN then s.rtc.shadow.getD s.rtc.time else s.rtc.time

/-- A read of RTC_SEC_LO takes a snapshot and freezes (R429). -/
def State.rtcSecLo (s : State) : Nat × State :=
  (s.rtc.time / 2 ^ 16 % 2 ^ 32, { s.wr .rtc RTC_STAT_FROZEN 1 with rtc := { s.rtc with shadow := some s.rtc.time } })

/-- RTC_SEC_LO_READ: a read of RTC_SEC_LO (R429). -/
def execRtcSecLoRead (s : State) : Host.Outcome State Fault Refusal := .next s.rtcSecLo.2

/-- A read of RTC_FRAC returns the shown fraction and ends FROZEN (R429). -/
def State.rtcFrac (s : State) : Nat × State :=
  (s.rtcShown % 2 ^ 16, { s.wr .rtc RTC_STAT_FROZEN 0 with rtc := { s.rtc with shadow := none } })

/-- RTC_FRAC_READ: a read of RTC_FRAC (R429). -/
def execRtcFracRead (s : State) : Host.Outcome State Fault Refusal := .next s.rtcFrac.2

/-- A write of an alarm's VAL or MASK word; no effect while EN is 1 (R432). -/
def State.almWrite (s : State) (k : Nat) (f : Field) (w : Nat) : State :=
  if s.is .rtc (ALM_CTRL_EN k) then s else s.wr .rtc f (f.of w)

/-- A write of ALM_CTRL: EN and WAKE as written, 1 clears FIRED and LATE; arming an exact alarm whose VAL has passed
marks it late (R432, R433). -/
def State.almCtrl (s : State) (k w : Nat) : State :=
  let arm := decide ((ALM_CTRL_EN k).of w = 1) && !s.is .rtc (ALM_CTRL_EN k)
  let t := (s.wr .rtc (ALM_CTRL_EN k) ((ALM_CTRL_EN k).of w)).wr .rtc (ALM_CTRL_WAKE k) ((ALM_CTRL_WAKE k).of w)
  let t := if (ALM_CTRL_FIRED k).of w = 1 then t.wr .rtc (ALM_CTRL_FIRED k) 0 else t
  let t := if (ALM_CTRL_LATE k).of w = 1 then t.wr .rtc (ALM_CTRL_LATE k) 0 else t
  if arm then
    { t with rtc := (t.rtc.setLate k (decide (s.almMask k = 0 ∧ s.almVal k ≤ s.rtc.time))).setFresh k true }
  else t

/-- An alarm fires at this tick if it is due: an exact one once, at t ≥ VAL, clearing its EN; a masked one when its
match begins (R432, R433). -/
def State.alarmFire (s : State) (k : Nat) : State :=
  let exact := decide (s.almMask k = 0)
  let due := s.is .rtc (ALM_CTRL_EN k) && !s.rtc.fresh k &&
    (if exact then decide (s.almVal k ≤ s.rtc.time) else s.almMatch k s.rtc.time && !s.rtc.prev k)
  if k < 2 ∧ due then
    let t := s.wr .rtc (ALM_CTRL_FIRED k) 1
    let t := if exact then t.wr .rtc (ALM_CTRL_EN k) 0 else { t with rtc := t.rtc.setPrev k true }
    let t := if exact && s.rtc.late k then
        ({ t with rtc := t.rtc.setLate k false }.wr .rtc (ALM_CTRL_LATE k) 1).offer Ev.ALM_LATE .field [k] else t
    let t := t.raiseCrown (115 + k)
    if s.is .rtc (ALM_CTRL_WAKE k) && s.is .wake WAKE_CFG_RTCEN then t.wakeEvent 1 else t
  else s

/-- ALARM_FIRE: alarm `k` reaches its time (R432). -/
def execAlarmFire (k : Nat) (s : State) : Host.Outcome State Fault Refusal := .next (s.alarmFire k)

/-- VBAT_MEASURE: VBAT measures `mv`; VBATLOW sets below 2.2 V and clears above 2.3 V (R435). -/
def execVbatMeasure (mv : Nat) (s : State) : Host.Outcome State Fault Refusal :=
  .next (if mv < 2200 then s.wr .rtc RTC_STAT_VBATLOW 1 else if 2300 < mv then s.wr .rtc RTC_STAT_VBATLOW 0 else s)

/-- The retention latch sets: every RTC register takes its first-power-on value (R434). -/
def State.retentionLatch (s : State) : State :=
  { s with regs := s.regs.filter (fun e => decide (e.1.blk ≠ Blk.rtc)), rtc := {} }.offerAtBoot Ev.RTC_RETLOST .field

/-- RETENTION_LATCH: the RTC domain falls below the retention level (R434). -/
def execRetentionLatch (s : State) : Host.Outcome State Fault Refusal := .next s.retentionLatch

end Sys2Proof.Machine
end

