-- ==== Sys2Proof/Machine/Ctx.lean ====
section
/-! DEFINITION. The context slots of the cryptographic and the crown CRC engine (R380, R381). -/

namespace Sys2Proof.Machine

/-- The update engine as a user of a context slot; users below 32 are host queues. -/
abbrev updUser : Nat := 32

/-- A user holds a slot. -/
def CtxEngine.holds (e : CtxEngine) (u : Nat) : Bool := e.slots.any fun x => decide (x.2 = u + 1)

/-- A user waits for a slot. -/
def CtxEngine.waits (e : CtxEngine) (u : Nat) : Bool := e.wait.any fun x => decide (x.1 = u)

/-- The lowest free slot. -/
def CtxEngine.freeSlot (e : CtxEngine) : Option Nat := (List.range 4).find? fun i => decide (e.slots.get i 0 = 0)

/-- Slot `i` given to a user. -/
def CtxEngine.put (e : CtxEngine) (i u : Nat) : CtxEngine := { e with slots := e.slots.set (fun k => k) i 0 (u + 1) }

/-- A user takes a free slot, unless others wait before it; else it waits, with its deadline (R381). -/
def CtxEngine.take (e : CtxEngine) (u dl : Nat) : CtxEngine :=
  match e.freeSlot, e.wait with
  | some i, [] => e.put i u
  | _, _ => { e with wait := e.wait ++ [(u, dl, 0)] }

/-- A user's slot freed, and the user no longer waiting. -/
def CtxEngine.leave (e : CtxEngine) (u : Nat) : CtxEngine :=
  { slots := e.slots.filter fun x => decide (x.2 ≠ u + 1), wait := e.wait.filter fun x => decide (x.1 ≠ u) }

/-- A user takes a slot of the cryptographic engine. -/
def State.cryTake (s : State) (u dl : Nat) : State := { s with ctxCry := s.ctxCry.take u dl }

/-- A user frees its slot of the cryptographic engine: crown source 201 (R381). -/
def State.cryLeave (s : State) (u : Nat) : State :=
  let t := { s with ctxCry := s.ctxCry.leave u }
  if s.ctxCry.holds u then t.raiseCrown 201 else t

/-- A user takes a slot of the CRC engine. -/
def State.crcTake (s : State) (u dl : Nat) : State := { s with ctxCrc := s.ctxCrc.take u dl }

/-- A user frees its slot of the CRC engine. -/
def State.crcLeave (s : State) (u : Nat) : State := { s with ctxCrc := s.ctxCrc.leave u }

end Sys2Proof.Machine
end

