-- ==== Sys2Proof/Machine/Nvs.lean ====
section
/-! DEFINITION. The retained store (R447 to R462): banks, stores, the pounce pass, the power-fail list and recall. -/

namespace Sys2Proof.Machine

/-! ### Copies and generations -/

/-- The copy of a segment in a bank (0 bank A, 1 bank B). -/
def State.copyOf (s : State) (b seg : Nat) : NvCopy := Tab.get s.nvs.copies (b, seg) {}

/-- The state with a copy replaced. -/
def State.setCopy (s : State) (b seg : Nat) (c : NvCopy) : State :=
  { s with nvs := { s.nvs with copies := Tab.set pairCode s.nvs.copies (b, seg) {} c } }

/-- Generation `a` is newer than `b` by signed 32-bit difference (R452). -/
def genNewer (a b : Nat) : Bool := decide (0 < seqDiff a b)

/-- The bank that a store of a segment goes to (R452); bank B where both are invalid or of equal generation. -/
def State.targetBank (s : State) (seg : Nat) : Nat :=
  let a := s.copyOf 0 seg
  let b := s.copyOf 1 seg
  if !b.valid then 1 else if !a.valid then 0 else if genNewer b.gen a.gen then 0 else 1

/-- The generation of the newer valid copy, if any. -/
def State.newestGen (s : State) (seg : Nat) : Option Nat :=
  let a := s.copyOf 0 seg
  let b := s.copyOf 1 seg
  if a.valid && b.valid then some (if genNewer b.gen a.gen then b.gen else a.gen)
  else if a.valid then some a.gen else if b.valid then some b.gen else none

/-- The generation that the next store of a segment gives (R452). -/
def State.nextGen (s : State) (seg : Nat) : Nat :=
  match s.newestGen seg with
  | some g => (g + 1) % 2 ^ 32
  | none => 1

/-! ### What a segment holds -/

/-- The segment that keeps a register field (R448): none for a field kept elsewhere. -/
def segOfKey (k : RegKey) : Option Nat :=
  match k.blk with
  | .hsb => if k.off = 8 then some 28 else none
  | .wdt => if k.off = 0x20 then some 28 else none
  | .pkgNode => if k.off = 0x300 then some 28 else none
  | .lsw => if k.off = 8 ∨ k.off = 0xC then some 29 else none
  | .nvs => if k.off = 0x20 ∨ k.off = 0x24 ∨ k.off = 0x28 ∨ k.off = 0x30 ∨ k.off = 0x38 then some 29 else none
  | .upd => if k.held then some 30 else none
  | .cal => if k.held ∧ 0x40 ≤ k.off then some 31 else none
  | _ => none

/-- The register items of a segment. -/
def State.ownedItems (s : State) (seg : Nat) : List (RegKey × Nat) := s.regs.filter fun e => decide (segOfKey e.1 = some seg)

/-- The items of a segment that no register holds whole (R448, R479, R485). -/
def State.extraItems (s : State) (seg : Nat) : List Nat :=
  if seg = 28 then [s.recorder.next, s.recorder.pwrcnt, s.recorder.opNs]
  else if seg = 30 then
    match s.upd.xfer with
    | some (x, f) => [s.upd.bootsel, 1, x, f]
    | none => [s.upd.bootsel, 0, 0, 0]
  else []

/-- The cells `[lo, lo + n)` of a memory, moved to start at 0. -/
def Cells.slice (m : Cells) (lo n : Nat) : Cells :=
  (m.filter fun e => decide (lo ≤ e.1 ∧ e.1 < lo + n)).map fun e => (e.1 - lo, e.2)

/-- The state with the cells `[lo, lo + n)` of a memory replaced by those of `c`, which start at 0. -/
def State.putSlice (s : State) (m : MemId) (lo n : Nat) (c : Cells) : State :=
  let keep := s.mem m
  s.setMem m ((keep.filter fun e => decide (e.1 < lo)) ++ (c.slice 0 n).map (fun e => (e.1 + lo, e.2)) ++
    keep.filter fun e => decide (lo + n ≤ e.1))

/-- Bytes copied from a memory to another. A unit of the copy that an uncorrectable error reaches holds one too, since the
spec gives its bytes no value (R540; DESIGN CHOICE, log entry 160); the others that are written whole are good. -/
def State.copyMem (s : State) (m m' : MemId) (o o' n : Nat) : State :=
  let u := m.eccUnit
  let t := (s.scan m o n).putSlice m' o' n ((s.mem m).slice o n)
  (t.wholeGood m' o' n).each ((s.eccMarks m o n .uncorrectable).flatMap fun w =>
    eccUnits m' (o' + (max o (w * u) - o)) (min (o + n) (w * u + u) - max o (w * u))) fun t w => t.setEcc m' w .uncorrectable

/-- The bytes of an event record's words. -/
def recordBytes (ws : List Nat) : List Byte := (ws.take 8).flatMap fun w => leBytes 4 w

/-- The SEQs of the latest records, newest first: at most `n`, ending at the oldest held. -/
def State.lastSeqs (s : State) (seq : Nat) : Nat → List Nat
  | 0 => []
  | n + 1 =>
    if seq = s.recorder.oldest then []
    else
      let p := if seq = 1 then 2 ^ 32 - 1 else seq - 1
      p :: State.lastSeqs s p n

/-- The event tail is written into segment 31: the latest 1,024 accepted records, oldest first (R453). -/
def State.writeTail (s : State) : State :=
  let recs := ((s.lastSeqs s.recorder.next 1024).reverse).flatMap fun q => recordBytes (s.slot (q % 16384))
  (((s.zeroMem .ret 0x1F8000 0x8000).wholeGood .ret 0x1F8000 0x8000).storeBytes .ret 0x1F8000 recs).dirty 31

/-! ### Stores -/

/-- Segments are added to NVS_PEND (R451). -/
def State.requestStore (s : State) (mask : Nat) : State := s.orBits .nvs NVS_PEND_PEND mask

/-- NVS_CMD: a write of `w` to NVS_CMD (R451). -/
def execNvsCmd (w : Nat) (s : State) : Host.Outcome State Fault Refusal := .next (s.requestStore (w % 2 ^ 32))

/-- The snapshot of a segment goes to its target bank, whose copy is invalid from then on (R452, R453). -/
def State.startStore (s : State) (seg : Nat) (why : StoreWhy) : State :=
  let s := if seg = 31 ∧ why ≠ .powerFail then s.writeTail else s
  let b := s.targetBank seg
  let g := s.nextGen seg
  let c : NvCopy := { valid := false, gen := g, owned := s.ownedItems seg, extra := s.extraItems seg,
                      targets := if seg = 28 then s.nvs.targets else [], rest := if seg = 0 then s.rest else {} }
  let t := (s.setCopy b seg c).copyMem .ret (.nv b seg) (seg * 0x10000) 0 0x10000
  let t := ((t.setBit .nvs NVS_DIRTY_DIRTY seg false).wr .nvs NVS_STAT_BUSY 1).wr .nvs NVS_STAT_SEG seg
  { t with nvs := { t.nvs with run := some { seg := seg, bank := b, gen := g, why := why } } }

/-- The first segment of a list that is dirty, and the clean ones before it. -/
def State.splitDirty (s : State) : List Nat → List Nat × Option Nat
  | [] => ([], none)
  | x :: xs =>
    if s.bit .nvs NVS_DIRTY_DIRTY x then ([], some x)
    else
      let (c, d) := State.splitDirty s xs
      (x :: c, d)

/-- Segments are counted as stored for NVS_COMMIT (R451, R454). -/
def State.countStored (s : State) (mask : Nat) : State := { s with nvs := { s.nvs with stored := s.nvs.stored ||| mask } }

/-- The mask of a list of segments. -/
def segMask (l : List Nat) : Nat := l.foldl (fun m i => m ||| 2 ^ i) 0

/-- The VHOLD reading `raw`, after calibration items 4 and 5, shows in SUP_VHOLD (R458, R463). -/
def State.readVhold (s : State) (raw : Nat) : State :=
  let (v, t) := s.calibrate 4 5 raw
  t.wr .sup SUP_VHOLD_MV (min v.toNat 65535)

/-- E_avail ≥ E_seg (R458): with CAP in µF, V in mV and LOAD in mW this is CAP × (V² − VMIN²) ≥ 1,250,000 × LOAD. -/
def State.energyOk (s : State) : Bool :=
  let v := s.rd .sup SUP_VHOLD_MV
  let vm := s.rd .nvs NVS_PF_VMIN_MV
  decide ((1250000 * s.rd .nvs NVS_PF_LOAD_MW : Int) ≤ (s.rd .nvs NVS_PF_CAP_UF : Int) * ((v : Int) * v - (vm : Int) * vm))

/-- The power-fail store stops for energy: PFINC stays 1 and no further segment starts (R458). -/
def State.pfStop (s : State) : State := { s with nvs := { s.nvs with pfPhase := .stopped, pfList := [] } }

/-- t4 of the power-fail store: PFINC := 0, unless it must stay 1, and PFRUN := 0 (R456, R504). -/
def State.pfComplete (s : State) : State :=
  let t := if s.nvs.pfKeepInc then s else s.wr .nvs NVS_STAT_PFINC 0
  { (t.wr .nvs NVS_STAT_PFRUN 0).wr .sup SUP_STAT_PFRUN 0 with nvs := { t.nvs with pfPhase := .stopped } }

/-- The engine takes its next segment (R451, R455, R456, R458): of the power-fail list while that store runs, and of
nothing else then; before a waiting reset only the segments it waits for; else the lowest dirty segment of NVS_PEND, the
clean ones below it counting as stored; else the next store of the pounce pass. -/
def State.storeNext (s : State) (vhold : Nat) : State :=
  if s.nvs.run ≠ none ∨ ¬ s.nvs.recalled ∨ s.pwr.phase = .off ∨ s.pwr.phase = .nap then s
  else if s.nvs.pfPhase = .stopped ∨ s.nvs.pfPhase = .copying then s
  else if s.nvs.pfPhase = .storing then
    let t := s.readVhold vhold
    match s.nvs.pfList with
    | [] => t.pfComplete
    | g :: rest =>
      if t.energyOk then { t with nvs := { t.nvs with pfList := rest } }.startStore g .powerFail else t.pfStop
  else if s.pwr.resetWaits ≠ none then
    match onesOf32 s.nvs.mustStore with
    | [] => s
    | g :: _ => (s.clrBits .nvs NVS_PEND_PEND (2 ^ g)).startStore g .update
  else if s.pwr.phase = .reset then s
  else
    let (clean, d) := s.splitDirty (onesOf32 (s.rd .nvs NVS_PEND_PEND))
    let t := (s.clrBits .nvs NVS_PEND_PEND (segMask clean)).countStored (segMask clean)
    match d with
    | some g => (t.clrBits .nvs NVS_PEND_PEND (2 ^ g)).startStore g .commanded
    | none =>
      match t.nvs.pounceQ with
      | [] => t
      | g :: rest => { t with nvs := { t.nvs with pounceQ := rest } }.startStore g .pounce
where
  /-- The set bits of a 32-bit mask, lowest first. -/
  onesOf32 (v : Nat) : List Nat := (List.range 32).filter fun i => v.testBit i

/-- SEGMENT_STORE_START: the store engine takes its next segment, with `vhold` the raw VHOLD reading in mV; a nap stores
every segment that is dirty by then (R452, R511). -/
def execSegmentStoreStart (vhold : Nat) (s : State) : Host.Outcome State Fault Refusal :=
  .next ((if s.pwr.phase = .napEntry then s.requestStore (s.rd .nvs NVS_DIRTY_DIRTY) else s).storeNext vhold)

/-- The pounce pass ends when it has no store left; NVS_POUNCE_LAST is kept beside NVS_POUNCE in segment 29 (R448, R469;
DESIGN CHOICE, log 204). -/
def State.pounceEnd (s : State) : State :=
  if s.is .nvs NVS_STAT_POUNCE ∧ s.nvs.pounceQ = [] ∧ s.nvs.run = none then
    ((s.wr .nvs NVS_STAT_POUNCE 0).wr .nvs NVS_POUNCE_LAST_SEC (s.recorder.opNs / 1000000000)).dirty 29
  else s

/-- A store has ended; a reset that waited for it goes on once nothing it waits for is left (R355, R458, R507). -/
def State.storeEnded (s : State) (r : StoreRun) : State :=
  let t := { s.wr .nvs NVS_STAT_BUSY 0 with
    nvs := { s.nvs with run := none, mustStore := clearBits s.nvs.mustStore (2 ^ r.seg) } }
  let t := if t.rd .nvs NVS_PEND_PEND = 0 then t.raiseCrown 117 else t
  let t := if r.why = .powerFail ∧ t.nvs.pfList = [] ∧ t.nvs.pfPhase = .storing then t.pfComplete else t
  let t := t.pounceEnd
  match t.pwr.resetWaits with
  | some c => if t.nvs.mustStore = 0 then { t with pwr := { t.pwr with resetWaits := none } }.doReset c else t
  | none => t

/-- The programming of the bank ends with its read-back (R452): the copy becomes valid; or it is programmed once more,
while a power-fail store runs only if the energy allows; or the segment fails, and PFINC then stays 1, since not every segment of the
list is stored (R456, R458). -/
def State.programDone (s : State) (good : Bool) (vhold : Nat) : State :=
  match s.nvs.run with
  | none => s
  | some r =>
    if good then
      let t := (s.setCopy r.bank r.seg { s.copyOf r.bank r.seg with valid := true }).wr .nvs (NVS_GEN_GEN r.seg) r.gen
      let t := t.countStored (2 ^ r.seg)
      let t := if r.why = .pounce then (t.raiseCrown 118).offer Ev.POUNCE_REWRITE .field [r.seg, r.bank] else t
      t.storeEnded r
    else
      let pf := decide (s.nvs.pfPhase ≠ .idle)
      let t := if pf then s.readVhold vhold else s
      if r.second then
        let t := (t.orBits .nvs NVS_FAILMASK_FAIL (2 ^ r.seg)).wr .nvs NVS_STAT_FAIL 1
        ({ t with nvs := { t.nvs with failed := t.nvs.failed ||| 2 ^ r.seg, pfKeepInc := t.nvs.pfKeepInc || pf } }.offer Ev.NVS_FAIL
          .field).storeEnded r
      else if pf ∧ ¬ t.energyOk then { t.pfStop with nvs := { t.pfStop.nvs with run := none } }.wr .nvs NVS_STAT_BUSY 0
      else { t with nvs := { t.nvs with run := some { r with second := true } } }

/-- SEGMENT_PROGRAM_DONE: a bank programming ends, with whether its read-back passes (R452). -/
def execSegmentProgramDone (good : Bool) (vhold : Nat) (s : State) : Host.Outcome State Fault Refusal :=
  .next (s.programDone good vhold)

/-! ### The pounce pass -/

/-- The weak copies of a segment: those in `weak`, which fail the margin read, and the invalid ones (R455). -/
def State.weakBanks (s : State) (weak : List (Nat × Nat)) (seg : Nat) : List Nat :=
  [0, 1].filter fun b => !(s.copyOf b seg).valid || decide ((seg, b) ∈ weak)

/-- How many stores of a segment rewrite its weak copies: one where only the copy that the next store replaces is weak,
two where the other one is weak, and none where neither is (R455). -/
def State.pounceStores (s : State) (weak : List (Nat × Nat)) (seg : Nat) : Nat :=
  let w := s.weakBanks weak seg
  if w = [] then 0 else if w = [s.targetBank seg] then 1 else 2

/-- A pounce pass: every copy is read, the weak ones are counted, and their stores are queued (R455). -/
def State.pouncePass (s : State) (weak : List (Nat × Nat)) : State :=
  let period := s.rd .nvs NVS_POUNCE_HOURS * 3600000000000
  if s.is .nvs NVS_POUNCE_EN ∧ s.nvs.recalled ∧ s.pwr.phase = .on ∧ s.rd .nvs NVS_PEND_PEND = 0 ∧
      ¬ s.is .nvs NVS_STAT_POUNCE ∧ s.nvs.pounceAt + period ≤ s.recorder.opNs then
    let segs := List.range 32
    let n := (segs.map fun g => (s.weakBanks weak g).length).sum
    let q := segs.flatMap fun g => List.replicate (s.pounceStores weak g) g
    let t := (s.bump .nvs NVS_POUNCE_CNT_COUNT n).wr .nvs NVS_STAT_POUNCE 1
    { t with nvs := { t.nvs with pounceQ := q, pounceAt := s.recorder.opNs } }.pounceEnd
  else s

/-- POUNCE_PASS: the interval has passed; `weak` lists the copies, by segment and bank, that fail the margin read
(R455). -/
def execPouncePass (weak : List (Nat × Nat)) (s : State) : Host.Outcome State Fault Refusal := .next (s.pouncePass weak)

/-! ### The power-fail list -/

/-- The order of a power-fail store (R456). -/
def pfOrder : List Nat := [28, 29, 31, 30] ++ List.range 28

/-- t3: the list of dirty segments is formed, and the target table of R457 with it, which is part of segment 28. -/
def State.formList (s : State) : State :=
  let s := s.dirty 28
  let l := pfOrder.filter fun g => s.bit .nvs NVS_DIRTY_DIRTY g
  let tg := (List.range 32).map fun g => if g ∈ l then s.nextGen g else s.rd .nvs (NVS_GEN_GEN g)
  { s with nvs := { s.nvs with pfList := l, pfPhase := .storing, targets := tg } }

/-! ### Recall -/

/-- The bank whose copy recall loads, if any (R460). -/
def State.recallBank (s : State) (seg : Nat) : Option Nat :=
  let a := s.copyOf 0 seg
  let b := s.copyOf 1 seg
  if a.valid && b.valid then some (if genNewer b.gen a.gen then 1 else 0)
  else if a.valid then some 0 else if b.valid then some 1 else none

/-- Two copies of a segment hold the same content. -/
def State.copiesEqual (s : State) (seg : Nat) : Bool :=
  let a := s.copyOf 0 seg
  let b := s.copyOf 1 seg
  decide (s.mem (.nv 0 seg) = s.mem (.nv 1 seg) ∧ a.owned = b.owned ∧ a.extra = b.extra ∧ a.targets = b.targets ∧ a.rest = b.rest)

/-- The items of segments 28 and 30 that no register holds whole are loaded. -/
def State.loadExtra (s : State) (seg : Nat) (x : List Nat) : State :=
  if seg = 28 then
    { s with recorder := { s.recorder with next := x.getD 0 1, pwrcnt := x.getD 1 0, opNs := x.getD 2 0 } }
  else if seg = 30 then
    { s with upd := { s.upd with bootsel := x.getD 0 0, xfer := if x.getD 1 0 = 1 then some (x.getD 2 0, x.getD 3 0) else none } }
  else s

/-- The registers that a segment keeps, with `l` in place of what they held. -/
def State.loadOwned (s : State) (seg : Nat) (l : List (RegKey × Nat)) : State :=
  { s with regs := l.foldl (fun r e => Tab.set RegKey.code r e.1 e.1.reset e.2) (s.regs.filter fun e => decide (segOfKey e.1 ≠ some seg)) }

/-- One segment is recalled (R460): its best copy is loaded, or zeros; a held register of a segment without a copy takes
its first-power-on value, which for HSB_CLAIM is the unit's: 0 in unit A, 1 in unit B (R305, R462). -/
def State.recallSeg (s : State) (seg : Nat) : State :=
  match s.recallBank seg with
  | some b =>
    let c := s.copyOf b seg
    let o := s.copyOf (1 - b) seg
    let t := (s.copyMem (.nv b seg) .ret 0 (seg * 0x10000) 0x10000).wr .nvs (NVS_GEN_GEN seg) c.gen
    let t := (t.loadOwned seg c.owned).loadExtra seg c.extra
    let t := if seg = 28 then { t with nvs := { t.nvs with targets := c.targets } } else t
    let t := if seg = 0 then { t with rest := c.rest } else t
    if c.valid && o.valid && decide (c.gen = o.gen) && !s.copiesEqual seg then
      ((t.orBits .nvs NVS_TIEMASK_MASK (2 ^ seg)).wr .nvs NVS_STAT_TIE 1).offer Ev.NVS_TIE .field
    else t
  | none =>
    let t := ((s.zeroMem .ret (seg * 0x10000) 0x10000).wholeGood .ret (seg * 0x10000) 0x10000).wr .nvs (NVS_GEN_GEN seg) 0
    let t := (t.loadOwned seg []).loadExtra seg []
    let t := if seg = 28 then { t.wr .hsb HSB_CLAIM_CLAIM s.straps.hsbUnit.toNat with nvs := { t.nvs with targets := [] } } else t
    let t := if seg = 0 then { t with rest := {} } else t
    (t.orBits .nvs NVS_NOREC_MASK (2 ^ seg)).offer Ev.NVS_NOREC .field

/-- A recalled segment whose generation is below its target is stale (R460). -/
def State.judgeStale (s : State) (seg : Nat) : State :=
  match s.nvs.targets[seg]? with
  | some g =>
    if genNewer g (s.rd .nvs (NVS_GEN_GEN seg)) then (s.orBits .nvs NVS_STALE_MASK (2 ^ seg)).offer Ev.NVS_STALE .field else s
  | none => s

/-- PFINC as it reads: 1 while the retention latch is set (R459). -/
def State.pfinc (s : State) : Bool := s.is .nvs NVS_STAT_PFINC || s.is .rtc RTC_STAT_RETLATCH

/-- The records of the event tail as they lie in segment 31, oldest first: SEQ and words. -/
def tailRecords (bs : List Byte) : List (List Nat) :=
  ((List.range 1024).map fun i => (List.range 8).map fun w => numAt bs (32 * i + 4 * w) 4).filter
    fun ws => decide (ws.getD 0 0 ≠ 0)

/-- The recorder loads the event tail (R468). -/
def State.loadTail (s : State) : State :=
  let (bs, s) := s.scanBytes .ret 0x1F8000 0x8000
  let recs := if s.bit .nvs NVS_NOREC_MASK 31 then [] else tailRecords bs
  match recs.getLast? with
  | none => { s with recorder := { s.recorder with slots := [], oldest := s.recorder.next } }
  | some last =>
    let after := seqNext (last.getD 0 0)
    let s := s.wholeGood .evr 0 0x80000
    let nx := if 0 < seqDiff s.recorder.next after then s.recorder.next else after
    { s with recorder := { s.recorder with
      slots := recs.foldl (fun t ws => Tab.set (fun k => k) t (ws.getD 0 0 % 16384) [0, 0, 0, 0, 0, 0, 0, 0] ws) []
      oldest := (recs.headD []).getD 0 0
      next := nx } }

/-- Recall, once after the field die powers up (R460, R461, R468): every segment, the stale ones, the power-cycle count,
whether the restart data counts as validly recalled, PFINC cleared after that judgement, and the event tail. The ring
starts at SEQ 1 where segment 28 had no copy. -/
def State.recall (s : State) : State :=
  let t := s.each (List.range 32) fun t g => t.recallSeg g
  let t := t.each (List.range 32) fun t g => t.judgeStale g
  let t := { t with recorder := { t.recorder with pwrcnt := (t.recorder.pwrcnt + 1) % 2 ^ 32 } }.dirty 28
  let good := decide (bits (t.rd .nvs NVS_NOREC_MASK) 0 29 = 0) && decide (bits (t.rd .nvs NVS_STALE_MASK) 0 29 = 0) && !t.pfinc
  let t := t.wr .nvs NVS_STAT_PFINC 0
  let t := t.loadTail
  { t with nvs := { t.nvs with recalled := true, restartValid := good } }

end Sys2Proof.Machine
end

