-- ==== Sys2Proof/Machine/Update.lean ====
section
/-! DEFINITION. Firmware update (R472 to R490): transfers, the service port, verification, activation, trial, fallback. -/

namespace Sys2Proof.Machine

/-! ### Flash -/

/-- A byte of a flash bank. The memory holds complements, so that an erased byte reads 0xFF (R472). -/
def State.flashByte (s : State) (b a : Nat) : Byte := ~~~ (s.byte (.flash b) a)

/-- `n` bytes of a flash bank. -/
def State.flashBytes (s : State) (b a n : Nat) : List Byte := (List.range n).map fun i => s.flashByte b (a + i)

/-- A little-endian number in a flash bank. -/
def State.flashNum (s : State) (b a n : Nat) : Nat := leNat (s.flashBytes b a n)

/-- The running and the staging bank (R473). -/
def State.runBank (s : State) : Nat := s.rd .upd UPD_STAT_RUNBANK
def State.stagingBank (s : State) : Nat := 1 - s.runBank

/-- The sector of fragment `k` in the staging bank is blank (R480). -/
def State.sectorBlank (s : State) (k : Nat) : Bool :=
  (s.mem (.flash s.stagingBank)).all fun e => decide (e.1 < 4096 * k ∨ 4096 * k + 4096 ≤ e.1)

/-- The sector of fragment `k` is erased. -/
def State.eraseSector (s : State) (k : Nat) : State := s.zeroMem (.flash s.stagingBank) (4096 * k) 4096

/-- The sector of fragment `k` takes bytes. -/
def State.programSector (s : State) (k : Nat) (bs : List Byte) : State :=
  s.storeBytes (.flash s.stagingBank) (4096 * k) ((bs.take 4096).map fun b => ~~~ b)

/-! ### State and results -/

/-- UPD_STAT.STATE (R496): 0 IDLE, 1 ERASING, 2 RECEIVING, 3 VERIFYING, 4 READY, 5 BAD; a change raises source 200.
The engine takes a context slot while it verifies (R380); the spec gives its deadline no value. -/
def State.updState (s : State) (v : Nat) : State :=
  if s.rd .upd UPD_STAT_STATE = v then s
  else
    let t := (s.wr .upd UPD_STAT_STATE v).raiseCrown 200
    if v = 3 then let (dl, t) := t.freeNat; t.cryTake updUser dl else t.cryLeave updUser

/-- TRIAL changes; it lives in segment 30 (R448, R496). -/
def State.setTrial (s : State) (v : Nat) : State :=
  if s.rd .upd UPD_STAT_TRIAL = v then s else ((s.wr .upd UPD_STAT_TRIAL v).dirty 30).raiseCrown 200

/-- UPD_STAT.RESULT. -/
def State.updResult (s : State) (c : Nat) : State := s.wr .upd UPD_STAT_RESULT c

/-- The delivery path is the service port: EK-896, or ring mode (R478). -/
def State.svcPath (s : State) : Bool := decide (s.straps.dies = 8) || s.straps.ringEn

/-- Bit `k` of the bitmap (R479). -/
def State.mapBit (s : State) (k : Nat) : Bool := s.bit .upd (UPD_MAP_MAP (k / 32)) (k % 32)

/-- UPD_FRAGS of the transfer that segment 30 records. -/
def State.xferFrags (s : State) : Nat := match s.upd.xfer with | some (_, f) => f | none => 0

/-- The XID of that transfer. -/
def State.xferXid (s : State) : Nat := match s.upd.xfer with | some (x, _) => x | none => 0

/-- Every bit of the bitmap of the recorded transfer is set. -/
def State.mapFull (s : State) : Bool := decide (s.upd.xfer ≠ none ∧ s.rd .upd UPD_HAVE_COUNT = s.xferFrags)

/-- The bitmap is cleared. -/
def State.clearMap (s : State) : State :=
  (s.each (List.range 512) fun t w => t.wr .upd (UPD_MAP_MAP w) 0).wr .upd UPD_HAVE_COUNT 0

/-! ### Transfers -/

/-- BEGIN with an XID and a fragment count (R478, R479): the result, and the state. A resumed transfer that lacks no
fragment is verified again unless its verification stands or has failed. -/
def State.updBegin (s : State) (svc : Bool) (xid frags : Nat) : Nat × State :=
  let st := s.rd .upd UPD_STAT_STATE
  if svc ≠ s.svcPath then (5, s)
  else if st = 1 ∨ st = 3 then (6, s)
  else if s.is .upd UPD_STAT_TRIAL then (7, s)
  else if frags = 0 ∨ 16384 < frags then (4, s)
  else if s.upd.xfer = some (xid, frags) then
    let t := s.offer Ev.UPD_XFER_BEGIN .crown [xid, frags, 1]
    (1, if s.mapFull then (if st = 4 then t else if st = 5 then t.updState 2 else t.updState 3) else t.updState 2)
  else
    let t := ((s.clearMap.wr .upd UPD_XFER_XID xid).wr .upd UPD_FRAGS_COUNT frags).dirty 30
    let t := { t with upd := { t.upd with xfer := some (xid, frags), writing := none, parts := [] } }
    (1, (t.offer Ev.UPD_XFER_BEGIN .crown [xid, frags, 0]).updState 1)

/-- UPD_BEGIN: a write of UPD_CTRL.BEGIN (R479). -/
def execUpdBegin (s : State) : Host.Outcome State Fault Refusal :=
  let (r, t) := s.updBegin false (s.rd .upd UPD_XFER_XID) (s.rd .upd UPD_FRAGS_COUNT)
  .next (t.updResult r)

/-- STAGING_ERASE_DONE: the erase of the staging bank ends (R479). -/
def execStagingEraseDone (s : State) : Host.Outcome State Fault Refusal :=
  .next (if s.rd .upd UPD_STAT_STATE = 1 then (s.setMem (.flash s.stagingBank) []).updState 2 else s)

/-- Steps 1 and 2 of R480: a refusal, or none. -/
def State.fragRefusal (s : State) (svc : Bool) (k : Nat) : Option Nat :=
  if svc ≠ s.svcPath then some 5
  else if s.rd .upd UPD_STAT_STATE ≠ 2 ∨ s.xferFrags ≤ k then some 4
  else if s.upd.writing ≠ none then some 6
  else none

/-- Fragment `k` with its bytes (R480): a result at once, or none while its sector is being programmed. -/
def State.updFragment (s : State) (svc : Bool) (k : Nat) (bs : List Byte) : Option Nat × State :=
  match s.fragRefusal svc k with
  | some r => (some r, s)
  | none =>
    if s.mapBit k then (some Config.updDup.toNat, s)
    else if ¬ s.sectorBlank k then (some Config.updNotBlank.toNat, s.offer Ev.UPD_NOT_BLANK .crown [k])
    else (none, { s with upd := { s.upd with writing := some (k, bs) } })

/-- The bytes of UPD_FRAGBUF (R496). -/
def State.fragBuf (s : State) : List Byte := (List.range 1024).flatMap fun i => leBytes 4 (s.rd .upd (UPD_FRAGBUF_DATA i))

/-- UPD_PUT: a write of UPD_CTRL.PUT (R480). -/
def execUpdPut (s : State) : Host.Outcome State Fault Refusal :=
  let (r, t) := s.updFragment false (s.rd .upd UPD_FRAG_IDX_INDEX) s.fragBuf
  .next (match r with | some c => t.updResult c | none => t)

/-- The erase command for fragment `k` (R481). -/
def State.updErase (s : State) (svc : Bool) (k : Nat) : Nat × State :=
  match s.fragRefusal svc k with
  | some r => (r, s)
  | none =>
    let t := s.eraseSector k
    (1, if s.mapBit k then
      ((t.setBit .upd (UPD_MAP_MAP (k / 32)) (k % 32) false).wr .upd UPD_HAVE_COUNT (s.rd .upd UPD_HAVE_COUNT - 1)).dirty 30
      else t)

/-- UPD_ERASE: a write of UPD_CTRL.ERASE (R481). -/
def execUpdErase (s : State) : Host.Outcome State Fault Refusal :=
  let (r, t) := s.updErase false (s.rd .upd UPD_FRAG_IDX_INDEX)
  .next (t.updResult r)

/-- The 1,040 octets of a service-port reply (R483): OP + 0x0080, RESULT, INDEX, XID, 1,024 octets of DATA with zeros where
there are none, and the CRC-32C of all before it. -/
def svcOctets (op result index xid : Nat) (data : List Nat) : List Nat :=
  let l := octets (0x10000 * (op + 0x80) + result) ++ octets index ++ octets xid ++ data.take 1024 ++
    List.replicate (1024 - data.length) 0
  l ++ octets (crc32c (l.map (BitVec.ofNat 8)))

/-- A service-port reply is sent (R483). -/
def State.svcReply (s : State) (op result index xid : Nat) (data : List Nat := []) : State :=
  s.emit (.svc (svcOctets op result index xid data))

/-- `n` free bytes. -/
def State.freeBytes (s : State) (n : Nat) : List Byte × State :=
  ((List.range n).map fun i => Config.freeByte (s.free + i), { s with free := s.free + n })

/-- The programming of a fragment ends with its read-back (R480, R482); the content of a sector whose read-back fails is
left open. -/
def State.fragmentDone (s : State) (good : Bool) : State :=
  match s.upd.writing with
  | none => s
  | some (k, bs) =>
    let t := { s with upd := { s.upd with writing := none } }
    let (r, t) :=
      if good then
        let t := ((t.programSector k bs).setBit .upd (UPD_MAP_MAP (k / 32)) (k % 32) true).bump .upd UPD_HAVE_COUNT
        let t := t.dirty 30
        (1, if t.mapFull then (t.offer Ev.UPD_XFER_COMPLETE .crown [t.xferXid]).updState 3 else t)
      else
        let (f, t) := t.freeBytes 4096
        (Config.updNotBlank.toNat, t.programSector k f)
    let t := t.updResult r
    if s.svcPath then t.svcReply 2 r k s.xferXid else t

/-- FRAGMENT_PROGRAM_DONE: a fragment's programming ends, with whether its read-back matches (R480). -/
def execFragmentProgramDone (good : Bool) (s : State) : Host.Outcome State Fault Refusal := .next (s.fragmentDone good)

/-! ### Verification (R484) -/

/-- Every byte of a stretch of a header is 0. -/
def State.flashZero (s : State) (b a n : Nat) : Bool := (s.flashBytes b a n).all fun x => decide (x = 0)

/-- BODY_LEN of the image in a bank. -/
def State.bodyLen (s : State) (b : Nat) : Nat := s.flashNum b 20 4

/-- VERSION and SECVER of the image in a bank. -/
def State.imgVersion (s : State) (b : Nat) : Nat := s.flashNum b 12 4
def State.imgSecver (s : State) (b : Nat) : Nat := s.flashNum b 16 4

/-- FRAGS of an image of `body` bytes (R479). -/
def fragsOf (body : Nat) : Nat := (512 + body + 4095) / 4096

/-- The bit of VARIANTS for a number of dies (R474). -/
def variantBit (dies : Nat) : Nat := if dies = 2 then 0 else if dies = 4 then 1 else 2

/-- A key slot is programmed, usable and not revoked (R476, R477). -/
def State.slotGood (s : State) (i : Nat) : Bool :=
  s.bit .cry CRY_KSTAT_PROG i && !s.cry.dead.testBit i && !(decide (i < 4) && s.bit .cry CRY_KSTAT_REVOKED i)

/-- The content of a key slot. -/
def State.keyOf (s : State) (i : Nat) : List Nat := Tab.get s.cry.keys i []

/-- Check 2: header fields and lengths. -/
def State.formatOk (s : State) (b : Nat) : Bool :=
  decide (s.flashNum b 0 4 = 0x4B454D47 ∧ s.flashNum b 4 2 = 1 ∧ 1 ≤ s.bodyLen b ∧ s.bodyLen b ≤ 67108352) &&
    decide ((s.flashByte b 7).toNat < 8) && s.flashZero b 9 3 && s.flashZero b 52 12 && s.flashZero b 160 96 &&
    s.flashZero b 352 160 && (decide (b ≠ s.stagingBank) || s.upd.xfer.isNone || decide (s.xferFrags = fragsOf (s.bodyLen b)))

/-- Checks 3 to 7 on a bank. -/
def State.imageChecks (s : State) (b : Nat) : Nat :=
  let key := (s.flashByte b 6).toNat
  let pub := s.flashBytes b 64 96
  let aad := s.flashBytes b 0 256
  let body := s.flashBytes b 512 (s.bodyLen b)
  if ¬ ((s.flashByte b 7).toNat.testBit (variantBit s.straps.dies) ∧ s.flashByte b 8 = 0xA1) then 0x12
  else if ¬ (key < 4 ∧ s.slotGood key ∧ Config.sha384 pub = s.keyOf key) then 0x13
  else if ¬ Config.ecdsaP384 pub (s.flashBytes b 256 96) (Config.sha384 (aad ++ body)) then 0x14
  else if s.imgSecver b < s.rd .upd UPD_SECVER_FLOOR then 0x15
  else if ¬ (s.slotGood 4 ∧ Config.gcmTag (s.keyOf 4) (s.flashBytes b 24 12) (s.flashBytes b 36 16) aad body) then 0x16
  else 1

/-- The checks of R484 on a bank; check 1 counts for the staging bank alone. -/
def State.verifyBank (s : State) (b : Nat) (whole : Bool) : Nat :=
  if whole && decide (b = s.stagingBank) && !s.mapFull then 0x10
  else if ¬ s.formatOk b then 0x11
  else s.imageChecks b

/-- A failure of verification is recorded (R484). -/
def State.verifyRecord (s : State) (b r : Nat) : State := if r = 1 then s else s.offer Ev.UPD_VERIFY_FAIL .crown [b, r]

/-- Verification of the staging bank ends (R482). -/
def State.verifyDone (s : State) : State :=
  if s.rd .upd UPD_STAT_STATE = 3 ∧ s.ctxCry.waits updUser = false then
    let r := s.verifyBank s.stagingBank true
    ((s.verifyRecord s.stagingBank r).updResult r).updState (if r = 1 then 4 else 5)
  else s

/-- UPD_VERIFY_DONE: verification of a complete staging bank ends (R482). -/
def execUpdVerifyDone (s : State) : Host.Outcome State Fault Refusal := .next s.verifyDone

/-! ### Activation (R485, R486) -/

/-- The filtered state of a field input. -/
def State.inputOn (s : State) (i : Nat) : Bool := s.bit .din DIN_STATE_STATE i

/-- The web gate (R485). -/
def State.gateWeb (s : State) : Bool :=
  s.field.keepLineRun || !s.is .lsw LSW_STAT_KEEPOK ||
    (s.is .upd UPD_GATE_MOTEN && s.inputOn (s.rd .upd UPD_GATE_MOTION))

/-- The VBAT gate and the owner-lock gate. -/
def State.gateVbat (s : State) : Bool := s.is .rtc RTC_STAT_VBATLOW
def State.gateLock (s : State) : Bool := s.is .upd UPD_LOCK_LOCK

/-- The code of the first gate that holds. -/
def State.gateCode (s : State) : Option Nat :=
  if s.gateWeb then some 0x21 else if s.gateVbat then some 0x22 else if s.gateLock then some 0x23 else none

/-- Activation is refused with a code (R485). -/
def State.actRefuse (s : State) (svc : Bool) (c : Nat) : State :=
  let t := (s.updResult c).offer Ev.UPD_ACTIVATE_REFUSED .crown [c]
  if svc then t.svcReply 5 c 0 s.xferXid else t

/-- A request for activation (R485). -/
def State.activate (s : State) (svc : Bool) : State :=
  if s.rd .upd UPD_STAT_STATE ≠ 4 then s.actRefuse svc Config.updNotReady.toNat
  else if s.is .upd UPD_STAT_TRIAL then s.actRefuse svc 7
  else
    match s.gateCode with
    | some c => s.actRefuse svc c
    | none =>
      let b := s.stagingBank
      let t := { s with upd := { s.upd with bootsel := b, act := some { boot := s.upd.bootsel, trial := 0, svc := svc } } }
      let t := ((t.setTrial 1).wr .upd UPD_TRIALSTAT_BOOTS 0).wr .upd UPD_TRIALSTAT_RUNSEC 0
      ((t.dirty 30).requestStore (2 ^ 30)).offer Ev.UPD_ACTIVATED .crown [b, s.imgVersion b]

/-- UPD_ACTIVATE: a write of UPD_CTRL.ACTIVATE (R485). -/
def execUpdActivate (s : State) : Host.Outcome State Fault Refusal := .next (s.activate false)

/-- The store of segment 30 has ended: the gates are checked again (R485). -/
def State.activateRecheck (s : State) : State :=
  match s.upd.act with
  | none => s
  | some a =>
    if s.bit .nvs NVS_PEND_PEND 30 ∨ (s.nvs.run.map fun r => r.seg) = some 30 then s
    else
      let t := { s with upd := { s.upd with act := none } }
      match s.gateCode with
      | some c =>
        let t := { t with upd := { t.upd with bootsel := a.boot } }.setTrial a.trial
        ((t.dirty 30).requestStore (2 ^ 30)).actRefuse a.svc c
      | none => ((if a.svc then t.svcReply 5 1 0 s.xferXid else t).updResult 1).packageReset 6

/-- ACTIVATE_RECHECK: the store of segment 30 that an activation waits for has ended (R485). -/
def execActivateRecheck (s : State) : Host.Outcome State Fault Refusal := .next s.activateRecheck

/-- UPD_LOCK_SET: a write of UPD_LOCK.SET (R486). -/
def execUpdLockSet (s : State) : Host.Outcome State Fault Refusal := .next ((s.wr .upd UPD_LOCK_LOCK 1).dirty 30)

/-- UPD_UNLOCK: a write of UPD_LOCK.UNLOCK (R486). -/
def execUpdUnlock (s : State) : Host.Outcome State Fault Refusal :=
  .next (if ¬ s.is .upd UPD_GATE_KEYEN ∨ s.inputOn (s.rd .upd UPD_GATE_KEYIN) then (s.wr .upd UPD_LOCK_LOCK 0).dirty 30 else s)

/-! ### Service port (R483) -/

/-- A service-port request with a good CRC is answered: UPD_NAP in nap, UPD_RANGE for another XID, else by `f`; with a
bad CRC, or while the package is in reset, it is not answered. -/
def State.svcRequest (s : State) (crc : Bool) (op index xid : Nat) (needXid : Bool) (f : State → State) : State :=
  if ¬ crc ∨ s.pwr.phase = .off ∨ s.pwr.phase = .reset then s
  else if s.pwr.phase = .nap then s.svcReply op 8 index xid
  else if needXid ∧ s.upd.xfer.map Prod.fst ≠ some xid then s.svcReply op 4 index xid
  else f s

/-- SVC_BEGIN: a BEGIN request with INDEX = FRAGS (R483). -/
def execSvcBegin (crc : Bool) (index xid : Nat) (s : State) : Host.Outcome State Fault Refusal :=
  .next (s.svcRequest crc 1 index xid false fun s =>
    let (r, t) := s.updBegin true xid index
    (t.updResult r).svcReply 1 r index xid)

/-- A part of a fragment is held; the fourth completes it (R483). -/
def State.svcPart (s : State) (part index : Nat) (data : List Nat) : State :=
  if ¬ s.svcPath then s.svcReply 2 5 index s.xferXid
  else if 3 < part then s.svcReply 2 4 index s.xferXid
  else
    let held := if s.upd.partIdx = index then s.upd.parts else []
    let bs := (data.take 1024).map fun b => BitVec.ofNat 8 b
    let held := Tab.set (fun k => k) held part [] bs
    let t := { s with upd := { s.upd with partIdx := index, parts := held } }
    if held.length = 4 then
      let t := { t with upd := { t.upd with parts := [] } }
      let (r, t) := t.updFragment true index (held.flatMap Prod.snd)
      match r with
      | some c => (t.updResult c).svcReply 2 c index s.xferXid
      | none => t
    else t.svcReply 2 1 index s.xferXid

/-- SVC_FRAGMENT_PART: a fragment part with its 1,024 bytes (R483). -/
def execSvcFragmentPart (crc : Bool) (part index xid : Nat) (data : List Nat) (s : State) : Host.Outcome State Fault Refusal :=
  .next (s.svcRequest crc 2 index xid true fun s => s.svcPart part index data)

/-- SVC_ERASE: an erase request (R483). -/
def execSvcErase (crc : Bool) (index xid : Nat) (s : State) : Host.Outcome State Fault Refusal :=
  .next (s.svcRequest crc 3 index xid true fun s =>
    let (r, t) := s.updErase true index
    (t.updResult r).svcReply 3 r index xid)

/-- The octets of a status reply: bitmap bits from `index`, the first in bit 7 (R483). -/
def State.statusOctets (s : State) (index : Nat) : List Nat :=
  (List.range 1024).map fun o => ((List.range 8).map fun j =>
    if decide (index + 8 * o + j < 16384) && s.mapBit (index + 8 * o + j) then 2 ^ (7 - j) else 0).sum

/-- SVC_STATUS: a status request (R483). -/
def execSvcStatus (crc : Bool) (index xid : Nat) (s : State) : Host.Outcome State Fault Refusal :=
  .next (s.svcRequest crc 4 index xid true fun s => s.svcReply 4 1 index xid (s.statusOctets index))

/-- SVC_ACTIVATE: an activate request (R483, R485). -/
def execSvcActivate (crc : Bool) (xid : Nat) (s : State) : Host.Outcome State Fault Refusal :=
  .next (s.svcRequest crc 5 0 xid true fun s => if s.svcPath then s.activate true else s.svcReply 5 5 0 xid)

/-! ### Trial (R487 to R489) -/

/-- The recorded transfer is cleared (R489). -/
def State.clearXfer (s : State) : State :=
  { (s.wr .upd UPD_XFER_XID 0).dirty 30 with upd := { s.upd with xfer := none, writing := none, parts := [] } }

/-- A write to UPD_CONFIRM (R489). -/
def State.confirm (s : State) (w : Nat) : State :=
  if UPD_CONFIRM_KEY.of w = 0xA5 ∧ s.is .upd UPD_STAT_TRIAL then
    let sv := s.imgSecver s.runBank
    let t := ((s.setTrial 0).wr .upd UPD_TRIALSTAT_HELD 0).wr .upd UPD_SECVER_FLOOR (max (s.rd .upd UPD_SECVER_FLOOR) sv)
    (t.clearXfer.requestStore (2 ^ 30)).offer Ev.UPD_CONFIRMED .crown [s.imgVersion s.runBank, sv]
  else s

/-- UPD_CONFIRM: a write of `w` to UPD_CONFIRM (R489). -/
def execUpdConfirm (w : Nat) (s : State) : Host.Outcome State Fault Refusal := .next (s.confirm w)

/-- The fallback starts (R488): the old bank, no trial, segment 30 stored, and a package reset. -/
def State.fallback (s : State) : State :=
  let b := s.stagingBank
  let t := { s with upd := { s.upd with bootsel := b } }
  let t := ((t.setTrial 0).wr .upd UPD_TRIALSTAT_HELD 0).clearXfer.updState 0
  (t.offerAtBoot Ev.UPD_FALLBACK .crown [b, 2]).resetAfterStore 7 30

/-- The trial's run time has reached its limit (R488). -/
def State.trialExpiry (s : State) : State :=
  if s.is .upd UPD_STAT_TRIAL ∧ s.upd.act = none ∧ ¬ s.is .upd UPD_TRIALSTAT_HELD ∧
      s.rd .upd UPD_TRIAL_SECONDS ≤ s.rd .upd UPD_TRIALSTAT_RUNSEC then
    if s.gateWeb then (s.wr .upd UPD_TRIALSTAT_HELD 1).offer Ev.UPD_TRIAL_HELD .crown else s.fallback
  else s

/-- TRIAL_EXPIRY: the trial run time reaches its limit (R488). -/
def execTrialExpiry (s : State) : Host.Outcome State Fault Refusal := .next s.trialExpiry

/-- TRIAL_FALLBACK: the web gate stops holding a fallback back (R488). -/
def execTrialFallback (s : State) : Host.Outcome State Fault Refusal :=
  .next (if s.is .upd UPD_STAT_TRIAL ∧ s.is .upd UPD_TRIALSTAT_HELD ∧ ¬ s.gateWeb then s.fallback else s)

/-- One second of operating time passes in a trial (R488). -/
def State.trialSecond (s : State) : State :=
  if s.is .upd UPD_STAT_TRIAL then (s.bump .upd UPD_TRIALSTAT_RUNSEC).dirty 30 else s

end Sys2Proof.Machine
end

