-- ==== Sys2Proof/Machine/Clock.lean ====
section
/-! DEFINITION. The passing of time: what one nanosecond brings without any command (R14, R18, R310, R428, R438, R466). -/

namespace Sys2Proof.Machine

/-- Crystal ticks, at 32,768 Hz, from one instant in ns to the next (R428). -/
def crystalTicks (now : Nat) : Nat := (now + 1) * 32768 / 1000000000 - now * 32768 / 1000000000

/-- One tick of the crystal: a requested load takes place at it (R428, R430). -/
def State.crystal (s : State) : State := if s.is .rtc RTC_CTRL_SET then s.rtcLoad else s.rtcTick

/-- What the timebase counts while one ns passes: one ns, and what the rate correction, in parts per 10^9, adds (R438). -/
def Tmb.inc (m : Tmb) : Nat := (1 + (m.rateAcc + m.rate) / 1000000000).toNat

/-- The package time counts on (R18, R438). -/
def Tmb.tick (m : Tmb) : Tmb :=
  { m with
    count := (m.count + m.inc) % 2 ^ 64
    ran := m.ran + m.inc
    rateAcc := (m.rateAcc + m.rate) % 1000000000 }

/-- Operating time goes on by some ns; a trial counts its whole seconds (R464, R488). -/
def State.operate (s : State) (n : Nat) : State :=
  let t := { s with recorder := { s.recorder with opNs := s.recorder.opNs + n } }
  if s.recorder.opNs / 1000000000 = t.recorder.opNs / 1000000000 then t else t.trialSecond

/-- One nanosecond passes: package time and operating time while the crown die's timebase is clocked, and the real-time
clock always; a standby link whose last message has ended sends the next one that waits (R310). -/
def State.tick (s : State) : State :=
  let t := if crystalTicks s.now = 0 then s else s.crystal
  let t := { t with now := t.now + 1 }
  if t.bit .crownNode CLK_LOCK_LOCK 1 && t.crownRuns then
    ({ t with tmb := t.tmb.tick }.operate t.tmb.inc).sbPumps
  else t

end Sys2Proof.Machine
end

