-- ==== Sys2Proof/Machine/Hood.lean ====
section
/-! DEFINITION. Control hoods (R154 to R167): loading, blocking in a single unit and in a pair. -/

namespace Sys2Proof.Machine

/-! ### Conversions (R124, R154) -/

/-- The integer that bytes of an Evoek type hold. -/
def typedInt (type : Nat) (bs : List Byte) : Int :=
  if Config.typeSigned type then toSigned (8 * bs.length) (leNat bs) else leNat bs

/-- An integer saturated to the range of a type and size (R154). -/
def saturateTo (type size : Nat) (i : Int) : Int :=
  if Config.typeSigned type then max (-(2 ^ (8 * size - 1) : Int)) (min i ((2 : Int) ^ (8 * size - 1) - 1))
  else max 0 (min i ((2 : Int) ^ (8 * size) - 1))

/-- A natural number rounded to 24 significant bits, to nearest even: exponent and significand (R124). -/
def round24 (m : Nat) : Nat × Nat :=
  let e := Nat.log2 m
  if e ≤ 23 then (e, m * 2 ^ (23 - e))
  else
    let q := m / 2 ^ (e - 23)
    let r := m % 2 ^ (e - 23)
    let h := 2 ^ (e - 24)
    let q := if h < r ∨ (r = h ∧ q % 2 = 1) then q + 1 else q
    if q = 2 ^ 24 then (e + 1, 2 ^ 23) else (e, q)

/-- An integer as binary32 (R124, ITOF). -/
def intToReal (i : Int) : Nat :=
  if i = 0 then 0
  else
    let (e, q) := round24 i.natAbs
    (if i < 0 then 2 ^ 31 else 0) + (e + 127) * 2 ^ 23 + (q - 2 ^ 23)

/-- A binary32 as a signed 32-bit integer, truncated toward zero and saturated; NaN gives 0 (R124, FTOI). -/
def realToInt (w : Nat) : Int :=
  let e := bits w 23 8
  let f := bits w 0 23
  if e = 255 ∧ f ≠ 0 then 0
  else
    let m := 2 ^ 23 + f
    let v : Nat := if e < 127 then 0 else if 158 < e then 2 ^ 31 else if 150 ≤ e then m * 2 ^ (e - 150) else m / 2 ^ (150 - e)
    if w.testBit 31 then max (-2147483648) (-(v : Int)) else min 2147483647 v

/-- A variable's bytes at their new size: copied or cut for kinds 0 and 4, converted for kinds 1 to 3 (R154). Bytes of a
kind that the spec does not list are free. -/
def convert (mv : Move) (free : Nat) (bs : List Byte) : List Byte :=
  match mv.conv with
  | 1 => leBytes mv.newSize (ofSigned (8 * mv.newSize) (saturateTo mv.newType mv.newSize (typedInt mv.type bs)))
  | 2 => leBytes mv.newSize (intToReal (typedInt mv.type bs))
  | 3 => leBytes mv.newSize (ofSigned (8 * mv.newSize) (realToInt (leNat bs)))
  | 0 | 4 => leBytes mv.newSize (leNat bs)
  | _ => (List.range mv.newSize).map fun i => Config.freeByte (free + i)

/-! ### Loading (R156 to R158) -/

/-- Two entries overlap. -/
def MapEntry.meets (x y : MapEntry) : Bool :=
  decide (0 < x.size ∧ 0 < y.size ∧ x.addr < y.addr + y.size ∧ y.addr < x.addr + x.size)

/-- Two entries are of equal type: equal type code and size (R154). -/
def MapEntry.sameType (x y : MapEntry) : Bool := decide (x.type = y.type ∧ x.size = y.size)

/-- Two entries name the same variable at the same place, of equal type (R155). -/
def MapEntry.agrees (x y : MapEntry) : Bool := decide (x.id = y.id ∧ x.addr = y.addr) && x.sameType y

/-- Entries of a list that differ pairwise in VAR_ID and do not overlap (R156). -/
def entriesOk : List MapEntry → Bool
  | [] => true
  | e :: es => (es.all fun x => decide (x.id ≠ e.id) && !x.meets e) && entriesOk es

/-- The running entries of every other core of the package. -/
def State.otherEntries (s : State) (d k : Nat) : List MapEntry :=
  (s.coresList.filter fun c => decide (c ≠ (d, k))).flatMap fun c => s.runMap c.1 c.2

/-- An address lies in the control image. -/
def inImage (a : Nat) : Bool := decide (imgBase ≤ a ∧ a < imgBase + 0x1000000)

/-- An entry agrees with R155: an IMPORT entry with its owner's running entry, another entry in the control image with
no other core's. -/
def shareOk (others : List MapEntry) (e : MapEntry) : Bool :=
  if e.imported then others.any fun o => !o.imported && o.agrees e
  else !inImage e.addr || others.all fun o => o.imported || !o.meets e

/-- Every IMPORT entry of another core that names a variable of the running map finds it unchanged in the hood's map
(R156). -/
def importsKept (run new others : List MapEntry) : Bool :=
  (others.filter MapEntry.imported).all fun o =>
    !(run.any fun r => !r.imported && decide (r.id = o.id ∧ r.addr = o.addr)) || new.any fun n => !n.imported && n.agrees o

/-- The initial value of an entry (R154). -/
def State.initBytes (s : State) (m : LMap) (e : MapEntry) : List Byte :=
  if e.initOff = 0xFFFFFFFF then List.replicate e.size 0 else ((s.engineRead (m.init + e.initOff) e.size).1).getD (List.replicate e.size 0)

/-- The moves and conversions of a hood, and the entries to be initialised (R157). IMPORT entries are not sorted: their
variables are another core's, so they are neither initialised nor moved; the spec does not say (DESIGN CHOICE, log entry
158). -/
def sortEntries (run new : List MapEntry) : List Move × List MapEntry :=
  let own := new.filter fun e => !e.imported
  let old := fun e : MapEntry => run.find? fun r => !r.imported && decide (r.id = e.id)
  (own.filterMap fun e =>
    match old e with
    | none => none
    | some r =>
      let mv : Move := { src := r.addr, dst := e.addr, size := r.size, newSize := e.size, conv := e.conv, type := r.type, newType := e.type }
      if r.sameType e then (if r.addr = e.addr then none else some { mv with conv := 0 })
      else if e.conv ≠ 0 then some mv else none,
   own.filter fun e =>
    match old e with
    | none => true
    | some r => !r.sameType e && decide (e.conv = 0))

/-- HOOD_COST in ns, rounded up; a converted variable counts with its old size, which the spec leaves open (R158; DESIGN
CHOICE, log entry 165). -/
def hoodCost (moves : List Move) (inits : List MapEntry) : Nat :=
  (6000 + 2 * (moves.map Move.size).sum + (inits.map MapEntry.size).sum + 160 * (moves.filter fun m => decide (m.conv ≠ 0)).length + 3) / 4

/-- The hood bank of a core (R44). -/
def State.hoodBank (s : State) (d k : Nat) : MemId := .bank d k (1 - (s.core d k).bank)

/-- A checked map is accepted: what can be initialised now is, the rest is kept for blocking; cost and digest are set
(R157, R158). -/
def State.hoodAccept (s : State) (d k : Nat) (m : LMap) : State :=
  let run := s.runMap d k
  let (moves, inits) := sortEntries run m.entries
  let later := inits.filter fun e => run.any fun r => r.meets e
  let t := s.each (inits.filter fun e => !(run.any fun r => r.meets e)) fun t e => t.putVar d k e.addr (s.initBytes m e)
  let plan : HoodPlan := { moves := moves, inits := later.map fun e => (e.addr, s.initBytes m e), recs := m.recs }
  let t := t.setCore d k { t.core d k with hood := { plan := some plan } }
  let (bank, t) := t.scanBytes (t.hoodBank d k) 0 0x80000
  let digest := crc32c (bank ++ m.bytes)
  (t.hoodEnd d k 1 1).wrs (.core d k) [(HOOD_COST_NS, hoodCost moves later), (HOOD_DIGEST_CRC, digest)]

/-- HOOD_LOAD, which refuses without changing a request that runs (R156, R375; log entry 159): `parcels` parcels from `code`, the map at `map` × 256. The result code and the state. -/
def State.hoodLoad (s : State) (d k code parcels map : Nat) : Nat × State :=
  let b := Blk.core d k
  if 2 ≤ s.rd b HOOD_STAT_STATE then (4, s.hoodRes d k 4)
  else
    let t := (s.wr b HOOD_STAT_STATE 0).wr b HOOD_MAP_NEW_ADDR map
    let (bs, t) := t.engineRead code (2 * parcels)
    match bs with
    | none => (6, t.hoodRes d k 6)
    | some bs =>
      let t := (t.writeBytes (t.hoodBank d k) 0 bs).2
      match t.readMap (256 * map) with
      | (none, t) => (6, t.hoodRes d k 6)
      | (some m, t) =>
        let others := t.otherEntries d k
        if ¬ m.valid d k then (6, t.hoodRes d k 6)
        else if ¬ (entriesOk m.entries && m.entries.all (shareOk others) && importsKept (t.runMap d k) m.entries others) then
          (5, t.hoodRes d k 5)
        else (1, t.hoodAccept d k m)

/-! ### The request -/

/-- A write of BLOCK (R160, R161, R165, R166). -/
def State.hoodBlock (s : State) (d k : Nat) : State :=
  let b := Blk.core d k
  let st := s.rd b HOOD_STAT_STATE
  if st = 0 then s.hoodRes d k 3
  else if st ≠ 1 then s
  else
    let h := { (s.core d k).hood with until_ := s.tb + s.rd b HOOD_WAIT_MS * 1000000, look := none, hold := none, atGot := none, miss := none }
    if s.inPair then
      if ¬ s.isActive then s.hoodRes d k 8
      else if ¬ s.refValidTask d k then s.hoodRes d k 0x0C
      else
        let n0 := (s.rd b (TASK_RELNUM_NUM (s.rd b HOOD_CTRL_REF)) + 2) % 2 ^ 32
        let t := s.setCore d k { s.core d k with hood := { h with n0 := n0 } }
        (t.wrs b [(HOOD_STAT_STATE, 2), (HOOD_CTRL_BLOCK, 1)]).hsbSend .arm [coreNo d k, s.rd b HOOD_DIGEST_CRC, n0]
    else (s.setCore d k { s.core d k with hood := h }).wrs b [(HOOD_STAT_STATE, 3), (HOOD_CTRL_BLOCK, 1)]

/-- A write of ABORT ends a WAITING or ARMED request (R159). -/
def State.hoodAbort (s : State) (d k : Nat) : State :=
  let st := s.rd (.core d k) HOOD_STAT_STATE
  if st = 2 ∨ st = 3 then s.requestEnd d k 0x0B else s

/-- A write of `w` to HOOD_CTRL: REF, then ABORT, then BLOCK (R159). -/
def State.hoodCtrl (s : State) (d k w : Nat) : State :=
  let t := s.wr (.core d k) HOOD_CTRL_REF (HOOD_CTRL_REF.of w)
  let t := if w.testBit 1 then t.hoodAbort d k else t
  if w.testBit 0 then t.hoodBlock d k else t

/-- TASK_ENABLE: a write of `w` with EN = 1 to TASK_CFG of task `t` (R135). -/
def execTaskEnable (d k t w : Nat) (s : State) : Host.Outcome State Fault Refusal :=
  .next (if s.hasNode (.core d k) ∧ t < 16 ∧ w % 2 = 1 then (s.taskCfg d k t w).hoodRefCheck d k else s)

/-- TASK_DISABLE: a write of `w` with EN = 0 to TASK_CFG of task `t` (R135). -/
def execTaskDisable (d k t w : Nat) (s : State) : Host.Outcome State Fault Refusal :=
  .next (if s.hasNode (.core d k) ∧ t < 16 ∧ w % 2 = 0 then (s.taskCfg d k t w).hoodRefCheck d k else s)

/-- HOOD_BLOCK: a write of HOOD_CTRL.BLOCK (R160, R161). -/
def execHoodBlock (d k : Nat) (s : State) : Host.Outcome State Fault Refusal :=
  .next (if s.hasNode (.core d k) then s.hoodBlock d k else s)

/-- HOOD_ABORT: a write of HOOD_CTRL.ABORT (R159). -/
def execHoodAbort (d k : Nat) (s : State) : Host.Outcome State Fault Refusal :=
  .next (if s.hasNode (.core d k) then s.hoodAbort d k else s)

/-! ### Blocking -/

/-- The core is idle: every enabled task IDLE, none with work in hand, no frame, no background (R161). -/
def State.coreIdle (s : State) (d k : Nat) : Bool :=
  decide (s.tasksIn d k [2, 3, 4, 5] = []) && decide (s.rd (.core d k) CORE_TRAP_DEPTH = 0) && decide ((s.core d k).ctx = .idle) &&
  !s.hasBackground d k

/-- The first due time of a cyclic task from a package time on (R136). -/
def State.dueFrom (s : State) (d k t x : Nat) : Nat :=
  let b := Blk.core d k
  let p := s.rd b (TASK_PERIOD_PERIOD t) * 1000
  let ph := s.rd b (TASK_PHASE_PHASE t) * 1000
  if p = 0 ∨ x ≤ ph then ph else ph + (x - ph + p - 1) / p * p

/-- The next due time of a cyclic task after what has been taken; after a backward step, the first whose number is above
TASK_RELNUM (R136, R137). -/
def State.nextDue (s : State) (d k t : Nat) : Nat :=
  let r := s.task d k t
  if r.backs = s.tmb.backs then s.dueFrom d k t (r.seen + 1)
  else
    let y := s.dueFrom d k t s.tmb.count
    let back := (s.rd (.core d k) (TASK_RELNUM_NUM t) + 1 + 2 ^ 32 - s.dueNum d k t y) % 2 ^ 32
    if back < 2 ^ 31 then y + back * (s.rd (.core d k) (TASK_PERIOD_PERIOD t) * 1000) else y

/-- The due time of the release of REF after release `n` has come (R166). -/
def State.refPast (s : State) (d k n : Nat) : Bool :=
  match s.lastDue d k (s.rd (.core d k) HOOD_CTRL_REF) with
  | none => false
  | some l =>
    let δ := (s.dueNum d k (s.rd (.core d k) HOOD_CTRL_REF) l + 2 ^ 32 - n) % 2 ^ 32
    decide (0 < δ ∧ δ < 2 ^ 31)

/-- A gap: the core is idle and not frozen, and no cyclic due time lies within HOOD_COST (R161). -/
def State.gap (s : State) (d k : Nat) : Bool :=
  let b := Blk.core d k
  s.coreIdle d k && s.coreLive d k && (List.range 16).all fun t =>
    !s.is b (TASK_CFG_EN t) || s.is b (TASK_CFG_KIND t) || decide (s.tmb.count + s.rd b HOOD_COST_NS ≤ s.nextDue d k t)

/-- Step 1 of R162: the values of the moved and converted variables, as they go to their new places. -/
def State.stage (s : State) (d k : Nat) : List Move → List (Nat × List Byte) × State
  | [] => ([], s)
  | m :: ms =>
    let (bs, t) := s.varBytes d k m.src m.size
    let (l, u) := { t with free := t.free + m.newSize }.stage d k ms
    ((m.dst, convert m t.free bs) :: l, u)

/-- Steps 1 to 3 of R162: every value is read before any is written. -/
def State.carryOver (s : State) (d k : Nat) (p : HoodPlan) : State :=
  let (staged, t) := s.stage d k p.moves
  let t := t.each staged fun t e => t.putVar d k e.1 e.2
  let t := t.each p.inits fun t e => t.putVar d k e.1 e.2
  t

/-- A task record is loaded (R154, R162, R163): a task that stays enabled and cyclic with the same PERIOD and PHASE keeps
its due times; another enabled one falls due from now on; settings out of range set CFGERR (R135). A task that fell due during
blocking stays READY. An event task's release count starts again at 0, also where the task stays enabled (DESIGN CHOICE, log
entry 157). -/
def State.loadRec (s : State) (d k t : Nat) (ws : List Nat) : State :=
  let b := Blk.core d k
  let w := fun i => ws.getD i 0
  let same := s.is b (TASK_CFG_EN t) && !s.is b (TASK_CFG_KIND t) && decide (s.rd b (TASK_PERIOD_PERIOD t) = w 1 ∧ s.rd b (TASK_PHASE_PHASE t) = w 2) &&
    !(w 0).testBit 1
  let u := s.wrOf b [TASK_CFG_KIND t, TASK_CFG_PRIO t, TASK_CFG_SRC t, TASK_CFG_SRCEN t] (w 0)
  let u := u.wrs b [(TASK_PERIOD_PERIOD t, w 1), (TASK_PHASE_PHASE t, w 2), (TASK_ENTRY_ENTRY t, w 3)]
  let u := u.wr b (TASK_IMG_ADDR t) ((TASK_IMG_ADDR t).of (w 4))
  let u := if (TASK_IMG_COUNT t).of (w 4) ≤ 64 then u.wr b (TASK_IMG_COUNT t) ((TASK_IMG_COUNT t).of (w 4)) else u
  let u := u.wrOf b [TASK_SPILL_LIMIT t, TASK_SPILL_BASE t] (w 5)
  let bad := decide (w 0 % 2 = 1) && !(w 0).testBit 1 && decide (w 1 < 25 ∨ w 1 ≤ w 2)
  let en := decide (w 0 % 2 = 1) && !bad
  let u := if bad then u.wr b (TASK_STAT_CFGERR t) 1 else u
  let u := (u.wrB b (TASK_CFG_EN t) en).setTaskState d k t (if en then (if u.taskState d k t = 2 then 2 else 1) else 0)
  if same ∧ en then u else u.setTask d k t { u.task d k t with seen := u.tmb.count, backs := u.tmb.backs, count := 0 }

/-- Steps 4 to 7 of R162, and the record of a truncated synced region (R325). -/
def State.exchange (s : State) (d k : Nat) (p : HoodPlan) : State :=
  let b := Blk.core d k
  let num := s.rd b (TASK_RELNUM_NUM (s.rd b HOOD_CTRL_REF))
  let t := s.each (List.range 16) fun t i => t.loadRec d k i (p.recs.getD i [])
  let t := t.setCore d k { t.core d k with bank := 1 - (t.core d k).bank }
  let t := t.wrs b [(HOOD_MAP_RUN_ADDR, t.rd b HOOD_MAP_NEW_ADDR), (HOOD_BLKNUM_NUM, num)]
  let t := (t.hoodEnd d k 0 1).offer Ev.HOOD_BLOCKED (.core d k)
  if t.syncTrunc d k then t.offer Ev.EQ_TRUNC (.core d k) else t

/-- Blocking begins: state BLOCKING, and steps 1 to 3 (R162). -/
def State.blockBegin (s : State) (d k : Nat) : State :=
  match (s.core d k).hood.plan with
  | none => s
  | some p => (s.carryOver d k p).wr (.core d k) HOOD_STAT_STATE 4

/-- Blocking ends: steps 4 to 7, and in a standby the release of the held due times afterwards (R162, R166). -/
def State.blockEnd (s : State) (d k : Nat) : State :=
  match (s.core d k).hood.plan with
  | none => s
  | some p => (s.exchange d k p).endHold d k

/-- A blocking in progress in some nodes is finished (R164). -/
def State.finishBlocks (s : State) (l : List Node) : State :=
  s.each l fun t n =>
    match n with
    | .core d k => if t.rd (.core d k) HOOD_STAT_STATE = 4 then t.blockEnd d k else t
    | _ => t

/-- The standby may block: AT of the release that has ended has come, and its core is idle with due times still held
(R166). -/
def State.standbyReady (s : State) (d k : Nat) : Bool :=
  let h := (s.core d k).hood
  h.atGot.isSome && decide (h.atGot.map Prod.fst = h.look) && h.hold.isSome && s.coreIdle d k

/-- The core blocks if it may: in a single unit at a gap within HOOD_WAIT; in an active unit at a gap between the end of a
release N ≥ N0 of REF and the due time of the next, sending AT(N); in a standby once AT has come and its core is idle. A
blocking in progress ends (R161, R162, R166). -/
def State.blocking (s : State) (d k : Nat) : State :=
  let h := (s.core d k).hood
  let st := s.rd (.core d k) HOOD_STAT_STATE
  if st = 4 then s.blockEnd d k
  else if st ≠ 3 then s
  else if s.inPair then
    if s.isActive then
      match h.look with
      | some n => if s.gap d k && !s.refPast d k n then (s.blockBegin d k).hsbSend .atN [coreNo d k, n] else s
      | none => s
    else if s.standbyReady d k then s.blockBegin d k else s
  else if s.gap d k ∧ s.tb ≤ h.until_ then s.blockBegin d k else s

/-- BLOCKING: core `k` of die `d` stands at a gap and begins to block, with steps 1 to 3; the next such command ends the
blocking with steps 4 to 7 (R162). That the two halves are one command each is the model's choice (DESIGN CHOICE, log entry
156). -/
def execBlocking (d k : Nat) (s : State) : Host.Outcome State Fault Refusal :=
  .next (if s.hasNode (.core d k) then s.blocking d k else s)

/-- HOOD_WAIT has passed without a gap (R161). -/
def State.hoodNoGap (s : State) (d k : Nat) : State :=
  if s.rd (.core d k) HOOD_STAT_STATE = 3 ∧ (s.core d k).hood.until_ < s.tb ∧ (s.inPair → s.isActive) then
    (s.requestEnd d k 2).offer Ev.HOOD_NO_GAP (.core d k)
  else s

/-- HOOD_NO_GAP: the wait for a gap runs out (R161). -/
def execHoodNoGap (d k : Nat) (s : State) : Host.Outcome State Fault Refusal :=
  .next (if s.hasNode (.core d k) then s.hoodNoGap d k else s)

/-! ### Paired blocking (R166, R167) -/

/-- The standby compares the digest of ARM and replies. -/
def State.hoodArmRx (s : State) (d k digest n0 : Nat) : State :=
  let b := Blk.core d k
  if s.isStandby then
    if s.rd b HOOD_STAT_STATE = 1 ∧ s.rd b HOOD_DIGEST_CRC = digest then
      let c := s.core d k
      ((s.setCore d k { c with hood := { c.hood with n0 := n0, look := none, hold := none, atGot := none, miss := none } }).wr b HOOD_STAT_STATE 3).hsbSend .reply
        [coreNo d k, 1]
    else (s.hoodRes d k 7).hsbSend .reply [coreNo d k, 0]
  else s

/-- HOOD_ARM_RX: ARM arrives with the digest and N0 (R166). -/
def execHoodArmRx (h : SbHdr) (d k digest n0 : Nat) (s : State) : Host.Outcome State Fault Refusal :=
  .next (s.sbRx h fun s => if s.hasNode (.core d k) then s.hoodArmRx d k digest (n0 % 2 ^ 32) else s)

/-- HOOD_REPLY_RX: the reply to ARM arrives, `ok` where the digests agree (R166). -/
def execHoodReplyRx (h : SbHdr) (d k : Nat) (ok : Bool) (s : State) : Host.Outcome State Fault Refusal :=
  .next (s.sbRx h fun s => if s.hasNode (.core d k) ∧ s.isActive ∧ s.rd (.core d k) HOOD_STAT_STATE = 2 then
    (if ok then s.wr (.core d k) HOOD_STAT_STATE 3 else s.hoodEnd d k 1 7) else s)

/-- AT(N) arrives: a core that may block does so now, another one as soon as it may (R166). -/
def State.hoodAtRx (s : State) (d k n : Nat) : State :=
  if s.isStandby ∧ s.rd (.core d k) HOOD_STAT_STATE = 3 then
    let c := s.core d k
    (s.setCore d k { c with hood := { c.hood with atGot := some (n, s.tb) } }).blocking d k
  else s

/-- HOOD_AT_RX: the standby receives AT(N) (R166). -/
def execHoodAtRx (h : SbHdr) (d k n : Nat) (s : State) : Host.Outcome State Fault Refusal :=
  .next (s.sbRx h fun s => if s.hasNode (.core d k) then s.hoodAtRx d k n else s)

/-- MISS(N) arrives: due times held since the end of release N are released; where that end is still to come, none will be
held at it. A final one ends the request with its result (R165, R166). -/
def State.hoodMissRx (s : State) (d k n : Nat) (final : Option Nat) : State :=
  if s.isStandby ∧ s.rd (.core d k) HOOD_STAT_STATE = 3 then
    match final with
    | some r => (s.hoodEnd d k 1 r).endHold d k
    | none =>
      let c := s.core d k
      if c.hood.look = some n then s.endHold d k
      else s.setCore d k { c with hood := { c.hood with miss := some n } }
  else s

/-- HOOD_MISS_RX: the standby receives MISS(N), with its result where it is final (R166). -/
def execHoodMissRx (h : SbHdr) (d k : Nat) (miss : HoodMiss) (s : State) : Host.Outcome State Fault Refusal :=
  .next (s.sbRx h fun s => if s.hasNode (.core d k) then s.hoodMissRx d k miss.n miss.final else s)

/-- The due time of release N + 1 of REF has come without a gap, whether that due time was released or skipped (R166). -/
def State.hoodPairMiss (s : State) (d k : Nat) : State :=
  let c := s.core d k
  match c.hood.look with
  | some n =>
    if s.inPair ∧ s.isActive ∧ s.rd (.core d k) HOOD_STAT_STATE = 3 ∧ s.refPast d k n then
      if c.hood.until_ < s.tb then (s.requestEnd d k 2).offer Ev.HOOD_NO_GAP (.core d k)
      else (s.setCore d k { c with hood := { c.hood with look := none } }).hsbSend .miss [coreNo d k, n]
    else s
  | none => s

/-- HOOD_PAIR_MISS: the active unit has found no gap by the due time of release N + 1 of REF (R166). -/
def execHoodPairMiss (d k : Nat) (s : State) : Host.Outcome State Fault Refusal :=
  .next (if s.hasNode (.core d k) then s.hoodPairMiss d k else s)

/-- 30 µs after the end of its release N a standby without AT or MISS goes on with the old code (R167). -/
def State.hoodTimeout (s : State) (d k : Nat) : State :=
  match (s.core d k).hood.hold with
  | some t => if s.isStandby ∧ (s.core d k).hood.atGot = none ∧ t + 30000 ≤ s.tb then s.endHold d k else s
  | none => s

/-- STANDBY_HOOD_TIMEOUT: no AT and no MISS within 30 µs (R167). -/
def execStandbyHoodTimeout (d k : Nat) (s : State) : Host.Outcome State Fault Refusal :=
  .next (if s.hasNode (.core d k) then s.hoodTimeout d k else s)

/-- A standby that is not idle within one period of REF after AT ends with HOOD_PAIR_SPLIT and leaves the pair (R167). -/
def State.hoodPairSplit (s : State) (d k : Nat) : State :=
  match (s.core d k).hood.atGot with
  | some (_, t) =>
    let p := s.rd (.core d k) (TASK_PERIOD_PERIOD (s.rd (.core d k) HOOD_CTRL_REF)) * 1000
    if s.isStandby ∧ s.rd (.core d k) HOOD_STAT_STATE = 3 ∧ ¬ s.standbyReady d k ∧ t + p ≤ s.tb then
      (((s.hoodEnd d k 1 9).offer Ev.HOOD_PAIR_SPLIT (.core d k)).endHold d k).leavePair
    else s
  | none => s

/-- HOOD_PAIR_SPLIT: a standby core was not idle in time after AT (R167). -/
def execHoodPairSplit (d k : Nat) (s : State) : Host.Outcome State Fault Refusal :=
  .next (if s.hasNode (.core d k) then s.hoodPairSplit d k else s)

end Sys2Proof.Machine
end

