-- ==== Sys2Proof/Machine/Arb.lean ====
section
/-! DEFINITION. Deadline arbitration (R286 to R301): the requests that arrive, and one decision of an arbiter. -/

namespace Sys2Proof.Machine

/-! ### The arbiters (R286) -/

/-- The block of an arbiter's registers and the index of its set: the crown's sets lie 24 places further (R299, R300). -/
def arbBlk (c : Option Nat) : Blk := match c with | some d => .arb d | none => .crownNode
def arbIdx (c : Option Nat) (a : Nat) : Nat := match c with | some _ => a | none => a + 24

/-- The number of inputs of an arbiter. -/
def arbInputs (c : Option Nat) (a : Nat) : Nat :=
  match c with
  | none => 11
  | some _ => match a with
    | 0 => 7
    | 1 => 6
    | 2 => 5
    | 3 => 5
    | a => if a < 16 then 3 else 4

/-- The bytes of the longest transfer of an arbiter. -/
def arbLongest (c : Option Nat) (a : Nat) : Nat :=
  match c with
  | none => if a < 8 then 1024 else if a = 8 then 16 else if a = 9 then 64 else 8
  | some _ => match a with
    | 0 => 512
    | 1 => 1024
    | 2 => 16
    | 3 => 8
    | _ => 512

/-- The arbiter exists, and decides on ARB_DECISION: not a compute die's outbound arbiter, which decides when a crown arbiter
grants its group (R293), and not a link's transmitter, whose decision is LINK_TX_SELECT (R265). -/
def State.hasArb (s : State) (c : Option Nat) (a : Nat) : Bool :=
  match c with
  | none => decide (a < 8 → s.hasDie a) && decide (a < 11)
  | some d => s.hasDie d && decide (a < 16 ∧ a ≠ 1)

/-! ### Requests (R286, R287) -/

/-- ARB_BG_SLACK of the crown die, at its own offset (R300). -/
abbrev ARB_BG_SLACK_CROWN : Field :=
  { off := 0x3F0, lo := 0, width := 32, acc := .rw, reset := 10000, vmin := 100, vmax := 100000000 }

/-- The slack of a compute die, or of the crown die. -/
def State.slackOf (s : State) (c : Option Nat) : Nat :=
  match c with | some d => s.rd (.arb d) ARB_BG_SLACK_NS | none => s.rd .crownNode ARB_BG_SLACK_CROWN

/-- The deadline of an access for task `t` of a core: of a cyclic task its next due time, at most 1 s ahead. -/
def State.taskDl (s : State) (c : Option Nat) (d k t : Nat) : Nat :=
  if s.is (.core d k) (TASK_CFG_KIND t) then s.tmb.count + s.slackOf c else min (s.nextDue d k t) (s.tmb.count + 1000000000)

/-- The deadline of an access of a core: that of its task in stack form at DEPTH 0, else its slack. -/
def State.coreDl (s : State) (d k : Nat) : Nat :=
  let c := s.core d k
  match c.ctx with
  | .task t => if c.form ∨ s.rd (.core d k) CORE_TRAP_DEPTH ≠ 0 then s.tmb.count + s.slackOf (some d) else s.taskDl (some d) d k t
  | _ => s.tmb.count + s.slackOf (some d)

/-- The deadline of a request when it first presents itself (R287). -/
def State.reqDl (s : State) : ReqKind → Nat
  | .core d k => s.coreDl d k
  | .mover d k t => s.taskDl none d k t
  | .refresh => s.img.pubAt + s.rd .pkgNode IMG_CTRL_PERIOD * 1000
  | .ingest d j i => ofSigned 32 (s.lineE d j i / 1000)
  | .band d j i => s.lineD d j i
  | .data _ dl => dl
  | .reflex d trig => trig + s.rd (.rfx d) RFX_SLACK_NS
  | .code d _ | .cal d _ | .port d _ | .clear d => s.tmb.count + s.slackOf (some d)
  | .mirror | .crown | .host => s.tmb.count + s.slackOf none

/-- The node that a request belongs to, with which it is withdrawn (R297). -/
def ReqKind.who : ReqKind → Option Node
  | .core d k | .code d k | .mover d k _ => some (.core d k)
  | .port d j => some (.lane d j)
  | .ingest d _ _ | .cal d _ | .band d _ _ | .clear d | .data d _ | .reflex d _ => some (.die d)
  | .refresh | .mirror | .crown | .host => none

/-- The input of an arbiter at which a request arrives, and its member number in a group; none where it never requests there
(R286). -/
def ReqKind.inputAt (r : ReqKind) (c : Option Nat) (a : Nat) : Option (Nat × Nat) :=
  match c, r with
  | some d, .core e k => if d = e ∧ k < 4 ∧ (a = 0 ∨ a = 3) then some (k, 0) else none
  | some d, .code e k => if d = e ∧ k < 4 ∧ a = 2 then some (k, 0) else none
  | some d, .ingest e j _ | some d, .cal e j => if d = e then (if a = 0 then some (4, 0) else if a = 4 + j then some (0, 0) else none) else none
  | some d, .band e j _ => if d = e ∧ a = 4 + j then some (1, 0) else none
  | some d, .port e j => if d = e ∧ a = 4 + j then some (2, 0) else none
  | some d, .clear e => if d = e ∧ a = 0 then some (6, 0) else none
  | some _, _ => none
  | none, .core d k => if d ≠ a ∧ d < 8 ∧ k < 4 then some (d, k) else none
  | none, .data d _ => if d ≠ a ∧ d < 8 then some (d, 4) else none
  | none, .reflex d _ => if a = 8 ∧ d < 8 then some (d, 5) else none
  | none, .crown => some (8, 0)
  | none, .host => some (9, 0)
  | none, .mover _ _ _ | none, .refresh | none, .mirror => some (10, 0)
  | none, _ => none

/-- The request that an arrival makes at an arbiter. -/
def State.arrive (s : State) (c : Option Nat) (a : Nat) (x : ArbArrival) : Option ArbReq :=
  (x.kind.inputAt c a).map fun p =>
    { input := p.1, member := p.2, dl := s.reqDl x.kind % 2 ^ 32, bytes := x.bytes, who := x.kind.who, target := a, dest := x.dest }

/-- The requester exists in this variant. -/
def State.hasKind (s : State) (r : ReqKind) : Bool := match r.who with | some n => s.hasNode n | none => true

/-- The request waits at an arbiter; one of a compute die's port waits at that die's outbound arbiter, behind the crown's
(R286). -/
def State.present (s : State) (c : Option Nat) (a : Nat) (r : ArbReq) : State :=
  let (c, a) := if c = none ∧ r.input < 8 then (some r.input, 1) else (c, a)
  s.setArbiter c a { s.arbiter c a with waiting := (s.arbiter c a).waiting ++ [r] }

/-- The requests that wait behind an arbiter: its own, and at a crown arbiter those of the outbound arbiters that are for
it. -/
def State.behind (s : State) (c : Option Nat) (a : Nat) : List ArbReq :=
  (s.arbiter c a).waiting ++
    match c with
    | none => s.diesList.flatMap fun d => (s.arbiter (some d) 1).waiting.filter fun r => decide (r.target = a)
    | some _ => []

/-! ### Decisions (R288 to R294) -/

/-- What an input presents: the earliest deadline and the greatest wait count (R293). -/
def presentReq (i : Nat) (l : List ArbReq) : Option ArbReq :=
  match l.filter fun r => decide (r.input = i) with
  | [] => none
  | r :: rs => some (rs.foldl (fun a b => { a with dl := earlier a.dl b.dl, w := max a.w b.w }) r)

/-- An arbiter's counters, pointer and holder after a decision that granted an input with a deadline (R290, R298). -/
def State.arbCount (s : State) (b : Blk) (x n input : Nat) (forced : Bool) (dl : Nat) : State :=
  let t := s.wrs b [(ARB_STAT_PTR x, (s.rd b (ARB_STAT_PTR x) + 1) % n), (ARB_STAT_HOLDER x, input), (ARB_STAT_BUSY x, 1)]
  let t := if forced then t.bump b (ARB_FORCECNT_COUNT x) else t
  if s.arbKeyOf dl < 0 then t.bump b (ARB_LATEGRANT_COUNT x) else t

/-- The winner among requests that each stand for an index, under a limit and a pointer, and whether one was forced (R288,
R290). -/
def State.arbPick (s : State) (limit ptr n : Nat) (l : List (Nat × ArbReq)) : Option (Nat × ArbReq) × Bool :=
  let forced := l.any fun r => decide (limit ≤ r.2.w)
  (leastBy (fun r => s.arbRank limit ptr n forced.toNat r.1 r.2.dl r.2.w) l, forced)

/-- The fabric inbound group is the input of a die's arbiter that holds what the crown has delivered (R286). -/
def inboundInput (c : Option Nat) (a : Nat) : Option Nat :=
  match c with
  | some _ => if a = 0 then some 5 else if a = 2 ∨ a = 3 then some 4 else none
  | none => none

/-- The choice among the requests of the input that an arbiter granted (R293). A die's port is the group of its outbound
arbiter. The fabric inbound group has no registers: it decides with the upper arbiter's LIMIT and a pointer of its own over the
11 inputs of the crown arbiter that delivered (DESIGN CHOICE, log entry 174). Requests of a single requester are taken
in the order of R288. -/
def State.memberPick (s : State) (c : Option Nat) (a input : Nat) (l : List ArbReq) : Option ArbReq × State :=
  if c = none ∧ input < 8 then
    match s.arbPick (s.rd (.arb input) (ARB_LIMIT_LIMIT 1)) (s.rd (.arb input) (ARB_STAT_PTR 1)) 6 (l.map fun r => (r.member, r)) with
    | (some p, forced) => (some p.2, s.arbCount (.arb input) 1 6 p.1 forced p.2.dl)
    | (none, _) => (none, s)
  else if inboundInput c a = some input then
    let g := s.arbiter c a
    match s.arbPick (s.rd (arbBlk c) (ARB_LIMIT_LIMIT (arbIdx c a))) g.gptr 11 (l.map fun r => (r.member, r)) with
    | (some p, _) => (some p.2, s.setArbiter c a { g with gptr := (g.gptr + 1) % 11 })
    | (none, _) => (none, s)
  else (leastBy (fun r => (s.arbKeyOf r.dl, -(r.w : Int), 0)) l, s)

/-- A transfer in progress ends: HOLDMAX takes its length from grant to last beat, and the arbiter is free (R296, R299). -/
def State.endTransfer (s : State) (c : Option Nat) (a : Nat) : State :=
  match (s.arbiter c a).grant with
  | none => s
  | some (t0, g) =>
    let ends (t : State) (c : Option Nat) (a : Nat) : State :=
      let b := arbBlk c
      let x := arbIdx c a
      t.wrs b [(ARB_STAT_BUSY x, 0), (ARB_HOLDMAX_NS x, min 0xFFFFFFFF (max (s.tb - t0) (t.rd b (ARB_HOLDMAX_NS x))))]
    let t := ends (s.setArbiter c a { s.arbiter c a with grant := none }) c a
    if c = none ∧ g.input < 8 then ends t (some g.input) 1 else t

/-- The granted request leaves the requests that wait, and every other that waits behind the arbiter counts one more (R289,
R294). -/
def State.arbWaits (s : State) (c : Option Nat) (a : Nat) (g : ArbReq) : State :=
  let up (l : List ArbReq) := l.map fun r => { r with w := min 255 (r.w + 1) }
  let t := s.setArbiter c a { s.arbiter c a with waiting := up ((s.arbiter c a).waiting.erase g) }
  match c with
  | some _ => t
  | none => t.each t.diesList fun t d =>
    let l := (t.arbiter (some d) 1).waiting
    t.setArbiter (some d) 1 { t.arbiter (some d) 1 with
      waiting := (l.erase g).map fun r => if r.target = a then { r with w := min 255 (r.w + 1) } else r }

/-- A granted transfer moves at most the longest transfer of its arbiter: what is left presents itself again, and what a crown
arbiter moves to another compute die waits there in its inbound group (R286, R289, R292). -/
def State.passOn (s : State) (c : Option Nat) (a : Nat) (g : ArbReq) : State :=
  let n := arbLongest c a
  let t := if n < g.bytes then s.present c a { g with bytes := g.bytes - n, w := 0 } else s
  match c, g.dest with
  | none, some x =>
    match inboundInput (some a) x with
    | some i => if a < 8 then t.present (some a) x { g with input := i, member := g.input, bytes := min n g.bytes, w := 0, target := x, dest := none } else t
    | none => t
  | _, _ => t

/-- One decision (R288 to R294) among what waits behind an arbiter. -/
def State.arbDecide (s : State) (c : Option Nat) (a : Nat) : State :=
  let b := arbBlk c
  let x := arbIdx c a
  let reqs := s.behind c a
  let ins := (List.range (arbInputs c a)).filterMap fun i => (presentReq i reqs).map fun r => (i, r)
  match s.arbPick (s.rd b (ARB_LIMIT_LIMIT x)) (s.rd b (ARB_STAT_PTR x)) (arbInputs c a) ins with
  | (none, _) => s
  | (some w, forced) =>
    match s.memberPick c a w.1 (reqs.filter fun r => decide (r.input = w.1)) with
    | (none, _) => s
    | (some g, t) =>
      let t := (t.arbCount b x (arbInputs c a) w.1 forced g.dl).arbWaits c a g
      (t.setArbiter c a { t.arbiter c a with grant := some (s.tb, g) }).passOn c a g

/-- The clock of a requester's island runs. -/
def State.clocked (s : State) : Option Node → Bool
  | some (.core d _) => s.is (.dieNode d) CLK_DLOCK_SCAN
  | some (.lane d j) => s.laneClocked d j
  | some (.die d) => s.is (.dieNode d) CLK_DLOCK_COMMON
  | _ => s.crownRuns

/-- A transfer in progress stays in progress: it is not in its last beat, or its requester's clock has stopped, which holds the
resource until a reset (R291, R296; DEDUCED for a requester that is no core or lane, log entry 207). -/
def State.arbBusy (s : State) (c : Option Nat) (a : Nat) (last : Bool) : Bool :=
  match (s.arbiter c a).grant with | some (_, g) => !last || !s.clocked g.who | none => false

/-- The requests that arrive at an arbiter and may arrive there (R286). -/
def State.arrivals (s : State) (c : Option Nat) (a : Nat) (l : List ArbArrival) : List ArbReq :=
  (l.filter fun x => s.hasKind x.kind).filterMap fun x => s.arrive c a x

/-- ARB_DECISION: requests arrive at arbiter `a` of compute die `d` (`some d`) or of the crown die (`none`). Where it is idle, or
its transfer in progress is in its `last` beat, it decides among what waits and what arrives; else the arrivals wait (R291,
R296). -/
def execArbDecision (c : Option Nat) (a : Nat) (arrivals : List ArbArrival) (last : Bool) (s : State) : Host.Outcome State Fault Refusal :=
  .next (if s.hasArb c a then
    let wait (t : State) := t.each (s.arrivals c a arrivals) fun t r => t.present c a r
    if s.arbBusy c a last then wait s else (wait (s.endTransfer c a)).arbDecide c a
    else s)

end Sys2Proof.Machine
end

