-- ==== Sys2Proof/Machine/IoMap.lean ====
section
/-! DEFINITION. I/O space (R15, R31 to R37, R46 to R48): which block and offset an address names, which fields a register
holds, and which accesses are refused. -/

namespace Sys2Proof.Machine

/-- The fields of one register of a block; none where no register map names the offset (R15). The crown's arbiters have
their sets in the crown node window (R300); the crown controller has no per-core sets (R351). -/
def fieldsOf (b : Blk) (o : Nat) : List Field :=
  match b with
  | .ringNode => fields_node o
  | .pkgNode => fields_node o ++ fields_prot o ++ fields_pkgNode o
  | .crownNode => fields_node o ++ fields_prot o ++ (if 0x400 ≤ o ∧ o < 0x560 then fields_arb o else []) ++
      (if o = 0x3F0 then [ARB_BG_SLACK_CROWN] else []) ++ fields_crownNode o
  | .fieldNode => fields_node o
  | .irqCrown => if 0x200 ≤ o ∧ o < 0x280 then [] else fields_irq o
  | .wdt => fields_wdt o
  | .host => fields_host o ++
      (if 0x8000 ≤ o ∧ o < 0x9000 ∧ o % 4 = 0 then [MSIX_ENTRY ((o - 0x8000) / 16) ((o - 0x8000) % 16 / 4)] else []) ++
      (if 0x9000 ≤ o ∧ o < 0x9020 ∧ o % 4 = 0 then [MSIX_PBA ((o - 0x9000) / 4)] else [])
  | .ring => fields_ring o
  | .can _ => fields_can o
  | .evr => fields_evr o
  | .upd => fields_upd o
  | .cry => fields_cry o
  | .hsb => fields_hsb o
  | .tmb => fields_tmb o
  | .eth | .xspi => []
  | .din => fields_din o
  | .lsw => fields_lsw o
  | .rtc => fields_rtc o
  | .nvs => fields_nvs o
  | .wake => fields_wake o
  | .sup => fields_sup o
  | .cal => fields_cal o
  | .dieNode _ => fields_node o ++ fields_dieNode o ++
      (if o = 0x600 then [CLK_DLOCK_SCAN, CLK_DLOCK_LANE, CLK_DLOCK_LINK, CLK_DLOCK_DRC, CLK_DLOCK_COMMON] else [])
  | .core _ _ => fields_node o ++ fields_prot o ++ fields_core o
  | .lane _ _ => fields_node o ++ fields_lane o
  | .link _ _ => fields_link o
  | .arb _ => fields_arb o
  | .rfx _ => fields_rfx o
  | .irqDie _ => fields_irq o
  | .drc _ => fields_drc o
  | .ing _ => fields_ing o

/-- What an I/O address names: a register offset of a block, an address that no register map names (R15), or a register
offset of another member's package node (R37). -/
inductive IoTarget where
  | reg (b : Blk) (o : Nat)
  | none
  | proxy (p o : Nat)
  deriving DecidableEq, Repr

/-- The blocks of the crown die by their windows of 64 KiB (R46); the root node window holds the node windows and the
aliases of R34. -/
def State.crownTarget (s : State) (a : Nat) : Except Nat IoTarget :=
  let o := a % 0x10000
  match a / 0x10000 with
  | 0 =>
    let w := o % 0x1000
    match o / 0x1000 with
    | 0 => .ok (.reg .pkgNode w)
    | 1 => .ok (.reg .crownNode w)
    | 2 => .ok (.reg .fieldNode w)
    | 15 => .ok (if s.hasRing then .reg .ringNode w else .none)
    | n => if n < 11 then (if s.hasDie (n - 3) then .ok (.reg (.dieNode (n - 3)) w) else .error 0xF1) else .ok .none
  | 1 => .ok (.reg .irqCrown o)
  | 2 => .ok (.reg .wdt o)
  | 3 => .ok (.reg .host o)
  | 4 => .ok (.reg .ring o)
  | 5 => if o < 0x4000 then .ok (.reg (.can (o / 0x1000)) (o % 0x1000)) else .error 0xF0
  | 6 => .ok (.reg .evr o)
  | 7 => .ok (.reg .upd o)
  | 8 => .ok (.reg .cry o)
  | 9 => .ok (.reg .hsb o)
  | 10 => .ok (.reg .tmb o)
  | 11 => .ok (.reg .eth o)
  | 12 => .ok (.reg .xspi o)
  | _ => .error 0xF0

/-- The blocks of the field die (R46). -/
def fieldTarget (a : Nat) : Except Nat IoTarget :=
  let o := a % 0x10000
  match a / 0x10000 with
  | 0 => .ok (.reg .fieldNode o)
  | 1 => .ok (.reg .din o)
  | 2 => .ok (.reg .lsw o)
  | 3 => .ok (.reg .rtc o)
  | 4 => .ok (.reg .nvs o)
  | 5 => .ok (.reg .wake o)
  | 6 => .ok (.reg .sup o)
  | 7 => .ok (.reg .cal o)
  | _ => .error 0xF0

/-- The blocks of a compute die (R46). -/
def dieTarget (d a : Nat) : Except Nat IoTarget :=
  let o := a % 0x10000
  let u := a / 0x10000
  if u = 0 then .ok (.reg (.dieNode d) o)
  else if 0x10 ≤ u ∧ u < 0x14 then .ok (.reg (.core d (u - 0x10)) o)
  else if 0x20 ≤ u ∧ u < 0x2C then .ok (.reg (.lane d (u - 0x20)) o)
  else if 0x40 ≤ u ∧ u < 0x42 then .ok (.reg (.link d ((a - 0x400000) / 0x1000)) (a % 0x1000))
  else if u = 0x60 then .ok (.reg (.arb d) o)
  else if u = 0x68 then .ok (.reg (.rfx d) o)
  else if u = 0x70 then .ok (.reg (.irqDie d) o)
  else if u = 0x80 then .ok (.reg (.drc d) o)
  else if u = 0x90 then .ok (.reg (.ing d) o)
  else .error 0xF0

/-- What an I/O address names, or the code of R48 that refuses it: 0xF0 unmapped, 0xF1 a compute die that the variant
lacks (R46, R47). The head's own proxy is its package node (R37). -/
def State.ioTarget (s : State) (a : Nat) : Except Nat IoTarget :=
  if a < 0x100000 then s.crownTarget a
  else if a < 0x200000 then fieldTarget (a - 0x100000)
  else if a < 0x240000 then
    let p := (a - 0x200000) / 0x1000
    if ¬ s.hasRing ∨ s.rd .ring RING_COUNT_N ≤ p then .error 0xF0
    else if p = s.ringPos then .ok (.reg .pkgNode (a % 0x1000))
    else .ok (.proxy p (a % 0x1000))
  else if a < 0x1000000 then .error 0xF0
  else
    let d := (a - 0x1000000) / 0x1000000
    if 8 ≤ d then .error 0xF0 else if s.hasDie d then dieTarget d (a % 0x1000000) else .error 0xF1

/-- A stack-form write of a scan core to its own PROT registers (R52). -/
def State.stackProt (s : State) (r : Req) (b : Blk) (o : Nat) : Bool :=
  match r with
  | .core d k => (s.core d k).form && decide (b = .core d k ∧ 0x100 ≤ o ∧ o < 0x180)
  | _ => false

/-- The code or region with which an access to one I/O word is refused before it reaches its register (R48, R52). -/
def State.ioCheck (s : State) (r : Req) (a : Nat) (write : Bool) : Option Nat :=
  match s.regionHit r 2 a 4 write with
  | some i => some i
  | none =>
    match s.ioTarget a with
    | .error c => some c
    | .ok (.reg b o) => if write && s.stackProt r b o then some 0xF0 else none
    | .ok _ => none

/-- The node whose window a block is (R34). -/
def Blk.node? : Blk → Option Node
  | .ringNode => some .ring
  | .pkgNode => some .pkg
  | .crownNode => some .crown
  | .fieldNode => some .field
  | .dieNode d => some (.die d)
  | .core d k => some (.core d k)
  | .lane d j => some (.lane d j)
  | _ => none

/-- The I/O address of a register (the home window). -/
def Blk.base : Blk → Nat
  | .ringNode => 0xF000 | .pkgNode => 0 | .crownNode => 0x1000 | .fieldNode => 0x100000
  | .irqCrown => 0x10000 | .wdt => 0x20000 | .host => 0x30000 | .ring => 0x40000 | .can c => 0x50000 + 0x1000 * c
  | .evr => 0x60000 | .upd => 0x70000 | .cry => 0x80000 | .hsb => 0x90000 | .tmb => 0xA0000 | .eth => 0xB0000
  | .xspi => 0xC0000 | .din => 0x110000 | .lsw => 0x120000 | .rtc => 0x130000 | .nvs => 0x140000 | .wake => 0x150000
  | .sup => 0x160000 | .cal => 0x170000
  | .dieNode d => 0x1000000 + 0x1000000 * d
  | .core d k => 0x1100000 + 0x1000000 * d + 0x10000 * k
  | .lane d j => 0x1200000 + 0x1000000 * d + 0x10000 * j
  | .link d m => 0x1400000 + 0x1000000 * d + 0x1000 * m
  | .arb d => 0x1600000 + 0x1000000 * d
  | .rfx d => 0x1680000 + 0x1000000 * d
  | .irqDie d => 0x1700000 + 0x1000000 * d
  | .drc d => 0x1800000 + 0x1000000 * d
  | .ing d => 0x1900000 + 0x1000000 * d

end Sys2Proof.Machine
end

