-- ==== Sys2Proof/Machine/Irq.lean ====
section
/-! DEFINITION. The interrupt controllers' set and clear registers (R346) and the system watchdog (R352 to R360). -/

namespace Sys2Proof.Machine

/-- The controller of a compute die, or the crown controller. -/
def ctlBlk : Option Nat → Blk
  | none => .irqCrown
  | some d => .irqDie d

/-- The controller exists in this package. -/
def State.hasCtl (s : State) : Option Nat → Bool
  | none => true
  | some d => s.hasDie d

/-- The bits of a 32-bit word that are 1, lowest first. -/
def onesOf (v : Nat) : List Nat := (List.range 32).filter fun i => v.testBit i

/-- A written word sets pending bits `[32w + 31 : 32w]` of a controller (R346). -/
def State.irqPendSet (s : State) (c : Option Nat) (w v : Nat) : State :=
  s.each (onesOf v) fun t i =>
    match c with
    | none => t.raiseCrown (32 * w + i)
    | some d => t.raiseDie d (32 * w + i)

/-- IRQ_PEND_SET: a write of `v` to word `w` of a controller's IRQ_PEND_SET (R346). -/
def execIrqPendSet (c : Option Nat) (w v : Nat) (s : State) : Host.Outcome State Fault Refusal :=
  .next (if s.hasCtl c && decide (w < 16) then s.irqPendSet c w v else s)

/-- IRQ_PEND_CLR: a write of `v` to word `w` of IRQ_PEND_CLR withdraws the sources (R346). -/
def execIrqPendClr (c : Option Nat) (w v : Nat) (s : State) : Host.Outcome State Fault Refusal :=
  .next (if s.hasCtl c && decide (w < 16) then s.clrBits (ctlBlk c) (IRQ_PEND_PEND w) v else s)

/-- IRQ_EN_SET: a write of `v` to word `w` of IRQ_EN_SET (R346). -/
def execIrqEnSet (c : Option Nat) (w v : Nat) (s : State) : Host.Outcome State Fault Refusal :=
  .next (if s.hasCtl c && decide (w < 16) then s.orBits (ctlBlk c) (IRQ_EN_EN w) v else s)

/-- IRQ_EN_CLR: a write of `v` to word `w` of IRQ_EN_CLR (R346). -/
def execIrqEnClr (c : Option Nat) (w v : Nat) (s : State) : Host.Outcome State Fault Refusal :=
  .next (if s.hasCtl c && decide (w < 16) then s.clrBits (ctlBlk c) (IRQ_EN_EN w) v else s)

/-! ### Watchdog -/

/-- The requester may check in task `t`: any requester with ANY, else the scan core or crown core that PATH names
(R353, R360). -/
def State.wdtOwner (s : State) (r : Req) (t : Nat) : Bool :=
  s.is .wdt (WDT_OWNER_ANY t) ||
    match r with
    | .core d k => decide (s.rd .wdt (WDT_OWNER_PATH t) = (Node.core d k).unitPath)
    | .crown => decide (s.rd .wdt (WDT_OWNER_PATH t) = 0)
    | _ => false

/-- The first watchdog period starts (R354). -/
def State.wdtEnable (s : State) : State :=
  if s.is .wdt WDT_CTRL_EN then s
  else { (((s.wr .wdt WDT_CTRL_EN 1).wr .wdt WDT_STAT_RUN 1).wr .wdt WDT_DONE_DONE 0) with
    wdt := { start := s.now, required := s.rd .wdt WDT_TASKEN_EN, halfDone := false, expiredAt := 0 } }

/-- WDT_ENABLE: a write of WDT_CTRL.EN (R354). -/
def execWdtEnable (s : State) : Host.Outcome State Fault Refusal := .next s.wdtEnable

/-- A write to WDT_KICK checks in a task or sets BADKICK; a check-in after expiry is ignored (R353, R355). -/
def State.wdtKick (s : State) (r : Req) (w : Nat) : State :=
  let t := WDT_KICK_TASK.of w
  if WDT_KICK_KEY.of w = 0x5A ∧ s.bit .wdt WDT_TASKEN_EN t ∧ s.wdtOwner r t then
    (if s.is .wdt WDT_STAT_EXPIRED then s else s.setBit .wdt WDT_DONE_DONE t true)
  else (s.wr .wdt WDT_STAT_BADKICK 1).raiseCrown 193

/-- WDT_KICK: requester `r` writes `w` to WDT_KICK (R353). -/
def execWdtKick (r : Req) (w : Nat) (s : State) : Host.Outcome State Fault Refusal := .next (s.wdtKick r w)

/-- A write to WDT_TASKEN; while EN is 1 it only sets bits (R354). -/
def State.wdtTasken (s : State) (w : Nat) : State :=
  if s.is .wdt WDT_CTRL_EN then s.orBits .wdt WDT_TASKEN_EN w else s.wr .wdt WDT_TASKEN_EN w

/-- An NMI is raised at every scan core of the package (R355, R356). -/
def State.raiseNmi (s : State) : State :=
  s.each s.coresList fun t c => t.setCore c.1 c.2 { t.core c.1 c.2 with nmi := true }

/-- The watchdog expires with the tasks of a mask missing (R355). -/
def State.wdtExpire (s : State) (missing : Nat) : State :=
  let t := (((s.wr .wdt WDT_STAT_EXPIRED 1).wr .wdt WDT_STAT_RUN 0).wr .wdt WDT_MISSED_MISSED missing)
  let t := (t.bump .wdt WDT_RESET_COUNT_COUNT).dirty 28
  let t := { t with wdt := { t.wdt with expiredAt := s.now } }
  ((t.resign 1).raiseNmi).offer Ev.WDT_EXPIRED .crown [missing]

/-- The end of a watchdog period: expiry if a required task is missing, else the next period (R354). -/
def State.wdtPeriodEnd (s : State) : State :=
  let p := s.rd .wdt WDT_PERIOD_US * 1000
  if s.crownRuns ∧ s.is .wdt WDT_STAT_RUN ∧ s.wdt.start + p ≤ s.now then
    let missing := clearBits (s.wdt.required &&& s.rd .wdt WDT_TASKEN_EN) (s.rd .wdt WDT_DONE_DONE)
    if missing ≠ 0 then s.wdtExpire missing
    else { s.wr .wdt WDT_DONE_DONE 0 with
      wdt := { s.wdt with start := s.wdt.start + p, required := s.rd .wdt WDT_TASKEN_EN, halfDone := false } }
  else s

/-- WDT_PERIOD_END: a watchdog period has ended (R354). -/
def execWdtPeriodEnd (s : State) : Host.Outcome State Fault Refusal := .next s.wdtPeriodEnd

/-- The half-way point of a period: source 192 rises if an enabled task has not checked in (R359). -/
def State.wdtHalf (s : State) : State :=
  if s.crownRuns ∧ s.is .wdt WDT_STAT_RUN ∧ ¬ s.wdt.halfDone ∧ s.wdt.start + s.rd .wdt WDT_PERIOD_US * 500 ≤ s.now then
    let t := { s with wdt := { s.wdt with halfDone := true } }
    if clearBits (s.rd .wdt WDT_TASKEN_EN) (s.rd .wdt WDT_DONE_DONE) ≠ 0 then t.raiseCrown 192 else t
  else s

/-- WDT_HALF_PERIOD: the half-way point of a period has passed (R359). -/
def execWdtHalfPeriod (s : State) : Host.Outcome State Fault Refusal := .next s.wdtHalf

/-- WDT_GRACE_EXPIRY: the grace has passed and the package resets with cause 4, after a segment store in progress
(R355). -/
def execWdtGraceExpiry (s : State) : Host.Outcome State Fault Refusal :=
  .next (if s.crownRuns ∧ s.is .wdt WDT_STAT_EXPIRED ∧ s.wdt.expiredAt + s.rd .wdt WDT_GRACE_US * 1000 ≤ s.now then s.packageReset 4 else s)

/-- WDT_REMAIN: whole µs left in the running period (R360). -/
def State.wdtRemain (s : State) : Nat :=
  if s.is .wdt WDT_STAT_RUN then (s.wdt.start + s.rd .wdt WDT_PERIOD_US * 1000 - s.now) / 1000 else 0

end Sys2Proof.Machine
end

