-- ==== Sys2Proof/Machine/Keys.lean ====
section
/-! DEFINITION. Key fuses (R476, R477) and the random number generator (R491 to R493). -/

namespace Sys2Proof.Machine

/-! ### Keys -/

/-- CRY_KPROG.RESULT takes a code, and GO reads 0. -/
def State.keyResult (s : State) (c : Nat) : State := (s.wr .cry CRY_KPROG_RESULT c).wr .cry CRY_KPROG_GO 0

/-- A scan core's write to CRY_KPROG or CRY_REVOKE has no effect (R477). -/
def keyAllowed : Req → Bool
  | .core _ _ => false
  | _ => true

/-- The slot is unusable or blank (R477): programmed, revoked, or dead. -/
def State.slotTaken (s : State) (i : Nat) : Bool :=
  s.bit .cry CRY_KSTAT_PROG i || s.cry.dead.testBit i || (decide (i < 4) && s.bit .cry CRY_KSTAT_REVOKED i)

/-- The words of CRY_KDATA. -/
def State.kdata (s : State) (n : Nat) : List Nat := (List.range n).map fun i => s.rd .cry (CRY_KDATA_DATA i)

/-- A write of CRY_KPROG.GO: the selected slot is programmed from CRY_KDATA, with whether the fuses read back right
(R477). A slot number above 4 names no slot. -/
def State.keyProgram (s : State) (r : Req) (good : Bool) : State :=
  let i := s.rd .cry CRY_KSEL_SLOT
  if ¬ keyAllowed r ∨ 4 < i then s
  else if s.slotTaken i then s.keyResult 2
  else if good then
    let t := { s with cry := { s.cry with keys := Tab.set (fun k => k) s.cry.keys i [] (s.kdata (if i = 4 then 8 else 12)) } }
    ((t.setBit .cry CRY_KSTAT_PROG i true).keyResult 1).offer Ev.KEY_PROGRAMMED .crown [i]
  else { s with cry := { s.cry with dead := s.cry.dead ||| 2 ^ i } }.keyResult 4

/-- KEY_PROGRAM: requester `r` writes CRY_KPROG.GO; whether the fuse read-back matches (R477). -/
def execKeyProgram (r : Req) (good : Bool) (s : State) : Host.Outcome State Fault Refusal := .next (s.keyProgram r good)

/-- One slot is revoked (R477). -/
def State.keyRevoke (s : State) (i : Nat) : State :=
  if s.bit .cry CRY_KSTAT_REVOKED i then s.keyResult 2
  else if i = s.rd .cry CRY_KSTAT_RUNSLOT ∧ ¬ s.is .upd UPD_STAT_RECOVERY then s.keyResult 3
  else ((s.setBit .cry CRY_KSTAT_REVOKED i true).keyResult 1).offer Ev.KEY_REVOKED .crown [i]

/-- KEY_REVOKE: requester `r` writes `w` to CRY_REVOKE (R477). -/
def execKeyRevoke (r : Req) (w : Nat) (s : State) : Host.Outcome State Fault Refusal :=
  .next (if keyAllowed r then s.each ((List.range 4).filter fun i => w.testBit i) fun t i => t.keyRevoke i else s)

/-! ### Random numbers -/

/-- The states of TRNG_STAT.STATE. -/
abbrev trngOFF : Nat := 0
abbrev trngSTART : Nat := 1
abbrev trngRUN : Nat := 2
abbrev trngLATCHED : Nat := 3

/-- A read of TRNG_ACQ: the lowest free slot, marked owned, or 0xFF (R492). -/
def State.trngAcq (s : State) : Nat × State :=
  match (List.range 4).filter fun i => !s.is .cry (TRNG_SLOT_STAT_OWNED i) with
  | i :: _ => (i, s.wr .cry (TRNG_SLOT_STAT_OWNED i) 1)
  | [] => (0xFF, s)

/-- TRNG_ACQ_READ: a read of TRNG_ACQ (R492). -/
def execTrngAcqRead (s : State) : Host.Outcome State Fault Refusal := .next s.trngAcq.2

/-- The words of a slot are cleared. -/
def State.trngClear (s : State) (i : Nat) : State :=
  (s.each (List.range 8) fun t w => t.wr .cry (TRNG_SLOT_DATA_DATA i w) 0).wr .cry (TRNG_SLOT_STAT_DONE i) 0 |>.wr .cry (TRNG_SLOT_STAT_FAIL i) 0

/-- TRNG_REQ: a write of REQ in slot `i` (R492, R493): pending, or failed at once while latched. -/
def execTrngReq (i : Nat) (s : State) : Host.Outcome State Fault Refusal :=
  .next (if i < 4 then
    let t := s.trngClear i
    if s.rd .cry TRNG_STAT_STATE = trngLATCHED then t.wr .cry (TRNG_SLOT_STAT_FAIL i) 1 else t.wr .cry (TRNG_SLOT_STAT_PEND i) 1
    else s)

/-- TRNG_REL: a write of REL frees slot `i` (R492). -/
def execTrngRel (i : Nat) (s : State) : Host.Outcome State Fault Refusal :=
  .next (if i < 4 then s.wr .cry (TRNG_SLOT_STAT_OWNED i) 0 else s)

/-- The words of a slot take free values: the output is random. -/
def State.trngFill (s : State) (i : Nat) : State :=
  s.each (List.range 8) fun t w =>
    let (v, t) := t.freeWord
    t.wr .cry (TRNG_SLOT_DATA_DATA i w) v.toNat

/-- TRNG_REQUEST_DONE: the pending request of slot `i` completes with data while the generator runs (R491). -/
def execTrngRequestDone (i : Nat) (s : State) : Host.Outcome State Fault Refusal :=
  .next (if i < 4 ∧ s.rd .cry TRNG_STAT_STATE = trngRUN ∧ s.is .cry (TRNG_SLOT_STAT_PEND i) then
    ((s.trngFill i).wr .cry (TRNG_SLOT_STAT_PEND i) 0).wr .cry (TRNG_SLOT_STAT_DONE i) 1
    else s)

/-- TRNG_START_DONE: 4,096 raw bits have passed both tests (R491). -/
def execTrngStartDone (s : State) : Host.Outcome State Fault Refusal :=
  .next (if s.rd .cry TRNG_STAT_STATE = trngSTART then
    { s.wr .cry TRNG_STAT_STATE trngRUN with cry := { s.cry with runSince := s.tb } } else s)

/-- The slots with a pending request. -/
def State.trngPending (s : State) : List Nat := (List.range 4).filter fun i => s.is .cry (TRNG_SLOT_STAT_PEND i)

/-- A health test fails: `apt` for the adaptive proportion test, else the repetition count test (R493). -/
def State.trngFail (s : State) (apt : Bool) : State :=
  let st := s.rd .cry TRNG_STAT_STATE
  if st = trngSTART ∨ st = trngRUN then
    let n := s.trngPending.length
    let t := s.each s.trngPending fun t i => (t.wr .cry (TRNG_SLOT_STAT_PEND i) 0).wr .cry (TRNG_SLOT_STAT_FAIL i) 1
    let t := (t.wr .cry (if apt then TRNG_STAT_APT else TRNG_STAT_RCT) 1).wr .cry TRNG_STAT_FAILS (s.rd .cry TRNG_STAT_FAILS + 1)
    let t := (t.offer Ev.TRNG_FAIL .crown [if apt then 2 else 1, n]).raiseCrown 202
    if s.rd .cry TRNG_STAT_FAILS + 1 ≤ 3 then t.wr .cry TRNG_STAT_STATE trngSTART
    else (t.wr .cry TRNG_STAT_STATE trngLATCHED).offer Ev.TRNG_LATCHED .crown [s.rd .cry TRNG_STAT_FAILS + 1]
  else s

/-- TRNG_TEST_FAIL: a health test fails (R493). -/
def execTrngTestFail (apt : Bool) (s : State) : Host.Outcome State Fault Refusal := .next (s.trngFail apt)

/-- TRNG_FAILS_CLEAR: 24 hours of RUN have passed without a failure (R493). -/
def execTrngFailsClear (s : State) : Host.Outcome State Fault Refusal :=
  .next (if s.rd .cry TRNG_STAT_STATE = trngRUN ∧ s.cry.runSince + 86400000000000 ≤ s.tb then s.wr .cry TRNG_STAT_FAILS 0 else s)

/-- A write of TRNG_CTRL.EN: off, or a start (R491, R495); a latched generator stays latched (R493). -/
def State.trngEnable (s : State) (en : Bool) : State :=
  let t := s.wrB .cry TRNG_CTRL_EN en
  let st := s.rd .cry TRNG_STAT_STATE
  if st = trngLATCHED then t
  else if !en then t.wr .cry TRNG_STAT_STATE trngOFF
  else if st = trngOFF then t.wr .cry TRNG_STAT_STATE trngSTART
  else t

end Sys2Proof.Machine
end

