-- ==== Sys2Proof/Machine/Nodes.lean ====
section
/-! DEFINITION. The node tree's commands (R38 to R42, R542): the sequencer, the checks, applying a command, entering
nap (R511), and freeing fault captures (R32, R50). -/

namespace Sys2Proof.Machine

/-! ### The tree -/

/-- The nodes of a node's subtree inside its package, itself first (R34). -/
def State.subtree (s : State) : Node → List Node
  | .lane d j => [.lane d j]
  | .core d k => .core d k :: (lanesOf k).map (Node.lane d)
  | .die d => .die d :: (List.range 4).flatMap fun k => .core d k :: (lanesOf k).map (Node.lane d)
  | .crown => [.crown]
  | .field => [.field]
  | .pkg => [.pkg, .crown, .field] ++ s.diesList.flatMap fun d =>
      .die d :: (List.range 4).flatMap fun k => .core d k :: (lanesOf k).map (Node.lane d)
  | .ring => [.ring]

/-- NODE_CAPS.NAP and NODE_CAPS.FREEZE of a node (R542). -/
def Node.gates : Node → Bool
  | .crown | .field => false
  | _ => true

/-! ### Checks -/

/-- The fields a NODE_CTRL word acts on. -/
def ctlEN (w : Nat) : Bool := w.testBit 16
def ctlNAP (w : Nat) : Bool := w.testBit 17
def ctlFRZ (w : Nat) : Bool := w.testBit 18
def ctlRST (w : Nat) : Bool := w.testBit 19 && w.testBit 3

/-- The reasons of R28 that refuse nap to the package node; `ring` where the ring node was written (R389). -/
def State.pkgNapRefused (s : State) (ring : Bool) : Bool :=
  s.job.job.isSome || decide (s.rd .hsb HSB_STAT_ROLE ≠ 0) || (s.straps.ringEn && !ring)

/-- A scan core with an enabled task, or a lane of an admitted job, lies in the subtree (R40). -/
def State.holdsJobLane (s : State) (l : List Node) : Bool :=
  l.any fun n => match n with | .lane d j => s.laneInJob d j | _ => false
def State.holdsTask (s : State) (l : List Node) : Bool :=
  l.any fun n => match n with | .core d k => s.anyTask d k | _ => false

/-- The refusal of a command, if it is refused: 2 NAP_REFUSED before 3 DISABLE_REFUSED (R40). A nap that some node
ignores refuses nothing by that. -/
def State.cmdRefused (s : State) (n : Node) (w : Nat) (ring : Bool := false) : Option Nat :=
  let l := s.subtree n
  if ctlNAP w ∧ w.testBit 1 ∧
      (if n = .pkg then s.pkgNapRefused ring else n.gates && (s.holdsTask l || s.holdsJobLane l)) then some 2
  else if ctlEN w ∧ ¬ w.testBit 0 ∧ s.holdsJobLane l then some 3
  else none

/-! ### Applying -/

/-- EN of a node takes a value; a lane stops or goes on, and what a disabled requester has waiting is withdrawn (R41, R297). -/
def State.applyEn (s : State) (n : Node) (v : Bool) : State :=
  let t := (if v then s else s.withdraw [n]).wrB n.blk NODE_CTRL_EN v
  match n with
  | .lane d j =>
    if v ∧ s.laneGated d j ∧ ¬ t.laneGated d j then t.ungateLane d j
    else if ¬ v ∧ ¬ s.laneGated d j then t.gateLane d j else t
  | .core d k => t.leaveReset d k
  | _ => t

/-- NAP of a node takes a value; hoods are discarded at its entry, also at a node nap of a lane, a core or a die (R41, R164,
R201; DESIGN CHOICE beside R511, log entry 143). -/
def State.applyNap (s : State) (n : Node) (v : Bool) : State :=
  if n.gates then
    let t := (if v then s.withdraw [n] else s).wrB n.blk NODE_CTRL_NAP v
    match n with
    | .lane d j =>
      if ¬ v then (if s.laneGated d j ∧ ¬ t.laneGated d j then t.ungateLane d j else t)
      else (if s.laneGated d j then t else t.gateLane d j).khoodLost d j 3
    | .core d k => if v then t.hoodLost d k 3 else t.leaveReset d k
    | _ => t
  else s

/-- FRZ of a node takes a value; a core that is released for the first time reads its reset vector (R41, R117). -/
def State.applyFrz (s : State) (n : Node) (v : Bool) : State :=
  if n.gates then
    let t := (if v then s.withdraw [n] else s).wrB n.blk n.frz v
    match n with
    | .core d k => (t.leaveReset d k).boundary d k
    | _ => t
  else s

/-- The fields under MASK, but for RST, are applied to every node of a subtree (R38). -/
def State.applyFields (s : State) (l : List Node) (w : Nat) : State :=
  let t := if ctlEN w then s.each l fun t n => t.applyEn n (w.testBit 0) else s
  let t := if ctlNAP w then t.each l fun t n => t.applyNap n (w.testBit 1) else t
  if ctlFRZ w then t.each l fun t n => t.applyFrz n (w.testBit 2) else t

/-- The reset that RST commands at a node (R41). -/
def State.applyRst (s : State) (n : Node) : State :=
  match n with
  | .lane d j => s.resetLane d j 2
  | .core d k => s.resetCore d k 2
  | .die d => (s.resetDie d 2).relock d
  | _ => s.packageReset 5

/-- The reset of a command at this node is a package reset, with which its other fields are discarded (R38). -/
def Node.resetsPackage : Node → Bool
  | .lane _ _ | .core _ _ | .die _ => false
  | _ => true

/-! ### Nap of the package (R511) -/

/-- A release in progress ends without copy-out (R511). -/
def State.dropRelease (s : State) (d k : Nat) : State :=
  let t := s.each (s.tasksIn d k [2, 3, 4, 5]) fun t n =>
    (t.setTaskState d k n (if t.is (.core d k) (TASK_CFG_EN n) then 1 else 0)).setTask d k n { t.task d k n with pos := 0, out := false, stop := none }
  match (t.core d k).ctx with
  | .task _ => t.setCore d k { t.core d k with ctx := .idle }
  | _ => t

/-- Links, ring ports and standby links go DOWN (R503, R511). -/
def State.portsDown (s : State) : State :=
  let t := s.each s.linksList fun t l => t.linkDown l.1 l.2
  (t.setRing 0).wrs .ring [(RING_STAT_PORT0, 0), (RING_STAT_PORT1, 0)]

/-- t0 to t2 of nap entry: NAP_ENTER, cores frozen with their releases ended, hoods discarded, load switches commanded
off, CAN FD controllers off the bus, links down, the host link in D3hot, WAKE_SRC cleared; every dirty segment and segment 31 are to be stored
(R511). -/
def State.napEnter (s : State) (w : Nat) : State :=
  let t := s.offer Ev.NAP_ENTER .pkg
  let t := t.each s.coresList fun t c => ((t.applyFrz (.core c.1 c.2) true).dropRelease c.1 c.2)
  let t := t.applyFields (t.subtree .pkg) (w &&& 0x20002)
  let t := t.each (List.range 16) fun t c => t.chanCommand c false
  let t := { t.portsDown.wr .wake WAKE_SRC_SRC 0 with pcie := { t.pcie with d3hot := true } }
  let t := t.requestStore (t.rd .nvs NVS_DIRTY_DIRTY ||| 2 ^ 31)
  { (t.dirty 31) with pwr := { t.pwr with phase := .napEntry, napAt := t.now, latchedWake := 0 } }

/-! ### The sequencer -/

/-- A reset and a nap wait for a blocking in progress to finish (R164). -/
def State.awaitBlocks (s : State) (n : Node) (w : Nat) : State :=
  if ctlRST w || (ctlNAP w && w.testBit 1) then s.finishBlocks (s.subtree n) else s

/-- A checked command is applied to its whole subtree (R38, R40, R511). -/
def State.applyCmd (s : State) (n : Node) (w : Nat) : State :=
  let s := s.awaitBlocks n w
  let t := if ctlRST w then s.applyRst n else s
  if ctlRST w ∧ n.resetsPackage then t
  else if n = .pkg ∧ ctlNAP w ∧ w.testBit 1 then (t.applyFields (t.subtree n) (w &&& 0x50005)).napEnter w
  else t.applyFields (t.subtree n) w

/-- NAP_REFUSED is recorded with the path of the written node and the word (R40). -/
def State.recordRefusal (s : State) (n : Node) (w code : Nat) : State :=
  if code = 2 then s.offer Ev.NAP_REFUSED n [w] else s

/-! ### The ring node (R389) -/

/-- Frames that await an answer; the next frame takes the next tag. -/
def State.ringAwait (s : State) (l : List RingReq) : State :=
  { s with ring := { s.ring with tag := (s.ring.tag + 1) % 2 ^ 16, reqs := s.ring.reqs ++ l } }

/-- A passed CHECK of the ring node would fail if a job were admitted (R389). -/
def State.ringHolds (s : State) : Bool :=
  match s.ring.check with
  | some w => (ctlNAP w && w.testBit 1) || (ctlEN w && !w.testBit 0)
  | none => false

/-- A ring command is over in this package: nothing is held back or awaited for it any more. -/
def State.ringDrop (s : State) : State :=
  { s with ring := { s.ring with check := none, ctl := none, reqs := s.ring.reqs.filter fun r => decide (r.kind ≠ 8) } }

/-- RESULT takes DONE, but of a package reset and of a package nap, which are not over yet (R40, R511). -/
def State.cmdDone (s : State) (n : Node) (w : Nat) : State :=
  if ctlRST w ∧ n.resetsPackage then { s with pwr := { s.pwr with seqReset := true } }
  else if (n = .pkg ∨ n = .ring) ∧ ctlNAP w ∧ w.testBit 1 then s
  else s.wr n.blk NODE_CTRL_RESULT 0

/-- A ring command is refused with a code: RELEASE goes to every member. -/
def State.ringRefuse (s : State) (w code : Nat) : State :=
  ((s.ringSend "RELEASE" 10 0xFF 0 s.ring.tag 0 []).ringDrop.wr .ringNode NODE_CTRL_RESULT code).recordRefusal .ring w code

/-- Every member that answers has passed: APPLY goes out and the head applies the command to its own package; where some
did not answer, nap is refused and any other command is recorded as partial. -/
def State.ringApply (s : State) (w : Nat) (missed : Bool) : State :=
  if missed ∧ ctlNAP w ∧ w.testBit 1 then s.ringRefuse w 2
  else
    let t := (s.ringSend "APPLY" 9 0xFF 0 s.ring.tag 0 [w]).ringDrop.cmdDone .ring w
    let t := if missed then t.offer Ev.RING_PARTIAL .ring else t
    (t.applyFields [.ring] w).applyCmd .pkg w

/-- A command to the ring node begins: CHECK goes to every member, and the head, a member itself, checks its own package. -/
def State.ringStart (s : State) (w : Nat) : State :=
  let ms := (List.range (s.rd .ring RING_COUNT_N)).filter fun m => decide (m ≠ s.ringPos)
  let t := s.ringSend "CHECK" 8 0xFF 0 s.ring.tag 0 [w]
  match s.cmdRefused .pkg w true with
  | some c => t.ringRefuse w c
  | none =>
    let t := t.ringAwait (ms.map fun m => { tag := s.ring.tag, member := m, kind := 8, at_ := s.tb })
    { t with ring := { t.ring with check := some w, ctl := some (w, false) } }

/-- A command at the head of the sequencer is checked and applied or refused, and RESULT takes its outcome; it stays
BUSY through a nap entry (R39, R40, R511). -/
def State.runCmd (s : State) (n : Node) (w : Nat) : State :=
  if n = .ring then s.ringStart w
  else
  match s.cmdRefused n w with
  | some c => (s.wr n.blk NODE_CTRL_RESULT c).recordRefusal n w c
  | none => (s.cmdDone n w).applyCmd n w

/-- The sequencer may start its next command: the crown die runs, and no command is still being applied, be it a ring
command, a package nap or a package reset that waits (R39). -/
def State.seqFree (s : State) : Bool :=
  s.crownRuns && decide (s.pwr.phase ≠ .napEntry) && decide (s.ring.ctl = none) && !s.pwr.seqReset

/-- The first command of the sequencer leaves it and is run; the nodes whose commands wait behind it stay BUSY. -/
def State.runHead (s : State) : State :=
  match s.seqQ with
  | [] => s
  | c :: cs => ({ s with seqQ := cs }.runCmd c.node c.word).markWaiting.bootMark

/-- The kinds of command by which the rows of the table divide them: 3 reset, 2 nap, 1 enable, 0 freeze. -/
def ctlKind (w : Nat) : Nat := if ctlRST w then 3 else if ctlNAP w then 2 else if ctlEN w then 1 else 0

/-- A command waits for the end of the transfers that have been granted to the requesters on which it acts (R297). -/
def State.heldByGrant (s : State) (c : NodeCmd) : Bool := s.transferring (s.subtree c.node)

/-- The head is run if it is of a kind, no transfer holds it up, and the sequencer is free (R39, R297). -/
def State.runKind (s : State) (k : Nat) : State :=
  match s.seqQ with
  | [] => s
  | c :: _ => if ctlKind c.word = k ∧ s.seqFree ∧ ¬ s.heldByGrant c then s.runHead else s

/-- NODE_ENABLE: the sequencer runs its first command, one that acts on EN and neither on RST nor NAP (R39, R41). -/
def execNodeEnable (s : State) : Host.Outcome State Fault Refusal := .next (s.runKind 1)

/-- NODE_NAP: the sequencer runs its first command, one that acts on NAP and not on RST (R40). -/
def execNodeNap (s : State) : Host.Outcome State Fault Refusal := .next (s.runKind 2)

/-- NODE_FREEZE: the sequencer runs its first command, one that acts on FRZ alone (R41). -/
def execNodeFreeze (s : State) : Host.Outcome State Fault Refusal := .next (s.runKind 0)

/-- NODE_RESET: the sequencer runs its first command, one that resets (R38, R41). -/
def execNodeReset (s : State) : Host.Outcome State Fault Refusal := .next (s.runKind 3)

/-- A write of `w` to NODE_CTRL of a node: nothing where MASK is 0; else the command enters the sequencer, which holds
16; none where it is full (R38, R39). -/
def State.nodeCtrl (s : State) (n : Node) (w : Nat) : Option State :=
  if NODE_CTRL_MASK.of w = 0 then some s
  else if 16 ≤ s.seqQ.length then none
  else some { s.wr n.blk NODE_CTRL_RESULT 1 with seqQ := s.seqQ ++ [{ node := n, word := w }] }

/-! ### Captures -/

/-- NODE_FAULT_FREE: a write of 1 to NODE_FAULT.VALID of a node frees that capture only (R32). -/
def execNodeFaultFree (n : Node) (s : State) : Host.Outcome State Fault Refusal :=
  .next (if s.hasNode n then s.wr n.blk NODE_FAULT_VALID 0 else s)

/-- A requester exists in this package. -/
def State.hasReq (s : State) : Req → Bool
  | .core d k => s.hasNode (.core d k)
  | _ => true

/-- The W1C bits of FLT_INFO are cleared as written (R50). -/
def State.fltFree (s : State) (r : Req) (valid lost : Bool) : State :=
  match r.blk with
  | none => s
  | some b =>
    let t := if valid then s.wr b FLT_INFO_VALID 0 else s
    if lost then t.wr b FLT_INFO_LOST 0 else t

/-- FLT_CAPTURE_FREE: a write of 1 to FLT_INFO.VALID of a requester's capture (R50). -/
def execFltCaptureFree (r : Req) (s : State) : Host.Outcome State Fault Refusal :=
  .next (if s.hasReq r then s.fltFree r true false else s)

/-- LOCK of a protection region is set (R50). -/
def State.protLock (s : State) (r : Req) (n : Nat) : State :=
  match r.blk with
  | none => s
  | some b => s.wr b (PROT_ATTR_LOCK n) 1

/-- PROT_LOCK: a write of 1 to PROT_ATTR.LOCK of region `n` of a requester (R50). -/
def execProtLock (r : Req) (n : Nat) (s : State) : Host.Outcome State Fault Refusal :=
  .next (if s.hasReq r ∧ n < 8 then s.protLock r n else s)

end Sys2Proof.Machine
end

