-- ==== Sys2Proof/Machine/Image.lean ====
section
/-! DEFINITION. The image service (R125 to R128, R318, R411, R424), the restart (R146 to R153), the mirror (R151) and the
keep frames (R407). -/

namespace Sys2Proof.Machine

/-! ### The input refresh -/

/-- The number whose bit `i` is `f i`, for `n` bits. -/
def bitsOf (n : Nat) (f : Nat → Bool) : Nat := (List.range n).foldl (fun a i => if f i then a + 2 ^ i else a) 0

/-- The first 133 bit points of %IX (R411). -/
def State.ixPoints (s : State) : Nat :=
  let diag := fun c => s.is .lsw (LSW_CH_STAT_OC c) || s.is .lsw (LSW_CH_STAT_OT c) || s.is .lsw (LSW_CH_STAT_OPEN c) || s.is .lsw (LSW_CH_STAT_SHORT c)
  let ph := fun c => s.rd .lsw (LSW_CH_STAT_PHASE c)
  s.rd .din DIN_STATE_STATE + s.field.chgSince % 2 ^ 32 * 2 ^ 32 + s.rd .din DIN_VALID_VALID * 2 ^ 64 +
    bitsOf 16 (fun c => decide (ph c = phTURNON ∨ ph c = phON)) * 2 ^ 96 + bitsOf 16 diag * 2 ^ 112 +
    bitsOf 2 (fun g => decide (s.supply g ≠ 0)) * 2 ^ 128 + bitsOf 2 (fun g => decide (s.supply g = 2)) * 2 ^ 130 +
    s.rd .lsw LSW_STAT_FAILSAFE * 2 ^ 132

/-- The 17 bytes that the field die's bit points fill; the three bits beyond point 132 keep their values. -/
def State.ixBytes (s : State) : List Byte := leBytes 17 (s.ixPoints + (s.byte .imgIdle 16).toNat / 32 * 2 ^ 133)

/-- The four bytes of %IW 0 and 1: the group voltages in units of 10 mV (R411). -/
def State.iwBytes (s : State) : List Byte := leBytes 2 (s.rd .sup FSUP_MV0_MV / 10) ++ leBytes 2 (s.rd .sup FSUP_MV1_MV / 10)

/-- An object whose data the image service moves (R424, R425). -/
def State.canImaged (s : State) (c o : Nat) (dir : Bool) : Bool :=
  let x := s.canObj c o
  x.en && x.imgen && x.dir == dir && !s.isHeartbeatObj c o && !s.isCapObj c o

/-- The data bytes of a received frame, an odd last one padded with zero. -/
def CanObj.inBytes (x : CanObj) : List Byte :=
  let n := dlcLength x.rxdlc
  (List.range (n + n % 2)).map fun i => if i < n then BitVec.ofNat 8 (x.data.getD i 0) else 0

/-- A frame stored since the last refresh goes to %IW from POINT on; what lies beyond the region is dropped (R424). -/
def State.canInput (s : State) (c o : Nat) : State :=
  let x := s.canObj c o
  if s.canImaged c o false ∧ x.refreshed then
    let a := 0x20000 + 2 * x.point
    (s.putEach .imgIdle a (x.inBytes.take (0x40000 - a))).setCanObj c o { x with refreshed := false }
  else s

/-- The objects of all controllers. -/
def canObjects : List (Nat × Nat) := (List.range 4).flatMap fun c => canObjNums.map fun o => (c, o)

/-- The idle half takes the inputs of the package (R126, R411, R424). -/
def State.writeInputs (s : State) : State :=
  let t := (s.putEach .imgIdle 0 s.ixBytes).putEach .imgIdle 0x20000 s.iwBytes
  canObjects.foldl (fun t p => t.canInput p.1 p.2) t

/-- The input regions are published: the idle half becomes the one that is read, and the idle half goes on from the same
content (R126). -/
def State.publish (s : State) (seq : Nat) : State :=
  let t := (s.copyMem .imgIdle .img 0 0 0x8000).copyMem .imgIdle .img 0x20000 0x20000 0x20000
  { t with img := { t.img with pubAt := t.tmb.count } }.wr .pkgNode IMG_SEQ_SEQ seq

/-- The offsets of the 64-byte blocks of the input regions. -/
def inputBlocks : List Nat := (List.range 512).map (64 * ·) ++ (List.range 2048).map (0x20000 + 64 * ·)

/-- The blocks of the idle half that a MIRROR carries: all, or those that differ from the published half (R318). -/
def State.mirrorBlocks (s : State) (whole : Bool) : List Nat :=
  let new := s.mem .imgIdle
  let old := s.mem .img
  inputBlocks.filter fun o => whole || decide (new.getList o 64 ≠ old.getList o 64)

/-- Blocks of the idle half as MIRROR carries them: each offset with its 64 bytes. -/
def State.blockWords (s : State) : List Nat → List Nat × State
  | [] => ([], s)
  | o :: os =>
    let (bs, t) := s.scanBytes .imgIdle o 64
    let (ws, u) := t.blockWords os
    (o :: bs.map BitVec.toNat ++ ws, u)

/-- An active unit with a standby sends MIRROR for a refresh: IMG_SEQ, whether it carries the regions whole, and the
blocks, each an offset and 64 bytes (R318). -/
def State.mirrorSend (s : State) (seq : Nat) : State :=
  if s.hsbState = hsbACTIVE then
    let whole := !s.hsb.fullMirror
    let (ws, s) := s.blockWords (s.mirrorBlocks whole)
    { s with hsb := { s.hsb with fullMirror := true } }.hsbSend .mirror [seq, whole.toNat] ws
  else s

/-! ### The output side -/

/-- A channel point is forwarded where the block takes it and it has changed, or all must be (R127, R399, R410). -/
def State.forwardChan (s : State) (q : Nat) (all : Bool) (c : Nat) : State :=
  let seen := s.field.qxSeen
  if s.bit .lsw LSW_IMGEN_EN c ∧ (all ∨ ¬ seen.testBit (16 + c) ∨ seen.testBit c ≠ q.testBit c) then
    let v := clearBits seen (2 ^ c) + (if q.testBit c then 2 ^ c else 0)
    { s.lswCommand c (q.testBit c) with field := { (s.lswCommand c (q.testBit c)).field with qxSeen := v ||| 2 ^ (16 + c) } }
  else s

/-- The %QW points that a transmit object takes, from their bytes: its key among the words last seen, and the value plus 1;
zero beyond the region. -/
def canWords (o : Nat) (x : CanObj) (bs : List Byte) : List (Nat × Nat) :=
  (List.range ((dlcLength x.dlc + 1) / 2)).map fun i =>
    (32 * o + i, (if x.point + i < 0x10000 then numAt bs (2 * i) 2 else 0) + 1)

/-- A transmit object whose points have changed takes them as its data, and is to be sent (R127, R424). -/
def State.forwardCan (s : State) (c o : Nat) : State :=
  let x := s.canObj c o
  if s.canImaged c o true then
    let (bs, s) := s.scanBytes .img (0x40000 + 2 * x.point) (2 * ((dlcLength x.dlc + 1) / 2))
    let ws := canWords o x bs
    if ws.any fun w => decide ((s.canOf c).imgSeen.get w.1 0 ≠ w.2) then
      let data := (ws.flatMap fun w => [(w.2 - 1) % 256, (w.2 - 1) / 256]).take (dlcLength x.dlc)
      let m := s.canOf c
      let seen := ws.foldl (fun l w => Tab.set (fun k => k) l w.1 0 w.2) m.imgSeen
      (s.setCan c { m with imgSeen := seen }).canOwnerSend c o data
    else s
  else s

/-- The output side of a refresh, which reads %QX and %QW through their ECC (R127, R410, R540). -/
def State.forward (s : State) : State :=
  if s.img.copied then
    let (q, s) := s.scanBytes .img 0x8000 2
    let q := leNat q
    let t := s.each (List.range 16) fun t c => t.forwardChan q s.field.qxAll c
    let t := ({ t with field := { t.field with qxAll := false } }.scan .img 0x8000 0x8000).scan .img 0x40000 0x20000
    canObjects.foldl (fun t p => t.forwardCan p.1 p.2) t
  else s

/-- A refresh: in a standby the inputs are the active unit's and come by MIRROR; the output side follows (R126, R127,
R318). -/
def State.refresh (s : State) : State :=
  let t := { s with img := { s.img with lastAt := s.tb } }
  if s.isStandby then t.forward
  else
    let seq := (s.rd .pkgNode IMG_SEQ_SEQ + 1) % 2 ^ 32
    let t := ((t.writeInputs).mirrorSend seq).publish seq
    { t with field := { t.field with chgSince := 0 } }.forward

/-- IMG_REFRESH: IMG_CTRL.PERIOD has passed since the last refresh while the image service runs (R126). -/
def execImgRefresh (s : State) : Host.Outcome State Fault Refusal :=
  .next (if s.crownRuns ∧ s.is .pkgNode IMG_CTRL_RUN ∧ s.img.lastAt + s.rd .pkgNode IMG_CTRL_PERIOD * 1000 ≤ s.tb then s.refresh else s)

/-! ### RUN -/

/-- A write of RUN (R128, R153): the first 1 after a reset starts the restart; while it runs, writes have no effect. -/
def State.imgRun (s : State) (run : Bool) : State :=
  if s.img.restarting then s
  else if run ∧ ¬ s.img.begun then { s with img := { s.img with begun := true, restarting := true } }
  else if s.img.begun then s.wrB .pkgNode IMG_CTRL_RUN run
  else s

/-- A write of `w` to IMG_CTRL (R128). -/
def State.imgCtrl (s : State) (w : Nat) : State :=
  let p := IMG_CTRL_PERIOD.of w
  (if 5 ≤ p ∧ p ≤ 1000 then s.wr .pkgNode IMG_CTRL_PERIOD p else s).imgRun (decide (IMG_CTRL_RUN.of w = 1))

/-- IMG_RUN: a write of 1 to IMG_CTRL.RUN with PERIOD as given (R128, R153). -/
def execImgRun (period : Nat) (s : State) : Host.Outcome State Fault Refusal := .next (s.imgCtrl (period % 2 ^ 10 + 2 ^ 16))

/-- IMG_STOP: a write of 0 to IMG_CTRL.RUN with PERIOD as given (R128). -/
def execImgStop (period : Nat) (s : State) : Host.Outcome State Fault Refusal := .next (s.imgCtrl (period % 2 ^ 10))

/-- The keep frames are stopped: RUN has been written 0 (R407). -/
def State.keepStopped (s : State) : Bool := s.img.begun && !s.img.restarting && !s.is .pkgNode IMG_CTRL_RUN

/-- A keep frame leaves the crown die with the unit's role and claim and LINERUN (R407). -/
def State.keepSend (s : State) : State := s.emit (.keep s.isActive (s.rd .hsb HSB_CLAIM_CLAIM) (s.is .tmb TMB_STAT_LINERUN))

/-- A keep frame is due: 1 ms after the last, from t2 of the boot on, while the crown clock runs and the image service has not
been stopped (R407). -/
def State.keepDue (s : State) : Bool :=
  s.crownRuns && decide (s.pwr.phase = .on) && !s.keepStopped && decide (s.img.keepAt + 1000000 ≤ s.now)

/-- KEEP_FRAME_TX: a keep frame goes out when it is due (R407). -/
def execKeepFrameTx (s : State) : Host.Outcome State Fault Refusal :=
  .next (if s.keepDue then { s with img := { s.img with keepAt := s.now } }.keepSend else s)

/-! ### The control data image and the mirror -/

/-- The running entries that give variables their places, with their cores (R146). -/
def State.ownVars (s : State) : List ((Nat × Nat) × MapEntry) :=
  s.coresList.flatMap fun c => ((s.runMap c.1 c.2).filter fun e => !e.imported).map fun e => (c, e)

/-- The ranges of the control data image: %QX, %MX, %QW, %MW and the variables outside core-local RAM (R146). -/
def State.dataRanges (s : State) : List (Nat × Nat) :=
  [(imgBase + 0x8000, 0x8000), (imgBase + 0x10000, 0x10000), (imgBase + 0x40000, 0x20000), (imgBase + 0x60000, 0x40000)] ++
    (s.ownVars.filter fun v => decide (0x40000 ≤ v.2.addr)).map fun v => (v.2.addr, v.2.size)

/-- A variable that a retain slot keeps: marked RETAIN and outside core-local RAM (R146, R148). -/
def MapEntry.kept (e : MapEntry) : Bool := e.retain && decide (0x40000 ≤ e.addr)

/-- The digest of the running layout maps of the package (R148). -/
def State.mapsDigest (s : State) : Nat :=
  crc32c (s.coresList.flatMap fun c => match s.runLMap c.1 c.2 with | some m => m.bytes | none => [])

/-- The restart data's room in the retained store (R150). -/
abbrev restLimit : Nat := 0x1C0000

/-- A part of a D-space range put into the restart data at `p`, its segments dirty (R449). -/
def State.keepPart (s : State) (a p n : Nat) : State :=
  match s.dLoc .crown a with
  | .ok (m, o) =>
    if n = 0 ∨ restLimit < p + n then s
    else (s.copyMem m .ret o p n).each ((List.range ((p + n - 1) / 0x10000 + 1 - p / 0x10000)).map (p / 0x10000 + ·)) fun t g => t.dirty g
  | .error _ => s

/-- A range put into the restart data at `p`: in the control image only the pages written since the last mirror, unless the
restart data is laid out anew (R151). -/
def State.keepRange (s : State) (anew : Bool) (a p n : Nat) : State :=
  if inImage a && !anew then
    s.each s.img.pages fun t g =>
      let lo := max a (imgBase + 4096 * g)
      let hi := min (a + n) (imgBase + 4096 * g + 4096)
      if lo < hi then t.keepPart lo (p + (lo - a)) (hi - lo) else t
  else s.keepPart a p n

/-- Ranges put into the restart data one behind the other, from `p` on. -/
def State.keepRanges (s : State) (anew : Bool) : List (Nat × Nat) → Nat → State
  | [], _ => s
  | r :: rs, p => (s.keepRange anew r.1 p r.2).keepRanges anew rs (p + r.2)

/-- The offset in the packed restart data at which the range that starts at `a` stands (R150). -/
def packedAt (a : Nat) : List (Nat × Nat) → Nat
  | [] => 0
  | r :: rs => if r.1 = a then 0 else r.2 + packedAt a rs

/-- The retain directory of the running maps: each kept variable with the place of its bytes, which is its RSLOT, or under
full retention that of its range (R150). -/
def State.retainDir (s : State) (full : Bool) : List RetEntry :=
  (s.ownVars.filter fun v => v.2.kept).map fun v =>
    { id := v.2.id, core := (Node.core v.1.1 v.1.2).unitPath, addr := v.2.addr, size := v.2.size, type := v.2.type
      slot := if full then packedAt v.2.addr s.dataRanges else v.2.rslot }

/-- What the restart data is to hold under RST_MODE: full retention covers the control data image, warm the retain slots,
cold nothing (R151). -/
def State.restPlan (s : State) : Option Restart :=
  match s.rd .pkgNode RST_MODE_MODE with
  | 2 => some { dir := s.retainDir true, ranges := s.dataRanges, digest := s.mapsDigest, full := true }
  | 1 => some { dir := s.retainDir false }
  | _ => none

/-- The restart data takes what a plan names; it is written whole where the plan lays it out otherwise than it stands
(R151). -/
def State.mirrorAs (s : State) (p : Restart) : State :=
  let anew := decide (p ≠ s.rest)
  let t := if p.full then s.keepRanges anew p.ranges 0 else s.each p.dir fun t e => t.keepRange anew e.addr e.slot e.size
  { t with rest := p }

/-- A mirror pass (R151); in a power-fail store by the maps that ran when it started (R152). -/
def State.mirror (s : State) : State :=
  let t := match if s.pwr.phase = .store then s.nvs.pfRest else s.restPlan with
    | some p => s.mirrorAs p
    | none => s
  { t with img := { t.img with pages := [], mirrorAt := s.tb } }

/-- MIRROR_PASS: RST_MIRROR.PERIOD has passed since the last mirror, with the restart done (R151). -/
def execMirrorPass (s : State) : Host.Outcome State Fault Refusal :=
  .next (if s.crownRuns ∧ s.img.begun ∧ ¬ s.img.restarting ∧ s.img.mirrorAt + s.rd .pkgNode RST_MIRROR_PERIOD * 1000000 ≤ s.tb then s.mirror
    else s)

/-! ### The restart -/

/-- The kind that a restart applies and the reason where it is lower than MODE: 0 cold, 1 warm, 2 full (R148, R149). The
directory and the range table count inside the limit (R150). -/
def State.restartKind (s : State) : Nat × Nat :=
  let mode := s.rd .pkgNode RST_MODE_MODE
  let r := s.rest
  let lower := if s.nvs.restartValid then 1 else 0
  if mode = 2 then
    if ¬ s.nvs.restartValid then (0, 1)
    else if ¬ r.full ∨ r.digest ≠ s.mapsDigest then (lower, 2)
    else if restLimit < (r.ranges.map Prod.snd).sum + Config.restTables r.dir.length r.ranges.length then (lower, 3)
    else (2, 0)
  else if mode = 1 then (if s.nvs.restartValid then (1, 0) else (0, 1))
  else (0, 0)

/-- A part of the restart data put back into a D-space range. -/
def State.giveBack (s : State) (a p n : Nat) : State :=
  match s.dLoc .crown a with
  | .ok (m, o) =>
    let t := s.copyMem .ret m p o n
    if m = .img then t.touchPages o n else t
  | .error _ => s

/-- Ranges put back from the restart data, one behind the other. -/
def State.giveRanges (s : State) : List (Nat × Nat) → Nat → State
  | [], _ => s
  | r :: rs, p => (s.giveBack r.1 p r.2).giveRanges rs (p + r.2)

/-- %QX, %QW, %MX and %MW are zeroed. -/
def State.zeroPoints (s : State) : State :=
  s.each [(0x8000, 0x8000), (0x10000, 0x10000), (0x40000, 0x20000), (0x60000, 0x40000)] fun t r =>
    (t.zeroMem .img r.1 r.2).touchPages r.1 r.2

/-- A variable takes its initial value (R148). -/
def State.initVar (s : State) (d k : Nat) (e : MapEntry) : State :=
  match s.runLMap d k with
  | some m => s.putVar d k e.addr (s.initBytes m e)
  | none => s

/-- The retain entry of the stored directory that restores a variable: identifier, core, size and type agree (R149). -/
def State.retained (s : State) (d k : Nat) (e : MapEntry) : Option RetEntry :=
  if e.kept then
    s.rest.dir.find? fun r => decide (r.id = e.id ∧ r.core = (Node.core d k).unitPath ∧ r.size = e.size ∧ r.type = e.type)
  else none

/-- A variable of a warm restart: restored by identity or initialised. -/
def State.warmVar (s : State) (d k : Nat) (e : MapEntry) : State :=
  match s.retained d k e with
  | some r => s.giveBack e.addr r.slot e.size
  | none => s.initVar d k e

/-- The entries of the stored directory that no running entry takes. -/
def State.mismatches (s : State) : List RetEntry :=
  s.rest.dir.filter fun r => !(s.ownVars.any fun v => decide (s.retained v.1.1 v.1.2 v.2 = some r))

/-- A restart of a kind is carried out (R148, R149). -/
def State.applyRestart (s : State) (kind : Nat) : State :=
  let vars := s.ownVars
  if kind = 2 then s.giveRanges s.rest.ranges 0
  else
    let t := s.zeroPoints
    if kind = 1 then (t.each vars fun t v => t.warmVar v.1.1 v.1.2 v.2).each s.mismatches fun t _ => t.offer Ev.RETAIN_MISMATCH .pkg
    else t.each vars fun t v => t.initVar v.1.1 v.1.2 v.2

/-- The restart ends: RST_LAST, the records, and RUN (R149, R153). -/
def State.restart (s : State) : State :=
  let (kind, why) := s.restartKind
  let t := s.applyRestart kind
  let t := t.wrs .pkgNode [(RST_LAST_KIND, kind), (RST_LAST_DEGRADED, if why = 0 then 0 else 1), (RST_LAST_REASON, why), (IMG_CTRL_RUN, 1)]
  let t := if why = 0 then t else t.offer Ev.RESTART_DEGRADED .pkg
  { t.offer Ev.RESTART_DONE .pkg [kind] with img := { t.img with restarting := false } }

/-- RESTART_DONE: the crown core completes the restart that the first write of RUN started (R153). -/
def execRestartDone (s : State) : Host.Outcome State Fault Refusal :=
  .next (if s.crownRuns ∧ s.img.restarting then s.restart.bootMark else s)

end Sys2Proof.Machine
end

