-- ==== Sys2Proof/Machine/Hsb.lean ====
section
/-! DEFINITION. Hot standby pairs (R302 to R339): pair states, joining, shadowing, equalisation, takeover and handover,
page hashes, heartbeats and the claim exchange line. -/

namespace Sys2Proof.Machine

/-! ### Messages of the job pair and the pages (R320 to R322) -/

/-- JOB_MSG_TX: JOB goes out on a change of the own job, and every 1 ms while it runs (R322). -/
def execJobMsgTx (s : State) : Host.Outcome State Fault Refusal :=
  .next (if s.hsbState ≠ hsbOFF ∧ s.portsUp ∧ (s.hsb.jobSent ≠ s.jobKey ∨ (s.jobState = 2 ∧ s.hsb.jobSentAt + 1000000 ≤ s.tb)) then
    let dies := match s.job.job with
      | some j => j.dies.flatMap fun b => [b.die, s.rd (.ing b.die) ING_RPTR_OFFSET, s.rd (.ing b.die) ING_LINE_LINE]
      | none => []
    let t := (s.hsbSend .job s.jobKey dies).jobPairUpdate
    { t with hsb := { t.hsb with jobSent := s.jobKey, jobSentAt := s.tb } }
    else s)

/-- JOB_MSG_RX: the peer's JOB message, with die number, ING_RPTR and ING_LINE of each die of its job (R322, R323). -/
def execJobMsgRx (h : SbHdr) (state crc s0 : Nat) (dies : List (Nat × Nat × Nat)) (s : State) : Host.Outcome State Fault Refusal :=
  .next (s.sbRx h fun s =>
    { s with hsb := { s.hsb with peerJob := some { state := state, crc := crc, s0 := s0, dies := dies } } }.jobPairUpdate)

/-- CAP_MSG_RX: the peer's cap (R324); the active unit's cap message is due again. -/
def execCapMsgRx (h : SbHdr) (cap : Nat) (s : State) : Host.Outcome State Fault Refusal :=
  .next (s.sbRx h fun s => (s.wr .hsb HSB_PEERCAP_HZ cap).oweCap)

/-- HASH_RX: the peer's hashes of pages, by page number (R320). -/
def execHashRx (h : SbHdr) (hashes : List (Nat × Nat)) (s : State) : Host.Outcome State Fault Refusal :=
  .next (s.sbRx h fun s => s.each hashes fun t e => (t.setPage e.1 ({ t.page e.1 with peer := some (e.2 % 2 ^ 32) }).judge).readyUpdate)

/-- PAGE_HASH: a page that the host has not written for 100 µs is hashed, and its hash sent (R320). -/
def execPageHash (p : Nat) (s : State) : Host.Outcome State Fault Refusal :=
  let x := s.page p
  .next (if s.hsbState ≠ hsbOFF ∧ x.own = none ∧ x.writtenAt ≠ 0 ∧ x.writtenAt + 99999 ≤ s.tb then
    match s.dLoc .engine (65536 * p) with
    | .ok (m, o) =>
      let (bs, s) := s.scanBytes m o 65536
      let c := crc32c bs
      (s.setPage p ({ x with own := some c }).judge).readyUpdate.hsbSend .hash (twoWords (65536 * p) ++ [c])
    | .error _ => s
    else s)

/-! ### Joining (R312 to R314, R325) -/

/-- What JOIN carries of the maps: the CRC field of each core's running map, 0 where there is none (R313). -/
def State.joinMaps (s : State) : List Nat :=
  s.coresList.map fun c => match s.runLMap c.1 c.2 with | some m => m.crc | none => 0

/-- What JOIN carries of a lane: the digest of its running slot and tables, its settings and routes (R313). -/
def State.joinLane (s : State) (d j : Nat) : List Nat :=
  let b := Blk.lane d j
  [s.slotDigest d j (s.slotOf d j) 16384, s.rd b LANE_GROUPS_N, s.rd b LANE_LEAD_NS, s.rd b LANE_FIN_NS, s.rd b LANE_LINKBUD_NS] ++
    (List.range 32).flatMap fun r =>
      [s.rd b (LANE_ROUTE_A_FIRST r), s.rd b (LANE_ROUTE_A_COUNT r), s.rd b (LANE_ROUTE_A_LINK r), s.rd b (LANE_ROUTE_B_TARGET r)]

/-- The settings of every lane. -/
def State.joinLanes (s : State) : List (List Nat) := s.lanesList.map fun l => s.joinLane l.1 l.2

/-- NODE_REV of the package (R3, R31). -/
def State.nodeRev (s : State) : Nat := 0xA1 + 256 * s.straps.dies

/-- At a join every core whose synced region is cut, and every core without a valid REF, is recorded (R325). -/
def State.joinRecords (s : State) : State :=
  s.each s.coresList fun t c =>
    let t := if s.syncTrunc c.1 c.2 then t.offer Ev.EQ_TRUNC (.core c.1 c.2) else t
    if s.refValidTask c.1 c.2 then t else t.offer Ev.EQ_NOREF (.core c.1 c.2)

/-- An active unit has a peer that joins: ACTIVE, JOIN goes out, and the next MIRROR carries the regions whole (R312,
R313, R318). -/
def State.peerJoins (s : State) : State :=
  let t := { s.setHsbState hsbACTIVE with hsb := { s.hsb with fullMirror := false } }
  (t.hsbSend .join [] ([s.nodeRev, s.rd .pkgNode IMG_CTRL_PERIOD] ++ s.joinMaps ++ s.joinLanes.flatten)).joinRecords

/-- The first difference that ends a join (R313); 0 where there is none. -/
def State.joinDiffers (s : State) (rev period : Nat) (maps : List Nat) (lanes : List (List Nat)) : Nat :=
  if rev ≠ s.nodeRev then 1 else if period ≠ s.rd .pkgNode IMG_CTRL_PERIOD then 2 else if maps ≠ s.joinMaps then 3
  else if lanes ≠ s.joinLanes then 4 else 0

/-- JOIN_RX: a joining unit compares the active unit's settings with its own (R313). -/
def execJoinRx (h : SbHdr) (rev period : Nat) (maps : List Nat) (lanes : List (List Nat)) (s : State) : Host.Outcome State Fault Refusal :=
  .next (s.sbRx h fun s =>
    if s.hsbState = hsbJOINING then
      let e := s.joinDiffers rev period maps lanes
      if e = 0 then s.joinRecords
      else ((s.wrs .hsb [(HSB_JOINERR_DETAIL, e), (HSB_CTRL_EN, 0)]).offer Ev.HSB_MISMATCH .crown [e]).leaveStandby hsbOFF
    else s)

/-! ### Enabling -/

/-- EN = 1 takes a strapped unit from OFF to SEEK (R312). -/
def State.hsbEnable (s : State) : State :=
  if s.strapped ∧ s.hsbState = hsbOFF then
    { (s.wr .hsb HSB_CTRL_EN 1).setHsbState hsbSEEK with hsb := { s.hsb with seekAt := s.tb, peerState := 0, peerJob := none } }
  else s.wr .hsb HSB_CTRL_EN 1

/-- EN = 0 returns the unit to OFF and sends LEAVE (R312). -/
def State.hsbDisable (s : State) : State :=
  if s.hsbState = hsbOFF then s.wr .hsb HSB_CTRL_EN 0 else s.leavePair.readyUpdate

/-- HSB_ENABLE: a write of HSB_CTRL.EN = 1 (R312). -/
def execHsbEnable (s : State) : Host.Outcome State Fault Refusal := .next s.hsbEnable

/-- HSB_DISABLE: a write of HSB_CTRL.EN = 0 (R312). -/
def execHsbDisable (s : State) : Host.Outcome State Fault Refusal := .next s.hsbDisable

/-- The unit becomes active with its next claim in a state, or CLAIM_EXHAUSTED is recorded (R307). -/
def State.becomeActive (s : State) (st : Nat) : State :=
  match s.takeClaim with
  | some t => t.setHsbState st
  | none => s.offer Ev.CLAIM_EXHAUSTED .crown

/-- SEEKWAIT_EXPIRY: no valid message for HSB_CFG.SEEKWAIT ms in SEEK; no role is taken while a ring nap that was checked has
still to come (R312, R389). -/
def execSeekwaitExpiry (s : State) : Host.Outcome State Fault Refusal :=
  .next (if s.hsbState = hsbSEEK ∧ ¬ s.ringHoldsRole ∧ max s.hsb.seekAt s.hsb.lastMsg + s.rd .hsb HSB_CFG_SEEKWAIT * 1000000 ≤ s.tb then
    s.becomeActive hsbSOLO else s)

/-! ### Takeover (R331, R332) -/

/-- D(n) of a route's line is still to come. -/
def State.beforeD (s : State) (x : RouteTx) : Bool :=
  decide (0 < toSigned 32 ((x.dl + 2 ^ 32 - s.tmb.count % 2 ^ 32) % 2 ^ 32))

/-- A held line that a route has sent all of is held once more for it. -/
def State.holdAgain (s : State) (d : Nat) (x : RouteTx) : State :=
  let l := s.lane d x.lane
  let e := Tab.get l.out (x.line % 4) (0, 0)
  s.setLane d x.lane { l with out := Tab.set (fun k => k) l.out (x.line % 4) (0, 0) (e.1, e.2 + 1) }

/-- The routes of a link that have sent any frame of a line still held send it again from the first frame, before the lines
after it (R332). -/
def State.resendLink (s : State) (d m : Nat) : State :=
  if s.linkState d m ≠ 2 then s
  else
    let l := s.link d m
    let again := (l.sent.filter fun x => s.lineHeld d x && s.beforeD x).map fun x => { x with next := 0, late := false, w := 0 }
    let t := s.each again fun t x => t.holdAgain d x
    t.setLink d m { l with
      routes := again ++ l.routes.map fun x => if x.next ≠ 0 ∧ s.beforeD x then { x with next := 0, late := false } else x
      sent := l.sent.filter fun x => !(s.lineHeld d x && s.beforeD x) }

/-- Every held line is sent again, on every link. -/
def State.resendLines (s : State) : State := s.each s.linksList fun t l => t.resendLink l.1 l.2

/-- A CLAIM frame goes out on every link that is UP (R331). -/
def State.claimFrames (s : State) : State :=
  s.each (s.linksList.filter fun l => decide (s.linkState l.1 l.2 = 2)) fun t l => t.linkSendNow l.1 l.2 7 0 []

/-- Held due times of every core are released (R331). -/
def State.releaseAllHeld (s : State) : State :=
  s.each s.coresList fun t c => (t.setCore c.1 c.2 { t.core c.1 c.2 with eqHold := none }).endHold c.1 c.2

/-- TOINFO, TOCNT and TOTIME, and the record (R331). -/
def State.takeoverRecord (s : State) (cause : Nat) (unready split : Bool) : State :=
  let t := s.wrs .hsb [(HSB_TOINFO_CAUSE, cause), (HSB_TOINFO_UNREADY, unready.toNat), (HSB_TOINFO_SPLIT, split.toNat),
    (HSB_TOTIME_NS, s.tmb.count)]
  (t.bump .hsb HSB_TOCNT_COUNT).offer Ev.TAKEOVER .crown [cause]

/-- The peer's CAN heartbeat was heard within the last 2 ms (R330). -/
def State.canPath (s : State) : Bool :=
  match s.hsb.lastCan with
  | some t => decide (s.tb < t + 2000000)
  | none => false

/-- A takeover (R331): claim, SOLO, held due times released; CLAIM frames and resent lines; role and claim to the field
die; the cap message due; the line timebase switching away from the peer; the record. -/
def State.takeover (s : State) (cause : Nat) : State :=
  match s.takeClaim with
  | none => s.offer Ev.CLAIM_EXHAUSTED .crown
  | some t =>
    let t := { (t.setHsbState hsbSOLO).releaseAllHeld with hsb := { t.hsb with fullMirror := false, handover := none, eqGot := [] } }
    let t := (t.claimFrames.resendLines.keepSend).oweCap
    let t := t.startSwitch t.bestRef
    let t := if cause = 3 then t else t.jobPairEnd
    (t.setPeerReady false).readyUpdate.takeoverRecord cause (!s.hsbReady) s.canPath

/-- RESIGN_RX: a STANDBY unit that receives RESIGN takes over (R329). -/
def execResignRx (h : SbHdr) (s : State) : Host.Outcome State Fault Refusal :=
  .next (s.sbRx h fun s => if s.hsbState = hsbSTANDBY then s.takeover 2 else s)

/-- LEAVE_RX: an active unit enters SOLO, a standby OFF (R312, R322). -/
def execLeaveRx (h : SbHdr) (s : State) : Host.Outcome State Fault Refusal :=
  .next (s.sbRx h fun s =>
    if s.isActive then ((s.setPeerReady false).setHsbState hsbSOLO).jobPairEnd
    else if s.isStandby then s.leaveStandby hsbOFF else s)

/-- PATH_SILENCE: path `p` has carried no valid message for 30 µs (R328). -/
def execPathSilence (p : Nat) (s : State) : Host.Outcome State Fault Refusal :=
  .next (if p < 2 ∧ s.strapped ∧ s.portsUp ∧ ¬ s.hsb.failed p ∧ s.pathSilent p then
    let t := { s with hsb := s.hsb.setFailed p true }.wr .hsb (pathBit p) 0
    (t.bump .hsb (if p = 0 then HSB_PATHCNT_PATHA else HSB_PATHCNT_PATHB)).offer Ev.PATH_FAULT .crown [p] |>.raiseCrown 169
    else s)

/-- The peer has failed: an active unit is alone, a standby takes over, a joining unit takes over or seeks (R316,
R328). -/
def State.peerFails (s : State) : State :=
  let s := { s with hsb := { s.hsb with rxHigh := none, rxTaken := [], peerState := 0 } }
  if s.isActive then ((s.setPeerReady false).setHsbState hsbSOLO).jobPairEnd
  else if s.hsbState = hsbSTANDBY then s.takeover 1
  else if s.hsbState = hsbJOINING then
    if s.is .hsb HSB_CTRL_JOINTAKE then s.takeover 4
    else
      let t := (s.leaveStandby hsbSEEK).offer Ev.PAIR_LOST .crown
      { t with hsb := { t.hsb with seekAt := s.tb } }
  else s

/-- PEER_SILENCE: both paths have been silent for 30 µs (R328). -/
def execPeerSilence (s : State) : Host.Outcome State Fault Refusal :=
  .next (if s.hsbState ≠ hsbOFF ∧ s.portsUp ∧ s.pathSilent 0 ∧ s.pathSilent 1 then s.peerFails else s)

/-! ### HB (R311, R312, R317) -/

/-- HB_TX: an HB goes out on each path every 10 µs, in every state but OFF (R311), and a change of READY shows. -/
def execHbTx (s : State) : Host.Outcome State Fault Refusal :=
  .next (if s.hsbState ≠ hsbOFF ∧ s.portsUp ∧ s.hsb.hbSentAt + 10000 ≤ s.tb then
    { s.readyUpdate with hsb := { s.readyUpdate.hsb with hbSentAt := s.tb } }.hsbSend .hb ([s.rd .hsb HSB_HC_CLAIM] ++
      twoWords s.tmb.count ++ twoWords s.hsb.hbTime ++
      [s.tmb.count - s.hsb.hbAt, s.hsbReady.toNat, s.rd .hsb HSB_STAT_JOBPAIR]) else s)

/-- What an HB says: HSB_HC, the 64-bit package time, the echo of this unit's last HB time with its residence time, READY
and JOBPAIR (R310). -/
structure HbBody where
  hc : Nat
  time : Nat
  echo : Nat
  residence : Nat
  ready : Bool
  jobpair : Bool
  deriving DecidableEq, Repr

/-- The local time against the peer's, in ns: half the round trip is the one-way delay (R317). -/
def State.hbOffset (s : State) (b : HbBody) : Int :=
  (s.tmb.count : Int) - b.time - ((s.tmb.count : Int) - b.echo - b.residence) / 2

/-- The rate that takes a measured offset back to 0 (R317): towards the peer's time, by a free value of at most 200 ppm. -/
def followRate (ofs : Int) (r : Nat) : Int :=
  let m : Nat := r % 200001
  if 0 < ofs then -m else if ofs < 0 then m else 0

/-- The time of an HB as a unit in role standby follows it (R317): 100 HBs in a row within 10 ns lock, 10 in a row
outside unlock. -/
def State.hbFollow (s : State) (b : HbBody) : State :=
  let good := decide ((s.hbOffset b).natAbs ≤ 10)
  let g := if good then s.hsb.tGood + 1 else 0
  let n := if good then 0 else s.hsb.tBad + 1
  let (r, t) := s.freeNat
  let t := { t with hsb := { t.hsb with tGood := g, tBad := n }, tmb := { t.tmb with rate := followRate (s.hbOffset b) r } }
  if 100 ≤ g then t.wr .hsb HSB_STAT_TLOCK 1 else if 10 ≤ n then t.wr .hsb HSB_STAT_TLOCK 0 else t

/-- The pair state after an HB of the peer (R312). -/
def State.hbState (s : State) (peer : Nat) : State :=
  if s.hsbState = hsbSEEK then
    if s.ringHoldsRole then s
    else if peer = hsbSOLO ∨ peer = hsbACTIVE then s.enterJoining
    else if peer = hsbSEEK then (if s.straps.hsbUnit then s.enterJoining else s.becomeActive hsbACTIVE)
    else s
  else if s.isActive then
    if (peer = hsbJOINING ∧ s.hsb.peerState ≠ hsbJOINING) ∨ (s.hsbState = hsbSOLO ∧ (peer = hsbJOINING ∨ peer = hsbSTANDBY)) then s.peerJoins
    else s
  else s

/-- An HB of the peer: claims, time, readiness and the pair state. -/
def State.hbRx (s : State) (h : SbHdr) (b : HbBody) : State :=
  let t := (s.wr .hsb HSB_PEER_CLAIM h.claim).learnClaim (b.hc % 2 ^ 32)
  let t := if t.isActive then t.setPeerReady b.ready else t
  let t := t.hbState h.state
  { t with hsb := { t.hsb with peerState := h.state, hbTime := b.time, hbAt := s.tmb.count } }

/-- HB_RX: an HB arrives on a path (R312). Its time is followed over path A, and over path B while path A is silent. -/
def execHbRx (h : SbHdr) (hc time echo residence : Nat) (ready jobpair : Bool) (s : State) : Host.Outcome State Fault Refusal :=
  let b : HbBody := { hc := hc, time := time, echo := echo, residence := residence, ready := ready, jobpair := jobpair }
  .next
    (let t := s.sbRx h fun s => s.hbRx h b
     let t := if s.strapped ∧ s.portsUp ∧ t.isStandby ∧ (h.path = 0 ∨ (h.path = 1 ∧ s.pathSilent 0)) then t.hbFollow b else t
     t.joinCheck)

/-! ### Handover (R335) -/

/-- S of a line at the lane of the job that starts it first, in ps; F where no lane has a job. -/
def State.firstS (s : State) (i : Nat) : Int :=
  (s.jobLanes.map fun l => s.lineS l.1 l.2 i).foldl min ((s.lineAt i).f : Int)

/-- The first line whose S lies at least 10 µs ahead, else the line after the last announced. -/
def State.handoverLine (s : State) : Nat :=
  match firstFrom (fun i => decide (s.ps + 10000000 ≤ s.firstS i)) 0 s.lines.length with
  | some i => (s.lineAt i).n
  | none => match s.lines.getLast? with
    | some l => (l.n + 1) % 2 ^ 32
    | none => s.tmb.nextN

/-- A write of HANDOVER in ACTIVE (R335). -/
def State.handover (s : State) : State :=
  if s.hsbState ≠ hsbACTIVE ∨ s.hsb.handover.isSome then s
  else if ¬ s.is .hsb HSB_STAT_PEER_READY then s.handoverFail
  else
    let n := s.handoverLine
    { s.wr .hsb HSB_CTRL_HANDOVER 1 with hsb := { s.hsb with handover := some (n, false) } }.hsbSend .handover [n]

/-- HSB_HANDOVER: a write of HSB_CTRL.HANDOVER (R335). -/
def execHsbHandover (s : State) : Host.Outcome State Fault Refusal := .next s.handover

/-- A write of `w` to HSB_CTRL (R312, R335, R339). -/
def State.hsbCtrl (s : State) (w : Nat) : State :=
  let t := s.wrOf .hsb [HSB_CTRL_JOINTAKE, HSB_CTRL_CANHB] w
  let t := if HSB_CTRL_EN.of w = 1 then t.hsbEnable else t.hsbDisable
  if HSB_CTRL_HANDOVER.of w = 1 then t.handover else t

/-- HANDOVER_RX: the standby receives HANDOVER(N) and answers (R335). -/
def execHandoverRx (h : SbHdr) (n : Nat) (s : State) : Host.Outcome State Fault Refusal :=
  .next (s.sbRx h fun s =>
    if s.hsbState = hsbSTANDBY then { s with hsb := { s.hsb with handover := some (n, true) } }.hsbSend .handack [n] else s)

/-- S(N) lies at least 4 µs ahead, or the line is not announced yet. -/
def State.handoverOpen (s : State) (n : Nat) : Bool :=
  match s.placeOf n with
  | some i => decide (s.ps + 4000000 < s.firstS i)
  | none => true

/-- HANDACK_RX: the active unit receives HANDACK(N) in time (R335). -/
def execHandackRx (h : SbHdr) (n : Nat) (s : State) : Host.Outcome State Fault Refusal :=
  .next (s.sbRx h fun s =>
    if s.hsbState = hsbACTIVE ∧ s.hsb.handover = some (n, false) ∧ s.handoverOpen n then
      { s with hsb := { s.hsb with handover := some (n, true) } } else s)

/-- HANDACK_TIMEOUT: no HANDACK by S(N) − 4 µs (R335). -/
def execHandackTimeout (s : State) : Host.Outcome State Fault Refusal :=
  .next (match s.hsb.handover with
    | some (n, false) => if s.hsbState = hsbACTIVE ∧ ¬ s.handoverOpen n then s.handoverFail else s
    | _ => s)

/-- The roles change at T = F(N − 1) + 500 ns (R335). -/
def State.handoverSwitch (s : State) : State :=
  match s.hsb.handover with
  | some (n, true) =>
    match s.placeOf (n + 2 ^ 32 - 1) with
    | some i =>
      if ((s.lineAt i).f : Int) + 500000 ≤ s.ps then
        if s.hsbState = hsbSTANDBY then s.takeover 3
        else if s.hsbState = hsbACTIVE then
          let t := { s.wr .hsb HSB_CTRL_HANDOVER 0 with
            hsb := { s.hsb with handover := none, fullMirror := true, mirrorSeq := s.rd .pkgNode IMG_SEQ_SEQ, mirrors := [] } }
          (t.setHsbState hsbSTANDBY).readyUpdate
        else s
      else s
    | none => s
  | _ => s

/-- HANDOVER_SWITCH: the instant of a handover comes (R335). -/
def execHandoverSwitch (s : State) : Host.Outcome State Fault Refusal := .next s.handoverSwitch

/-! ### Shadowing (R317, R318, R327) -/

/-- A line of the active unit is announced to the own lanes and engines; numbers and spacing go on from it (R317,
R331). `f` is in ps. -/
def State.followLine (s : State) (n f : Nat) : State :=
  let p := match s.lines.getLast? with
    | some l => f - l.f
    | none => s.rd .tmb TMB_PNOM_PS
  let s := s.renumber n
  let t := (s.showLine n f).announce n f
  { t with tmb := { t.tmb with nextN := (n + 1) % 2 ^ 32, nextF := some (f + p), periods := (p :: t.tmb.periods).take 16 } }

/-- LINE_MSG_RX: the standby receives LINE (R317). -/
def execLineMsgRx (h : SbHdr) (n f : Nat) (s : State) : Host.Outcome State Fault Refusal :=
  .next (s.sbRx h fun s => if s.isStandby then s.followLine (n % 2 ^ 32) f else s)

/-- A refresh of the active unit is published (R318): its blocks, IMG_SEQ, and the longest delay since the active unit's own
publication. The next own refresh shows the input changes since this one (R411). -/
def State.mirrorPublish (s : State) (m : Mirror) : State :=
  let t := s.each (m.blocks.filter fun b => decide (b.1 ∈ inputBlocks)) fun t b =>
    t.putEach .imgIdle b.1 ((b.2.take 64).map (BitVec.ofNat 8))
  let lag := (s.tmb.count % 2 ^ 32 + 2 ^ 32 - m.time % 2 ^ 32) % 2 ^ 32
  let t := (t.publish m.seq).wr .hsb HSB_MIRLAG_NS (max lag (s.rd .hsb HSB_MIRLAG_NS))
  { t with hsb := { t.hsb with fullMirror := true, mirrorSeq := m.seq }, field := { t.field with chgSince := 0 } }

/-- The MIRRORs that have waited are published in the order of IMG_SEQ, as far as none before them is missing; one that has
come 1 ms ago waits for none any more, for no message leaves later than that after it was made (R310, R318). -/
def State.mirrorNext (s : State) : Nat → State
  | 0 => s
  | n + 1 =>
    let ready := fun m : Mirror => decide (seqDiff m.seq s.hsb.mirrorSeq = 1) || decide (m.came + 1000000 ≤ s.tb)
    match s.hsb.mirrors.find? fun m => s.hsb.mirrors.all fun x => decide (0 ≤ seqDiff x.seq m.seq) with
    | none => s
    | some m =>
      if ready m then ({ s with hsb := { s.hsb with mirrors := s.hsb.mirrors.erase m } }.mirrorPublish m).mirrorNext n else s

/-- A MIRROR is complete: published in the order of IMG_SEQ; one that carries the regions whole needs none before it
(R318). -/
def State.mirrorRx (s : State) (h : SbHdr) (seq : Nat) (whole : Bool) (blocks : List (Nat × List Nat)) : State :=
  let m : Mirror := { seq := seq % 2 ^ 32, time := h.time, came := s.tb, blocks := blocks }
  if ¬ s.isStandby ∨ (s.hsb.fullMirror ∧ seqDiff m.seq s.hsb.mirrorSeq ≤ 0) then s
  else
    let t := if whole then
        let u := s.mirrorPublish m
        { u with hsb := { u.hsb with mirrors := u.hsb.mirrors.filter fun x => decide (0 < seqDiff x.seq m.seq) } }
      else { s with hsb := { s.hsb with mirrors := s.hsb.mirrors ++ [m] } }
    (if t.hsb.fullMirror then t.mirrorNext t.hsb.mirrors.length else t).joinCheck

/-- MIRROR_RX: a refresh of the active unit arrives (R318). -/
def execMirrorRx (h : SbHdr) (seq : Nat) (whole : Bool) (blocks : List (Nat × List Nat)) (s : State) : Host.Outcome State Fault Refusal :=
  .next (s.sbRx h fun s => s.mirrorRx h seq whole blocks)

/-- EQ(N) or EQSKIP(N) of a core: applied if the core waits for it, else kept for the end of its release N (R327). -/
def State.eqRx (s : State) (core n : Nat) (vals : Option (List (Nat × List Nat))) : State :=
  let d := core / 4
  let k := core % 4
  if ¬ s.isStandby ∨ ¬ s.hasNode (.core d k) then s
  else if (s.core d k).eqHold = some n then s.eqApply d k vals
  else { s with hsb := { s.hsb with eqGot := (core, n, vals) :: s.hsb.eqGot.filter fun e => decide (e.1 ≠ core) } }

/-- EQ_RX: EQ(N) of a core (4 × die + core), with the synced entries by VAR_ID (R327). -/
def execEqRx (h : SbHdr) (core n : Nat) (vals : List (Nat × List Nat)) (s : State) : Host.Outcome State Fault Refusal :=
  .next (s.sbRx h fun s => s.eqRx core n (some vals))

/-- EQSKIP_RX: EQSKIP(N) of a core (R327). -/
def execEqskipRx (h : SbHdr) (core n : Nat) (s : State) : Host.Outcome State Fault Refusal :=
  .next (s.sbRx h fun s => s.eqRx core n none)

/-! ### CAN heartbeat (R330) -/

/-- CAN_HEARTBEAT_TX: the heartbeat is due, 1 ms after the last (R330). -/
def execCanHeartbeatTx (s : State) : Host.Outcome State Fault Refusal :=
  .next (if s.is .hsb HSB_CTRL_CANHB ∧ s.crownRuns ∧ s.hsb.canHbAt + 1000000 ≤ s.tb then
    let t := { s with hsb := { s.hsb with canHbAt := s.tb } }
    t.canOwnerSend (s.rd .hsb HSB_CFG_CANCTL) (s.rd .hsb HSB_CFG_CANOBJ) (octets (s.rd .hsb HSB_CLAIM_CLAIM) ++ [s.hsbState, 0, 0, 0])
    else s)

/-- CAN_HEARTBEAT_RX: the peer's heartbeat arrives with its claim (R306, R330). -/
def execCanHeartbeatRx (claim : Nat) (s : State) : Host.Outcome State Fault Refusal :=
  .next (if s.strapped ∧ s.is .hsb HSB_CTRL_CANHB ∧ s.crownRuns then
    ({ s with hsb := { s.hsb with lastCan := some s.tb } }.wr .hsb HSB_STAT_CANPATH 1).learnClaim (claim % 2 ^ 32) else s)

/-! ### Claim exchange line (R336, R337) -/

/-- The field die has power: it keeps it in nap and loses it with the package's. -/
def State.fieldPowered (s : State) : Bool := decide (s.pwr.phase ≠ .off)

/-- The 48 bits of a claim-exchange frame, the first sent highest (R336): a dominant start bit, the claim, two role bits, one
zero bit, the CRC-8 of those 35 bits, and four recessive bits. -/
def clxFrame (claim : Nat) (active : Bool) : Nat :=
  let v := claim % 2 ^ 32 * 8 + 2 * active.toNat
  v * 2 ^ 12 + crc8 v 35 * 16 + 15

/-- CLX_FRAME_TX: a claim-exchange frame of this unit ends on the line, 48 bits at 10 Mbit/s after it began, and the next
begins 20 µs after it; or the field die read dominant where it sent recessive and sends again once the line has been recessive
for 8 bits (R336). Which of the two happens on the line is a free value (log entry 208). A claim that has risen counts from the end of its frame
on (R337). -/
def execClxFrameTx (s : State) : Host.Outcome State Fault Refusal :=
  let f := s.field
  let (lost, t) := s.freeBit
  .next (if ¬ s.strapped ∨ ¬ s.fieldPowered ∨ s.now < f.clxNext then s
    else if lost then { t with field := { f with clxNext := s.now + 800 } }
    else if s.now < f.clxNext + 4800 then t
    else { t.emit (.clx (clxFrame f.keepClaim f.keepRole)) with
      field := { f with clxNext := s.now + 15200, clxClaim := f.keepClaim } }.clxUpdate)

/-- A valid frame of the peer: its claim is held, the drive rule follows, and the hot-standby block learns it (R306, R336,
R337). -/
def State.clxRx (s : State) (claim : Nat) : State :=
  let s := if s.is .sup CLX_STAT_PEERLOST then s.raiseCrown 119 else s
  let t := { s.wrs .sup [(CLX_PEER_CLAIM, claim), (CLX_STAT_PEERVALID, 1), (CLX_STAT_PEERLOST, 0)] with hsb := { s.hsb with clxAt := some s.now } }
  let t := t.clxUpdate
  if s.crownRuns then t.learnClaim (claim % 2 ^ 32) else t

/-- CLX_FRAME_RX: a claim-exchange frame of the peer ends on the line; one whose CRC fails is counted (R336, R338). -/
def execClxFrameRx (claim : Nat) (crcOk : Bool) (s : State) : Host.Outcome State Fault Refusal :=
  .next (if s.strapped ∧ s.fieldPowered then (if crcOk then s.clxRx claim else s.bump .sup CLX_ERRCNT_COUNT) else s)

/-- CLX_PEER_LOST: no valid frame of the peer for 100 µs (R336). -/
def execClxPeerLost (s : State) : Host.Outcome State Fault Refusal :=
  .next (match s.hsb.clxAt with
    | some t => if s.strapped ∧ s.fieldPowered ∧ t + 100000 ≤ s.now ∧ ¬ s.is .sup CLX_STAT_PEERLOST then (s.wr .sup CLX_STAT_PEERLOST 1).raiseCrown 119
      else s
    | none => s)

end Sys2Proof.Machine
end

