-- ==== Sys2Proof/Machine/Host.lean ====
section
/-! DEFINITION. The host's command queues and the command engine (R370 to R381), the commands they carry, and the
endpoint's own resets and training (R362, R363). -/

namespace Sys2Proof.Machine

/-! ### Queues -/

/-- A host queue; queues 16 to 31 stand for commands that a ring head has sent. -/
def State.queue (s : State) (q : Nat) : Queue := s.queues.get q {}

/-- The state with a host queue replaced. -/
def State.setQueue (s : State) (q : Nat) (x : Queue) : State := { s with queues := Tab.set (fun k => k) s.queues q {} x }

/-- Q_STAT.STATE codes (R390). -/
abbrev qIDLE : Nat := 0
abbrev qRUN : Nat := 1
abbrev qDRAIN : Nat := 2
abbrev qERROR : Nat := 3

/-- Q_STAT.STATE of a queue. -/
def State.qState (s : State) (q : Nat) : Nat := s.rd .host (Q_STAT_STATE q)

/-- Parameter word `i` of a command. -/
def QCmd.p (c : QCmd) (i : Nat) : Nat := c.params.getD i 0

/-- The 64-bit parameter in words `i` and `i + 1`. -/
def QCmd.num (c : QCmd) (i : Nat) : Nat := c.p i + c.p (i + 1) * 2 ^ 32

/-- The opcodes of R375. -/
def hostOpcodes : List Nat := [0, 0x10, 0x11, 0x12, 0x20, 0x30, 0x31, 0x40, 0x50, 0xF0]

/-- The commands that R375 calls abortable. -/
def QCmd.abortable (c : QCmd) : Bool := decide (c.op ∈ [0x10, 0x20, 0x30, 0x31, 0x40, 0x50])

/-- The node of this package that a path names (R33). -/
def State.nodeAt (s : State) (path : Nat) : Option Node :=
  ([Node.pkg, .crown, .field] ++ s.diesList.map Node.die ++ s.coresList.map (fun c => Node.core c.1 c.2) ++
    s.lanesList.map fun l => Node.lane l.1 l.2).find? fun n => decide (s.path n = path)

/-- The die and core that a command's TARGET names. -/
def State.targetCore (s : State) (c : QCmd) : Option (Nat × Nat) :=
  match s.nodeAt c.target with | some (.core d k) => some (d, k) | _ => none

/-- The die that a command's TARGET names. -/
def State.targetDie (s : State) (c : QCmd) : Option Nat := match s.nodeAt c.target with | some (.die d) => some d | _ => none

/-- The TARGET is of the node class of the command's row (R375, R376). -/
def State.targetOk (s : State) (c : QCmd) : Bool :=
  match s.nodeAt c.target with
  | some (.core _ _) => decide (c.op = 0x20)
  | some (.die _) => decide (c.op = 0x30 ∨ c.op = 0x31)
  | some .pkg => decide (c.op ∉ [0x20, 0x30, 0x31])
  | _ => false

/-- `n` bytes from a D-space address lie in the DRAM of a die, where one is named. -/
def fitsDram (d : Option Nat) (a n : Nat) : Bool :=
  match d with | some d => decide (dramBase d ≤ a ∧ a + n ≤ dramBase d + dramSize) | none => true

/-- The parameters lie within the command's row (R375, R376). -/
def State.paramsOk (s : State) (c : QCmd) : Bool :=
  match c.op with
  | 0x20 => decide (c.p 2 % 2 = 0 ∧ 2 ≤ c.p 2 ∧ c.p 2 ≤ 262144) && fitsDram ((s.targetCore c).map Prod.fst) (c.num 0) (2 * c.p 2)
  | 0x30 => decide (c.num 0 % 4096 = 0 ∧ c.num 2 % 4096 = 0) && fitsDram (s.targetDie c) (c.num 0) (c.num 2)
  | 0x31 => decide (c.num 0 % 64 = 0 ∧ c.num 2 % 64 = 0) && fitsDram (s.targetDie c) (c.num 0) (c.num 2)
  | 0x50 => decide (c.p 0 ≤ 1)
  | 0xF0 => decide (c.p 0 ≤ 15 ∧ c.p 1 < 2 ^ 16)
  | _ => true

/-- The STATUS with which a command is turned away before its first step, if any (R376). -/
def State.cmdStatus (s : State) (c : QCmd) : Option Nat :=
  if c.op ∉ hostOpcodes then some 1 else if !s.paramsOk c then some 2 else if !s.targetOk c then some 3 else none

/-! ### Locks and readiness -/

/-- The locks of R378. -/
inductive CmdLock where
  | job | nvs | upd | hood (d k : Nat) | clear (d : Nat)
  deriving DecidableEq, Repr

/-- The lock that a command takes (R375). -/
def State.lockOf (s : State) (c : QCmd) : Option CmdLock :=
  match c.op with
  | 0x10 | 0x11 | 0x12 => some .job
  | 0x20 => (s.targetCore c).map fun x => .hood x.1 x.2
  | 0x30 => (s.targetDie c).map CmdLock.clear
  | 0x40 => some .nvs
  | 0x50 => some .upd
  | _ => none

/-- The ring head carries a command to another member (R387): in a ring that is up at its first step, TARGET names another
position below N. -/
def State.carried (s : State) (c : QCmd) : Bool :=
  if c.started then c.fwd
  else s.hasRing && decide (c.target / 2 ^ 26 ≠ s.ringPos) &&
  decide (c.target / 2 ^ 26 < s.rd .ring RING_COUNT_N)

/-- A lock is held by a command of another queue that has begun and not ended (R378). -/
def State.lockHeld (s : State) (q : Nat) (k : CmdLock) : Bool :=
  (List.range 32).any fun r =>
    match (s.queue r).cmd with
    | some c => decide (r ≠ q) && c.started && decide (c.done = none) && !s.carried c && decide (s.lockOf c = some k)
    | none => false

/-- The command needs a context slot of the CRC engine, or of the cryptographic engine (R380). -/
def QCmd.needsCrc (c : QCmd) : Bool := decide (c.op ∈ [0x10, 0x20, 0x31])
def QCmd.needsCry (c : QCmd) : Bool := decide (c.op = 0x50)

/-- The command holds the context slot it needs. -/
def State.hasSlot (s : State) (q : Nat) (c : QCmd) : Bool :=
  (!c.needsCrc || s.ctxCrc.holds q) && (!c.needsCry || s.ctxCry.holds q)

/-- The command of a queue that is ready for a step (R377, R378). -/
def State.readyCmd (s : State) (q : Nat) : Option QCmd :=
  match (s.queue q).cmd with
  | some c =>
    if c.done.isSome then none
    else if c.started then (if s.carried c then none else if s.hasSlot q c then some c else none)
    else if s.carried c ∨ (s.cmdStatus c).isSome then some c
    else match s.lockOf c with
      | some k => if s.lockHeld q k then none else some c
      | none => some c
  | none => none

/-! ### Completion -/

/-- A queue's completion queue is full (R370). -/
def State.cqFull (s : State) (q : Nat) : Bool :=
  decide ((s.rd .host (Q_CQTAIL_TAIL q) + 1) % s.rd .host (Q_CFG_SIZE q) = s.rd .host (Q_CQHEAD_HEAD q))

/-- The queue has no command in hand. -/
def State.clearCmd (s : State) (q : Nat) : State :=
  (s.setQueue q { s.queue q with cmd := none }).wr .host (Q_STAT_BUSY q) 0

/-- A completion is written at the CQ tail, and the vector sent (R370, R371, R374). -/
def State.writeCompletion (s : State) (q : Nat) (c : QCmd) (st res data : Nat) : State :=
  let x := s.queue q
  let tail := s.rd .host (Q_CQTAIL_TAIL q)
  let next := (tail + 1) % s.rd .host (Q_CFG_SIZE q)
  let w := [c.cid + s.rd .host (Q_SQHEAD_HEAD q) * 2 ^ 16, st + res * 2 ^ 8 + x.phase.toNat * 2 ^ 31, data % 2 ^ 32, data / 2 ^ 32 % 2 ^ 32]
  let t := (s.emit (.completion q w)).wr .host (Q_CQTAIL_TAIL q) next
  let t := (t.setQueue q { x with phase := if next = 0 then !x.phase else x.phase }).clearCmd q
  if s.is .host (Q_CFG_IEN q) then t.sendMsix (s.rd .host (Q_CFG_VEC q)) else t

/-- A DRAM_CLEAR that has begun has ended: source 75 of its die (R340). -/
def State.clearEnded (s : State) (c : QCmd) : State :=
  if c.op = 0x30 && c.started then (match s.targetDie c with | some d => s.raiseDie d 75 | none => s) else s

/-- A command has ended with STATUS, RESULT and DATA: its slot and lock are free, and its completion is written once the
CQ has space, or returned as CPL to the ring head, or not written at all (R372, R374, R387). -/
def State.cmdEnd (s : State) (q : Nat) (st res data : Nat) : State :=
  match (s.queue q).cmd with
  | none => s
  | some c =>
    let t := ((s.cryLeave q).crcLeave q).clearEnded c
    if 16 ≤ q then
      (t.ringSend "CPL" 5 (t.queue q).src 0 (t.queue q).tag 0 [st + res * 256, data % 2 ^ 32, data / 2 ^ 32 % 2 ^ 32]).setQueue q {}
    else if c.silent then
      let t := t.clearCmd q
      if t.qState q = qDRAIN then t.wr .host (Q_STAT_STATE q) qIDLE else t
    else if t.cqFull q then t.setQueue q { t.queue q with cmd := some { c with done := some (st, res, data) } }
    else t.writeCompletion q c st res data

/-- The command of queue `q` as its own row runs it: opcode `op`, begun, not ended, its slot held, and the step its own, as the
engine last chose (R377). -/
def State.running (s : State) (q op : Nat) : Option QCmd :=
  match (s.queue q).cmd with
  | some c => if q < 32 ∧ s.cmdEng.step = some q ∧ c.op = op ∧ c.started ∧ c.done = none ∧ s.carried c = false ∧ s.hasSlot q c then some c else none
  | none => none

/-! ### The command engine -/

/-- The ring head sends a command to the member it names, and waits for CPL (R387). -/
def State.carryCmd (s : State) (q : Nat) (c : QCmd) : State :=
  let r : RingReq := { tag := s.ring.tag, member := c.target / 2 ^ 26, kind := 4, at_ := s.tb, q := q }
  let t := s.ringSend "CMD" 4 r.member 0 r.tag 0
    ([c.op + c.cid * 2 ^ 16, c.target] ++ (List.range 14).map c.p ++ [s.rd .host (Q_SLACK_US q)])
  t.ringAwait [r]

/-- What the start of NVS_COMMIT does: its mask is requested, and the masks of its DATA begin empty (R454). -/
def State.commitStart (s : State) (c : QCmd) : State :=
  if c.op = 0x40 then { s with nvs := { s.nvs with stored := 0, failed := 0 } }.requestStore (c.p 0) else s

/-- The first step of a command (R376, R378, R381, R387). -/
def State.firstStep (s : State) (q : Nat) (c : QCmd) : State :=
  let begun := s.setQueue q { s.queue q with cmd := some { c with started := true, w := 0, fwd := s.carried c } }
  if s.carried c then begun.carryCmd q c
  else
    match s.cmdStatus c with
    | some st => s.cmdEnd q st 0 0
    | none =>
      let t := begun.commitStart c
      let t := if c.needsCrc then t.crcTake q c.dl else t
      if c.needsCry then t.cryTake q c.dl else t

/-- A queue's command counts one more or starts anew after a decision (R289). -/
def State.cmdWait (s : State) (q win : Nat) : State :=
  match (s.queue q).cmd with
  | some c => s.setQueue q { s.queue q with cmd := some { c with w := if q = win then 0 else min 255 (c.w + 1) } }
  | none => s

/-- The queues whose commands are ready. -/
def State.readyQueues (s : State) : List (Nat × QCmd) := (List.range 32).filterMap fun q => (s.readyCmd q).map fun c => (q, c)

/-- The queue that the engine chooses by R288 to R290. -/
def State.chooseQueue (s : State) : Option (Nat × QCmd) :=
  let l := s.readyQueues
  let limit := s.rd .host HOST_CMDARB_LIMIT
  let forced := (l.any fun x => decide (limit ≤ x.2.w)).toNat
  leastBy (fun x : Nat × QCmd => s.arbRank limit s.cmdEng.last 16 forced (x.1 % 16) x.2.dl x.2.w) l

/-- One step of the command engine (R377). -/
def State.commandStep (s : State) : State :=
  match s.chooseQueue with
  | none => s
  | some (q, c) =>
    let t := s.each (s.readyQueues.map Prod.fst) fun t r => t.cmdWait r q
    let t := { t with cmdEng := { last := (s.cmdEng.last + 1) % 16, step := some q } }
    if c.started then t else t.firstStep q c

/-- COMMAND_STEP: the engine chooses the next step among the ready queues and runs it; a command's effect as a whole is
its own row's, which runs in a step of its queue (R377). -/
def execCommandStep (s : State) : Host.Outcome State Fault Refusal := .next s.commandStep

/-- A context slot that is free goes to the waiting user that R288 to R290 choose, in order of arrival in place of input
index; every other waiting user counts one more (R381). -/
def State.slotGrant (s : State) (e : CtxEngine) : CtxEngine :=
  let limit := s.rd .host HOST_CMDARB_LIMIT
  let l := (List.range e.wait.length).zip e.wait
  let forced := (l.any fun x => decide (limit ≤ x.2.2.2)).toNat
  match e.freeSlot, leastBy (fun x : Nat × (Nat × Nat × Nat) => s.arbRank limit 0 (e.wait.length + 1) forced x.1 x.2.2.1 x.2.2.2) l with
  | some i, some (_, u) =>
    { e with wait := (e.wait.erase u).map fun x : Nat × Nat × Nat => (x.1, x.2.1, min 255 (x.2.2 + 1)) }.put i u.1
  | _, _ => e

/-- CONTEXT_SLOT_GRANT: a freed slot of the CRC engine (`crc`), else of the cryptographic engine, goes to a waiting user
(R381). -/
def execContextSlotGrant (crc : Bool) (s : State) : Host.Outcome State Fault Refusal :=
  .next (if crc then { s with ctxCrc := s.slotGrant s.ctxCrc } else { s with ctxCry := s.slotGrant s.ctxCry })

/-! ### The commands of R375 -/

/-- A command that runs in queue `q` acts, and ends DONE with its RESULT and DATA. -/
def State.runCommand (s : State) (q op : Nat) (f : QCmd → State → Nat × Nat × State) : State :=
  match s.running q op with
  | none => s
  | some c => match f c s with | (res, data, t) => t.cmdEnd q 0 res data

/-- HOST_NOP: completes with no effect (R375). -/
def execHostNop (q : Nat) (s : State) : Host.Outcome State Fault Refusal := .next (s.runCommand q 0 fun _ s => (0, 0, s))

/-- JOB_ADMIT: the descriptor is checked and the job admitted whole, or refused (R226 to R229, R389). -/
def execJobAdmit (q : Nat) (s : State) : Host.Outcome State Fault Refusal :=
  .next (s.runCommand q 0x10 fun c s => match s.jobAdmit (c.num 0) s.ringHolds with | (r, t) => (r, 0, t.jobPairUpdate))

/-- The place of the first line that no engine of the job has begun filling. -/
def State.fillFront (s : State) : Nat := (s.jobLanes.map fun l => s.fillPlace l.1 l.2).foldl max 0

/-- Some engine of the job has begun filling the timebase line `n`, or has gone past it (R232). -/
def State.fillBegun (s : State) (n : Nat) : Bool :=
  let far := s.fillFront
  decide (0 < far ∧ toSigned 32 (n % 2 ^ 32 + 2 ^ 32 - s.lineNo far) < 0)

/-- The place of line S0, announced or to come (R232). -/
def State.startPlace (s : State) (s0 : Nat) : Nat :=
  match s.placeOf s0 with
  | some p => p
  | none => s.futurePlace s0

/-- The job becomes RUNNING with line S0, at a place (R232). -/
def State.jobBegin (s : State) (jb : Job) (s0 first : Nat) : State :=
  let t := { s.wr .pkgNode JOB_START_LINE s0 with job := { s.job with first := first } }.setJobState 2
  t.each jb.dies fun t b => t.wr (.ing b.die) ING_STAT_STATE 2

/-- The conditions of a late start (R323), beside that some engine has begun filling S0. -/
def State.lateAllowed (s : State) (jb : Job) (s0 : Nat) : Bool :=
  s.isStandby && match s.hsb.peerJob with
    | some p => decide (p.state = 2 ∧ p.crc = jb.crc ∧ p.s0 = s0 % 2 ^ 32)
    | none => false

/-- The first job line that no engine of the job has yet begun filling (R323). -/
def State.joinLine (s : State) (s0 : Nat) : Nat :=
  (s.lineNo s.fillFront + 2 ^ 32 - s0 % 2 ^ 32) % 2 ^ 32

/-- A late start (R323): the engines read on from where the peer's stood, and fill from the join line. -/
def State.lateStart (s : State) (jb : Job) (s0 : Nat) : State :=
  let t := s.jobBegin jb s0 (s.fillFront - s.joinLine s0)
  let t := { t with job := { t.job with from_ := s.joinLine s0 } }
  t.each jb.dies fun t b =>
    let at_ := match s.hsb.peerJob with | some p => ((p.dies.find? fun x => decide (x.1 = b.die)).map fun x => x.2.1).getD 0 | none => 0
    (t.wr (.ing b.die) ING_RPTR_OFFSET at_).setIng b.die
      { t.ing b.die with parse := 16 * at_ % b.ring, recs := [], cover := [], last := none, late := b.lanes }

/-- JOB_START of line `s0` (R232, R323, R375): the RESULT and the state. -/
def State.jobStart (s : State) (s0 : Nat) : Nat × State :=
  match s.job.job with
  | none => (3, s)
  | some jb =>
    if s.jobState ≠ 1 then (5, s)
    else if !s.fillBegun s0 then (1, (s.jobBegin jb s0 (s.startPlace s0)).jobPairUpdate)
    else if s.lateAllowed jb s0 then (4, (s.lateStart jb s0).jobPairUpdate)
    else (2, s)

/-- JOB_START: S0 is fixed and the job becomes RUNNING, or the start is refused (R232, R323). -/
def execJobStart (q : Nat) (s : State) : Host.Outcome State Fault Refusal :=
  .next (s.runCommand q 0x11 fun c s => match s.jobStart (c.p 0) with | (r, t) => (r, 0, t))

/-- JOB_END: admission of the job ends (R233). -/
def execJobEnd (q : Nat) (s : State) : Host.Outcome State Fault Refusal :=
  .next (s.runCommand q 0x12 fun _ s => if s.job.job.isSome then (1, 0, (s.jobEnd 1).jobPairUpdate) else (3, 0, s))

/-- HOOD_LOAD: a control hood is loaded into the hood bank (R156 to R158). -/
def execHoodLoad (q : Nat) (s : State) : Host.Outcome State Fault Refusal :=
  .next (s.runCommand q 0x20 fun c s =>
    match s.targetCore c with
    | none => (0, 0, s)
    | some (d, k) =>
      match s.hoodLoad d k (c.num 0) (c.p 2) (c.p 3) with
      | (r, t) => (r, t.rd (.core d k) HOOD_DIGEST_CRC, t))

/-- A DRAM region of a die overlaps a ring, tile store or segment table of the admitted job (R206). -/
def State.clearBusy (s : State) (d a n : Nat) : Bool :=
  match s.dieJob d with | some b => b.regions.any fun r => overlaps (a, n) r | none => false

/-- `n` bytes of a die's DRAM become zero with valid ECC (R206). -/
def State.clearDram (s : State) (d a n : Nat) : State :=
  let o := a - dramBase d
  (s.zeroMem (.dram d) o n).wholeGood (.dram d) o n

/-- DRAM_CLEAR: a region of one die's DRAM becomes zero with valid ECC, or the command is refused whole (R206). -/
def execDramClear (q : Nat) (s : State) : Host.Outcome State Fault Refusal :=
  .next (s.runCommand q 0x30 fun c s =>
    match s.targetDie c with
    | none => (0, 0, s)
    | some d => if s.clearBusy d (c.num 0) (c.num 2) then (2, 0, s) else (1, c.num 2, s.clearDram d (c.num 0) (c.num 2)))

/-- DRAM_CRC: the CRC-32C of a DRAM region as it stands, read through ECC (R207, R375). -/
def execDramCrc (q : Nat) (s : State) : Host.Outcome State Fault Refusal :=
  .next (s.runCommand q 0x31 fun c s =>
    match s.targetDie c with
    | none => (0, 0, s)
    | some d =>
      let (bs, t) := s.scanBytes (.dram d) (c.num 0 - dramBase d) (c.num 2)
      (1, crc32c bs, t))

/-- Every segment of a mask has been stored, found clean or failed (R454). -/
def State.commitDone (s : State) (mask : Nat) : Bool :=
  decide (s.rd .nvs NVS_PEND_PEND &&& mask = 0) && (match s.nvs.run with | some r => !mask.testBit r.seg | none => true)

/-- NVS_COMMIT: ends once every segment of its mask has been stored or found clean, once one failed, or when a power-fail
store takes over (R454). -/
def execNvsCommit (q : Nat) (s : State) : Host.Outcome State Fault Refusal :=
  .next (match s.running q 0x40 with
    | none => s
    | some c =>
      let data := (s.nvs.stored &&& c.p 0) + (s.nvs.failed &&& c.p 0) * 2 ^ 32
      if s.commitDone (c.p 0) then s.cmdEnd q 0 (if s.nvs.failed &&& c.p 0 = 0 then 1 else 4) data
      else if s.nvs.pfPhase ≠ .idle then s.cmdEnd q 0 3 data
      else s)

/-- IMAGE_VERIFY: the verification checks on a bank (R484). -/
def execImageVerify (q : Nat) (s : State) : Host.Outcome State Fault Refusal :=
  .next (s.runCommand q 0x50 fun c s =>
    let r := s.verifyBank (c.p 0) true
    (r, s.imgVersion (c.p 0) + s.imgSecver (c.p 0) * 2 ^ 32, s.verifyRecord (c.p 0) r))

/-! ### Ending commands early -/

/-- What an abort of a begun command leaves behind (R375): a hood in state NONE, a part of the region cleared that the
spec does not fix, the rest of a mask no longer pending. -/
def State.abortEffect (s : State) (c : QCmd) : State :=
  if !c.started then s
  else
    match c.op with
    | 0x20 => match s.targetCore c with
      | some (d, k) => if 2 ≤ s.rd (.core d k) HOOD_STAT_STATE then s else s.wr (.core d k) HOOD_STAT_STATE 0
      | none => s
    | 0x30 => match s.targetDie c with
      | some d =>
        if s.clearBusy d (c.num 0) (c.num 2) then s
        else let (n, t) := s.freeNat; t.clearDram d (c.num 0) (64 * (n % (c.num 2 / 64 + 1)))
      | none => s
    | 0x40 => s.clrBits .nvs NVS_PEND_PEND (c.p 0)
    | _ => s

/-- A queue's command ends early with STATUS ABORTED (R379). -/
def State.abortCmd (s : State) (q : Nat) (c : QCmd) : State := (s.abortEffect c).cmdEnd q 4 0 0

/-- CMD_ABORT of command `cid` of queue `r` by queue `q`: the RESULT and the state (R379). -/
def State.cmdAbort (s : State) (q r cid : Nat) : Nat × State :=
  match (s.queue r).cmd with
  | some c =>
    if r = q ∨ c.cid ≠ cid ∨ c.done.isSome then (1, s)
    else if !c.abortable || (c.started && s.carried c) then (2, s)
    else (0, s.abortCmd r c)
  | none => (1, s)

/-- CMD_ABORT: a running or waiting command of a named queue ends (R379). -/
def execCmdAbort (q : Nat) (s : State) : Host.Outcome State Fault Refusal :=
  .next (s.runCommand q 0xF0 fun c s => match s.cmdAbort q (c.p 0) (c.p 1) with | (r, t) => (r, 0, t))

/-- A queue winds down into STATE `st` (R372, R373): no further completion is written; an abortable command, and one
that has not begun, ends; any other runs to its end. -/
def State.windDown (s : State) (q st : Nat) : State :=
  match (s.queue q).cmd with
  | none => s.wr .host (Q_STAT_STATE q) (if st = qERROR then qERROR else qIDLE)
  | some c =>
    let t := (s.wr .host (Q_STAT_STATE q) st).setQueue q { s.queue q with cmd := some { c with silent := true } }
    if c.done.isSome then t.cmdEnd q 0 0 0
    else if (c.abortable && !(c.started && s.carried c)) || !c.started then (t.abortEffect c).cmdEnd q 4 0 0
    else t

/-! ### Doorbells and fetching -/

/-- A write of EN = 1 (R372). -/
def State.queueEnable (s : State) (q : Nat) : State :=
  let size := s.rd .host (Q_CFG_SIZE q)
  if s.is .host (Q_CTRL_EN q) ∨ s.qState q = qERROR then s
  else if size < 16 ∨ 4096 < size then s.wr .host (Q_STAT_ERR q) 3
  else
    (s.setQueue q { s.queue q with phase := true }).wrs .host
      [(Q_CTRL_EN q, 1), (Q_SQTAIL_TAIL q, 0), (Q_SQHEAD_HEAD q, 0), (Q_CQHEAD_HEAD q, 0), (Q_CQTAIL_TAIL q, 0), (Q_STAT_ERR q, 0),
       (Q_STAT_STATE q, qRUN)]

/-- A write of EN = 0 (R372, R373). -/
def State.queueDisable (s : State) (q : Nat) : State :=
  if s.is .host (Q_CTRL_EN q) ∨ s.qState q = qERROR then (s.wr .host (Q_CTRL_EN q) 0).windDown q qDRAIN else s

/-- A queue enters STATE ERROR (R373). -/
def State.queueError (s : State) (q err : Nat) : State := (s.wr .host (Q_STAT_ERR q) err).windDown q qERROR

/-- A write of Q_SQTAIL, in any state of the queue (R373). -/
def State.sqDoorbell (s : State) (q w : Nat) : State :=
  let v := w % 2 ^ 13
  if s.qState q = qERROR then s.wr .host (Q_SQTAIL_TAIL q) v
  else if s.rd .host (Q_CFG_SIZE q) ≤ v then s.queueError q 1
  else s.wr .host (Q_SQTAIL_TAIL q) v

/-- A write of Q_CQHEAD, in any state of the queue: entries are freed, and a completion that waited for space is written
(R373, R374). -/
def State.cqDoorbell (s : State) (q w : Nat) : State :=
  let v := w % 2 ^ 13
  let size := s.rd .host (Q_CFG_SIZE q)
  let old := s.rd .host (Q_CQHEAD_HEAD q)
  let tail := s.rd .host (Q_CQTAIL_TAIL q)
  if s.qState q = qERROR then s.wr .host (Q_CQHEAD_HEAD q) v
  else if size ≤ v ∨ (tail + size - old) % size < (v + size - old) % size then s.queueError q 1
  else
    let t := s.wr .host (Q_CQHEAD_HEAD q) v
    match (t.queue q).cmd with
    | some c =>
      match c.done with
      | some (st, res, data) => if t.cqFull q ∨ c.silent then t else t.writeCompletion q c st res data
      | none => t
    | none => t

/-- QUEUE_ENABLE: a write of Q_CTRL.EN = 1 (R372). -/
def execQueueEnable (q : Nat) (s : State) : Host.Outcome State Fault Refusal := .next (if q < 16 then s.queueEnable q else s)

/-- QUEUE_DISABLE: a write of EN = 0 (R372). -/
def execQueueDisable (q : Nat) (s : State) : Host.Outcome State Fault Refusal := .next (if q < 16 then s.queueDisable q else s)

/-- SQ_DOORBELL: a write of Q_SQTAIL (R373). -/
def execSqDoorbell (q w : Nat) (s : State) : Host.Outcome State Fault Refusal := .next (if q < 16 then s.sqDoorbell q w else s)

/-- CQ_DOORBELL: a write of Q_CQHEAD (R373). -/
def execCqDoorbell (q w : Nat) (s : State) : Host.Outcome State Fault Refusal := .next (if q < 16 then s.cqDoorbell q w else s)

/-- A submission entry as 16 words becomes the queue's command (R371, R377). -/
def State.takeEntry (s : State) (q slack : Nat) (e : List Nat) : State :=
  let c : QCmd := { op := e.getD 0 0 % 2 ^ 16, cid := e.getD 0 0 / 2 ^ 16 % 2 ^ 16, target := e.getD 1 0 % 2 ^ 32,
                    params := ((e.drop 2).take 14).map (· % 2 ^ 32), dl := (s.tmb.count + 1000 * slack) % 2 ^ 32 }
  s.setQueue q { s.queue q with cmd := some c }

/-- QUEUE_FETCH: a queue with no command fetches its next submission entry, 16 words, or the fetch completes with an error
(R373, R374). -/
def execQueueFetch (q : Nat) (entry : List Nat) (err : Bool) (s : State) : Host.Outcome State Fault Refusal :=
  .next (
    let head := s.rd .host (Q_SQHEAD_HEAD q)
    if q < 16 ∧ s.qState q = qRUN ∧ (s.queue q).cmd = none ∧ head ≠ s.rd .host (Q_SQTAIL_TAIL q) then
      let t := s.wr .host (Q_SQHEAD_HEAD q) ((head + 1) % s.rd .host (Q_CFG_SIZE q))
      if err then t.queueError q 2
      else
        (t.takeEntry q (s.rd .host (Q_SLACK_US q)) entry).wrs .host
          [(Q_STAT_BUSY q, 1), (Q_CUR_CID q, entry.getD 0 0 / 2 ^ 16), (Q_CUR_OPCODE q, entry.getD 0 0)]
    else s)

/-! ### The endpoint -/

/-- The endpoint is reset alone (R362): its configuration space, its block and its MSI-X table take their reset values, every enabled queue ends, and
HOST_RESET is recorded with the cause (1 PERST#, 2 hot reset, 3 link-down, 4 FLR, 5 return from D3hot). A queue whose
command still runs reads DRAINING. -/
def State.endpointReset (s : State) (cause : Nat) : State :=
  let t := s.each (List.range 16) fun t q =>
    if t.is .host (Q_CTRL_EN q) ∨ t.qState q = qERROR then t.windDown q qDRAIN else t
  let busy := (List.range 16).filter fun q => (t.queue q).cmd.isSome
  let u := { t with regs := t.regs.filter fun e => decide (e.1.blk ≠ Blk.host), pcie := {} }
  let u := u.each busy fun u q => u.wrs .host
    [(Q_STAT_STATE q, qDRAIN), (Q_STAT_BUSY q, 1), (Q_CUR_CID q, t.rd .host (Q_CUR_CID q)), (Q_CUR_OPCODE q, t.rd .host (Q_CUR_OPCODE q))]
  (u.wr .host (if 4 ≤ cause then HOST_ERR_FLR else HOST_ERR_PERST) 1).offer Ev.HOST_RESET .pkg [cause]

/-- ENDPOINT_RESET: PERST#, hot reset, link-down, FLR or a return from D3hot (causes 1 to 5) (R362). -/
def execEndpointReset (cause : Nat) (s : State) : Host.Outcome State Fault Refusal :=
  .next (if s.crownRuns ∧ 1 ≤ cause ∧ cause ≤ 5 then s.endpointReset cause else s)

/-- The vectors whose PBA bits are set are sent, as far as neither they nor the function are masked (R368, R369). -/
def State.sendPending (s : State) : State :=
  s.each ((List.range msixVectors).filter fun v => s.bit .host (MSIX_PBA (v / 32)) (v % 32)) fun t v =>
    (t.setBit .host (MSIX_PBA (v / 32)) (v % 32) false).sendMsix v

/-- PCIE_LINK_TRAINED: the link trains with a speed code and a width, and configuration software sets Max Payload Size, the
enable and the function mask of MSI-X (R361, R363, R368). -/
def execPcieLinkTrained (speed : Nat) (setup : PcieSetup) (s : State) : Host.Outcome State Fault Refusal :=
  .next (if s.crownRuns ∧ 1 ≤ speed ∧ speed ≤ 5 ∧ setup.width ∈ [1, 2, 4, 8, 16] ∧ setup.mps ∈ [128, 256, 512] then
    { s.wrs .host [(HOST_LINK_SPEED, speed), (HOST_LINK_WIDTH, setup.width)] with
      pcie := { s.pcie with mps := setup.mps, msixEn := setup.msixEn, msixMask := setup.msixMask } }.sendPending else s)

end Sys2Proof.Machine
end

