-- ==== Sys2Proof/Machine/Ring.lean ====
section
/-! DEFINITION. The ring (R382 to R391): enumeration, ports, carried commands, commands to the ring node. The frames that
reach I/O space are in HostIo.lean. -/

namespace Sys2Proof.Machine

/-- The package takes part in ring traffic: strapped into a ring, running, its ports not off. -/
def State.ringOn (s : State) : Bool := s.straps.ringEn && s.crownRuns && decide (s.rd .ring RING_STAT_STATE ≠ 0)

/-- The head enumerates again (R383, R388, R391). -/
def State.enumerate (s : State) : State :=
  { (s.setRing 1) with ring := { s.ring with enumAt := none, dup := false } }

/-- The ring's members are still being counted, or too few or too many (R383). -/
def State.ringCounts (s : State) : Bool := decide (s.rd .ring RING_STAT_STATE ∈ [1, 5, 6])

/-- A member that has taken its position takes its ring as up with the first frame other than ENUM that reaches it (R383). -/
def State.ringHeard (s : State) : State :=
  if s.straps.ringHead = false ∧ s.rd .ring RING_STAT_STATE = 1 ∧ s.rd .ring RING_POS_POS ≠ 0 then s.setRing 2 else s

/-- ENUM_TX: the head sends ENUM with count 0 every 10 ms until the ring is UP (R383), the first at once. -/
def execEnumTx (s : State) : Host.Outcome State Fault Refusal :=
  .next (if s.isHead && s.ringOn && s.ringCounts &&
      (s.ring.enumAt.isNone || s.sinceAtLeast s.ring.enumAt 10000000) then
    { s.ringSend "ENUM" 7 0xFF 0 0 0 [] with ring := { s.ring with enumAt := some s.tb } }
  else s)

/-- The head's own ENUM has come back with a count: N, the loop time, and the ring's state (R383). -/
def State.enumDone (s : State) (count : Nat) : State :=
  let n := count + 1
  let t := (s.wrs .ring [(RING_COUNT_N, n), (RING_LOOPNS_NS, s.tb - s.ring.enumAt.getD s.tb), (RING_CTRL_REENUM, 0), (RING_POS_POS, 0)])
  if n < 16 then (if s.rd .ring RING_STAT_STATE = 5 then t else (t.setRing 5).offer Ev.RING_SHORT .pkg)
  else if 64 < n then t.setRing 6
  else t.setRing 2

/-- ENUM_RX: an ENUM with a count arrives; `other`: at a head, it is another head's (R383). A member takes its position,
passes the count on, and runs on its own until its ring is up. -/
def execEnumRx (count : Nat) (other : Bool) (s : State) : Host.Outcome State Fault Refusal :=
  .next (if !s.ringOn then s
  else if s.straps.ringHead then
    if other then
      if s.ring.dup then s else { (s.setRing 1).offer Ev.RING_DUP_HEAD .pkg with ring := { s.ring with dup := true } }
    else if s.ringCounts ∧ s.ring.enumAt ≠ none ∧ s.ring.dup = false then s.enumDone count else s
  else
    let t := (s.wr .ring RING_POS_POS (count + 1)).setRing 1
    t.ringSend "ENUM" 7 0xFF (count + 1) 0 0 [])

/-- RING_REENUM: a write of RING_CTRL.REENUM = 1 makes the head enumerate again (R391). -/
def execRingReenum (s : State) : Host.Outcome State Fault Refusal :=
  .next (if s.isHead && s.ringOn then (s.wr .ring RING_CTRL_REENUM 1).enumerate else s)

/-! ### Ports (R388) -/

/-- The bit of RING_STAT that shows a port. -/
def ringPort (p : Nat) : Field := if p = 0 then RING_STAT_PORT0 else RING_STAT_PORT1

/-- A port is down; `lost` writes of this package are cut off (R388). -/
def State.ringPortDown (s : State) (p lost : Nat) : State :=
  if s.ringOn ∧ p < 2 ∧ s.is .ring (ringPort p) then
    let t := s.wr .ring (ringPort p) 0
    let t := t.each (List.range (if s.hasRing then lost else 0)) fun t _ => (t.bump .ring RING_LOSTCNT_COUNT).offer Ev.RING_LOST .pkg
    let st := s.rd .ring RING_STAT_STATE
    if st = 2 then ((t.setRing 3).bump .ring RING_WRAPCNT_COUNT).offer Ev.RING_WRAP .pkg
    else if st = 3 then t.setRing 4
    else t
  else s

/-- RING_PORT_DOWN: a port loses block lock (R388). -/
def execRingPortDown (p lost : Nat) (s : State) : Host.Outcome State Fault Refusal := .next (s.ringPortDown p lost)

/-- The instants at which frames failed their CRC on a port, newest first. -/
def Ring.crcs (r : Ring) (p : Nat) : List Nat := if p = 0 then r.crcA else r.crcB
def Ring.setCrcs (r : Ring) (p : Nat) (l : List Nat) : Ring := if p = 0 then { r with crcA := l } else { r with crcB := l }

/-- A frame fails its CRC on a port: it is counted, and a port that counts 16 within 1 ms is down (R384, R388). -/
def State.ringCrcBad (s : State) (p : Nat) : State :=
  let l := (s.tb :: s.ring.crcs p).take 16
  let t := { s with ring := s.ring.setCrcs p l }.bump .ring (if p = 0 then RING_ERRCNT_PORT0 else RING_ERRCNT_PORT1)
  match l[15]? with
  | some a => if s.tb < a + 1000000 then { t with ring := t.ring.setCrcs p [] }.ringPortDown p 0 else t
  | none => t

/-- RING_PORT_RECOVERED: a port has stayed up for 100 ms; with both ports up the wrap ends and the head enumerates again
(R388). -/
def execRingPortRecovered (p : Nat) (s : State) : Host.Outcome State Fault Refusal :=
  .next (if s.ringOn ∧ p < 2 ∧ s.is .ring (ringPort p) = false then
    let t := s.wr .ring (ringPort p) 1
    let st := s.rd .ring RING_STAT_STATE
    if t.is .ring (ringPort (1 - p)) then (if st = 3 ∨ st = 4 then t.enumerate else t)
    else if st = 4 then t.setRing 3
    else t
  else s)

/-- RING_FRAME_PASS_ON: a frame arrives on a port: its CRC fails, and it is discarded and counted; or it is the package's
own, come back round, and is removed; or it goes on from the other port, back from the same one where the ring is wrapped
there (R384, R388). A frame for this package alone is not this row's. -/
def execRingFramePassOn (p : Nat) (name : String) (header payload : List Nat) (crcOk : Bool) (s : State) :
    Host.Outcome State Fault Refusal :=
  .next (if !s.ringOn || decide (2 ≤ p) then s
  else if !crcOk then s.ringCrcBad p
  else
    let src := bits (header.getD 0 0) 16 8
    let dst := bits (header.getD 0 0) 8 8
    let own := s.rd .ring RING_POS_POS
    let t := if bits (header.getD 0 0) 24 8 = 7 then s else s.ringHeard
    if src = own ∨ dst = own then t
    else t.ringEmit (if t.is .ring (ringPort (1 - p)) then 1 - p else p) name (header ++ payload))

/-! ### Carried commands (R387) -/

/-- A member has an input of its command engine free for a carried command. -/
def State.freeInput (s : State) : Option Nat := ((List.range 16).map (16 + ·)).find? fun q => decide ((s.queue q).cmd = none)

/-- RING_CMD_RX: a member takes a command entry of 16 words with the head queue's Q_SLACK (R387). -/
def execRingCmdRx (src tag : Nat) (entry : List Nat) (slack : Nat) (s : State) : Host.Outcome State Fault Refusal :=
  .next (if s.ringOn ∧ s.straps.ringHead = false then
    let s := s.ringHeard
    match s.freeInput with
    | some q =>
      let t := s.takeEntry q slack entry
      t.setQueue q { t.queue q with src := src, tag := tag }
    | none => s
  else s)

/-- The frames awaiting an answer without one of them. -/
def State.ringAnswered (s : State) (r : RingReq) : State := { s with ring := { s.ring with reqs := s.ring.reqs.erase r } }

/-- The unanswered frame of a kind that a member's answer with a tag belongs to. -/
def State.ringReq (s : State) (src tag kind : Nat) : Option RingReq :=
  s.ring.reqs.find? fun r => decide (r.member = src ∧ r.tag = tag ∧ r.kind = kind)

/-- A member's answer to CHECK: its code, 0 where it passes (R389). -/
def State.checkAnswer (s : State) (r : RingReq) (code : Nat) : State :=
  match s.ring.ctl with
  | none => s.ringAnswered r
  | some (w, missed) =>
    if code ≠ 0 then s.ringRefuse w code
    else
      let t := s.ringAnswered r
      if t.ring.reqs.any fun x => decide (x.kind = 8) then t else t.ringApply w missed

/-- RING_CPL_RX: the head receives CPL: of a command, whose completion it writes, or of a CHECK (R387, R389). -/
def execRingCplRx (src tag status result data : Nat) (s : State) : Host.Outcome State Fault Refusal :=
  .next (if !s.hasRing then s
  else
    match s.ringReq src tag 4, s.ringReq src tag 8 with
    | some r, _ => (s.ringAnswered r).cmdEnd r.q (status % 256) (result % 256) data
    | none, some r => s.checkAnswer r (result % 256)
    | none, none => s)

/-- A read of a scan core or the crown core stays without an answer until its reader takes note (R37, R388). -/
def State.ringFailed (s : State) (r : RingReq) : State :=
  { s with ring := { s.ring with reqs := s.ring.reqs ++ [{ r with words := 0 }] } }

/-- RING_TIMEOUT: an unanswered frame has been out for RING_TMO: a host read completes with Completer Abort, a core's read fails, a command with
RING_UNREACHABLE; a member that has not answered CHECK counts as unreachable (R387 to R389). -/
def execRingTimeout (src tag : Nat) (s : State) : Host.Outcome State Fault Refusal :=
  .next (match s.ring.reqs.find? fun r => decide (r.member = src ∧ r.tag = tag) with
    | none => s
    | some r =>
      if s.tb < r.at_ + 1000 * s.rd .ring RING_TMO_US then s
      else if r.kind = 1 then
        if r.q = 0 then (s.ringAnswered r).emit (.hostRead true [])
        else if r.got = [] then (s.ringAnswered r).ringFailed r
        else s
      else if r.kind = 4 then (s.ringAnswered r).cmdEnd r.q 5 0 0
      else
        match s.ring.ctl with
        | none => s.ringAnswered r
        | some (w, _) => { s with ring := { s.ring with ctl := some (w, true) } }.checkAnswer r 0)

/-! ### Commands to the ring node, in a member (R389) -/

/-- RING_CHECK_RX: a member checks a ring command against its whole subtree and answers with the code; one that passes
holds back what would make it fail (R389). -/
def execRingCheckRx (src tag w : Nat) (s : State) : Host.Outcome State Fault Refusal :=
  .next (if s.ringOn ∧ s.straps.ringHead = false then
    let s := s.ringHeard
    let code := (s.cmdRefused .pkg w true).getD 0
    let t := s.ringSend "CPL" 5 src 0 tag 0 [code * 256, 0, 0]
    if code = 0 then { t with ring := { t.ring with check := some w } } else t
  else s)

/-- RING_APPLY_RX: a member applies the command whose CHECK it passed (R389). -/
def execRingApplyRx (s : State) : Host.Outcome State Fault Refusal :=
  .next (match s.ring.check with
    | some w => if s.ringOn ∧ s.straps.ringHead = false then s.ringDrop.applyCmd .pkg w else s
    | none => s)

/-- RING_RELEASE_RX: a member drops the command it held (R389). -/
def execRingReleaseRx (s : State) : Host.Outcome State Fault Refusal :=
  .next (if s.ringOn ∧ s.straps.ringHead = false then s.ringDrop else s)

end Sys2Proof.Machine
end

