-- ==== Sys2Proof/Machine/IoRead.lean ====
section
/-! DEFINITION. Reads of registers (R11, R13, R15): fields that the registers show without holding them, registers whose
read acts, and the RC code. -/

namespace Sys2Proof.Machine

/-! ### The node header (R31, R34, R542) -/

/-- NODE_CLASS.CLASS. -/
def Node.cls : Node → Nat
  | .lane _ _ => 1 | .core _ _ => 2 | .die _ => 3 | .crown => 4 | .field => 5 | .pkg => 6 | .ring => 7

/-- NODE_CHILDREN.COUNT; the ring node's children are the members counted. -/
def State.childCount (s : State) : Node → Nat
  | .lane _ _ | .crown | .field => 0
  | .core _ _ => 3
  | .die _ => 4
  | .pkg => 2 + s.straps.dies
  | .ring => s.rd .ring RING_COUNT_N

/-- NODE_CHILD_BASE. -/
def Node.childBase : Node → Nat
  | .lane _ _ | .crown | .field => 0
  | .core d k => (Blk.lane d (3 * k)).base
  | .die d => (Blk.core d 0).base
  | .pkg => 0x1000
  | .ring => 0x200000

/-- NODE_CHILD_STRIDE. -/
def Node.childStride : Node → Nat
  | .lane _ _ | .crown | .field => 0
  | .core _ _ | .die _ => 0x10000
  | .pkg | .ring => 0x1000

/-- The nodes whose state shows in a node's NODE_STATUS: its subtree, for the ring node together with that of the
head's own package. -/
def State.statusNodes (s : State) (n : Node) : List Node := if n = .ring then .ring :: s.subtree .pkg else s.subtree n

/-- Some node of a subtree has a bit set. -/
def State.anyNode (s : State) (n : Node) (f : Node → Bool) : Bool := (s.statusNodes n).any f

/-- The node lies on a compute die, which a power-fail store holds in reset (R503). -/
def Node.onCompute : Node → Bool
  | .die _ | .core _ _ | .lane _ _ => true
  | _ => false

/-- A field of the node header as it reads. -/
def State.nodeField (s : State) (n : Node) (f : Field) : Nat :=
  let b := n.blk
  if f = NODE_ID_PATH then s.path n
  else if f = NODE_CLASS_CLASS then n.cls
  else if f = NODE_CHILDREN_COUNT then s.childCount n
  else if f = NODE_CHILD_BASE_BASE then n.childBase
  else if f = NODE_CHILD_STRIDE_STRIDE then n.childStride
  else if f = NODE_STATUS_FAULT then (s.anyNode n fun x => s.is x.blk NODE_STATUS_OWN_FAULT).toNat
  else if f = NODE_STATUS_WARN then (s.anyNode n fun x => s.is x.blk NODE_STATUS_OWN_WARN).toNat
  else if f = NODE_STATUS_NAP then (s.anyNode n fun x => s.is x.blk NODE_CTRL_NAP).toNat
  else if f = NODE_STATUS_FROZEN then (s.anyNode n fun x => s.is x.blk x.frz).toNat
  else if f = NODE_STATUS_DISABLED then (s.anyNode n fun x => !s.is x.blk NODE_CTRL_EN).toNat
  else if f = NODE_STATUS_RESETTING then (decide (s.pwr.phase = .store) && s.anyNode n Node.onCompute).toNat
  else if f = NODE_STATUS_PEND then (decide (s.rd b NODE_CTRL_RESULT = 1)).toNat
  else if f = NODE_CTRL_FRZ then s.rd b n.frz
  else if f = NODE_CAPS_HOOD then (match n with | .lane _ _ | .core _ _ => 1 | _ => 0)
  else if f = NODE_CAPS_NAP ∨ f = NODE_CAPS_FREEZE then n.gates.toNat
  else if f = NODE_CAPS_RING_MEMBER then (s.ringUp && decide (n = .pkg ∨ n = .ring)).toNat
  else if f = NODE_CAPS_RING_HEAD then (s.hasRing && decide (n = .pkg ∨ n = .ring)).toNat
  else if f = NODE_CAPS_HSB then (s.strapped && decide (n = .pkg)).toNat
  else if f = NODE_REV_DIES then s.straps.dies
  else s.rd b f

/-! ### Fields that show hidden state -/

/-- A field of a scan core's window. -/
def State.coreField (s : State) (d k : Nat) (f : Field) : Nat :=
  if f = CORE_PC_PC then (s.core d k).pc
  else if f = CORE_SCHED_CURTASK then (s.tasksIn d k [3, 5]).headD 0
  else if f = CORE_SCHED_BUSY then (!(s.tasksIn d k [3, 5]).isEmpty).toNat
  else s.nodeField (.core d k) f

/-- A field of a lane's window. -/
def State.laneField (s : State) (d j : Nat) (f : Field) : Nat :=
  if f = LANE_STAT_STATE then s.laneState d j
  else if f = LANE_STAT_HOLD_SRC then (s.holdSrc d j).toNat
  else if f = LANE_STAT_HOLD_OUT then (s.holdOut d j).toNat
  else if f = LANE_KHOOD_CTRL_SWITCH then (decide (s.khood d j = 2)).toNat
  else s.nodeField (.lane d j) f

/-- A field of a link's window (R282). -/
def State.linkField (s : State) (d m : Nat) (f : Field) : Nat :=
  let l := s.link d m
  if f = LINK_STAT_RESYNC then (l.resyncAt.isSome || l.txStop.isSome).toNat
  else if f = LINK_STAT_STALL0 then (l.stall 0).toNat
  else if f = LINK_STAT_STALL1 then (l.stall 1).toNat
  else if f = LINK_ID_SOURCE then s.linkSource d m
  else if f = LINK_CRED_AVAIL0 then l.avail 0
  else if f = LINK_CRED_AVAIL1 then l.avail 1
  else if f = LINK_LOAD_OCTETS then s.linkLoad d m
  else if f = LINK_RX_STAT_COUNT then l.rx.length
  else if 0x54 ≤ f.off ∧ f.off < 0x68 then
    match l.rx with
    | x :: _ => x.hdr.getD ((f.off - 0x54) / 4) 0
    | [] => 0
  else if 0x200 ≤ f.off ∧ f.off < 0x300 then
    match l.rx with
    | x :: _ => x.words.getD ((f.off - 0x200) / 4) 0
    | [] => 0
  else s.rd (.link d m) f

/-- A field of an arbiter set (R299, R300). -/
def State.arbField (s : State) (c : Option Nat) (f : Field) : Nat :=
  let i := (f.off - 0x100) / 0x20
  if c.isSome ∧ 16 ≤ i ∧ f = ARB_STAT_BUSY i then (decide (1000 * s.tb < (s.link (c.getD 0) (i - 16)).till)).toNat
  else if f = ARB_STAT_INPUTS i then arbInputs c (match c with | some _ => i | none => i - 24) else s.rd (arbBlk c) f

/-- A field of the hot-standby block (R315, R330, R339). -/
def State.hsbField (s : State) (f : Field) : Nat :=
  if f = HSB_STAT_UNIT then s.straps.hsbUnit.toNat
  else if f = HSB_STAT_PAIR then s.straps.hsbPair.toNat
  else if f = HSB_STAT_READY then s.hsbReady.toNat
  else if f = HSB_STAT_CANPATH then s.canPath.toNat
  else s.rd .hsb f

/-- A number whose groups of four bits are the entries of a list, the first lowest. -/
def nibbles : List Nat → Nat
  | [] => 0
  | x :: xs => x % 16 + 16 * nibbles xs

/-- A field of a compute die's interrupt controller (R351). -/
def State.irqField (s : State) (d : Nat) (f : Field) : Nat :=
  let k := (f.off - 0x200) / 0x20
  let p := (s.core d k).prio
  if f = IRQ_PSTAT_DEPTH k then p.length
  else if f = IRQ_PSTAT_TOP k then p.headD 0
  else if f = IRQ_PSTACK_ENTRY k then nibbles p.reverse
  else s.rd (.irqDie d) f

/-- The slots in use, one bit each, and the users that wait (R380, R381). -/
def CtxEngine.busy (e : CtxEngine) : Nat := bitsOf 4 fun i => decide (e.slots.get i 0 ≠ 0)
def CtxEngine.waiting (e : CtxEngine) : Nat := min 15 e.wait.length

/-- A field of the HOST block (R390). -/
def State.hostField (s : State) (f : Field) : Nat :=
  if f = HOST_CTX_CRYBUSY then s.ctxCry.busy
  else if f = HOST_CTX_CRYWAIT then s.ctxCry.waiting
  else if f = HOST_CTX_CRCBUSY then s.ctxCrc.busy
  else if f = HOST_CTX_CRCWAIT then s.ctxCrc.waiting
  else s.rd .host f

/-- A field of a CAN FD controller (R418, R422, R426, R427): the object registers show the buffer. -/
def State.canField (s : State) (c : Nat) (f : Field) : Nat :=
  if f = CAN_TSC_US then s.canTsc
  else if f = CAN_ERRCNT_TEC ∧ s.rd (.can c) CAN_STAT_ERRST = 2 then 255
  else if 0x20 ≤ f.off ∧ f.off < 0x30 then s.canMask c ((f.off - 0x20) / 4) fun x => x.txreq
  else if 0x30 ≤ f.off ∧ f.off < 0x40 then s.canMask c ((f.off - 0x30) / 4) fun x => x.isNew
  else if 0x40 ≤ f.off ∧ f.off < 0x50 then s.canMask c ((f.off - 0x40) / 4) fun x => x.lost
  else if 0x104 ≤ f.off ∧ f.off < 0x180 then f.of ((s.canOf c).buf.word f.off)
  else s.rd (.can c) f

/-- A field of the event recorder (R467, R468). -/
def State.evrField (s : State) (f : Field) : Nat :=
  if f = EVR_CURSOR_SEQ then s.evrCursor
  else if f = EVR_OLDEST_SEQ then s.recorder.oldest
  else if f = EVR_NEXT_SEQ then s.recorder.next
  else if f = EVR_STAT_EMPTY then (decide (s.evrCursor = s.recorder.next)).toNat
  else if 0x20 ≤ f.off ∧ f.off < 0x40 then s.evrWin ((f.off - 0x20) / 4)
  else s.rd .evr f

/-- A field of the update block (R478, R486, R496). -/
def State.updField (s : State) (f : Field) : Nat :=
  if f = UPD_STAT_PATH then s.svcPath.toNat
  else if f = UPD_GATESTAT_WEB then s.gateWeb.toNat
  else if f = UPD_GATESTAT_VBAT then s.gateVbat.toNat
  else if f = UPD_GATESTAT_LOCK then s.gateLock.toNat
  else s.rd .upd f

/-- A field of a register as it reads, but for WO fields, which read zero, and registers whose read acts (R11). -/
def State.fieldValue (s : State) (b : Blk) (f : Field) : Nat :=
  match b with
  | .ringNode => s.nodeField .ring f
  | .pkgNode => s.nodeField .pkg f
  | .crownNode => if 0x400 ≤ f.off ∧ f.off < 0x560 then s.arbField none f else s.nodeField .crown f
  | .fieldNode => s.nodeField .field f
  | .dieNode d => s.nodeField (.die d) f
  | .core d k => s.coreField d k f
  | .lane d j => s.laneField d j f
  | .link d m => s.linkField d m f
  | .arb d => s.arbField (some d) f
  | .hsb => s.hsbField f
  | .irqDie d => s.irqField d f
  | .lsw => if 0x100 ≤ f.off ∧ f.off % 0x10 = 8 then s.outputMa ((f.off - 0x100) / 0x10) else s.rd b f
  | .wdt => if f = WDT_REMAIN_US then s.wdtRemain else s.rd b f
  | .host => s.hostField f
  | .ring => if f = RING_STAT_HEAD then s.straps.ringHead.toNat else s.rd b f
  | .can c => s.canField c f
  | .evr => s.evrField f
  | .upd => s.updField f
  | .rtc => if f = RTC_SEC_HI_SEC then s.rtcShown / 2 ^ 48 % 2 ^ 16 else s.rd b f
  | .cal => if 0x80 ≤ f.off then ofSigned 16 (s.calEff ((f.off - 0x80) / 4)) else s.rd b f
  | _ => s.rd b f

/-- The word of a register: its fields at their places, WO fields zero (R11, R15). -/
def State.regWord (s : State) (b : Blk) (o : Nat) : Nat :=
  ((fieldsOf b o).map fun f => if f.acc = .wo then 0 else s.fieldValue b f % 2 ^ f.width * 2 ^ f.lo).sum

/-- The RC fields of a register take their reset values (R11). -/
def State.rcTaken (s : State) (b : Blk) (o : Nat) : State :=
  s.each ((fieldsOf b o).filter fun f => decide (f.acc = .rc)) fun t f => t.wr b f f.reset

/-! ### Registers whose read acts -/

/-- How a read of a register ends: with its word, refused with a code (R48), or at an uncorrectable memory error. -/
inductive RegRead where
  | word (w : Nat) (s : State)
  | refused (code : Nat)
  | ecc (s : State)

/-- A read of CORE_LRAM_DATA (R118, R119). -/
def State.lramRead (s : State) (d k : Nat) : RegRead :=
  let b := Blk.core d k
  match s.readBytes (.lram d k) (4 * s.rd b CORE_LRAM_ADDR_ADDR) 4 with
  | (some bs, t) => .word (leNat bs) (t.wr b CORE_LRAM_ADDR_ADDR (s.rd b CORE_LRAM_ADDR_ADDR + 1))
  | (none, t) => .ecc t

/-- A read of CORE_ISP_DATA (R43, R145). -/
def State.ispRead (s : State) (d k : Nat) : RegRead :=
  let b := Blk.core d k
  let a := 2 * s.rd b CORE_ISP_ADDR_ADDR
  if 0x480000 ≤ a then .refused 0xF0
  else
    match s.iBytes d k a 4 with
    | (some w, t) => .word w (t.wr b CORE_ISP_ADDR_ADDR (s.rd b CORE_ISP_ADDR_ADDR + 1))
    | (none, t) => .ecc t

/-- NODE_STATUS of the ring node: the head's own bits, and for the other members free ones, since the content of their
STATUS frames is open (R31, R384; DESIGN CHOICE, log entry 145). -/
def State.ringStatus (s : State) : Nat × State :=
  let (v, t) := s.freeNat
  (s.regWord .ringNode 0x14 ||| (if 1 < s.rd .ring RING_COUNT_N then v % 64 else 0), t)

/-- A word with the state after its read. -/
def RegRead.of (p : Nat × State) : RegRead := .word p.1 p.2

/-- A read of a register of the recorder: the window passes the slot's ECC (R467, R540). -/
def State.evrRegRead (s : State) (o : Nat) : RegRead :=
  if 0x20 ≤ o ∧ o < 0x40 then
    match if o = 0x3C then s.evrWin7 else s.evrRead ((o - 0x20) / 4) with
    | (some v, t) => .word v t
    | (none, t) => .ecc t
  else .word (s.regWord .evr o) (s.rcTaken .evr o)

/-- A read of a register of a block (R11, R118, R145, R194, R203, R429, R446, R467, R492). -/
def State.regRead (s : State) (b : Blk) (o : Nat) : RegRead :=
  match b, o with
  | .core d k, 0x214 => s.lramRead d k
  | .core d k, 0x21C => s.ispRead d k
  | .lane d j, 0x180 => .of (s.laneCntLine d j)
  | .lane d j, 0x1C4 => .of (s.laneSramRead d j)
  | .lane d j, 0x1CC => .of (s.laneKsRead d j)
  | .ringNode, 0x14 => .of s.ringStatus
  | .tmb, 0 => .of s.tmbTimeLo
  | .tmb, 4 => .of s.tmbTimeHi
  | .rtc, 0 => .of s.rtcSecLo
  | .rtc, 8 => .of s.rtcFrac
  | .evr, o => s.evrRegRead o
  | .cry, 0x808 => .of s.trngAcq
  | b, o => .word (s.regWord b o) (s.rcTaken b o)

end Sys2Proof.Machine
end

