-- ==== Sys2Proof/Machine/Reflex.lean ====
section
/-! DEFINITION. The reflex engine (R275 to R281, R284). -/

namespace Sys2Proof.Machine

/-- A condition of R81 on two words: 0 EQ, 1 NE, 2 LT, 3 GE, 4 LTU, 5 GEU, 6 RZ, 7 RNZ; the last two look at `a` alone,
as R276 says. -/
def reflexCond (c a b : Nat) : Bool :=
  match c with
  | 0 => decide (a = b)
  | 1 => decide (a ≠ b)
  | 2 => decide (toSigned 32 a < toSigned 32 b)
  | 3 => decide (toSigned 32 b ≤ toSigned 32 a)
  | 4 => decide (a < b)
  | 5 => decide (b ≤ a)
  | 6 => decide (a = 0)
  | _ => decide (a ≠ 0)

/-- Source value of a rule (R276). -/
def State.reflexSource (s : State) (d i : Nat) (g : Trigger) : Nat :=
  match s.rd (.rfx d) (RULE_CMP_ASRC i) with
  | 0 => g.words.getD (s.rd (.rfx d) (RULE_CMP_WORD i)) 0
  | 1 => s.rd (.rfx d) RFX_FLAGS_FLAGS
  | 2 => g.levels
  | 3 => g.time
  | 4 => g.source
  | _ => 0

/-- The rule takes part in the pass (R276). -/
def State.reflexMatch (s : State) (d i : Nat) (g : Trigger) : Bool :=
  let b := Blk.rfx d
  let trig := s.rd b (RULE_TRIG_TRIG i)
  s.is b (RULE_TRIG_EN i) &&
    match g.edge with
    | some (input, level) =>
      decide (s.rd b (RULE_TRIG_INPUT i) = input ∧ (trig = 3 ∨ trig = if level then 1 else 2))
    | none =>
      decide (trig = 4 ∧ s.rd b (RULE_TRIG_KIND i) = g.kind ∧
        (s.rd b (RULE_TRIG_LINK i) = 0x3F ∨ s.rd b (RULE_TRIG_LINK i) = g.link))

/-- The rule fires (R276). -/
def State.reflexFires (s : State) (d i : Nat) (g : Trigger) : Bool :=
  s.reflexMatch d i g &&
    reflexCond (s.rd (.rfx d) (RULE_CMP_COND i)) (s.reflexSource d i g &&& s.rd (.rfx d) (RULE_MASK_MASK i))
      (s.rd (.rfx d) (RULE_VALUE_VALUE i))

/-- Template `n` is sent as a frame, unless it breaks R248 or its link is not UP (R278). -/
def State.sendTemplate (s : State) (d n : Nat) (g : Trigger) : State :=
  let b := Blk.rfx d
  let words := s.rd b (TPL_CFG_WORDS n)
  let type := if s.is b (TPL_CFG_KIND n) then 5 else 2
  let m := s.rd b (TPL_CFG_LINK n)
  if 16 < words ∨ ¬ lengthOk type (4 * words) false then s.wr b RFX_STAT_BADTPL 1
  else if s.linkState d m ≠ 2 then s.bump b RFX_DROPCNT_COUNT
  else
    let f : TxFrame := { type := type, flags := s.rd b (TPL_TARGET_FLAGS n), cls := s.rd b (TPL_CFG_CLASS n),
                         target := s.rd b (TPL_TARGET_TARGET n), dl := (g.time + s.rd b RFX_SLACK_NS) % 2 ^ 32,
                         words := (List.range words).map fun i => s.rd b (TPL_DATA_DATA n i), trig := g.time }
    let l := s.link d m
    let t := s.setLink d m { l with reflex := l.reflex ++ [f] }
    if l.canSend 1 (4 * words) then t else t.wr b RFX_STAT_STALL 1

/-- The action of a rule that fires, and its marks (R277). -/
def State.reflexAct (s : State) (d i : Nat) (g : Trigger) : State :=
  let b := Blk.rfx d
  let arg := s.rd b (RULE_ACT_ARG i)
  let t := match s.rd b (RULE_ACT_ACT i) with
    | 1 => s.sendTemplate d arg g
    | 2 => s.lswCommand (arg % 16) (arg.testBit 4)
    | 3 => s.raiseDie d (352 + arg % 32)
    | _ => s
  let t := (t.wr b (RULE_TRIG_FIRED i) 1).bump b RFX_FIRECNT_COUNT
  if t.is b (RULE_TRIG_ONCE i) then t.wr b (RULE_TRIG_EN i) 0 else t

/-- The flag operation of a rule (R277, R279). -/
def State.reflexFlag (s : State) (d i : Nat) : State :=
  let b := Blk.rfx d
  let f := s.rd b (RULE_ACT_FLAG i)
  match s.rd b (RULE_ACT_FLAGOP i) with
  | 1 => s.setBit b RFX_FLAGS_FLAGS f true
  | 2 => s.setBit b RFX_FLAGS_FLAGS f false
  | _ => s

/-- One pass over a trigger: the rules that fire are judged in the state at its start, act in rule order, and apply
their flag operations at its end (R276, R279). -/
def State.reflexPass (s : State) (d : Nat) (g : Trigger) : State :=
  let fired := (List.range 256).filter fun i => s.reflexFires d i g
  let t := s.each fired fun t i => t.reflexAct d i g
  t.each fired fun t i => t.reflexFlag d i

/-- REFLEX_PASS: the engine of die `d`, while enabled, takes the oldest trigger (R276, R284). -/
def execReflexPass (d : Nat) (s : State) : Host.Outcome State Fault Refusal :=
  .next (match Tab.get s.rfx d [] with
    | g :: gs => if s.hasDie d ∧ s.is (.rfx d) RFX_CTRL_EN then ({ s with rfx := Tab.set (fun k => k) s.rfx d [] gs }).reflexPass d g else s
    | [] => s)

/-- RFX_FSET: a write of RFX_FSET (R279). -/
def execRfxFset (d w : Nat) (s : State) : Host.Outcome State Fault Refusal :=
  .next (if s.hasDie d then s.orBits (.rfx d) RFX_FLAGS_FLAGS (w % 2 ^ 32) else s)

/-- RFX_FCLR: a write of RFX_FCLR (R279). -/
def execRfxFclr (d w : Nat) (s : State) : Host.Outcome State Fault Refusal :=
  .next (if s.hasDie d then s.clrBits (.rfx d) RFX_FLAGS_FLAGS (w % 2 ^ 32) else s)

end Sys2Proof.Machine
end

