-- ==== Sys2Proof/Machine/IoWrite.lean ====
section
/-! DEFINITION. Writes of registers (R11, R12, R15, R52): the access codes, and the registers whose write acts or is
ignored at times. -/

namespace Sys2Proof.Machine

/-! ### The access codes -/

/-- A field may take a value: its map gives it a range that holds the value, or none. -/
def Field.takes (f : Field) (v : Nat) : Bool := decide (f.vmax = 0 ∨ (f.vmin ≤ v ∧ v ≤ f.vmax))

/-- A field's retained-store segment, if it has one, has been written to (R448, R449). -/
def State.keyDirty (s : State) (b : Blk) (f : Field) : State :=
  match segOfKey (f.key b) with
  | some g => s.dirty g
  | none => s

/-- One field under a written word (R11): RW takes its part unless that is out of its range, W1S and W1C set and clear
bits, RO, RC and WO ignore it. -/
def State.putField (s : State) (b : Blk) (w : Nat) (f : Field) : State :=
  match f.acc with
  | .rw => if f.takes (f.of w) then (s.wr b f (f.of w)).keyDirty b f else s
  | .w1s => s.orBits b f (f.of w)
  | .w1c => s.clrBits b f (f.of w)
  | _ => s

/-- A register written by its fields' access codes. -/
def State.putReg (s : State) (b : Blk) (o w : Nat) : State := s.each (fieldsOf b o) fun t f => t.putField b w f

/-- The state after a command that goes on. -/
def nextOr (s : State) : Host.Outcome State Fault Refusal → State
  | .next t => t
  | _ => s

/-- A write of EVR_RATE of bucket `i`: it holds at most BURST tokens from then on (R466, R471). -/
def State.putRate (s : State) (i w : Nat) : State :=
  let t := s.putReg .evr (0x400 + 4 * i) w
  t.wr .evr (EVR_RATE_TOKENS i) (min (t.rd .evr (EVR_RATE_TOKENS i)) (t.rd .evr (EVR_RATE_BURST i)))

/-! ### Blocks -/

/-- A write to a node's header or to a requester's protection window; none for another register. A write to a locked
region's registers has no effect (R32, R38, R50, R52). -/
def State.putNode (s : State) (n : Node) (o w : Nat) : Option WriteResult :=
  let b := n.blk
  if o = 0x18 then some (match s.nodeCtrl n w with | some t => .taken t | none => .held)
  else if o < 0x30 then some (.taken (s.putReg b o w))
  else
    match n with
    | .core _ _ | .crown | .pkg =>
      if 0x100 ≤ o ∧ o < 0x180 then some (.taken (if s.is b (PROT_ATTR_LOCK ((o - 0x100) / 0x10)) then s else s.putReg b o w))
      else none
    | _ => none

/-- A write of CORE_LRAM_DATA (R118, R119). -/
def State.lramWrite (s : State) (d k w : Nat) : State :=
  let b := Blk.core d k
  let a := s.rd b CORE_LRAM_ADDR_ADDR
  ((s.writeBytes (.lram d k) (4 * a) (leBytes 4 w)).2).wr b CORE_LRAM_ADDR_ADDR (a + 1)

/-- A write of CORE_ISP_DATA: two parcels, each of which the target bank must take (R44, R145, R160). -/
def State.ispWrite (s : State) (d k w : Nat) : WriteResult :=
  let b := Blk.core d k
  let a := s.rd b CORE_ISP_ADDR_ADDR
  match (s.iWriteCheck d k (2 * a)).toList ++ (s.iWriteCheck d k (2 * a + 1)).toList with
  | c :: cs => .refused ((c :: cs).min?.getD c)
  | [] => .taken (((s.iStore d k (2 * a) 4 w).2).wr b CORE_ISP_ADDR_ADDR (a + 1))

/-- A write to a task's registers: TASK_CFG and TASK_TRIG act, the settings are fixed while EN is 1 (R135, R136). -/
def State.putTask (s : State) (d k t o w : Nat) : State :=
  let b := Blk.core d k
  match (o - 0x400) % 0x40 with
  | 0 => (s.taskCfg d k t w).hoodRefCheck d k
  | 0x2C => s.taskTrig d k t w
  | x => if 4 ≤ x ∧ x ≤ 0x14 ∧ s.is b (TASK_CFG_EN t) then s else s.putReg b o w

/-- A write to a scan core's own registers. -/
def State.putCore (s : State) (d k o w : Nat) : WriteResult :=
  if o = 0x214 then .taken (s.lramWrite d k w)
  else if o = 0x21C then s.ispWrite d k w
  else if o = 0x320 then .taken (s.hoodCtrl d k w)
  else if 0x400 ≤ o ∧ o < 0x800 then .taken (s.putTask d k ((o - 0x400) / 0x40) o w)
  else .taken (s.putReg (.core d k) o w)

/-- A write to a lane's own registers (R185, R191, R196, R203, R263). -/
def State.putLane (s : State) (d j o w : Nat) : WriteResult :=
  let b := Blk.lane d j
  let run := s.is b LANE_CTRL_RUN
  if o = 0x100 then .taken (s.laneCtrl d j w)
  else if 0x108 ≤ o ∧ o < 0x118 ∧ (run ∨ s.laneInJob d j) then .taken s
  else if (o = 0x1D0 ∨ 0x800 ≤ o) ∧ run then .taken s
  else if o = 0x140 ∧ LANE_FAULT_VALID.of w = 1 then .taken ((s.putReg b o w).wr b NODE_STATUS_OWN_FAULT 0)
  else if o = 0x1A0 then .taken (s.khoodCtrl d j w)
  else if o = 0x1C4 then s.laneSramWrite d j w
  else if o = 0x1CC then s.laneKsWrite d j w
  else .taken (s.putReg b o w)

/-- A write to a link's registers (R282). -/
def State.putLink (s : State) (d m o w : Nat) : State :=
  if o = 0 then s.linkCtrl d m w
  else if o = 0x4C then (if LINK_TX_GO_GO.of w = 1 then s.mailGo d m else s)
  else if o = 0x68 then (if LINK_RX_POP_POP.of w = 1 then s.rxPop d m else s)
  else s.putReg (.link d m) o w

/-- A write to an interrupt controller (R346, R351); IRQ_DONE is the owning core's own business (R347). -/
def State.putIrq (s : State) (c : Option Nat) (o w : Nat) : State :=
  if 0x40 ≤ o ∧ o < 0x80 then nextOr s (execIrqPendSet c ((o - 0x40) / 4) w s)
  else if 0x80 ≤ o ∧ o < 0xC0 then nextOr s (execIrqPendClr c ((o - 0x80) / 4) w s)
  else if 0x100 ≤ o ∧ o < 0x140 then nextOr s (execIrqEnSet c ((o - 0x100) / 4) w s)
  else if 0x140 ≤ o ∧ o < 0x180 then nextOr s (execIrqEnClr c ((o - 0x140) / 4) w s)
  else s.putReg (ctlBlk c) o w

/-- A write to the watchdog (R353, R354). -/
def State.putWdt (s : State) (r : Req) (o w : Nat) : State :=
  if o = 0 then (if WDT_CTRL_EN.of w = 1 then s.wdtEnable else s)
  else if (o = 4 ∨ o = 8 ∨ 0x80 ≤ o) ∧ s.is .wdt WDT_CTRL_EN then s
  else if o = 0xC then s.wdtTasken w
  else if o = 0x10 then s.wdtKick r w
  else s.putReg .wdt o w

/-- A write of an MSI-X table word; a vector that is unmasked with its PBA bit set is sent (R368, R369). -/
def State.putMsix (s : State) (o w : Nat) : State :=
  let e := (o - 0x8000) / 16
  if (o - 0x8000) % 16 = 12 then
    let t := s.wr .host (MSIX_ENTRY e 3) (w % 2)
    if w % 2 = 0 ∧ t.bit .host (MSIX_PBA (e / 32)) (e % 32) then (t.setBit .host (MSIX_PBA (e / 32)) (e % 32) false).sendMsix e
    else t
  else s.putReg .host o w

/-- A write to the HOST block (R369, R372, R373, R390). -/
def State.putHost (s : State) (o w : Nat) : State :=
  if 0x1000 ≤ o ∧ o < 0x1400 then
    let q := (o - 0x1000) / 0x40
    match (o - 0x1000) % 0x40 with
    | 0x18 => if w % 2 = 1 then s.queueEnable q else s.queueDisable q
    | 0x20 => s.sqDoorbell q w
    | 0x28 => s.cqDoorbell q w
    | x => if x ≤ 0x10 ∧ s.is .host (Q_CTRL_EN q) then s else s.putReg .host o w
  else if 0x8000 ≤ o ∧ o < 0x9000 then s.putMsix o w
  else s.putReg .host o w

/-- A write to a CAN FD controller (R416, R417, R426, R427): bit timing only while EN is 0, the object registers reach
the buffer. -/
def State.putCan (s : State) (c o w : Nat) : State :=
  if o = 0 then s.canCtrl c w
  else if 0xC ≤ o ∧ o < 0x18 ∧ s.is (.can c) CAN_CTRL_EN then s
  else if o = 0x100 then s.canSelect c (CAN_OBJSEL_OBJ.of w)
  else if o = 0x118 then s.canCmd c w
  else if 0x104 ≤ o ∧ o < 0x180 then s.setCan c { s.canOf c with buf := (s.canOf c).buf.putWord o w }
  else s.putReg (.can c) o w

/-- A write to the cryptographic block (R477, R491 to R493); whether a programmed fuse reads back right is free. -/
def State.putCry (s : State) (r : Req) (o w : Nat) : State :=
  if o = 8 then (if CRY_KPROG_GO.of w = 1 then let (g, t) := s.freeBit; t.keyProgram r g else s)
  else if o = 0xC then nextOr s (execKeyRevoke r w s)
  else if 0x40 ≤ o ∧ o < 0x70 then s.wr .cry (CRY_KDATA_DATA ((o - 0x40) / 4)) w
  else if o = 0x800 then s.trngEnable (w % 2 = 1)
  else if 0x810 ≤ o ∧ o < 0x910 ∧ (o - 0x810) % 0x40 = 0 then
    let i := (o - 0x810) / 0x40
    let t := if w.testBit 0 then nextOr s (execTrngReq i s) else s
    if w.testBit 1 then nextOr t (execTrngRel i t) else t
  else s.putReg .cry o w

/-- A write to the update block (R479 to R489): the bits of UPD_CTRL act from the lowest up. -/
def State.putUpd (s : State) (o w : Nat) : State :=
  if o = 4 then
    let t := if w.testBit 0 then nextOr s (execUpdBegin s) else s
    let t := if w.testBit 1 then nextOr t (execUpdPut t) else t
    let t := if w.testBit 2 then nextOr t (execUpdErase t) else t
    if w.testBit 3 then t.activate false else t
  else if o = 0x18 then s.confirm w
  else if o = 0x24 ∧ s.is .upd UPD_LOCK_LOCK then s
  else if o = 0x28 then
    let t := if UPD_LOCK_SET.of w = 1 then nextOr s (execUpdLockSet s) else s
    if UPD_LOCK_UNLOCK.of w = 1 then nextOr t (execUpdUnlock t) else t
  else s.putReg .upd o w

/-- A write to the hot-standby block: EN = 1 waits out a ring CHECK of nap that this package has passed; HSB_CLAIM is
taken in OFF (R305, R312, R389). -/
def State.putHsb (s : State) (o w : Nat) : State :=
  if o = 0 then s.hsbCtrl w
  else if o = 8 then (if s.hsbState = hsbOFF ∧ w % 2 = s.ownParity then (s.wr .hsb HSB_CLAIM_CLAIM w).dirty 28 else s)
  else s.putReg .hsb o w

/-- A write to the timebase (R438 to R441). -/
def State.putTmb (s : State) (o w : Nat) : State :=
  if o = 0x10 then s.tmbCtrl w
  else if o = 0x34 then (s.putReg .tmb o w).refsCheck
  else if (o = 0x20 ∨ o = 0x24 ∨ o = 0x28 ∨ o = 0x2C) ∧ s.is .tmb TMB_CTRL_LINEEN then s
  else s.putReg .tmb o w

/-- A write to the load switches (R399, R405, R410); whether a junction has cooled is free. -/
def State.putLsw (s : State) (o w : Nat) : State :=
  if o = 0 then (if LSW_CTRL_RESUME.of w = 1 then s.lswResume else s)
  else if o = 0x14 then nextOr s (execLswSet w s)
  else if o = 0x18 then nextOr s (execLswClr w s)
  else if 0x100 ≤ o ∧ o < 0x200 ∧ (o - 0x100) % 0x10 = 4 then let (c, t) := s.freeBit; t.diagClear ((o - 0x100) / 0x10) w c
  else s.putReg .lsw o w

/-- A write to the real-time clock (R430 to R433). -/
def State.putRtc (s : State) (o w : Nat) : State :=
  if o = 0x1C then (if RTC_CTRL_SET.of w = 1 then nextOr s (execRtcSet s) else s)
  else if o = 0x20 then s.rtcShift w
  else if 0x40 ≤ o ∧ o < 0x80 then
    let k := (o - 0x40) / 0x20
    if (o - 0x40) % 0x20 = 0x10 then s.almCtrl k w else s.each (fieldsOf .rtc o) fun t f => t.almWrite k f w
  else s.putReg .rtc o w

/-- A write of NODE_FAULT, the header and a block's registers, by block. -/
def State.putBlk (s : State) (r : Req) (b : Blk) (o w : Nat) : WriteResult :=
  match b with
  | .core d k => s.putCore d k o w
  | .lane d j => s.putLane d j o w
  | .link d m => .taken (s.putLink d m o w)
  | .irqDie d => .taken (s.putIrq (some d) o w)
  | .irqCrown => .taken (s.putIrq none o w)
  | .wdt => .taken (s.putWdt r o w)
  | .host => .taken (s.putHost o w)
  | .ring => .taken (if o = 0 then (if RING_CTRL_REENUM.of w = 1 then nextOr s (execRingReenum s) else s) else s.putReg b o w)
  | .can c => .taken (s.putCan c o w)
  | .evr => .taken (if o = 8 then s.evrCursorWrite (w % 2 ^ 32) else if 0x400 ≤ o ∧ o < 0x800 then s.putRate ((o - 0x400) / 4) w else s.putReg b o w)
  | .upd => .taken (s.putUpd o w)
  | .cry => .taken (s.putCry r o w)
  | .hsb => .taken (s.putHsb o w)
  | .tmb => .taken (s.putTmb o w)
  | .din => .taken (if o = 0 then s.dinCfg w else if 0x20 ≤ o ∧ o < 0xA0 then s.dinFilt ((o - 0x20) / 4) w else s.putReg b o w)
  | .lsw => .taken (s.putLsw o w)
  | .rtc => .taken (s.putRtc o w)
  | .nvs => .taken (if o = 0 then s.requestStore (w % 2 ^ 32) else s.putReg b o w)
  | .rfx d => .taken (if o = 0xC then nextOr s (execRfxFset d w s) else if o = 0x10 then nextOr s (execRfxFclr d w s) else s.putReg b o w)
  | .ing d => .taken (if o = 4 then nextOr s (execIngWptrWrite d w s) else if o = 0x28 then s.calCtrl d w else s.putReg b o w)
  | .pkgNode => .taken (if o = 0x310 then s.imgCtrl w else s.putReg b o w)
  | b => .taken (s.putReg b o w)

/-- A write of one register at its destination. -/
def State.regWrite (s : State) (r : Req) (b : Blk) (o w : Nat) : WriteResult :=
  match b.node? with
  | some n => (s.putNode n o w).getD (s.putBlk r b o w)
  | none => s.putBlk r b o w

end Sys2Proof.Machine
end

