-- ==== Sys2Proof/Machine/Bus.lean ====
section
/-! DEFINITION. Accesses of requesters to I/O space and posted stores (R23, R48, R49, R76, R77, R541): checks, the reads
and writes of one word, writes that are held in their writers' paths, and reads carried over the ring (R37, R386). -/

namespace Sys2Proof.Machine

/-- How a posted write leaves its writer: taken or queued, refused with its capture loaded, or not yet accepted because
the store queue is full. -/
inductive Post where
  | done (s : State)
  | refused (s : State)
  | stall
  deriving DecidableEq, Repr

/-- How a read ends for its requester: with a word, refused with its capture loaded, at a memory error or without an
answer, or not yet. -/
inductive IoRes where
  | word (w : Nat) (s : State)
  | refused (s : State)
  | failed (s : State)
  | wait (s : State)
  deriving DecidableEq, Repr

/-- A write enters its requester's path behind the writes held there; a scan core's store queue has 8 entries (R76,
R541). -/
def State.queueHeld (s : State) (r : Req) (p : Posted) : Post :=
  let l := s.heldOf r
  match r with
  | .core _ _ => if l.length < 8 then .done (s.setHeld r (l ++ [p])) else .stall
  | _ => .done (s.setHeld r (l ++ [p]))

/-! ### The ring (R37, R384) -/

/-- A WRITE frame goes to member `p`. -/
def State.ringWrite (s : State) (p a w : Nat) : State := s.ringSend "WRITE" 2 p 0 s.ring.tag a [w]

/-- A READ frame goes to member `p`, and its answer is awaited by a requester, `n` words in all. -/
def State.ringRead (s : State) (r : Req) (p a n : Nat) : State :=
  (s.ringSend "READ" 1 p 0 s.ring.tag a []).ringAwait
    [{ tag := s.ring.tag, member := p, kind := 1, at_ := s.tb, addr := a, words := n, q := r.code }]

/-- The read that a requester has carried to an address and whose answer it has not taken. -/
def State.ringWaits (s : State) (r : Req) (p a : Nat) : Option RingReq :=
  s.ring.reqs.find? fun x => decide (x.kind = 1 ∧ x.member = p ∧ x.addr = a ∧ x.q = r.code)

/-- A read of one word of another member's package node: the READ goes out, and the requester waits for its answer; a
read without an answer fails (R37, R388). -/
def State.proxyRead (s : State) (r : Req) (p a : Nat) : IoRes :=
  match s.ringWaits r p a with
  | none => .wait (s.ringRead r p a 1)
  | some x =>
    match x.got with
    | w :: _ => .word w (s.ringAnswered x)
    | [] => if x.words = 0 then .failed (s.ringAnswered x) else .wait s

/-! ### One word -/

/-- What becomes of a write that its destination decides on. -/
def State.settle (s : State) (r : Req) (a w : Nat) : WriteResult → Post
  | .taken t => .done t
  | .refused c => .refused (s.refuse r 2 a (a + 3) true c)
  | .held => s.queueHeld r (.io a w)

/-- A write of one word that has passed its checks, at its destination. -/
def State.ioNow (s : State) (r : Req) (a w : Nat) : WriteResult :=
  match s.ioTarget a with
  | .error c => .refused c
  | .ok .none => .taken s
  | .ok (.proxy p o) => .taken (s.ringWrite p o w)
  | .ok (.reg b o) => s.regWrite r b o w

/-- A write of one word to I/O space (R48, R49, R541). -/
def State.ioWrite (s : State) (r : Req) (a w : Nat) : Post :=
  match s.ioCheck r a true with
  | some c => .refused (s.refuse r 2 a (a + 3) true c)
  | none => if s.heldOf r = [] then s.settle r a w (s.ioNow r a w) else s.queueHeld r (.io a w)

/-- Two I/O addresses lie in one destination block. -/
def State.sameBlock (s : State) (a a' : Nat) : Bool :=
  match s.ioTarget a, s.ioTarget a' with
  | .ok (.reg b _), .ok (.reg b' _) => decide (b = b')
  | _, _ => decide (a / 0x1000 = a' / 0x1000)

/-- A read must wait for a held write of its requester: to the same block for a scan core and the crown core, to
anything for the host (R23, R367, R541). -/
def State.behindHeld (s : State) (r : Req) (a : Nat) : Bool :=
  (s.heldOf r).any fun p =>
    match r, p with
    | .host, _ => true
    | _, .io a' _ => s.sameBlock a a'
    | _, _ => false

/-- A read waits at its destination: LANE_SRAM_DATA for a held write of the calibration word (R183). -/
def State.readWaits (s : State) (a : Nat) : Bool :=
  match s.ioTarget a with
  | .ok (.reg (.lane d j) o) => decide (o = 0x1C4) && s.calHeld d j
  | _ => false

/-- A read of one word of I/O space (R23, R48, R49, R183). -/
def State.ioRead (s : State) (r : Req) (a : Nat) : IoRes :=
  match s.ioCheck r a false with
  | some c => .refused (s.refuse r 2 a (a + 3) false c)
  | none =>
    if s.behindHeld r a || s.readWaits a then .wait s
    else
      match s.ioTarget a with
      | .error c => .refused (s.refuse r 2 a (a + 3) false c)
      | .ok .none => .word 0 s
      | .ok (.proxy p o) => s.proxyRead r p o
      | .ok (.reg b o) =>
        match s.regRead b o with
        | .word w t => .word w t
        | .refused c => .refused (s.refuse r 2 a (a + 3) false c)
        | .ecc t => .failed t

/-- A scan core or lane whose window an IN reaches is disabled or napping (R77, cause 0x61). -/
def State.islandDown (s : State) (a : Nat) : Bool :=
  match s.ioTarget a with
  | .ok (.reg (.core d k) _) => !s.is (.core d k) NODE_CTRL_EN || s.is (.core d k) NODE_CTRL_NAP
  | .ok (.reg (.lane d j) _) => s.laneGated d j
  | _ => false

/-! ### Posted stores to D-space -/

/-- A masked write of one byte of D-space: the bits of `mask` take those of `v` (R66). -/
def State.dBits (s : State) (r : Req) (a mask v : Nat) : Acc Unit :=
  match s.dCheck r a 1 true with
  | some c => .refused (s.refuse r 1 a a true c)
  | none =>
    match s.dLoc r a with
    | .error _ => .refused s
    | .ok (m, o) =>
      match s.readBytes m o 1 with
      | (none, t) => .ecc t
      | (some bs, t) =>
        match t.memWrite r m o (leBytes 1 (clearBits (leNat bs) mask ||| (v &&& mask))) with
        | (true, t) => .ok () t
        | (false, t) => .ecc t

/-- A bus error of a posted write is reported to its writer: a scan core meets it at its next boundary; of another requester
it is recorded at the node that holds its capture (R77, R205, R540). -/
def State.reportWrite (s : State) (r : Req) (a : Nat) : State :=
  match r with
  | .core d k => s.reportBus d k a
  | r => s.offer Ev.BUS_ERROR r.node (twoWords a)

/-- A posted D-space store at its destination; a bus error is reported to its writer (R77, R540). -/
def State.postAcc (r : Req) (a : Nat) : Acc Unit → Post
  | .ok _ t => .done t
  | .refused t => .refused t
  | .ecc t => .done (t.reportWrite r a)

/-- A posted store of bytes (R73, R76). -/
def State.postBytes (s : State) (r : Req) (a : Nat) (bs : List Byte) : Post :=
  if s.heldOf r = [] then State.postAcc r a (s.dWrite r a bs)
  else
    match s.dCheck r a bs.length true with
    | some c => .refused (s.refuse r 1 a (a + bs.length - 1) true c)
    | none => s.queueHeld r (.mem a bs)

/-- A posted masked byte write (R66, R76). -/
def State.postBits (s : State) (r : Req) (a mask v : Nat) : Post :=
  if s.heldOf r = [] then State.postAcc r a (s.dBits r a mask v)
  else
    match s.dCheck r a 1 true with
    | some c => .refused (s.refuse r 1 a a true c)
    | none => s.queueHeld r (.bits a mask v)

end Sys2Proof.Machine
end

