-- ==== Sys2Proof/Machine/Flags.lean ====
section
/-! DEFINITION. What the instructions compute on words (R68 to R70, R81, R100): sums, saturation, products, division,
shifts, fields, comparisons. Every function works on numbers below 2^32 that stand for words. -/

namespace Sys2Proof.Machine

/-- A number as a word. -/
def w32 (n : Nat) : Word := BitVec.ofNat 32 n

/-- A signed result limited to 0x8000_0000 … 0x7FFF_FFFF (R68, ADDS and SUBS). -/
def sat32 (i : Int) : Word := BitVec.ofInt 32 (max (-2147483648) (min 2147483647 i))

/-- ADDS and SUBS (R68). -/
def addSat (a b : Word) : Word := sat32 (a.toInt + b.toInt)
def subSat (a b : Word) : Word := sat32 (a.toInt - b.toInt)

/-- ABS (R68). -/
def absSat (a : Word) : Word := sat32 (if a.toInt < 0 then -a.toInt else a.toInt)

/-- MIN, MAX, MINU and MAXU (R68). -/
def minS (a b : Word) : Word := if a.slt b then a else b
def maxS (a b : Word) : Word := if a.slt b then b else a
def minU (a b : Word) : Word := if a.ult b then a else b
def maxU (a b : Word) : Word := if a.ult b then b else a

/-- MULH and MULHU: the high words of the products (R68). -/
def mulHigh (a b : Word) : Word := BitVec.ofInt 32 (a.toInt * b.toInt / 4294967296)
def mulHighU (a b : Word) : Word := w32 (a.toNat * b.toNat / 2 ^ 32)

/-- DIV, truncated toward zero; by zero it gives 0; 0x8000_0000 by 0xFFFF_FFFF wraps to 0x8000_0000 (R69). -/
def divS (a b : Word) : Word := if b = 0 then 0 else BitVec.ofInt 32 (a.toInt.tdiv b.toInt)

/-- REM, with the sign of a; by zero it gives a (R69). -/
def remS (a b : Word) : Word := if b = 0 then a else BitVec.ofInt 32 (a.toInt.tmod b.toInt)

/-- DIVU and REMU (R69). -/
def divU (a b : Word) : Word := if b = 0 then 0 else w32 (a.toNat / b.toNat)
def remU (a b : Word) : Word := if b = 0 then a else w32 (a.toNat % b.toNat)

/-- A shift or rotate count: bits [4:0] (R70). -/
def shiftCount (n : Word) : Nat := n.toNat % 32

/-- The shifts and rotates (R68, R70). -/
def shl (a n : Word) : Word := a <<< shiftCount n
def shr (a n : Word) : Word := a >>> shiftCount n
def sar (a n : Word) : Word := a.sshiftRight (shiftCount n)
def rol (a n : Word) : Word := a.rotateLeft (shiftCount n)
def ror (a n : Word) : Word := a.rotateRight (shiftCount n)

/-- BFX: `n` bits of a from bit `p` (R70). -/
def bfx (a p n : Word) : Word := w32 (a.toNat / 2 ^ (p.toNat % 32) % 2 ^ (n.toNat % 64))

/-- The mask of a field of `n` bits from bit `p`, cut off at bit 31 (R70). -/
def fieldMask (p n : Word) : Word := w32 ((2 ^ (n.toNat % 64) - 1) * 2 ^ (p.toNat % 32))

/-- BFI: a field of a replaced by the low bits of v (R70). -/
def bfi (a v p n : Word) : Word := (a &&& ~~~ (fieldMask p n)) ||| ((v <<< (p.toNat % 32)) &&& fieldMask p n)

/-- The leading zeros of the low `n` bits of a number. -/
def leadZeros (a : Word) : Nat → Nat
  | 0 => 0
  | n + 1 => if a.getLsbD n then 0 else leadZeros a n + 1

/-- The one bits among the low `n` bits of a number. -/
def oneBits (a : Word) : Nat → Nat
  | 0 => 0
  | n + 1 => oneBits a n + (a.getLsbD n).toNat

/-- CLZ and POPC (R68). -/
def clz (a : Word) : Word := w32 (leadZeros a 32)
def popc (a : Word) : Word := w32 (oneBits a 32)

/-- The low `n` bits of a word, extended with their sign, or with zeros (R68). -/
def sext (n : Nat) (a : Word) : Word := (a.truncate n).signExtend 32
def zext (n : Nat) (a : Word) : Word := (a.truncate n).zeroExtend 32

/-- A 16-bit parcel as a signed word. -/
def sext16 (p : Nat) : Word := sext 16 (w32 p)

/-- A Bool as a word (R67). -/
def boolWord (b : Bool) : Word := if b then 1 else 0

/-- The conditions of R81 on two words at the width of an instruction in bits: 0 EQ, 1 NE, 2 LT, 3 GE, 4 LTU, 5 GEU; and
in memory form 6: a ∧ b = 0, 7: a ∧ b ≠ 0 (R100, R101). -/
def condition (c width : Nat) (a b : Word) : Bool :=
  let x := zext width a
  let y := zext width b
  match c with
  | 0 => decide (x = y)
  | 1 => decide (x ≠ y)
  | 2 => (sext width a).slt (sext width b)
  | 3 => !(sext width a).slt (sext width b)
  | 4 => x.ult y
  | 5 => !x.ult y
  | 6 => decide (x &&& y = 0)
  | _ => decide (x &&& y ≠ 0)

end Sys2Proof.Machine
end

