-- ==== Sys2Proof/Machine/Operands.lean ====
section
/-! DEFINITION. The operands of scan-core instructions: core registers (R61, R62), accesses of a core to D-space and I/O
space (R73 to R79), and memory-form operand specifiers (R97 to R100). -/

namespace Sys2Proof.Machine

/-- How an operand access ends: with a value, with a trap of some cause, or not yet. -/
inductive Got (α : Type) where
  | ok (a : α) (s : State)
  | trap (cause : Nat) (s : State)
  | stall (s : State)

/-! ### Core registers -/

/-- The number of the running task, 0 where none runs (R61). -/
def Core.taskNo (c : Core) : Nat := match c.ctx with | .task t => t | _ => 0

/-- CORE_STAT (R62). -/
def Core.stat (c : Core) : Nat :=
  c.dz.toNat + c.di.isSome.toNat * 2 + c.dix.toNat * 4 + c.hot.ds.length * 2 ^ 8 + c.hot.rs.length * 2 ^ 16 +
    c.hot.ts.length * 2 ^ 24 + c.form.toNat * 2 ^ 31

/-- The core register of a number, where R61 lists it. -/
def Core.reg (c : Core) (n : Nat) : Option Nat :=
  match n with
  | 0x00 => some c.stat
  | 0x01 => some c.hot.dsp
  | 0x02 => some c.hot.dspBase
  | 0x03 => some c.hot.dspLimit
  | 0x08 | 0x09 | 0x0A | 0x0B => some (c.hot.dwin.getD (n - 0x08) 0)
  | 0x0C | 0x0D | 0x0E | 0x0F => some (c.hot.iob.getD (n - 0x0C) 0)
  | 0x10 => some c.taskNo
  | _ => none

/-- A core register written (R61, R62, R98): the W1C bits of CORE_STAT, DSP in 19 bits, DWIN in 8, IOB without its low
two; TASK keeps its value. -/
def Core.setReg (c : Core) (n v : Nat) : Core :=
  match n with
  | 0x00 => { c with dz := c.dz && !v.testBit 0, dix := c.dix && !v.testBit 2 }
  | 0x01 => { c with hot := { c.hot with dsp := v % 2 ^ 19 } }
  | 0x02 => { c with hot := { c.hot with dspBase := v % 2 ^ 32 } }
  | 0x03 => { c with hot := { c.hot with dspLimit := v % 2 ^ 32 } }
  | 0x08 | 0x09 | 0x0A | 0x0B => { c with hot := { c.hot with dwin := c.hot.dwin.set (n - 0x08) (v % 2 ^ 8) } }
  | 0x0C | 0x0D | 0x0E | 0x0F => { c with hot := { c.hot with iob := c.hot.iob.set (n - 0x0C) (v / 4 % 2 ^ 30 * 4) } }
  | _ => c

/-! ### D-space -/

/-- A load of `n` bytes (R73, R77). -/
def State.coreLoad (s : State) (d k a n : Nat) : Got Nat :=
  if s.dBehind d k a then .stall s
  else
    match s.dRead (.core d k) a n with
    | .ok bs t => .ok (leNat bs) t
    | .refused t => .trap 0x01 t
    | .ecc t => .trap 0x60 t

/-- An indivisible read-modify-write of `n` bytes: the old value (R66, R75). -/
def State.coreRmw (s : State) (d k a n : Nat) (f : Nat → Nat) : Got Nat :=
  if s.dBehind d k a then .stall s
  else
    match s.dRmw (.core d k) a n f with
    | .ok v t => .ok v t
    | .refused t => .trap 0x01 t
    | .ecc t => .trap 0x60 t

/-- How a posted write ends for its instruction: `cause` where it is refused. -/
def Post.got (p : Post) (s : State) (cause : Nat) : Got Unit :=
  match p with
  | .done t => .ok () t
  | .refused t => .trap cause t
  | .stall => .stall s

/-- A posted store of the `n` low bytes of a value (R73, R76). -/
def State.coreStore (s : State) (d k a n v : Nat) : Got Unit := (s.postBytes (.core d k) a (leBytes n v)).got s 0x01

/-- A posted store of one bit (R66). -/
def State.coreBit (s : State) (d k a i : Nat) (v : Bool) : Got Unit :=
  (s.postBits (.core d k) a (2 ^ i) (v.toNat * 2 ^ i)).got s 0x01

/-- A half or word address that is not aligned (R74). -/
def misaligned (a n : Nat) : Bool := decide (a % n ≠ 0)

/-! ### I/O space -/

/-- An IN of the word at an aligned address (R77, R79). -/
def State.coreIn (s : State) (d k a : Nat) : Got Nat :=
  if (s.ioCheck (.core d k) a false).isNone && s.islandDown a then .trap 0x61 s
  else
    match s.ioRead (.core d k) a with
    | .word w t => .ok w t
    | .refused t => .trap 0x02 t
    | .failed t => .trap 0x60 t
    | .wait t => .stall t

/-- The address is IRQ_DONE in a core's own set (R347). -/
def State.ownDone (s : State) (d k a : Nat) : Bool :=
  match s.ioTarget a with
  | .ok (.reg b o) => decide (b = .irqDie d ∧ o = 0x204 + 0x20 * k)
  | _ => false

/-- A write of a core to its IRQ_DONE: its running level ends once its earlier posted writes have taken effect, or the
priority-stack fault 0xB0 or 0xB1 (R347). -/
def State.irqDone (s : State) (d k w : Nat) : Got Unit :=
  let c := s.core d k
  match c.prio with
  | [] => .trap 0xB1 s
  | l :: ls =>
    if w % 16 ≠ l then .trap 0xB0 s
    else if s.heldOf (.core d k) ≠ [] then .stall s
    else .ok () (s.setCore d k { c with prio := ls })

/-- An OUT of a word to an aligned address (R76, R79, R347). -/
def State.coreOut (s : State) (d k a w : Nat) : Got Unit :=
  if s.ownDone d k a && (s.ioCheck (.core d k) a true).isNone then s.irqDone d k w
  else (s.ioWrite (.core d k) a w).got s 0x02

/-! ### Memory-form specifiers -/

/-- The extension parcels that a specifier's first parcel calls for (R97). -/
def extParcels (mode space n : Nat) : Nat :=
  match mode with
  | 0 => if n = 1 then 1 else if n = 2 then 2 else 0
  | 1 => if space = 2 then 0 else 2
  | 2 | 3 | 7 => 1
  | _ => 0

/-- The parcels of a specifier. -/
def Opd.len (o : Opd) : Nat := 1 + extParcels o.mode o.space o.n

/-- Extension parcel `i`. -/
def Opd.e (o : Opd) (i : Nat) : Nat := o.ext.getD i 0 % 2 ^ 16

/-- The 32-bit value of two extension parcels. -/
def Opd.e32 (o : Opd) : Nat := o.e 0 + o.e 1 * 2 ^ 16

/-- A listed core-register number (R61). -/
def listedReg (n : Nat) : Bool := decide (n ∈ [0, 1, 2, 3, 8, 9, 10, 11, 12, 13, 14, 15, 16])

/-- The cause with which a specifier is reserved, if it is (R97, R98): at element size `sz` in bytes, where the
instruction writes or not, and takes core registers or not. -/
def Opd.reserved (o : Opd) (sz : Nat) (write creg : Bool) : Option Nat :=
  if o.space = 3 then some 0x14
  else if o.mode = 0 then (if o.space ≠ 0 ∨ 2 < o.n ∨ write then some 0x14 else none)
  else if o.mode = 3 ∧ (o.x ≠ 0 ∨ bits (o.e 0) 8 3 ≠ 0) then some 0x14
  else if o.space = 0 then none
  else if o.mode = 7 ∨ sz ≠ 4 then some 0x14
  else if o.space = 1 then (if o.x ≠ 0 then some 0x14 else none)
  else if o.mode ≠ 1 ∨ o.n ≠ 0 then some 0x14
  else if !listedReg o.x then some 0x13
  else if creg then none else some 0x14

/-- Where an operand lies: a value in the instruction, D-space, I/O space, a core register, or a bit of a byte; or nowhere
that is known, since its base word holds an uncorrectable error. -/
inductive Loc where
  | imm (v : Nat)
  | mem (a : Nat)
  | io (a : Nat)
  | reg (n : Nat)
  | bit (a i : Nat)
  | bad
  deriving DecidableEq, Repr

/-- The base words that earlier specifiers have changed, latest first. -/
abbrev BaseWords := List (Nat × Nat)

/-- A word of core-local RAM as base words and block operands are read, unchecked, and behind the core's own stores to that
RAM (R23, R95). -/
def State.localWord (s : State) (d k a : Nat) : Got Nat :=
  if s.ramBehind d k then .stall s
  else
  match s.readBytes (.lram d k) a 4 with
  | (some bs, t) => .ok (leNat bs) t
  | (none, t) => .trap 0x60 t

/-- The value of base word `n`: as an earlier specifier changed it, or from core-local RAM (R95, R99). -/
def State.baseWord (s : State) (d k : Nat) (u : BaseWords) (n : Nat) : Got Nat :=
  match u.lookup n with
  | some v => .ok v s
  | none => s.localWord d k (4 * n)

/-- An address in the space of a specifier, from the high byte and the low word. -/
def Opd.at (o : Opd) (hi low : Nat) : Loc := if o.space = 1 then .io (low % 2 ^ 32) else .mem (hi * 2 ^ 32 + low % 2 ^ 32)

/-- A specifier without base words: immediate or direct (R97). -/
def Opd.fixed (o : Opd) : Loc :=
  if o.mode = 0 then
    .imm (if o.n = 0 then (sext 8 (w32 o.x)).toNat else if o.n = 1 then (sext16 (o.e 0)).toNat else o.e32)
  else if o.space = 2 then .reg o.x
  else o.at o.x o.e32

/-- A specifier over the value of its base word, and the base word changed (R97). -/
def Opd.based (o : Opd) (sz b : Nat) : Loc × BaseWords :=
  match o.mode with
  | 2 => (o.at o.x (b + (sext16 (o.e 0)).toNat), [])
  | 5 => (o.at o.x b, [(o.n, (b + sz) % 2 ^ 32)])
  | 6 => (o.at o.x (b + 2 ^ 32 - sz), [(o.n, (b + 2 ^ 32 - sz) % 2 ^ 32)])
  | 7 => (.bit (o.x * 2 ^ 32 + (b + o.e 0 / 8) % 2 ^ 32) (o.e 0 % 8), [])
  | _ => (o.at o.x b, [])

/-- A specifier resolved at element size `sz`, with base words changed before (R97, R99); one whose base word is unreadable
meets the bus error when its turn among the causes comes (R115). -/
def State.resolve (s : State) (d k sz : Nat) (u : BaseWords) (o : Opd) : Got (Loc × BaseWords) :=
  if o.mode < 2 then .ok (o.fixed, u) s
  else
    match s.baseWord d k u o.n with
    | .trap _ t => .ok (.bad, u) t
    | .stall t => .stall t
    | .ok b t =>
      if o.mode = 3 then
        match t.baseWord d k u (bits (o.e 0) 13 3) with
        | .trap _ t => .ok (.bad, u) t
        | .stall t => .stall t
        | .ok m t => .ok (o.at (bits (o.e 0) 0 8) (b + m * 2 ^ bits (o.e 0) 11 2), u) t
      else
        match o.based sz b with
        | (l, v) => .ok (l, v ++ u) t

/-- The cause of a misaligned operand of `n` bytes (R10, R100). -/
def Loc.misalign (l : Loc) (n : Nat) : Option Nat :=
  match l with
  | .mem a => if misaligned a n then some 0x40 else none
  | .io a => if misaligned a 4 then some 0x41 else none
  | _ => none

/-- The code with which a destination refuses an access to a word that waits for nothing, whatever is written (R48). -/
def State.destRefuses (s : State) (r : Req) (a : Nat) (write : Bool) : Option Nat :=
  if s.heldOf r ≠ [] then none
  else if write then
    match s.ioNow r a 0 with
    | .refused c => some c
    | _ => none
  else
    match s.ioTarget a with
    | .ok (.reg b o) =>
      match s.regRead b o with
      | .refused c => some c
      | _ => none
    | _ => none

/-- An operand access of `n` bytes is refused: the cause, and the state with the capture (R48, R115). -/
def State.locRefused (s : State) (d k n : Nat) (write : Bool) (l : Loc) : Option (Nat × State) :=
  let r := Req.core d k
  match l with
  | .mem a => (s.dCheck r a n write).map fun c => (0x01, s.refuse r 1 a (a + n - 1) write c)
  | .bit a _ => (s.dCheck r a 1 write).map fun c => (0x01, s.refuse r 1 a a write c)
  | .io a => ((s.ioCheck r a write).or (s.destRefuses r a write)).map fun c => (0x02, s.refuse r 2 a (a + 3) write c)
  | _ => none

/-- An operand of `n` bytes is read (R100). -/
def State.readLoc (s : State) (d k n : Nat) (l : Loc) : Got Nat :=
  match l with
  | .imm v => .ok (v % 2 ^ (8 * n)) s
  | .mem a => s.coreLoad d k a n
  | .io a => s.coreIn d k a
  | .reg r => .ok (((s.core d k).reg r).getD 0) s
  | .bad => .trap 0x60 s
  | .bit a i =>
    match s.coreLoad d k a 1 with
    | .ok v t => .ok (v / 2 ^ i % 2) t
    | .trap c t => .trap c t
    | .stall t => .stall t

/-- An operand of `n` bytes is written (R98, R100, R102). -/
def State.writeLoc (s : State) (d k n v : Nat) (l : Loc) : Got Unit :=
  match l with
  | .imm _ => .ok () s
  | .bad => .trap 0x60 s
  | .mem a => s.coreStore d k a n v
  | .io a => s.coreOut d k a v
  | .reg r => .ok () (s.setCore d k ((s.core d k).setReg r v))
  | .bit a i => s.coreBit d k a i (v.testBit 0)

/-- An operand that R102 charges a cycle for. -/
def Loc.cost (l : Loc) : Nat :=
  match l with
  | .mem _ | .io _ | .bit _ _ => 1
  | _ => 0

end Sys2Proof.Machine
end

