-- ==== Sys2Proof/Machine/Run.lean ====
section
/-! DEFINITION. How a scan core executes an instruction: fetching, delay slots, the stacks and their exhaustion, traps,
and going on (R53 to R58, R63, R77, R80 to R87, R93, R96 to R103, R115, R121). -/

namespace Sys2Proof.Machine

/-! ### The length of a delay slot (R83, R87) -/

/-- The parcels of a stack-form instruction by its opcode parcel; a reserved encoding counts as one (R65, R71, R72, R78,
R80, R82, R87). -/
def stackLen (w : Nat) : Nat :=
  match w / 2 ^ 12 % 16 with
  | 0x0 => if w.testBit 7 ∧ 1 ≤ bits w 8 4 ∧ bits w 8 4 ≤ 0xC then 2 else 1
  | 0x2 => if w.testBit 7 ∧ bits w 0 5 = 0 ∧ (bits w 8 4 ≤ 5 ∨ (8 ≤ bits w 8 4 ∧ bits w 8 4 ≤ 0xD)) then 2 else 1
  | 0x3 => if bits w 0 6 = 0 ∧ (bits w 8 4 = 2 ∨ bits w 8 4 = 3) then 2 else 1
  | 0x4 => if w.testBit 8 ∨ bits w 0 8 ≠ 0 then 1 else 2
  | 0x5 => if bits w 0 8 ≠ 0 then 1 else if bits w 8 4 = 0 ∨ bits w 8 4 = 3 then 2 else if bits w 8 4 = 1 ∨ bits w 8 4 = 4 then 3 else 1
  | 0x7 => if w = 0x7800 ∨ w = 0x7801 ∨ w = 0x7803 then 2 else if w = 0x7802 then 3 else 1
  | _ => 1

/-- What an operand of a block instruction is: a pointer, a word of core-local RAM, or a value (R105). -/
inductive BlockOpd where
  | ptr | word | value
  deriving DecidableEq, Repr

/-- What an operand of a memory-form instruction is: whether it is written, whether it may be a core register, and what it
is in a block instruction (R98, R101, R105). -/
structure Role where
  write : Bool
  creg : Bool
  kind : BlockOpd := .value
  deriving DecidableEq, Repr

/-- A specifier breaks, as it stands, the requirements of R105: cause 0x15. -/
def Role.breaks (r : Role) (o : Opd) : Option Nat :=
  match r.kind with
  | .ptr => if o.mode = 5 ∨ o.mode = 6 then none else some 0x15
  | .word => if o.space = 0 ∧ (o.mode = 1 ∨ o.mode = 2) then none else some 0x15
  | .value => none

/-- The cause with which a specifier is reserved in its position, if it is (R98, R105). -/
def Role.reserved (r : Role) (sz : Nat) (o : Opd) : Option Nat := (o.reserved sz r.write r.creg).or (r.breaks o)

/-- A read operand and a written operand that may be core registers, and one of each that may not. -/
abbrev rd : Role := { write := false, creg := true }
abbrev wr : Role := { write := true, creg := true }
abbrev rdX : Role := { write := false, creg := false }
abbrev wrX : Role := { write := true, creg := false }

/-- A pointer that is read, one that is written, and a word that is read and written in place; a core register in such a
position breaks R105 (cause 0x15). -/
abbrev rdP : Role := { write := false, creg := true, kind := .ptr }
abbrev wrP : Role := { write := true, creg := true, kind := .ptr }
abbrev wdP : Role := { write := true, creg := true, kind := .word }

/-- The rows of R101: the SZ codes allowed and the operands of an OP. -/
def memRow (op : Nat) : Option (List Nat × List Role) :=
  if op = 0x01 then some ([0, 1, 2], [rd, wr])
  else if 0x02 ≤ op ∧ op ≤ 0x07 then some ([0, 1, 2], [rd, rd, wr])
  else if 0x08 ≤ op ∧ op ≤ 0x0D then some ([2], [rd, rd, wr])
  else if 0x10 ≤ op ∧ op ≤ 0x17 then some ([0, 1, 2], [rd, rd, rd])
  else if op = 0x18 then some ([2], [rd, wr])
  else if op = 0x20 then some ([1, 2], [rdX, wrX])
  else if op = 0x21 then some ([1, 2], [rdX, rdX])
  else if op = 0x30 then some ([0, 1, 2], [rdP, wrP, wdP])
  else if op = 0x31 then some ([0, 1, 2], [rdX, wrP, wdP])
  else if op = 0x32 then some ([0, 1, 2], [rdP, wdP, wdP])
  else if op = 0x33 then some ([0, 1, 2], [rdP, rdP, wdP])
  else if op = 0xF0 ∨ op = 0xF1 then some ([2], [rdX])
  else if 0xF2 ≤ op ∧ op ≤ 0xF7 then some ([0], [])
  else none

/-- A specifier as its parcels spell it; missing parcels read zero. -/
def parseOpd (p : Nat → Option Nat) (a : Nat) : Option Opd :=
  (p a).map fun w =>
    let m := bits w 13 3
    let sp := bits w 11 2
    let n := bits w 8 3
    { mode := m, space := sp, n := n, x := bits w 0 8, ext := (List.range (extParcels m sp n)).map fun i => (p (a + 1 + i)).getD 0 }

/-- The parcels up to the first, of `n` from offset `o`, that cannot be fetched; the whole where all can. -/
def fetchedLen (p : Nat → Option Nat) (a o n : Nat) : Option Nat :=
  ((List.range n).find? fun i => (p (a + o + i)).isNone).map fun i => o + i + 1

/-- The end of a memory-form instruction's specifiers from offset `o` (R87). -/
def specsLen (p : Nat → Option Nat) (a sz : Nat) : List Role → Nat → Nat
  | [], o => o
  | r :: rs, o =>
    match parseOpd p (a + o) with
    | none => o + 1
    | some x =>
      if (r.reserved sz x).isSome then o + 1
      else
        match fetchedLen p a o x.len with
        | some l => l
        | none => specsLen p a sz rs (o + x.len)

/-- The parcels of the instruction at an address as they decode in a form (R87). -/
def codeLen (p : Nat → Option Nat) (form : Bool) (a : Nat) : Nat :=
  match p a with
  | none => 1
  | some w =>
    if form then (fetchedLen p a 0 (stackLen w)).getD (stackLen w)
    else
      match memRow (w / 2 ^ 8) with
      | some (szs, rs) => if bits w 0 6 = 0 ∧ bits w 6 2 ∈ szs then specsLen p a (2 ^ bits w 6 2) rs 1 else 1
      | none => 1

/-- The parcel address that follows a delay slot at an address (R83, R87). -/
def State.slotEnd (s : State) (d k a : Nat) : Nat := (a + codeLen (s.peekParcel d k) (s.core d k).form a) % 2 ^ 32

/-- A branch of `len` parcels has resolved: to a target, or to the address after its delay slot (R80, R84). -/
def State.setBranch (s : State) (d k len : Nat) (taken : Bool) (tgt : Nat) : State :=
  let c := s.core d k
  s.setCore d k { c with br := some { tgt := if taken then tgt % 2 ^ 32 else s.slotEnd d k (c.pc + len) } }

/-! ### Going on -/

/-- The cycles that going on at an address adds: 6 into shared code SRAM by a transfer or by running into it (R63). -/
def enterCost (pc next : Nat) (jump : Bool) : Nat := if 0x80000 ≤ next ∧ (jump ∨ pc < 0x80000) then 6 else 0

/-- The core goes on at an address, with no instruction in progress (R63, R91). -/
def Core.goTo (c : Core) (next : Nat) (jump : Bool) : Core :=
  { c with pc := next % 2 ^ 32, cyc := c.cyc + enterCost c.pc (next % 2 ^ 32) jump, busy := false }

/-- A form-return is completed: the next return-stack entry is the resume address in memory form (R121). The spec states
no address where a delay slot has emptied the return stack. -/
def State.formReturn (s : State) (d k : Nat) : State :=
  let c := s.core d k
  match c.hot.ts with
  | a :: ts => s.setCore d k { (c.goTo a.toNat true) with form := false, hot := { c.hot with ts := ts } }
  | [] =>
    let (a, t) := s.freeWord
    t.setCore d k { (c.goTo a.toNat true) with form := false }

/-- No branch is pending. -/
def Core.clearBr (c : Core) : Core := { c with br := none }

/-- An instruction of `len` parcels is complete: control goes to the next parcel, or, after a delay slot, to the target of
its branch (R84). Going on at the parcel after the slot counts as straight-line code. -/
def State.advance (s : State) (d k len : Nat) (slot : Option Br) : State :=
  let c := s.core d k
  match slot with
  | none => s.setCore d k (c.goTo (c.pc + len) false)
  | some b =>
    if b.toMem then (s.setCore d k c.clearBr).formReturn d k
    else s.setCore d k (c.goTo b.tgt (b.tgt ≠ c.pc + len)).clearBr

/-- Cycles are counted (R63). -/
def State.spend (s : State) (d k n : Nat) : State := s.setCore d k { s.core d k with cyc := (s.core d k).cyc + n }

/-! ### Stack form -/

/-- What an instruction takes from the data, rung and return stacks and puts onto them. -/
structure Use where
  dn : Nat := 0
  dp : Nat := 0
  rn : Nat := 0
  rp : Nat := 0
  tn : Nat := 0
  tp : Nat := 0
  deriving DecidableEq, Repr

/-- Entries to be filled from the spill area, and to be spilled to it (R57). -/
def Use.fills (u : Use) (h : Hot) : Nat := u.dn - h.ds.length
def Use.spills (u : Use) (h : Hot) : Nat := h.ds.length + u.fills h - u.dn + u.dp - 32

/-- The cause of exhaustion of the data stack, the rung stack or the return stack (R57, R58). Their order, and underflow
before overflow, is the model's choice where two are exhausted at once (DESIGN CHOICE beside R93, log entry 151). -/
def Use.exhausted (u : Use) (h : Hot) : Option Nat :=
  if h.dspBase < h.dsp + 4 * u.fills h ∧ u.fills h ≠ 0 then some 0x31
  else if u.spills h ≠ 0 ∧ h.dsp < h.dspLimit + 4 * u.spills h then some 0x30
  else if h.rs.length < u.rn then some 0x33
  else if u.rn < u.rp ∧ 64 < h.rs.length - u.rn + u.rp then some 0x32
  else if h.ts.length < u.tn then some 0x35
  else if u.tn < u.tp ∧ 32 < h.ts.length - u.tn + u.tp then some 0x34
  else none

/-- A spill or fill meets a DSP that is not a multiple of 4 (R57). -/
def Use.unaligned (u : Use) (h : Hot) : Bool := decide (h.dsp % 4 ≠ 0 ∧ (u.fills h ≠ 0 ∨ u.spills h ≠ 0))

/-- `n` words of the spill area from an address upward, behind the core's own stores to its RAM (R23, R57). -/
def State.fillWords (s : State) (d k a : Nat) : Nat → Got (List Word)
  | 0 => .ok [] s
  | n + 1 =>
    if s.ramBehind d k then .stall s
    else
    match s.dRead (.core d k) a 4 with
    | .refused t => .trap 0x01 t
    | .ecc t => .trap 0x60 t
    | .ok bs t =>
      match t.fillWords d k (a + 4) n with
      | .ok ws u => .ok (w32 (leNat bs) :: ws) u
      | x => x

/-- A word of the spill area below `a`, of `n`, that may not be written (R57). -/
def State.spillRefused (s : State) (d k a : Nat) : Nat → Option State
  | 0 => none
  | n + 1 =>
    match s.dCheck (.core d k) (a - 4) 4 true with
    | some c => some (s.refuse (.core d k) 1 (a - 4) (a - 1) true c)
    | none => s.spillRefused d k (a - 4) n

/-- Words are spilled downward from `a`, the bottom entry first (R57). -/
def State.spillWords (s : State) (d k a : Nat) : List Word → State
  | [] => s
  | w :: ws =>
    (s.ramPut d k (a - 4) (leBytes 4 w.toNat)).spillWords d k (a - 4) ws

/-- What an instruction has taken: the data words, rungs and return-stack entries, each top first. -/
structure Ins where
  d : List Word
  r : List Bool
  t : List Word

/-- Data word `i` from the top, rung `i` from the top, return-stack entry 0. -/
def Ins.a (x : Ins) (i : Nat) : Word := x.d.getD i 0
def Ins.rung (x : Ins) (i : Nat) : Bool := x.r.getD i false
def Ins.ret (x : Ins) : Word := x.t.getD 0 0

/-- How the body of a stack-form instruction ends: with what it puts onto the stacks, each top first; with a trap; or not
yet. -/
inductive Body where
  | done (d : List Word) (r : List Bool) (t : List Word) (s : State)
  | trap (cause : Nat) (s : State)
  | stall (s : State)

/-- A body of an operand access and what follows its value. -/
def Got.body {α : Type} (g : Got α) (f : α → State → Body) : Body :=
  match g with
  | .ok a s => f a s
  | .trap c s => .trap c s
  | .stall s => .stall s

/-- The core with filled words at the bottom of its hardware stack. -/
def Core.filled (c : Core) (ws : List Word) : Core :=
  { c with hot := { c.hot with ds := c.hot.ds ++ ws, dsp := c.hot.dsp + 4 * ws.length } }

/-- Filled words go to the bottom of a core's hardware stack (R57). -/
def State.putFilled (s : State) (d k : Nat) (ws : List Word) : State :=
  if ws = [] then s else s.setCore d k ((s.core d k).filled ws)

/-- The stacks of a core after an instruction that used `u` and puts results onto them. -/
def Core.restack (c : Core) (u : Use) (d : List Word) (r : List Bool) (t : List Word) : Core :=
  let ds := d ++ c.hot.ds.drop u.dn
  { c with hot := { c.hot with
    ds := ds.take 32
    rs := r ++ c.hot.rs.drop u.rn
    ts := t ++ c.hot.ts.drop u.tn
    dsp := c.hot.dsp - 4 * (ds.drop 32).length } }

/-- The results of an instruction go onto the stacks, the bottom entries beyond 32 to the spill area (R57). -/
def State.results (s : State) (d k : Nat) (u : Use) (ds : List Word) (rs : List Bool) (ts : List Word) : State :=
  let c := s.core d k
  let out := ((ds ++ c.hot.ds.drop u.dn).drop 32).reverse
  (s.spillWords d k c.hot.dsp out).setCore d k (c.restack u ds rs ts)

/-- The stacks stand as they did before an instruction that traps or stalls (R93). -/
def State.unstack (s : State) (d k : Nat) (h : Hot) : State :=
  if (s.core d k).hot = h then s else s.setCore d k { s.core d k with hot := h }

/-- The words that the spill area holds, as far as they are known before they are checked (R57, R93). -/
def State.peekFills (s : State) (d k a n : Nat) : List Word := (List.range n).map fun i => w32 (s.load (.lram d k) (a + 4 * i) 4)

/-- The rank of a cause in the order of R93. -/
def causeRank (c : Nat) : Nat :=
  if 0x40 ≤ c ∧ c < 0x44 then 5 else if 1 ≤ c ∧ c ≤ 3 then 6 else if 0xB0 ≤ c then 7 else if 0x60 ≤ c ∧ c < 0x63 then 8 else 4

/-- A fill or spill fails with cause `c`: the instruction takes that trap, unless its own accesses meet a cause that comes
before it (R93). Where the two are of one kind the fill or spill is taken (DESIGN CHOICE, log entry 152). -/
def State.stackFails (s : State) (d k opc len c : Nat) (h : Hot) (body : Body) : State :=
  match body with
  | .trap c' t => if causeRank c' < causeRank c then (t.unstack d k h).trap d k opc len c' else (s.unstack d k h).trap d k opc len c
  | _ => (s.unstack d k h).trap d k opc len c

/-- The instruction's operands are taken, its body carried out, and its results put back (R53, R57, R93); it stalls where
its writes do not fit into the core's queue (R76). -/
def State.stackBody (s : State) (d k opc len : Nat) (u : Use) (cost : Nat) (slot : Option Br) (body : Ins → State → Body)
    (after : State → State) : State :=
  let h := (s.core d k).hot
  match s.fillWords d k h.dsp (u.fills h) with
  | .trap c t => t.stackFails d k opc len c h
      (body { d := (h.ds ++ s.peekFills d k h.dsp (u.fills h)).take u.dn, r := h.rs.take u.rn, t := h.ts.take u.tn } s)
  | .stall t => t.stalled d k
  | .ok ws t =>
    let t := t.putFilled d k ws
    let h' := (t.core d k).hot
    match t.spillRefused d k h'.dsp (u.spills h) with
    | some x => x.stackFails d k opc len 0x01 h (body { d := h'.ds.take u.dn, r := h'.rs.take u.rn, t := h'.ts.take u.tn } t)
    | none =>
      match body { d := h'.ds.take u.dn, r := h'.rs.take u.rn, t := h'.ts.take u.tn } t with
      | .trap c t => (t.unstack d k h).trap d k opc len c
      | .stall t => (t.unstack d k h).stalled d k
      | .done ds rs ts t =>
        let t := (t.results d k u ds rs ts).spend d k (cost + 2 * (u.fills h + u.spills h))
        if t.overfull d k then s.stalled d k
        else
        (after (t.advance d k len slot)).boundary d k

/-- A stack-form instruction of `len` parcels with opcode parcel `opc` is executed (R53, R77, R84, R85, R93): nothing
where the core executes no stack-form instruction now. `cost` counts its cycles, and `inSlot` is false where it may not
stand in a delay slot. -/
def State.runS (s : State) (d k opc len : Nat) (u : Use) (cost : Nat) (body : Ins → State → Body) (inSlot : Bool := true)
    (after : State → State := id) : State :=
  if s.coreRuns d k && (s.core d k).form then
    match s.fetch d k (s.core d k).pc 1 with
    | .error (c, t) => t.trap d k 0 1 c
    | .ok t =>
      let c := t.core d k
      if !inSlot && c.br.isSome then t.trap d k opc len 0x20
      else
        match u.exhausted c.hot with
        | some x => t.trap d k opc len x
        | none =>
          if u.unaligned c.hot then t.trap d k opc len 0x42
          else
            match t.fetch d k (c.pc + 1) (len - 1) with
            | .error (x, t) => t.trap d k 0 len x
            | .ok t => t.stackBody d k opc len u cost c.br body after
  else s

/-- A stack-form instruction that only computes. -/
def State.pureS (s : State) (d k opc len : Nat) (u : Use) (cost : Nat) (f : Ins → List Word × List Bool × List Word) : State :=
  s.runS d k opc len u cost fun x t => let r := f x; .done r.1 r.2.1 r.2.2 t

/-! ### Memory form -/

/-- An operand of a memory-form instruction: its specifier, what it is, and its width in bytes (R98, R100). -/
structure Arg where
  o : Opd
  role : Role
  n : Nat

/-- The opcode parcel of an OP and an element size code (R96). -/
def memOpc (op sz : Nat) : Nat := op * 2 ^ 8 + sz % 4 * 2 ^ 6

/-- The parcels of an instruction with some operands. -/
def argsLen (l : List Arg) : Nat := 1 + (l.map fun a => a.o.len).sum

/-- The first reserved specifier: its number from 1, and the cause; `bad` gives the cause of a specifier that only this
instruction reserves (R98, R105, R115). -/
def reservedArg (sz : Nat) (bad : Nat → Arg → Option Nat) : Nat → List Arg → Option (Nat × Nat)
  | _, [] => none
  | i, a :: l =>
    match (a.role.reserved sz a.o).or (bad i a) with
    | some c => some (i, c)
    | none => reservedArg sz bad (i + 1) l

/-- The operands resolved in order: their places, and the base words changed (R99); none where a base word cannot be read
yet. -/
def State.resolveArgs (s : State) (d k sz : Nat) (u : BaseWords) : List Arg → Option (List Loc × BaseWords × State)
  | [] => some ([], u, s)
  | a :: l =>
    match s.resolve d k sz u a.o with
    | .trap _ _ | .stall _ => none
    | .ok (x, u') t =>
      match t.resolveArgs d k sz u' l with
      | some (xs, u'', t) => some (x :: xs, u'', t)
      | none => none

/-- The first operand that is misaligned: its number and the cause (R100, R115). -/
def misalignedArg : Nat → List (Arg × Loc) → Option (Nat × Nat)
  | _, [] => none
  | i, (a, x) :: l =>
    match x.misalign a.n with
    | some c => some (i, c)
    | none => misalignedArg (i + 1) l

/-- The first operand whose access is refused: its number, the cause and the state with the capture (R115). -/
def State.refusedArg (s : State) (d k : Nat) : Nat → List (Arg × Loc) → Option (Nat × Nat × State)
  | _, [] => none
  | i, (a, x) :: l =>
    match s.locRefused d k a.n a.role.write x with
    | some (c, t) => some (i, c, t)
    | none => s.refusedArg d k (i + 1) l

/-- How the reads or writes of an instruction's operands end. -/
inductive Ran (α : Type) where
  | ok (a : α) (s : State)
  | trap (cause opidx : Nat) (s : State)
  | stall (s : State)

/-- The operands that are read, in order; an operand to be written whose place is not known ends them (R115). -/
def State.readArgs (s : State) (d k : Nat) : Nat → List (Arg × Loc) → Ran (List Nat)
  | _, [] => .ok [] s
  | i, (a, x) :: l =>
    if a.role.write then (if x = .bad then .trap 0x60 i s else s.readArgs d k (i + 1) l)
    else
      match s.readLoc d k a.n x with
      | .trap c t => .trap c i t
      | .stall t => .stall t
      | .ok v t =>
        match t.readArgs d k (i + 1) l with
        | .ok vs t => .ok (v :: vs) t
        | r => r

/-- How the first read that cannot be made ends, if one cannot: it waits, or it traps. Each is tried by itself, so that an
answer that has come is not taken before all have (R37), and that a read before one that traps has no effect (R93). -/
def State.stopArgs (s : State) (d k : Nat) : Nat → List (Arg × Loc) → Option (Ran Unit)
  | _, [] => none
  | i, (a, x) :: l =>
    if a.role.write then (if x = .bad then some (.trap 0x60 i s) else s.stopArgs d k (i + 1) l)
    else match s.readLoc d k a.n x with
      | .stall t => some (.stall t)
      | .trap c t => some (.trap c i t)
      | _ => s.stopArgs d k (i + 1) l

/-- The operands that are written, in order, with the values given. -/
def State.writeArgs (s : State) (d k : Nat) : Nat → List (Arg × Loc) → List Nat → Ran Unit
  | _, [], _ => .ok () s
  | _, _, [] => .ok () s
  | i, (a, x) :: l, v :: vs =>
    if a.role.write then
      match s.writeLoc d k a.n v x with
      | .trap c t => .trap c i t
      | .stall t => .stall t
      | .ok _ t => t.writeArgs d k (i + 1) l vs
    else s.writeArgs d k (i + 1) l (v :: vs)

/-- Base words are written, the latest value of each (R99). -/
def State.putBase (s : State) (d k : Nat) (u : BaseWords) : State :=
  s.each u.reverse fun t e => t.ramPut d k (4 * e.1) (leBytes 4 e.2)

/-- How the body of a memory-form instruction ends: with the values of its written operands, with a trap of a
specifier, or not yet. -/
inductive MBody where
  | done (vals : List Nat) (s : State)
  | trap (cause opidx : Nat) (s : State)
  | stall (s : State)

/-- The operands are read, the body carried out, and the results written (R99, R102, R115). An instruction that stalls on the
full queue has read nothing yet, and reads its operands when it goes on (R76, R102). -/
def State.memBody (s : State) (d k opc len : Nat) (l : List (Arg × Loc)) (u : BaseWords) (cost : Nat) (slot : Option Br)
    (body : List Nat → State → MBody) (after : List Nat → State → State) : State :=
  match s.stopArgs d k 1 l with
  | some (.trap c i t) => t.trap d k opc len c i
  | some (.stall t) => t.stalled d k
  | some (.ok _ _) => s
  | none =>
    match s.readArgs d k 1 l with
    | .trap c i t => t.trap d k opc len c i
    | .stall t => t.stalled d k
    | .ok vs t =>
      match body vs t with
      | .trap c i t => t.trap d k opc len c i
      | .stall _ => s.stalled d k
      | .done ws t =>
        match t.writeArgs d k 1 l ws with
        | .trap c i t => (t.setCore d k (s.core d k)).trap d k opc len c i
        | .stall _ => s.stalled d k
        | .ok _ t =>
          let t := (t.putBase d k u).spend d k (len + (l.map fun x => x.2.cost).sum + cost)
          if t.overfull d k then s.stalled d k
          else
          (after vs (t.advance d k len slot)).boundary d k

/-- The misalignment and the refusal that the value of an operand causes: specifier, cause and the state with the capture. -/
structure Early where
  mis : List Loc → State → Option (Nat × Nat × State) := fun _ _ => none
  ref : List Loc → State → Option (Nat × Nat × State) := fun _ _ => none

/-- The trap of the lower-numbered specifier of two (R115). -/
def lowerSpec (x y : Option (Nat × Nat × State)) : Option (Nat × Nat × State) :=
  match x, y with
  | some a, some b => if b.1 < a.1 then some b else some a
  | x, y => x.or y

/-- The operands of an instruction are resolved and checked, and its body is carried out; `early` gives the misalignment
and the refusal that the value of an operand causes (R98 to R100, R115). -/
def State.memArgs (s : State) (d k opc sz len : Nat) (l : List Arg) (cost : Nat) (slot : Option Br)
    (early : Early) (body : List Nat → State → MBody)
    (after : List Nat → State → State) : State :=
  match s.resolveArgs d k sz [] l with
  | none => s.stalled d k
  | some (xs, u, t) =>
    let ax := l.zip xs
    match lowerSpec ((misalignedArg 1 ax).map fun e => (e.1, e.2, t)) (early.mis xs t) with
    | some (i, c, t) => t.trap d k opc len c i
    | none =>
      match lowerSpec (t.refusedArg d k 1 ax) (early.ref xs t) with
      | some (i, c, t) => t.trap d k opc len c i
      | none => t.memBody d k opc len ax u cost slot body after

/-- A memory-form instruction with OP `op` and SZ code `sz` is executed (R96 to R103, R115): nothing where the core
executes no memory-form instruction now. `bad` gives the cause of a specifier that this instruction reserves, and `slotCause`
the cause with which the instruction may not stand in a delay slot. -/
def State.runM (s : State) (d k op sz : Nat) (l : List Arg) (go : Option Br → State → State)
    (bad : Nat → Arg → Option Nat := fun _ _ => none) (slotCause : Option Nat := none) : State :=
  let opc := memOpc op sz
  let len := argsLen l
  if s.coreRuns d k && !(s.core d k).form then
    match s.fetch d k (s.core d k).pc 1 with
    | .error (c, t) => t.trap d k 0 1 c
    | .ok t =>
      if !((memRow op).any fun r => r.1.contains sz) then t.trap d k opc len 0x11
      else
        match reservedArg (2 ^ sz) bad 1 l with
        | some (i, c) => t.trap d k opc len c i
        | none =>
          match (if (t.core d k).br.isSome then slotCause else none) with
          | some c => t.trap d k opc len c
          | none =>
            match t.fetch d k ((t.core d k).pc + 1) (len - 1) with
            | .error (c, t) => t.trap d k 0 len c
            | .ok t => go (t.core d k).br t
  else s

/-- A memory-form instruction that reads and writes its operands once (R99 to R102). -/
def State.opM (s : State) (d k op sz : Nat) (l : List Arg) (cost : Nat) (body : List Nat → State → MBody)
    (slotCause : Option Nat := none) (after : List Nat → State → State := fun _ t => t)
    (early : Early := {}) : State :=
  s.runM d k op sz l (fun slot t => t.memArgs d k (memOpc op sz) (2 ^ sz) (argsLen l) l cost slot early body after) (slotCause := slotCause)

end Sys2Proof.Machine
end

