-- ==== Sys2Proof/Machine/BitForm.lean ====
section
/-! DEFINITION. Class 0x0 of stack form: memory bits and the rung stack (R64 to R67). -/

namespace Sys2Proof.Machine

/-- The byte address and the bit number of bit offset `o` in window `w` (R64). -/
def Core.bitAddr (c : Core) (w o : Nat) : Nat × Nat := (c.hot.dwin.getD (w % 4) 0 * 2 ^ 32 + o / 8, o % 8)

/-- A memory bit instruction: operation `op` in window `w`, with the offset in the parcels (`some o`, A = 1) or popped from
the data stack (A = 0); `f` is its body over the byte address, the bit number and the top rung (R64, R65). -/
def State.bitRun (s : State) (d k op w : Nat) (off : Option Nat) (rn rp cost : Nat)
    (f : Nat → Nat → Bool → State → Body) : State :=
  let a := off.isSome.toNat
  let o := off.getD 0 % 2 ^ 21
  s.runS d k (op * 2 ^ 8 + a * 2 ^ 7 + w % 4 * 2 ^ 5 + o / 2 ^ 16) (1 + a) { dn := 1 - a, rn := rn, rp := rp } (cost + a)
    fun x t =>
      let p := (t.core d k).bitAddr w (if off.isSome then o else (x.a 0).toNat)
      f p.1 p.2 (x.rung 0) t

/-- An instruction that combines the addressed bit with the top of the rung stack. -/
def State.bitLogic (s : State) (d k op w : Nat) (off : Option Nat) (f : Bool → Bool → Bool) : State :=
  s.bitRun d k op w off 1 1 2 fun a i x t =>
    (t.coreLoad d k a 1).body fun v t => .done [] [f x (v.testBit i)] [] t

/-- A coil: a posted store of a bit that leaves the rung where it is (R65, R66). -/
def State.bitCoil (s : State) (d k op w : Nat) (off : Option Nat) (f : Bool → Bool) : State :=
  s.bitRun d k op w off 1 1 1 fun a i x t => (t.coreBit d k a i (f x)).body fun _ t => .done [] [x] [] t

/-- BSET and BCLR: the bit takes `v` where the rung is 1; else the address is only checked (R66). -/
def State.bitLatch (s : State) (d k op w : Nat) (off : Option Nat) (v : Bool) : State :=
  s.bitRun d k op w off 1 1 1 fun a i x t =>
    if x then (t.coreBit d k a i v).body fun _ t => .done [] [x] [] t
    else
      match t.dCheck (.core d k) a 1 true with
      | some c => .trap 0x01 (t.refuse (.core d k) 1 a a true c)
      | none => .done [] [x] [] t

/-- A byte with one bit replaced. -/
def withBit (v i : Nat) (b : Bool) : Nat := clearBits v (2 ^ i) ||| b.toNat * 2 ^ i

/-- RISE and FALL: the bit takes the rung, and the rung becomes `f` of the rung and the bit's old value (R65, R66). -/
def State.bitEdge (s : State) (d k op w : Nat) (off : Option Nat) (f : Bool → Bool → Bool) : State :=
  s.bitRun d k op w off 1 1 2 fun a i x t =>
    (t.coreRmw d k a 1 fun v => withBit v i x).body fun v t => .done [] [f x (v.testBit i)] [] t

/-- BLD: r: ( -- b ) (R65). -/
def execBld (d k : Nat) (w : Nat) (off : Option Nat) (s : State) : Host.Outcome State Fault Refusal :=
  .next (s.bitRun d k 0x1 w off 0 1 2 fun a i _ t =>
    (t.coreLoad d k a 1).body fun v t => .done [] [v.testBit i] [] t)

/-- BLDN: r: ( -- ¬b ) (R65). -/
def execBldn (d k : Nat) (w : Nat) (off : Option Nat) (s : State) : Host.Outcome State Fault Refusal :=
  .next (s.bitRun d k 0x2 w off 0 1 2 fun a i _ t =>
    (t.coreLoad d k a 1).body fun v t => .done [] [!v.testBit i] [] t)

/-- BAND: r: ( x -- x ∧ b ) (R65). -/
def execBand (d k : Nat) (w : Nat) (off : Option Nat) (s : State) : Host.Outcome State Fault Refusal :=
  .next (s.bitLogic d k 0x3 w off fun x b => x && b)

/-- BANDN: r: ( x -- x ∧ ¬b ) (R65). -/
def execBandn (d k : Nat) (w : Nat) (off : Option Nat) (s : State) : Host.Outcome State Fault Refusal :=
  .next (s.bitLogic d k 0x4 w off fun x b => x && !b)

/-- BOR: r: ( x -- x ∨ b ) (R65). -/
def execBor (d k : Nat) (w : Nat) (off : Option Nat) (s : State) : Host.Outcome State Fault Refusal :=
  .next (s.bitLogic d k 0x5 w off fun x b => x || b)

/-- BORN: r: ( x -- x ∨ ¬b ) (R65). -/
def execBorn (d k : Nat) (w : Nat) (off : Option Nat) (s : State) : Host.Outcome State Fault Refusal :=
  .next (s.bitLogic d k 0x6 w off fun x b => x || !b)

/-- BST: b := x (R65, R66). -/
def execBst (d k : Nat) (w : Nat) (off : Option Nat) (s : State) : Host.Outcome State Fault Refusal :=
  .next (s.bitCoil d k 0x7 w off fun x => x)

/-- BSTN: b := ¬x (R65, R66). -/
def execBstn (d k : Nat) (w : Nat) (off : Option Nat) (s : State) : Host.Outcome State Fault Refusal :=
  .next (s.bitCoil d k 0x8 w off fun x => !x)

/-- BSET: if x then b := 1 (R65, R66). -/
def execBset (d k : Nat) (w : Nat) (off : Option Nat) (s : State) : Host.Outcome State Fault Refusal :=
  .next (s.bitLatch d k 0x9 w off true)

/-- BCLR: if x then b := 0 (R65, R66). -/
def execBclr (d k : Nat) (w : Nat) (off : Option Nat) (s : State) : Host.Outcome State Fault Refusal :=
  .next (s.bitLatch d k 0xA w off false)

/-- RISE: y := x ∧ ¬b; b := x (R65, R66). -/
def execRise (d k : Nat) (w : Nat) (off : Option Nat) (s : State) : Host.Outcome State Fault Refusal :=
  .next (s.bitEdge d k 0xB w off fun x b => x && !b)

/-- FALL: y := ¬x ∧ b; b := x (R65, R66). -/
def execFall (d k : Nat) (w : Nat) (off : Option Nat) (s : State) : Host.Outcome State Fault Refusal :=
  .next (s.bitEdge d k 0xC w off fun x b => !x && b)

/-- A rung-stack operation of sub-operation `n` on rungs alone: `f` takes the top rung and the one below (R67). -/
def State.rungOp (s : State) (d k n rn rp : Nat) (f : Bool → Bool → List Bool) : State :=
  s.pureS d k (0x0F00 + n) 1 { rn := rn, rp := rp } 1 fun x => ([], f (x.rung 0) (x.rung 1), [])

/-- R.AND (R67). -/
def execRAnd (d k : Nat) (s : State) : Host.Outcome State Fault Refusal :=
  .next (s.rungOp d k 1 2 1 fun y x => [x && y])

/-- R.OR (R67). -/
def execROr (d k : Nat) (s : State) : Host.Outcome State Fault Refusal :=
  .next (s.rungOp d k 2 2 1 fun y x => [x || y])

/-- R.XOR (R67). -/
def execRXor (d k : Nat) (s : State) : Host.Outcome State Fault Refusal :=
  .next (s.rungOp d k 3 2 1 fun y x => [xor x y])

/-- R.ANDN (R67). -/
def execRAndn (d k : Nat) (s : State) : Host.Outcome State Fault Refusal :=
  .next (s.rungOp d k 4 2 1 fun y x => [x && !y])

/-- R.ORN (R67). -/
def execROrn (d k : Nat) (s : State) : Host.Outcome State Fault Refusal :=
  .next (s.rungOp d k 5 2 1 fun y x => [x || !y])

/-- R.NOT (R67). -/
def execRNot (d k : Nat) (s : State) : Host.Outcome State Fault Refusal :=
  .next (s.rungOp d k 6 1 1 fun x _ => [!x])

/-- R.DUP (R67). -/
def execRDup (d k : Nat) (s : State) : Host.Outcome State Fault Refusal :=
  .next (s.rungOp d k 7 1 2 fun x _ => [x, x])

/-- R.DROP (R67). -/
def execRDrop (d k : Nat) (s : State) : Host.Outcome State Fault Refusal :=
  .next (s.rungOp d k 8 1 0 fun _ _ => [])

/-- R.SWAP (R67). -/
def execRSwap (d k : Nat) (s : State) : Host.Outcome State Fault Refusal :=
  .next (s.rungOp d k 9 2 2 fun y x => [x, y])

/-- R.ONE (R67). -/
def execROne (d k : Nat) (s : State) : Host.Outcome State Fault Refusal :=
  .next (s.rungOp d k 10 0 1 fun _ _ => [true])

/-- R.ZERO (R67). -/
def execRZero (d k : Nat) (s : State) : Host.Outcome State Fault Refusal :=
  .next (s.rungOp d k 11 0 1 fun _ _ => [false])

/-- R.TOD: r: ( x -- ); ( -- x ) (R67). -/
def execRTod (d k : Nat) (s : State) : Host.Outcome State Fault Refusal :=
  .next (s.pureS d k 0x0F0C 1 { dp := 1, rn := 1 } 1 fun x => ([boolWord (x.rung 0)], [], []))

/-- R.FROMD: ( v -- ); r: ( -- v ≠ 0 ) (R67). -/
def execRFromd (d k : Nat) (s : State) : Host.Outcome State Fault Refusal :=
  .next (s.pureS d k 0x0F0D 1 { dn := 1, rp := 1 } 1 fun x => ([], [decide (x.a 0 ≠ 0)], []))

/-- R.DEPTH: ( -- n ), the rung-stack entries (R67). -/
def execRDepth (d k : Nat) (s : State) : Host.Outcome State Fault Refusal :=
  .next (s.runS d k 0x0F0E 1 { dp := 1 } 1 fun _ t => .done [w32 (t.core d k).hot.rs.length] [] [] t)

/-- R.CLR: the rung stack is emptied (R67). -/
def execRClr (d k : Nat) (s : State) : Host.Outcome State Fault Refusal :=
  .next (s.pureS d k 0x0F0F 1 { rn := (s.core d k).hot.rs.length } 1 fun _ => ([], [], []))

end Sys2Proof.Machine
end

