-- ==== Sys2Proof/Machine/AccessForm.lean ====
section
/-! DEFINITION. Classes 0x2 and 0x3 of stack form: D-space loads and stores and I/O-space accesses (R72 to R79). -/

namespace Sys2Proof.Machine

/-- A class 0x2 instruction of function `n` in window `w`, with a displacement parcel (D = 1) or none; `f` is its body over
the 32-bit offset and the word below it (R72). -/
def State.dRun (s : State) (d k n w : Nat) (disp : Option Nat) (u : Use) (cost : Nat) (f : Nat → Word → State → Body) : State :=
  let b := disp.isSome.toNat
  s.runS d k (0x2000 + n * 2 ^ 8 + b * 2 ^ 7 + w % 4 * 2 ^ 5) (1 + b) u (cost + b)
    fun x t => f (x.a 0 + sext16 (disp.getD 0)).toNat (x.a 1) t

/-- The D-space address of byte offset `o` in window `w` (R72). -/
def Core.dAddr (c : Core) (w o : Nat) : Nat := c.hot.dwin.getD (w % 4) 0 * 2 ^ 32 + o

/-- A load of `n` bytes, aligned, and `f` of them (R73, R74). -/
def State.dLoad (s : State) (d k op w : Nat) (disp : Option Nat) (n : Nat) (f : Nat → Word) : State :=
  s.dRun d k op w disp { dn := 1, dp := 1 } 2 fun o _ t =>
    let a := (t.core d k).dAddr w o
    if misaligned a n then .trap 0x40 t else (t.coreLoad d k a n).body fun v t => .done [f v] [] [] t

/-- A posted store of `n` bytes, aligned (R73, R74). -/
def State.dStore (s : State) (d k op w : Nat) (disp : Option Nat) (n : Nat) : State :=
  s.dRun d k op w disp { dn := 2 } 1 fun o v t =>
    let a := (t.core d k).dAddr w o
    if misaligned a n then .trap 0x40 t else (t.coreStore d k a n v.toNat).body fun _ t => .done [] [] [] t

/-- An indivisible exchange or addition on a word, aligned: ( v o -- old ) (R74, R75). -/
def State.dSwap (s : State) (d k op w : Nat) (disp : Option Nat) (f : Word → Word → Word) : State :=
  s.dRun d k op w disp { dn := 2, dp := 1 } 2 fun o v t =>
    let a := (t.core d k).dAddr w o
    if misaligned a 4 then .trap 0x40 t
    else (t.coreRmw d k a 4 fun old => (f (w32 old) v).toNat).body fun old t => .done [w32 old] [] [] t

/-- LDD.B: ( o -- byte sign-extended ) (R73). -/
def execLddB (d k : Nat) (w : Nat) (disp : Option Nat) (s : State) : Host.Outcome State Fault Refusal :=
  .next (s.dLoad d k 0x0 w disp 1 fun v => sext 8 (w32 v))

/-- LDD.BU: ( o -- byte zero-extended ) (R73). -/
def execLddBu (d k : Nat) (w : Nat) (disp : Option Nat) (s : State) : Host.Outcome State Fault Refusal :=
  .next (s.dLoad d k 0x1 w disp 1 w32)

/-- LDD.H: ( o -- half sign-extended ) (R73). -/
def execLddH (d k : Nat) (w : Nat) (disp : Option Nat) (s : State) : Host.Outcome State Fault Refusal :=
  .next (s.dLoad d k 0x2 w disp 2 fun v => sext 16 (w32 v))

/-- LDD.HU: ( o -- half zero-extended ) (R73). -/
def execLddHu (d k : Nat) (w : Nat) (disp : Option Nat) (s : State) : Host.Outcome State Fault Refusal :=
  .next (s.dLoad d k 0x3 w disp 2 w32)

/-- LDD.W: ( o -- word ) (R73). -/
def execLddW (d k : Nat) (w : Nat) (disp : Option Nat) (s : State) : Host.Outcome State Fault Refusal :=
  .next (s.dLoad d k 0x4 w disp 4 w32)

/-- LDD.T: ( o -- bit as 0 or 1 ) (R72, R73). -/
def execLddT (d k : Nat) (w : Nat) (disp : Option Nat) (s : State) : Host.Outcome State Fault Refusal :=
  .next (s.dRun d k 0x5 w disp { dn := 1, dp := 1 } 2 fun o _ t =>
    let p := (t.core d k).bitAddr w o
    (t.coreLoad d k p.1 1).body fun v t => .done [boolWord (v.testBit p.2)] [] [] t)

/-- STD.B: ( v o -- ), low 8 bits of v (R73). -/
def execStdB (d k : Nat) (w : Nat) (disp : Option Nat) (s : State) : Host.Outcome State Fault Refusal :=
  .next (s.dStore d k 0x8 w disp 1)

/-- STD.H: ( v o -- ), low 16 bits of v (R73). -/
def execStdH (d k : Nat) (w : Nat) (disp : Option Nat) (s : State) : Host.Outcome State Fault Refusal :=
  .next (s.dStore d k 0x9 w disp 2)

/-- STD.W: ( v o -- ), v (R73). -/
def execStdW (d k : Nat) (w : Nat) (disp : Option Nat) (s : State) : Host.Outcome State Fault Refusal :=
  .next (s.dStore d k 0xA w disp 4)

/-- STD.T: ( v o -- ), bit := bit 0 of v (R66, R73). -/
def execStdT (d k : Nat) (w : Nat) (disp : Option Nat) (s : State) : Host.Outcome State Fault Refusal :=
  .next (s.dRun d k 0xB w disp { dn := 2 } 1 fun o v t =>
    let p := (t.core d k).bitAddr w o
    (t.coreBit d k p.1 p.2 (v.getLsbD 0)).body fun _ t => .done [] [] [] t)

/-- XCHD.W: ( v o -- old ), word := v (R73, R75). -/
def execXchdW (d k : Nat) (w : Nat) (disp : Option Nat) (s : State) : Host.Outcome State Fault Refusal :=
  .next (s.dSwap d k 0xC w disp fun _ v => v)

/-- ADDD.W: ( v o -- old ), word := old + v (R73, R75). -/
def execAdddW (d k : Nat) (w : Nat) (disp : Option Nat) (s : State) : Host.Outcome State Fault Refusal :=
  .next (s.dSwap d k 0xD w disp fun old v => old + v)

/-- An IN of the word at an address (R77, R79). -/
def State.inBody (s : State) (d k a : Nat) : Body :=
  if misaligned a 4 then .trap 0x41 s else (s.coreIn d k a).body fun v t => .done [w32 v] [] [] t

/-- An OUT of a word to an address (R76, R79, R347). -/
def State.outBody (s : State) (d k a : Nat) (v : Word) : Body :=
  if misaligned a 4 then .trap 0x41 s else (s.coreOut d k a v.toNat).body fun _ t => .done [] [] [] t

/-- The I/O address of a displacement form (R78). -/
def Core.ioAddr (c : Core) (b disp : Nat) : Nat := (c.hot.iob.getD (b % 4) 0 + 4 * (disp % 2 ^ 16)) % 2 ^ 32

/-- IN: ( a -- word at a ) (R78, R79). -/
def execInI (d k : Nat) (s : State) : Host.Outcome State Fault Refusal :=
  .next (s.runS d k 0x3000 1 { dn := 1, dp := 1 } 2 fun x t => t.inBody d k (x.a 0).toNat)

/-- OUT: ( v a -- ), word at a := v (R78, R79). -/
def execOut (d k : Nat) (s : State) : Host.Outcome State Fault Refusal :=
  .next (s.runS d k 0x3100 1 { dn := 2 } 1 fun x t => t.outBody d k (x.a 0).toNat (x.a 1))

/-- IN.D: ( -- word at IOBb + 4 × parcel ) (R78, R79). -/
def execInD (d k : Nat) (b disp : Nat) (s : State) : Host.Outcome State Fault Refusal :=
  .next (s.runS d k (0x3200 + b % 4 * 0x40) 2 { dp := 1 } 3 fun _ t => t.inBody d k ((t.core d k).ioAddr b disp))

/-- OUT.D: ( v -- ), word at IOBb + 4 × parcel := v (R78, R79). -/
def execOutD (d k : Nat) (b disp : Nat) (s : State) : Host.Outcome State Fault Refusal :=
  .next (s.runS d k (0x3300 + b % 4 * 0x40) 2 { dn := 1 } 2 fun x t => t.outBody d k ((t.core d k).ioAddr b disp) (x.a 0))

end Sys2Proof.Machine
end

