-- ==== Sys2Proof/Machine/FlowForm.lean ====
section
/-! DEFINITION. Classes 0x4, 0x5 and 0xF of stack form: branches, jumps, calls, returns, YIELD, TASKEND, and the system
instructions (R80 to R90). -/

namespace Sys2Proof.Machine

/-- A displacement as its field spells it: 8 bits (S = 1) or 16 (S = 0), signed (R80). -/
def branchDisp (short : Bool) (disp : Nat) : Word := if short then sext 8 (w32 disp) else sext16 disp

/-- The target of a relative transfer of `len` parcels: the delay slot's address plus the displacement (R80). -/
def Core.relTarget (c : Core) (len : Nat) (disp : Word) : Nat := (w32 (c.pc + len) + disp).toNat

/-- A compare-and-branch of condition `n`: the condition is `f` of what it pops (R80, R81). -/
def State.branchS (s : State) (d k n : Nat) (short : Bool) (disp : Nat) (u : Use) (f : Ins → Bool) : State :=
  let len := if short then 1 else 2
  s.runS d k (0x4000 + n * 2 ^ 9 + short.toNat * 2 ^ 8 + if short then disp % 2 ^ 8 else 0) len u len
    (fun x t => .done [] [] [] (t.setBranch d k len (f x) ((t.core d k).relTarget len (branchDisp short disp))))
    (inSlot := false)

/-- A transfer that is always taken: to `tgt` of what it pops (R82, R84). -/
def State.jumpS (s : State) (d k opc len : Nat) (u : Use) (tgt : Ins → Core → Nat) : State :=
  s.runS d k opc len u len (fun x t => .done [] [] [] (t.setBranch d k len true (tgt x (t.core d k)))) (inSlot := false)

/-- A call: it pushes the address that follows its delay slot (R82, R83). -/
def State.callS (s : State) (d k opc len dn : Nat) (tgt : Ins → Core → Nat) : State :=
  s.runS d k opc len { dn := dn, tp := 1 } len
    (fun x t => .done [] [] [w32 (t.slotEnd d k ((t.core d k).pc + len))] (t.setBranch d k len true (tgt x (t.core d k))))
    (inSlot := false)

/-- B.EQ (R81). -/
def execBEq (d k : Nat) (short : Bool) (disp : Nat) (s : State) : Host.Outcome State Fault Refusal :=
  .next (s.branchS d k 0 short disp { dn := 2 } fun x => condition 0 32 (x.a 1) (x.a 0))

/-- B.NE (R81). -/
def execBNe (d k : Nat) (short : Bool) (disp : Nat) (s : State) : Host.Outcome State Fault Refusal :=
  .next (s.branchS d k 1 short disp { dn := 2 } fun x => condition 1 32 (x.a 1) (x.a 0))

/-- B.LT (R81). -/
def execBLt (d k : Nat) (short : Bool) (disp : Nat) (s : State) : Host.Outcome State Fault Refusal :=
  .next (s.branchS d k 2 short disp { dn := 2 } fun x => condition 2 32 (x.a 1) (x.a 0))

/-- B.GE (R81). -/
def execBGe (d k : Nat) (short : Bool) (disp : Nat) (s : State) : Host.Outcome State Fault Refusal :=
  .next (s.branchS d k 3 short disp { dn := 2 } fun x => condition 3 32 (x.a 1) (x.a 0))

/-- B.LTU (R81). -/
def execBLtu (d k : Nat) (short : Bool) (disp : Nat) (s : State) : Host.Outcome State Fault Refusal :=
  .next (s.branchS d k 4 short disp { dn := 2 } fun x => condition 4 32 (x.a 1) (x.a 0))

/-- B.GEU (R81). -/
def execBGeu (d k : Nat) (short : Bool) (disp : Nat) (s : State) : Host.Outcome State Fault Refusal :=
  .next (s.branchS d k 5 short disp { dn := 2 } fun x => condition 5 32 (x.a 1) (x.a 0))

/-- B.RZ: taken when the popped rung is 0 (R81). -/
def execBRz (d k : Nat) (short : Bool) (disp : Nat) (s : State) : Host.Outcome State Fault Refusal :=
  .next (s.branchS d k 6 short disp { rn := 1 } fun x => !x.rung 0)

/-- B.RNZ: taken when the popped rung is 1 (R81). -/
def execBRnz (d k : Nat) (short : Bool) (disp : Nat) (s : State) : Host.Outcome State Fault Refusal :=
  .next (s.branchS d k 7 short disp { rn := 1 } fun x => x.rung 0)

/-- JMP: go to the delay-slot address plus the displacement (R82). -/
def execJmp (d k : Nat) (disp : Nat) (s : State) : Host.Outcome State Fault Refusal :=
  .next (s.jumpS d k 0x5000 2 {} fun _ c => c.relTarget 2 (sext16 disp))

/-- JMPL: go to the 32-bit parcel address (R82). -/
def execJmpl (d k : Nat) (a : Nat) (s : State) : Host.Outcome State Fault Refusal :=
  .next (s.jumpS d k 0x5100 3 {} fun _ _ => a)

/-- JMPI: ( a -- ); go to a (R82). -/
def execJmpi (d k : Nat) (s : State) : Host.Outcome State Fault Refusal :=
  .next (s.jumpS d k 0x5200 1 { dn := 1 } fun x _ => (x.a 0).toNat)

/-- CALL: R: ( -- ret ); go as JMP (R82, R83). -/
def execCall (d k : Nat) (disp : Nat) (s : State) : Host.Outcome State Fault Refusal :=
  .next (s.callS d k 0x5300 2 0 fun _ c => c.relTarget 2 (sext16 disp))

/-- CALLL: R: ( -- ret ); go as JMPL (R82, R83). -/
def execCalll (d k : Nat) (a : Nat) (s : State) : Host.Outcome State Fault Refusal :=
  .next (s.callS d k 0x5400 3 0 fun _ _ => a)

/-- CALLI: ( a -- ); R: ( -- ret ); go to a (R82, R83). -/
def execCalli (d k : Nat) (s : State) : Host.Outcome State Fault Refusal :=
  .next (s.callS d k 0x5500 1 1 fun x _ => (x.a 0).toNat)

/-- The form-return marker (R120). -/
abbrev formMarker : Nat := 0xFFFFFFF0

/-- A RET to an address: the form-return marker, with an entry beneath it, completes as a form return (R83, R121). -/
def State.retBody (s : State) (d k : Nat) (a : Word) : Body :=
  let c := s.core d k
  if a.toNat = formMarker then
    if c.hot.ts.length < 2 then .trap 0x35 s
    else .done [] [] [] (s.setCore d k { c with br := some { tgt := formMarker, toMem := true } })
  else .done [] [] [] (s.setBranch d k 1 true a.toNat)

/-- RET: R: ( a -- ); go to a (R82, R83, R121). -/
def execRet (d k : Nat) (s : State) : Host.Outcome State Fault Refusal :=
  .next (s.runS d k 0x5600 1 { tn := 1 } 1 (fun x t => t.retBody d k x.ret) (inSlot := false))

/-- YIELD and TASKEND trap while frames are held (R93, R123); else what they bring about follows their completion. -/
def State.schedS (s : State) (d k opc : Nat) (after : State → State) : State :=
  s.runS d k opc 1 {} 1 (fun _ t => if 0 < t.rd (.core d k) CORE_TRAP_DEPTH then .trap 0x17 t else .done [] [] [] t)
    (inSlot := false) (after := after)

/-- YIELD: offer the core to another ready task (R82, R138, R543). -/
def execYield (d k : Nat) (s : State) : Host.Outcome State Fault Refusal :=
  .next (s.schedS d k 0x5700 fun t => t.yield d k)

/-- TASKEND: end this release of the task, or the background (R82, R142, R543). -/
def execTaskend (d k : Nat) (s : State) : Host.Outcome State Fault Refusal :=
  .next (s.schedS d k 0x5800 fun t => t.taskEnd d k)

/-- NOP (R88). -/
def execNop (d k : Nat) (s : State) : Host.Outcome State Fault Refusal :=
  .next (s.pureS d k 0xF000 1 {} 1 fun _ => ([], [], []))

/-- FENCE waits while a write of the core is held; loads have completed by then (R89). -/
def State.fenceBody (s : State) (d k : Nat) : Body := if s.heldOf (.core d k) = [] then .done [] [] [] s else .stall s

/-- DI masks external interrupts until 2,048 cycles from now; EI unmasks them (R88, R90). -/
def State.maskInts (s : State) (d k : Nat) : State := s.setCore d k { s.core d k with di := some ((s.core d k).cyc + 2048) }
def State.unmaskInts (s : State) (d k : Nat) : State := s.setCore d k { s.core d k with di := none }

/-- The cycles that the core has waited, which the model does not count, are a free number; they enter the count (R88). -/
def State.cycles (s : State) (d k : Nat) : Nat × State :=
  let (w, t) := s.freeNat
  let n := (t.core d k).cyc + w
  (n, t.setCore d k { t.core d k with cyc := n })

/-- FENCE (R88, R89). -/
def execFence (d k : Nat) (s : State) : Host.Outcome State Fault Refusal :=
  .next (s.runS d k 0xF001 1 {} 1 fun _ t => t.fenceBody d k)

/-- BRK: the breakpoint trap; the return address is the next parcel (R88, R112). -/
def execBrk (d k : Nat) (s : State) : Host.Outcome State Fault Refusal :=
  .next (s.runS d k 0xF003 1 {} 1 fun _ t => .trap 0x70 t)

/-- RDTB: ( -- lo hi ), the package time (R88). -/
def execRdtb (d k : Nat) (s : State) : Host.Outcome State Fault Refusal :=
  .next (s.runS d k 0xF010 1 { dp := 2 } 2 fun _ t => .done [w32 (t.tmb.count / 2 ^ 32), w32 t.tmb.count] [] [] t)

/-- RDCYC: ( -- lo hi ), the cycle count since reset (R88). -/
def execRdcyc (d k : Nat) (s : State) : Host.Outcome State Fault Refusal :=
  .next (s.runS d k 0xF011 1 { dp := 2 } 2 fun _ t =>
    let r := t.cycles d k
    .done [w32 (r.1 / 2 ^ 32), w32 r.1] [] [] r.2)

/-- DI: mask external interrupts (R88, R90). -/
def execDi (d k : Nat) (s : State) : Host.Outcome State Fault Refusal :=
  .next (s.runS d k 0xF030 1 {} 1 fun _ t => .done [] [] [] (t.maskInts d k))

/-- EI: unmask external interrupts (R88, R90). -/
def execEi (d k : Nat) (s : State) : Host.Outcome State Fault Refusal :=
  .next (s.runS d k 0xF031 1 {} 1 fun _ t => .done [] [] [] (t.unmaskInts d k))

/-- RDCR or WRCR of an unlisted number: a reserved opcode, whatever the stacks hold (R61, R93). -/
def State.crRun (s : State) (d k opc n : Nat) (u : Use) (body : Ins → State → Body) : State :=
  if listedReg n then s.runS d k opc 1 u 1 body else s.runS d k opc 1 {} 1 fun _ t => .trap 0x13 t

/-- RDCR n: ( -- core register n ) (R61, R88). -/
def execRdcr (d k : Nat) (n : Nat) (s : State) : Host.Outcome State Fault Refusal :=
  .next (s.crRun d k (0xF100 + n % 256) (n % 256) { dp := 1 } fun _ t => .done [w32 (((t.core d k).reg (n % 256)).getD 0)] [] [] t)

/-- WRCR n: ( v -- ), core register n := v (R61, R62, R88). -/
def execWrcr (d k : Nat) (n : Nat) (s : State) : Host.Outcome State Fault Refusal :=
  .next (s.crRun d k (0xF200 + n % 256) (n % 256) { dn := 1 } fun x t => .done [] [] [] (t.setCore d k ((t.core d k).setReg (n % 256) (x.a 0).toNat)))

end Sys2Proof.Machine
end

