-- ==== Sys2Proof/Machine/WordForm.lean ====
section
/-! DEFINITION. Classes 0x1 and 0x7 of stack form: integer arithmetic, word logic, stack manipulation, compares to the rung
stack, and literals (R68 to R71). -/

namespace Sys2Proof.Machine

/-- A class 0x1 instruction of function code `n` on the data stack: `dn` words taken, `f` of them, top first, put back. -/
def State.dataOp (s : State) (d k n dn dp cost : Nat) (f : Ins → List Word) : State :=
  s.pureS d k (0x1000 + n) 1 { dn := dn, dp := dp } cost fun x => (f x, [], [])

/-- ( a -- f a ) -/
def State.unary (s : State) (d k n : Nat) (f : Word → Word) : State := s.dataOp d k n 1 1 1 fun x => [f (x.a 0)]

/-- ( a b -- f a b ) -/
def State.binary (s : State) (d k n cost : Nat) (f : Word → Word → Word) : State :=
  s.dataOp d k n 2 1 cost fun x => [f (x.a 1) (x.a 0)]

/-- CORE_STAT.DZ is set by a zero divisor (R69). -/
def State.noteDiv (s : State) (d k : Nat) (b : Word) : State :=
  if b = 0 then s.setCore d k { s.core d k with dz := true } else s

/-- A division or remainder: 20 cycles whatever its operands (R69). -/
def State.divide (s : State) (d k n : Nat) (f : Word → Word → Word) : State :=
  s.runS d k (0x1000 + n) 1 { dn := 2, dp := 1 } 20 fun x t => .done [f (x.a 1) (x.a 0)] [] [] (t.noteDiv d k (x.a 0))

/-- ( a b -- ); r: ( -- condition c ) -/
def State.compare (s : State) (d k n c : Nat) : State :=
  s.pureS d k (0x1000 + n) 1 { dn := 2, rp := 1 } 1 fun x => ([], [condition c 32 (x.a 1) (x.a 0)], [])

/-- DUP: ( a -- a a ) (R68). -/
def execDup (d k : Nat) (s : State) : Host.Outcome State Fault Refusal :=
  .next (s.dataOp d k 0x001 1 2 1 fun x => [x.a 0, x.a 0])

/-- DROP: ( a -- ) (R68). -/
def execDrop (d k : Nat) (s : State) : Host.Outcome State Fault Refusal :=
  .next (s.dataOp d k 0x002 1 0 1 fun _ => [])

/-- SWAP: ( a b -- b a ) (R68). -/
def execSwap (d k : Nat) (s : State) : Host.Outcome State Fault Refusal :=
  .next (s.dataOp d k 0x003 2 2 1 fun x => [x.a 1, x.a 0])

/-- OVER: ( a b -- a b a ) (R68). -/
def execOver (d k : Nat) (s : State) : Host.Outcome State Fault Refusal :=
  .next (s.dataOp d k 0x004 2 3 1 fun x => [x.a 1, x.a 0, x.a 1])

/-- ROT: ( a b c -- b c a ) (R68). -/
def execRot (d k : Nat) (s : State) : Host.Outcome State Fault Refusal :=
  .next (s.dataOp d k 0x005 3 3 1 fun x => [x.a 2, x.a 0, x.a 1])

/-- NIP: ( a b -- b ) (R68). -/
def execNip (d k : Nat) (s : State) : Host.Outcome State Fault Refusal :=
  .next (s.dataOp d k 0x006 2 1 1 fun x => [x.a 0])

/-- TUCK: ( a b -- b a b ) (R68). -/
def execTuck (d k : Nat) (s : State) : Host.Outcome State Fault Refusal :=
  .next (s.dataOp d k 0x007 2 3 1 fun x => [x.a 0, x.a 1, x.a 0])

/-- The entries of the data stack, in hardware and spilled (R68). -/
def Core.depth (c : Core) : Nat := c.hot.ds.length + (c.hot.dspBase + 2 ^ 32 - c.hot.dsp) % 2 ^ 32 / 4

/-- DEPTH: ( -- n ), before the push (R68). -/
def execDepth (d k : Nat) (s : State) : Host.Outcome State Fault Refusal :=
  .next (s.runS d k 0x1008 1 { dp := 1 } 1 fun _ t => .done [w32 (t.core d k).depth] [] [] t)

/-- PICK n: ( xn … x0 -- xn … x0 xn ) (R68). -/
def execPick (d k : Nat) (n : Nat) (s : State) : Host.Outcome State Fault Refusal :=
  .next (s.dataOp d k (0x010 + n % 16) (n % 16 + 1) (n % 16 + 2) 1 fun x => x.a (n % 16) :: x.d)

/-- TOR: ( a -- ); R: ( -- a ) (R68). -/
def execTor (d k : Nat) (s : State) : Host.Outcome State Fault Refusal :=
  .next (s.pureS d k 0x1020 1 { dn := 1, tp := 1 } 1 fun x => ([], [], [x.a 0]))

/-- FROMR: ( -- a ); R: ( a -- ) (R68). -/
def execFromr (d k : Nat) (s : State) : Host.Outcome State Fault Refusal :=
  .next (s.pureS d k 0x1021 1 { dp := 1, tn := 1 } 1 fun x => ([x.ret], [], []))

/-- RFETCH: ( -- a ); R: ( a -- a ) (R68). -/
def execRfetch (d k : Nat) (s : State) : Host.Outcome State Fault Refusal :=
  .next (s.pureS d k 0x1022 1 { dp := 1, tn := 1, tp := 1 } 1 fun x => ([x.ret], [], [x.ret]))

/-- ADD: ( a b -- a + b ), modulo 2^32 (R68). -/
def execAdd (d k : Nat) (s : State) : Host.Outcome State Fault Refusal :=
  .next (s.binary d k 0x100 1 fun a b => a + b)

/-- SUB: ( a b -- a − b ), modulo 2^32 (R68). -/
def execSub (d k : Nat) (s : State) : Host.Outcome State Fault Refusal :=
  .next (s.binary d k 0x101 1 fun a b => a - b)

/-- ADDS: ( a b -- a + b ), saturated (R68). -/
def execAdds (d k : Nat) (s : State) : Host.Outcome State Fault Refusal :=
  .next (s.binary d k 0x102 1 addSat)

/-- SUBS: ( a b -- a − b ), saturated (R68). -/
def execSubs (d k : Nat) (s : State) : Host.Outcome State Fault Refusal :=
  .next (s.binary d k 0x103 1 subSat)

/-- NEG: ( a -- −a ) (R68). -/
def execNeg (d k : Nat) (s : State) : Host.Outcome State Fault Refusal :=
  .next (s.unary d k 0x104 fun a => -a)

/-- ABS: ( a -- abs a ); 0x8000_0000 gives 0x7FFF_FFFF (R68). -/
def execAbs (d k : Nat) (s : State) : Host.Outcome State Fault Refusal :=
  .next (s.unary d k 0x105 absSat)

/-- MIN: ( a b -- min ), signed (R68). -/
def execMin (d k : Nat) (s : State) : Host.Outcome State Fault Refusal :=
  .next (s.binary d k 0x106 1 minS)

/-- MAX: ( a b -- max ), signed (R68). -/
def execMax (d k : Nat) (s : State) : Host.Outcome State Fault Refusal :=
  .next (s.binary d k 0x107 1 maxS)

/-- MINU: ( a b -- min ), unsigned (R68). -/
def execMinu (d k : Nat) (s : State) : Host.Outcome State Fault Refusal :=
  .next (s.binary d k 0x108 1 minU)

/-- MAXU: ( a b -- max ), unsigned (R68). -/
def execMaxu (d k : Nat) (s : State) : Host.Outcome State Fault Refusal :=
  .next (s.binary d k 0x109 1 maxU)

/-- INC: ( a -- a + 1 ) (R68). -/
def execInc (d k : Nat) (s : State) : Host.Outcome State Fault Refusal :=
  .next (s.unary d k 0x10A fun a => a + 1)

/-- DEC: ( a -- a − 1 ) (R68). -/
def execDec (d k : Nat) (s : State) : Host.Outcome State Fault Refusal :=
  .next (s.unary d k 0x10B fun a => a - 1)

/-- MUL: the low 32 bits of a × b (R68). -/
def execMul (d k : Nat) (s : State) : Host.Outcome State Fault Refusal :=
  .next (s.binary d k 0x110 3 fun a b => a * b)

/-- MULH: the high 32 bits of a × b, signed (R68). -/
def execMulh (d k : Nat) (s : State) : Host.Outcome State Fault Refusal :=
  .next (s.binary d k 0x111 3 mulHigh)

/-- MULHU: the high 32 bits of a × b, unsigned (R68). -/
def execMulhu (d k : Nat) (s : State) : Host.Outcome State Fault Refusal :=
  .next (s.binary d k 0x112 3 mulHighU)

/-- DIV: a ÷ b, truncated toward zero (R68, R69). -/
def execDiv (d k : Nat) (s : State) : Host.Outcome State Fault Refusal :=
  .next (s.divide d k 0x113 divS)

/-- DIVU: a ÷ b, unsigned (R68, R69). -/
def execDivu (d k : Nat) (s : State) : Host.Outcome State Fault Refusal :=
  .next (s.divide d k 0x114 divU)

/-- REM: a rem b, with the sign of a (R68, R69). -/
def execRem (d k : Nat) (s : State) : Host.Outcome State Fault Refusal :=
  .next (s.divide d k 0x115 remS)

/-- REMU: a rem b, unsigned (R68, R69). -/
def execRemu (d k : Nat) (s : State) : Host.Outcome State Fault Refusal :=
  .next (s.divide d k 0x116 remU)

/-- AND: ( a b -- a ∧ b ) (R68). -/
def execAndI (d k : Nat) (s : State) : Host.Outcome State Fault Refusal :=
  .next (s.binary d k 0x200 1 fun a b => a &&& b)

/-- OR: ( a b -- a ∨ b ) (R68). -/
def execOrI (d k : Nat) (s : State) : Host.Outcome State Fault Refusal :=
  .next (s.binary d k 0x201 1 fun a b => a ||| b)

/-- XOR: ( a b -- a ⊕ b ) (R68). -/
def execXor (d k : Nat) (s : State) : Host.Outcome State Fault Refusal :=
  .next (s.binary d k 0x202 1 fun a b => a ^^^ b)

/-- NOT: ( a -- ¬a ) (R68). -/
def execNotI (d k : Nat) (s : State) : Host.Outcome State Fault Refusal :=
  .next (s.unary d k 0x203 fun a => ~~~a)

/-- ANDN: ( a b -- a ∧ ¬b ) (R68). -/
def execAndn (d k : Nat) (s : State) : Host.Outcome State Fault Refusal :=
  .next (s.binary d k 0x204 1 fun a b => a &&& ~~~b)

/-- SHL: ( a n -- a shifted or rotated by bits [4:0] of n ) (R68, R70). -/
def execShl (d k : Nat) (s : State) : Host.Outcome State Fault Refusal :=
  .next (s.binary d k 0x210 1 shl)

/-- SHR: ( a n -- a shifted or rotated by bits [4:0] of n ) (R68, R70). -/
def execShr (d k : Nat) (s : State) : Host.Outcome State Fault Refusal :=
  .next (s.binary d k 0x211 1 shr)

/-- SAR: ( a n -- a shifted or rotated by bits [4:0] of n ) (R68, R70). -/
def execSar (d k : Nat) (s : State) : Host.Outcome State Fault Refusal :=
  .next (s.binary d k 0x212 1 sar)

/-- ROL: ( a n -- a shifted or rotated by bits [4:0] of n ) (R68, R70). -/
def execRol (d k : Nat) (s : State) : Host.Outcome State Fault Refusal :=
  .next (s.binary d k 0x213 1 rol)

/-- ROR: ( a n -- a shifted or rotated by bits [4:0] of n ) (R68, R70). -/
def execRor (d k : Nat) (s : State) : Host.Outcome State Fault Refusal :=
  .next (s.binary d k 0x214 1 ror)

/-- BFX: ( a p n -- field ) (R68, R70). -/
def execBfx (d k : Nat) (s : State) : Host.Outcome State Fault Refusal :=
  .next (s.dataOp d k 0x220 3 1 1 fun x => [bfx (x.a 2) (x.a 1) (x.a 0)])

/-- BFI: ( a v p n -- a' ) (R68, R70). -/
def execBfi (d k : Nat) (s : State) : Host.Outcome State Fault Refusal :=
  .next (s.dataOp d k 0x221 4 1 1 fun x => [bfi (x.a 3) (x.a 2) (x.a 1) (x.a 0)])

/-- CLZ: the leading zeros of a (R68). -/
def execClz (d k : Nat) (s : State) : Host.Outcome State Fault Refusal :=
  .next (s.unary d k 0x230 clz)

/-- POPC: the one bits of a (R68). -/
def execPopc (d k : Nat) (s : State) : Host.Outcome State Fault Refusal :=
  .next (s.unary d k 0x231 popc)

/-- SEXB: bits [7:0] sign-extended (R68). -/
def execSexb (d k : Nat) (s : State) : Host.Outcome State Fault Refusal :=
  .next (s.unary d k 0x232 (sext 8))

/-- SEXH: bits [15:0] sign-extended (R68). -/
def execSexh (d k : Nat) (s : State) : Host.Outcome State Fault Refusal :=
  .next (s.unary d k 0x233 (sext 16))

/-- ZEXB: bits [7:0] (R68). -/
def execZexb (d k : Nat) (s : State) : Host.Outcome State Fault Refusal :=
  .next (s.unary d k 0x234 (zext 8))

/-- ZEXH: bits [15:0] (R68). -/
def execZexh (d k : Nat) (s : State) : Host.Outcome State Fault Refusal :=
  .next (s.unary d k 0x235 (zext 16))

/-- CEQ: ( a b -- ); r: ( -- whether it holds of a and b ) (R68). -/
def execCeq (d k : Nat) (s : State) : Host.Outcome State Fault Refusal :=
  .next (s.compare d k 0x300 0)

/-- CNE: ( a b -- ); r: ( -- whether it holds of a and b ) (R68). -/
def execCne (d k : Nat) (s : State) : Host.Outcome State Fault Refusal :=
  .next (s.compare d k 0x301 1)

/-- CLT: ( a b -- ); r: ( -- whether it holds of a and b ) (R68). -/
def execClt (d k : Nat) (s : State) : Host.Outcome State Fault Refusal :=
  .next (s.compare d k 0x302 2)

/-- CGE: ( a b -- ); r: ( -- whether it holds of a and b ) (R68). -/
def execCge (d k : Nat) (s : State) : Host.Outcome State Fault Refusal :=
  .next (s.compare d k 0x303 3)

/-- CLTU: ( a b -- ); r: ( -- whether it holds of a and b ) (R68). -/
def execCltu (d k : Nat) (s : State) : Host.Outcome State Fault Refusal :=
  .next (s.compare d k 0x304 4)

/-- CGEU: ( a b -- ); r: ( -- whether it holds of a and b ) (R68). -/
def execCgeu (d k : Nat) (s : State) : Host.Outcome State Fault Refusal :=
  .next (s.compare d k 0x305 5)

/-- SEL: ( a b -- x ); r: ( c -- ); x := b if c, else a (R68). -/
def execSel (d k : Nat) (s : State) : Host.Outcome State Fault Refusal :=
  .next (s.pureS d k 0x1310 1 { dn := 2, dp := 1, rn := 1 } 1 fun x => ([if x.rung 0 then x.a 0 else x.a 1], [], []))

/-- A literal of `len` parcels (R71). -/
def State.literal (s : State) (d k opc len : Nat) (v : Word) : State :=
  s.pureS d k opc len { dp := 1 } len fun _ => ([v], [], [])

/-- LIT11: bits [10:0] sign-extended (R71). -/
def execLit11 (d k : Nat) (v : Nat) (s : State) : Host.Outcome State Fault Refusal :=
  .next (s.literal d k (0x7000 + v % 2 ^ 11) 1 (sext 11 (w32 v)))

/-- LIT16S: the parcel sign-extended (R71). -/
def execLit16s (d k : Nat) (v : Nat) (s : State) : Host.Outcome State Fault Refusal :=
  .next (s.literal d k 0x7800 2 (sext16 v))

/-- LIT16U: the parcel zero-extended (R71). -/
def execLit16u (d k : Nat) (v : Nat) (s : State) : Host.Outcome State Fault Refusal :=
  .next (s.literal d k 0x7801 2 (w32 (v % 2 ^ 16)))

/-- LIT32: the 32-bit value of both parcels (R71). -/
def execLit32 (d k : Nat) (v : Nat) (s : State) : Host.Outcome State Fault Refusal :=
  .next (s.literal d k 0x7802 3 (w32 v))

/-- LITA: the parcel address of this opcode parcel plus the sign-extended parcel (R71). -/
def execLita (d k : Nat) (v : Nat) (s : State) : Host.Outcome State Fault Refusal :=
  .next (s.literal d k 0x7803 2 (w32 (s.core d k).pc + sext16 v))

end Sys2Proof.Machine
end

