-- ==== Sys2Proof/Machine/MemForm.lean ====
section
/-! DEFINITION. Memory form: moves, arithmetic, branches, I-space accesses, form changes and returns (R96 to R104, R120 to
R122). -/

namespace Sys2Proof.Machine

/-- A value that is read at the width of the instruction; one that is written; a word read and a word written, whatever SZ
gives (R100). -/
def inArg (sz : Nat) (o : Opd) : Arg := { o := o, role := rd, n := 2 ^ sz }
def outArg (sz : Nat) (o : Opd) : Arg := { o := o, role := wr, n := 2 ^ sz }
def inWord (o : Opd) : Arg := { o := o, role := rdX, n := 4 }

/-- Value `i` of those read, as a word. -/
def val (vs : List Nat) (i : Nat) : Word := w32 (vs.getD i 0)

/-- d := f a b (R101). -/
def State.memOp (s : State) (d k op sz : Nat) (a b x : Opd) (cost : Nat) (f : Word → Word → Word) : State :=
  s.opM d k op sz [inArg sz a, inArg sz b, outArg sz x] cost fun vs t => .done [(f (val vs 0) (val vs 1)).toNat] t

/-- DIVU and REMU, which set CORE_STAT.DZ on a zero divisor (R69, R101). -/
def State.memDiv (s : State) (d k op sz : Nat) (a b x : Opd) (f : Word → Word → Word) : State :=
  s.opM d k op sz [inArg sz a, inArg sz b, outArg sz x] 19 fun vs t =>
    .done [(f (val vs 0) (val vs 1)).toNat] (t.noteDiv d k (val vs 1))

/-- MOV: d := s (R101). -/
def execMov (d k sz : Nat) (a x : Opd) (s : State) : Host.Outcome State Fault Refusal :=
  .next (s.opM d k 0x01 sz [inArg sz a, outArg sz x] 0 fun vs t => .done [(val vs 0).toNat] t)

/-- ADD: d := a + b (R101). -/
def execAddM (d k sz : Nat) (a b x : Opd) (s : State) : Host.Outcome State Fault Refusal :=
  .next (s.memOp d k 0x02 sz a b x 0 fun a b => a + b)

/-- SUB: d := a − b (R101). -/
def execSubM (d k sz : Nat) (a b x : Opd) (s : State) : Host.Outcome State Fault Refusal :=
  .next (s.memOp d k 0x03 sz a b x 0 fun a b => a - b)

/-- AND: d := a ∧ b (R101). -/
def execAndM (d k sz : Nat) (a b x : Opd) (s : State) : Host.Outcome State Fault Refusal :=
  .next (s.memOp d k 0x04 sz a b x 0 fun a b => a &&& b)

/-- OR: d := a ∨ b (R101). -/
def execOrM (d k sz : Nat) (a b x : Opd) (s : State) : Host.Outcome State Fault Refusal :=
  .next (s.memOp d k 0x05 sz a b x 0 fun a b => a ||| b)

/-- XOR: d := a ⊕ b (R101). -/
def execXorM (d k sz : Nat) (a b x : Opd) (s : State) : Host.Outcome State Fault Refusal :=
  .next (s.memOp d k 0x06 sz a b x 0 fun a b => a ^^^ b)

/-- ANDN: d := a ∧ ¬b (R101). -/
def execAndnM (d k sz : Nat) (a b x : Opd) (s : State) : Host.Outcome State Fault Refusal :=
  .next (s.memOp d k 0x07 sz a b x 0 fun a b => a &&& ~~~b)

/-- SHL: d := a << n (R70, R101). -/
def execShlM (d k sz : Nat) (a n x : Opd) (s : State) : Host.Outcome State Fault Refusal :=
  .next (s.memOp d k 0x08 sz a n x 0 shl)

/-- SHR: d := a >> n, zero fill (R70, R101). -/
def execShrM (d k sz : Nat) (a n x : Opd) (s : State) : Host.Outcome State Fault Refusal :=
  .next (s.memOp d k 0x09 sz a n x 0 shr)

/-- SAR: d := a >> n, sign fill (R70, R101). -/
def execSarM (d k sz : Nat) (a n x : Opd) (s : State) : Host.Outcome State Fault Refusal :=
  .next (s.memOp d k 0x0A sz a n x 0 sar)

/-- MUL: d := low 32 bits of a × b (R101). -/
def execMulM (d k sz : Nat) (a b x : Opd) (s : State) : Host.Outcome State Fault Refusal :=
  .next (s.memOp d k 0x0B sz a b x 2 fun a b => a * b)

/-- DIVU: d := a ÷ b, unsigned (R69, R101). -/
def execDivuM (d k sz : Nat) (a b x : Opd) (s : State) : Host.Outcome State Fault Refusal :=
  .next (s.memDiv d k 0x0C sz a b x divU)

/-- REMU: d := a rem b, unsigned (R69, R101). -/
def execRemuM (d k sz : Nat) (a b x : Opd) (s : State) : Host.Outcome State Fault Refusal :=
  .next (s.memDiv d k 0x0D sz a b x remU)

/-! ### Branches -/

/-- B.cc: branch to the delay slot plus disp if condition c holds at the instruction's width (R100, R101, R103). -/
def execBCc (d k c sz : Nat) (a b disp : Opd) (s : State) : Host.Outcome State Fault Refusal :=
  let l := [inArg sz a, inArg sz b, { inWord disp with role := rd }]
  .next (s.opM d k (0x10 + c % 8) sz l 0
    (fun vs t => .done [] (t.setBranch d k (argsLen l) (condition (c % 8) (8 * 2 ^ sz) (val vs 0) (val vs 1))
      ((t.core d k).relTarget (argsLen l) (val vs 2))))
    (slotCause := some 0x20))

/-- JAL.M: l := the address after the delay slot; go to t (R101, R103). -/
def execJalM (d k sz : Nat) (tgt link : Opd) (s : State) : Host.Outcome State Fault Refusal :=
  let l := [{ inWord tgt with role := rd }, { inWord link with role := wr }]
  .next (s.opM d k 0x18 sz l 0
    (fun vs t => .done [t.slotEnd d k ((t.core d k).pc + argsLen l)] (t.setBranch d k (argsLen l) true (val vs 0).toNat))
    (slotCause := some 0x20))

/-! ### I-space -/

/-- A word access to I-space at an odd parcel address (R104). -/
def oddWord (sz ia : Nat) : Bool := decide (sz = 2 ∧ ia % 2 = 1)

/-- The value of an operand before it is read for its instruction, where it can be read. -/
def State.peekLoc (s : State) (d k : Nat) (x : Loc) : Option Nat :=
  if (s.locRefused d k 4 false x).isSome then none
  else match s.readLoc d k 4 x with
    | .ok v _ => some v
    | _ => none

/-- A refused I-space access of an instruction: the capture, with SPACE 0 (R104). -/
def State.iRefused (s : State) (d k ia n code : Nat) (write : Bool) : State := s.refuse (.core d k) 0 ia (ia + n / 2 - 1) write code

/-- The I-space address of an instruction is operand `i` (from 0): odd for a word it is misaligned, and `refused` gives the
code that refuses it (R104, R115). -/
def earlyI (d k sz i : Nat) (write : Bool) (refused : State → Nat → Option Nat) : Early :=
  let ia := fun (xs : List Loc) (t : State) => (xs[i]?).bind fun x => t.peekLoc d k x
  { mis := fun xs t => (ia xs t).bind fun a => if oddWord sz a then some (i + 1, 0x43, t) else none
    ref := fun xs t => (ia xs t).bind fun a => (refused t a).map fun c => (i + 1, 0x03, t.iRefused d k a (2 ^ sz) c write) }

/-- ILOAD reads any mapped address of I-space (R104). -/
def State.iReadCheck (s : State) (d k a : Nat) : Option Nat := if (s.iLoc d k a).isNone then some 0xF0 else none

/-- ILOAD: d := the parcel at ia, or the parcels ia and ia + 1; 6 cycles more from shared code SRAM (R101, R102, R104). -/
def execIload (d k sz : Nat) (ia x : Opd) (s : State) : Host.Outcome State Fault Refusal :=
  .next (s.opM d k 0x20 sz [inWord ia, { outArg sz x with role := wrX }] 1
    (fun vs t =>
      let a := (val vs 0).toNat
      match t.iBytes d k a (2 ^ sz) with
      | (some v, t) => .done [v] (t.spend d k (if 0x80000 ≤ a then 6 else 0))
      | (none, t) => .trap 0x60 1 t)
    (early := earlyI d k sz 0 false fun t a => t.iReadCheck d k a))

/-- ISTORE of a value at an I-space address (R44, R104). -/
def State.istoreBody (s : State) (d k sz a v : Nat) : MBody :=
  match s.iWriteCheck d k a with
  | some c => .trap 0x03 2 (s.iRefused d k a (2 ^ sz) c true)
  | none =>
    match s.iStore d k a (2 ^ sz) v with
    | (true, t) => .done [] t
    | (false, t) => .trap 0x60 2 t

/-- ISTORE: the parcel at ia := s, or the parcels ia and ia + 1 (R101, R104). -/
def execIstore (d k sz : Nat) (a ia : Opd) (s : State) : Host.Outcome State Fault Refusal :=
  .next (s.opM d k 0x21 sz [{ inArg sz a with role := rdX }, inWord ia] 1
    (fun vs t => t.istoreBody d k sz (val vs 1).toNat (val vs 0).toNat)
    (early := earlyI d k sz 1 true fun t a => t.iWriteCheck d k a))

/-! ### Form changes and returns -/

/-- The core goes on in stack form at an address (R120). -/
def State.enterStack (s : State) (d k tgt : Nat) : State :=
  s.setCore d k { (s.core d k).goTo tgt true with form := true }

/-- Two entries go onto the return stack: the address after ENTER.SC, and on top the form-return marker (R120). -/
def State.pushReturn (s : State) (d k : Nat) : State :=
  let c := s.core d k
  s.setCore d k { c with hot := { c.hot with ts := w32 formMarker :: w32 c.pc :: c.hot.ts } }

/-- ENTER.S: stack form at t (R101, R120). -/
def execEnterS (d k sz : Nat) (tgt : Opd) (s : State) : Host.Outcome State Fault Refusal :=
  .next (s.opM d k 0xF0 sz [inWord tgt] 2 (fun _ t => .done [] t) (slotCause := some 0x20)
    (after := fun vs t => t.enterStack d k (val vs 0).toNat))

/-- ENTER.SC: stack form at t as a call; with fewer than two return-stack entries free it traps (R101, R120). -/
def execEnterSc (d k sz : Nat) (tgt : Opd) (s : State) : Host.Outcome State Fault Refusal :=
  .next (s.opM d k 0xF1 sz [inWord tgt] 2
    (fun _ t => if 30 < (t.core d k).hot.ts.length then .trap 0x34 0 t else .done [] t) (slotCause := some 0x20)
    (after := fun vs t => (t.pushReturn d k).enterStack d k (val vs 0).toNat))

/-- The words of the top trap frame (R111, R122). -/
def State.topFrame (s : State) (d k : Nat) : Option (List Byte) × State :=
  s.readBytes (.lram d k) (0x100 + 32 * (s.rd (.core d k) CORE_TRAP_DEPTH - 1)) 32

/-- The core as a return leaves it before it goes on: the form, and the DI mask of the frame with the cycles left (R90,
R94, R122). -/
def Core.unframed (c : Core) (info : Nat) (stack : Bool) : Core :=
  { c with form := stack, di := if info.testBit 18 then some (c.cyc + bits info 20 12) else none }

/-- Where a return goes: to RETA, resuming a block instruction or taking up a pending branch; or, where the handler has
changed RETA, straight to the recorded target (R87, R121, R122). A BTGT of 0xFFFF_FFF0 is taken for a form return also
where a JMPI or CALLI left it there (DEDUCED, log entry 153). -/
def State.resume (s : State) (d k info reta iaddr btgt : Nat) : State :=
  let c := s.core d k
  let form := decide (btgt = formMarker)
  if info.testBit 17 then
    if reta = iaddr then s.setCore d k { c.goTo reta true with br := some { tgt := btgt, toMem := form } }
    else if form then s.formReturn d k
    else s.setCore d k (c.goTo btgt true)
  else s.setCore d k { c.goTo reta true with blk := info.testBit 19 && decide (reta = iaddr) }

/-- RETURN FROM AN EXCEPTION through the top frame (R122). -/
def State.returnFrame (s : State) (d k : Nat) (stack : Bool) : State :=
  match s.topFrame d k with
  | (none, t) => t
  | (some f, t) =>
    let b := Blk.core d k
    let info := numAt f 0 4
    let t := t.setCore d k ((t.core d k).unframed info stack)
    (t.resume d k info (numAt f 8 4) (numAt f 12 4) (numAt f 16 4)).wr b CORE_TRAP_DEPTH (s.rd b CORE_TRAP_DEPTH - 1)

/-- A return traps where no frame is held or the frame's FORM differs (R122). -/
def State.returnBody (s : State) (d k : Nat) (stack : Bool) : MBody :=
  if s.rd (.core d k) CORE_TRAP_DEPTH = 0 then .trap 0x16 0 s
  else if s.ramBehind d k then .stall s
  else
    match s.topFrame d k with
    | (none, t) => .trap 0x60 0 t
    | (some f, t) => if (numAt f 0 4).testBit 16 = stack then .done [] t else .trap 0x16 0 t

/-- RET.S: return through the top trap frame into stack form (R101, R122). -/
def execRetS (d k : Nat) (s : State) : Host.Outcome State Fault Refusal :=
  .next (s.opM d k 0xF2 0 [] 10 (fun _ t => t.returnBody d k true) (slotCause := some 0x20)
    (after := fun _ t => t.returnFrame d k true))

/-- RET.M: return through the top trap frame into memory form (R101, R122). -/
def execRetM (d k : Nat) (s : State) : Host.Outcome State Fault Refusal :=
  .next (s.opM d k 0xF3 0 [] 10 (fun _ t => t.returnBody d k false) (slotCause := some 0x20)
    (after := fun _ t => t.returnFrame d k false))

/-- DI.M: as DI (R90, R101). -/
def execDiM (d k : Nat) (s : State) : Host.Outcome State Fault Refusal :=
  .next (s.opM d k 0xF4 0 [] 0 fun _ t => .done [] (t.maskInts d k))

/-- EI.M: as EI (R90, R101). -/
def execEiM (d k : Nat) (s : State) : Host.Outcome State Fault Refusal :=
  .next (s.opM d k 0xF5 0 [] 0 fun _ t => .done [] (t.unmaskInts d k))

/-- FENCE.M: as FENCE (R89, R101). -/
def execFenceM (d k : Nat) (s : State) : Host.Outcome State Fault Refusal :=
  .next (s.opM d k 0xF6 0 [] 0 fun _ t => if t.heldOf (.core d k) = [] then .done [] t else .stall t)

/-- BRK.M: the breakpoint trap (R101, R112). -/
def execBrkM (d k : Nat) (s : State) : Host.Outcome State Fault Refusal :=
  .next (s.opM d k 0xF7 0 [] 0 fun _ t => .trap 0x70 0 t)

end Sys2Proof.Machine
end

