-- ==== Sys2Proof/Machine/BlockForm.lean ====
section
/-! DEFINITION. The resumable block instructions (R105 to R109). -/

namespace Sys2Proof.Machine

/-- The place of a word operand, where it is known: direct or base + disp16 (R105). -/
def State.wordLoc (s : State) (d k : Nat) (o : Opd) : Option Loc :=
  match s.resolve d k 4 [] o with
  | .ok (x, _) _ => some x
  | _ => none

/-- The address of a word operand in core-local data RAM (R105). -/
def State.wordAt (s : State) (d k : Nat) (o : Opd) : Option Nat :=
  match s.wordLoc d k o with
  | some (.mem a) => if a < 0x40000 then some a else none
  | _ => none

/-- A word operand that resolves outside core-local data RAM breaks R105: cause 0x15. One whose base word is unreadable meets
the bus error later (R115). -/
def State.blockBad (s : State) (d k : Nat) (_ : Nat) (a : Arg) : Option Nat :=
  match a.role.kind, s.wordLoc d k a.o with
  | .word, some (.mem x) => if x < 0x40000 then none else some 0x15
  | _, _ => none

/-- How one element ends: the next may start; the instruction completes here; it traps; it stops before the element; or
the element is in flight and has to wait. -/
inductive Elem where
  | next (s : State)
  | found (s : State)
  | trap (cause opidx : Nat) (s : State)
  | wait (s : State)
  | flight (s : State)

/-- A trap of an element's pointers: misaligned, or else refused (R109, R115). -/
def State.pointerTrap (s : State) (d k : Nat) (ax : List (Nat × Arg × Loc)) : Option (Nat × Nat × State) :=
  let m := ax.findSome? fun e => (e.2.2.misalign e.2.1.n).map fun c => (e.1, c, s)
  let r := ax.findSome? fun e => (s.locRefused d k e.2.1.n e.2.1.role.write e.2.2).map fun c => (e.1, c.1, c.2)
  m.or r

/-- Operands with their specifier numbers, from `i`. -/
def numbered (i : Nat) : List (Arg × Loc) → List (Nat × Arg × Loc)
  | [] => []
  | (a, x) :: l => (i, a, x) :: numbered (i + 1) l

/-- Words of the core's own RAM written in place after an element, in order (R106). -/
def State.inPlace (s : State) (d k : Nat) (ws : List (Nat × Nat)) : State :=
  s.each ws fun t e => t.ramPut d k e.1 (leBytes 4 e.2)

/-- One element (R106, R109): its pointers, from specifier `i`, are resolved, checked and read; `found` ends the instruction
at this element; `upd` gives the words other than c that the element writes in place, from those read, before anything is
written; then the values are written, and the pointer base words, c and those words. `vals` gives the values written from
those read. An element whose writes do not fit into the core's queue waits (R76). -/
def State.element (s : State) (d k n i : Nat) (ptrs : List Arg) (lc count : Nat) (vals : List Nat → List Nat)
    (found : List Nat → Bool) (upd : List Nat → State → Got (List (Nat × Nat))) : Elem :=
  match s.resolveArgs d k n [] ptrs with
  | none => .flight s
  | some (xs, u, t) =>
    let ax := ptrs.zip xs
    match t.pointerTrap d k (numbered i ax) with
    | some (i, c, t) => .trap c i t
    | none =>
      match t.stopArgs d k i ax with
      | some (.trap c i t) => .trap c i t
      | some (.stall t) => .flight t
      | some (.ok _ _) => .wait s
      | none =>
        match t.readArgs d k i ax with
        | .trap c i t => .trap c i t
        | .stall _ => .flight s
        | .ok vs t =>
          if found vs then .found t
          else
            match upd vs t with
            | .trap c t => .trap c 2 t
            | .stall _ => .flight s
            | .ok ws t =>
              match t.writeArgs d k i ax (vals vs) with
              | .trap c i t => .trap c i t
              | .stall _ => .flight s
              | .ok _ t =>
                let t := (t.putBase d k u).inPlace d k ((lc, count - 1) :: ws)
                if t.overfull d k then .flight s else .next t

/-- At most `n` elements, as long as c is not 0 (R105, R106, R108). -/
def State.elements (s : State) (d k lc cost : Nat) (elem : Nat → State → Elem) : Nat → Elem
  | 0 => match s.localWord d k lc with
    | .ok 0 t => .found t
    | .trap c t => .trap c 3 t
    | _ => .wait s
  | n + 1 =>
    match s.localWord d k lc with
    | .trap c t => .trap c 3 t
    | .stall t => .flight t
    | .ok 0 t => .found t
    | .ok c t =>
      match elem c t with
      | .next t => (t.spend d k cost).elements d k lc cost elem n
      | x => x

/-- A block instruction goes on from how its elements have ended: stopped between elements, or with an element in flight,
which completes before anything is entered (R106, R108, R112). -/
def Elem.finish (e : Elem) (d k opc len : Nat) : State :=
  match e with
  | .next t | .wait t => (t.setCore d k { t.core d k with blk := true, busy := false }).boundary d k
  | .flight t => t.setCore d k { t.core d k with blk := true, busy := true }
  | .found t => (t.advance d k len none).boundary d k
  | .trap c i t => t.trap d k opc len c i

/-- A block instruction starts or resumes: 4 cycles of start-up, and those of its parcels, when it starts (R102, R106). -/
def State.blockStart (s : State) (d k len : Nat) : State :=
  let c := s.core d k
  s.setCore d k { c with blk := false, cyc := c.cyc + if c.blk then 0 else len + 4 }

/-- The operands that are no pointers, with their numbers, at the places they have when the instruction starts or resumes
(R105). -/
def State.fixedArgs (s : State) (d k n : Nat) : Nat → List Arg → List (Nat × Arg × Loc)
  | _, [] => []
  | i, a :: l =>
    let r := s.fixedArgs d k n (i + 1) l
    if a.role.kind = .ptr then r
    else match s.resolve d k n [] a.o with
      | .ok (x, _) _ => (i, a, x) :: r
      | _ => r

/-- The count reads zero, at a place that can be reached (R105). -/
def State.countIsZero (s : State) (d k : Nat) (l : List (Nat × Arg × Loc)) : Option State :=
  match l.find? fun e => decide (e.1 = 3) with
  | some (i, a, .mem x) =>
    if (s.pointerTrap d k [(i, a, .mem x)]).isSome then none
    else match s.localWord d k x with
      | .ok 0 t => some t
      | _ => none
  | _ => none

/-- The first operand, of those that are no pointers, whose place is not known: the bus error of its base word (R115). -/
def badArg (l : List (Nat × Arg × Loc)) : Option Nat := (l.find? fun e => decide (e.2.2 = .bad)).map fun e => e.1

/-- A block instruction of OP `op` over three operands (R105 to R109): at most `upto` elements are carried out before it
is stopped. One that starts with c = 0 completes at once. `run` reads what is read once, and gives what carries out one
element at a count; it takes the address of c. -/
def State.blockM (s : State) (d k op sz : Nat) (l : List Arg) (cost : Nat) (upto : Option Nat)
    (run : Nat → State → Except (Nat × State) (State × (Nat → State → Elem))) : State :=
  let opc := memOpc op sz
  let len := argsLen l
  s.runM d k op sz l (bad := s.blockBad d k) (slotCause := some 0x21) fun _ t =>
    if t.ramBehind d k then t.stalled d k
    else
    let fixed := t.fixedArgs d k (2 ^ sz) 1 l
    match t.countIsZero d k fixed with
    | some u => ((u.blockStart d k len).advance d k len none).boundary d k
    | none =>
      match t.pointerTrap d k fixed with
      | some (i, c, t) => t.trap d k opc len c i
      | none =>
        match badArg fixed with
        | some i => t.trap d k opc len 0x60 i
        | none =>
          let lc := (((l[2]?).bind fun a => t.wordAt d k a.o)).getD 0
          let t := t.blockStart d k len
          match t.localWord d k lc with
          | .ok n t =>
            match run lc t with
            | .error (c, t) => t.trap d k opc len c 1
            | .ok (t, elem) => (t.elements d k lc cost elem (min n (upto.getD n))).finish d k opc len
          | .trap c t => t.trap d k opc len c 3
          | .stall t => t.stalled d k

/-- A pointer that is read, one that is written, a word written in place, and a value that is read. -/
def ptrIn (sz : Nat) (o : Opd) : Arg := { o := o, role := rdP, n := 2 ^ sz }
def ptrOut (sz : Nat) (o : Opd) : Arg := { o := o, role := wrP, n := 2 ^ sz }
def wordOpd (o : Opd) : Arg := { o := o, role := wdP, n := 4 }
def fillOpd (sz : Nat) (o : Opd) : Arg := { o := o, role := rdX, n := 2 ^ sz }

/-- MOVBLK: the element at p is written at q (R105, R106). -/
def execMovblk (d k sz : Nat) (p q c : Opd) (upto : Option Nat) (s : State) : Host.Outcome State Fault Refusal :=
  let ptrs := [ptrIn sz p, ptrOut sz q]
  .next (s.blockM d k 0x30 sz (ptrs ++ [wordOpd c]) 2 upto fun lc t =>
    .ok (t, fun n t => t.element d k (2 ^ sz) 1 ptrs lc n id (fun _ => false) fun _ t => .ok [] t))

/-- The value of FILLBLK, read when the instruction starts and when it resumes; its base word is not stepped (R105). -/
def State.fillValue (s : State) (d k sz : Nat) (v : Opd) : Got Nat :=
  match s.resolve d k (2 ^ sz) [] v with
  | .ok (x, _) t => t.readLoc d k (2 ^ sz) x
  | .trap c t => .trap c t
  | .stall t => .stall t

/-- FILLBLK: v is written at q (R105, R106). A v whose answer has not come stops the instruction before its element. -/
def execFillblk (d k sz : Nat) (v q c : Opd) (upto : Option Nat) (s : State) : Host.Outcome State Fault Refusal :=
  let ptrs := [ptrOut sz q]
  .next (s.blockM d k 0x31 sz (fillOpd sz v :: ptrs ++ [wordOpd c]) 1 upto fun lc t =>
    match t.fillValue d k sz v with
    | .ok x t => .ok (t, fun n t => t.element d k (2 ^ sz) 2 ptrs lc n (fun _ => [x]) (fun _ => false) fun _ t => .ok [] t)
    | .trap c t => .error (c, t)
    | .stall t => .ok (t, fun _ t => .flight t))

/-- The CRC word at `lr` takes the bytes of an element, lowest address first (R106). -/
def State.crcInto (s : State) (d k lr n v : Nat) : Got (List (Nat × Nat)) :=
  match s.localWord d k lr with
  | .ok r t => .ok [(lr, crc32cRaw r (leBytes n v))] t
  | .trap c t => .trap c t
  | .stall t => .stall t

/-- CRCBLK: the element at p is fed into r with CRC-32C (R105, R106). -/
def execCrcblk (d k sz : Nat) (p r c : Opd) (upto : Option Nat) (s : State) : Host.Outcome State Fault Refusal :=
  let ptrs := [ptrIn sz p]
  .next (s.blockM d k 0x32 sz (ptrs ++ [wordOpd r, wordOpd c]) (2 ^ sz) upto fun lc t =>
    let lr := (t.wordAt d k r).getD 0
    .ok (t, fun n t => t.element d k (2 ^ sz) 1 ptrs lc n (fun _ => []) (fun _ => false) fun vs t =>
      t.crcInto d k lr (2 ^ sz) (vs.getD 0 0)))

/-- CMPBLK: the elements at p and q are compared; a pair that differs completes it (R105, R106). -/
def execCmpblk (d k sz : Nat) (p q c : Opd) (upto : Option Nat) (s : State) : Host.Outcome State Fault Refusal :=
  let ptrs := [ptrIn sz p, ptrIn sz q]
  .next (s.blockM d k 0x33 sz (ptrs ++ [wordOpd c]) 3 upto fun lc t =>
    .ok (t, fun n t => t.element d k (2 ^ sz) 1 ptrs lc n (fun _ => []) (fun vs => decide (vs.getD 0 0 ≠ vs.getD 1 0))
      fun _ t => .ok [] t))

end Sys2Proof.Machine
end

