-- ==== Sys2Proof/Machine/CoreEvents.lean ====
section
/-! DEFINITION. What reaches a scan core at its boundaries: external interrupts, the NMI, plane faults, bus errors of
posted accesses, the end of a DI mask, reserved opcodes and fetches that fail (R55, R77, R83, R90, R96, R114, R197, R342 to
R345, R356). -/

namespace Sys2Proof.Machine

/-! ### External interrupts -/

/-- The level at which a controller delivers a source to scan core `k` of die `d`; 0 where it does not (R342, R343). -/
def State.delivered (s : State) (c : Option Nat) (d k src : Nat) : Nat :=
  let b := ctlBlk c
  if s.rd b (IRQ_SRC_TGT src) = 0x40 + 4 * d + k ∧ (c.isNone ∨ s.consumers d src = []) then s.rd b (IRQ_SRC_PRIO src) else 0

/-- The sources of a controller that are pending and enabled (R342). -/
def State.openSources (s : State) (c : Option Nat) : List Nat :=
  (List.range 16).flatMap fun w =>
    (onesOf (s.rd (ctlBlk c) (IRQ_PEND_PEND w) &&& s.rd (ctlBlk c) (IRQ_EN_EN w))).map fun i => 32 * w + i

/-- The presented level of a core (R344). -/
def State.presented (s : State) (d k : Nat) : Nat :=
  [none, some d].foldl (fun m c => (s.openSources c).foldl (fun m src => max m (s.delivered c d k src)) m) 0

/-- The lowest owned lane of a core with a plane fault pending, by its index, and the fault's kind (R197). -/
def State.planePending (s : State) (d k : Nat) : Option (Nat × Nat) :=
  (List.range 3).findSome? fun i => ((s.lane d (3 * k + i)).xfault).map fun kind => (i, kind)

/-- An external interrupt of level `l` may be entered now: nothing that R114 ranks before it is pending, and R344 allows
it. -/
def State.irqAllowed (s : State) (d k l : Nat) : Bool :=
  let c := s.core d k
  s.atBoundary d k && !c.busErr && !c.nmi && (s.planePending d k).isNone && c.di.isNone &&
    decide (c.prio.headD 0 < l ∧ s.rd (.irqDie d) (IRQ_THRESH_THRESH k) < l ∧ c.prio.length < 8 ∧
      s.rd (.core d k) CORE_TRAP_DEPTH < 7)

/-- The presented level is entered and pushed onto the priority stack (R345). -/
def State.interruptEntry (s : State) (d k : Nat) : State :=
  let l := s.presented d k
  if s.irqAllowed d k l then
    let c := s.core d k
    (s.setCore d k { c with prio := l :: c.prio }).enterAsync d k (0x40 + 4 * l) (0x80 + l) l
  else s

/-- INTERRUPT_ENTRY: at an allowed boundary a core enters the presented interrupt level (R344, R345). -/
def execInterruptEntry (d k : Nat) (s : State) : Host.Outcome State Fault Refusal := .next (s.interruptEntry d k)

/-- NMI_ENTRY: a pending NMI is entered at a boundary, whatever the DI mask and the running level (R114, R356). -/
def execNmiEntry (d k : Nat) (s : State) : Host.Outcome State Fault Refusal :=
  .next (if s.atBoundary d k && (s.core d k).nmi && !(s.core d k).busErr then
    (s.setCore d k { s.core d k with nmi := false }).enterAsync d k 0x04 0x90
  else s)

/-- A plane fault of an owned lane is entered (R114, R197). -/
def State.planeEntry (s : State) (d k : Nat) : State :=
  match s.planePending d k with
  | some (i, kind) =>
    if s.atBoundary d k && !(s.core d k).nmi && !(s.core d k).busErr then
      let j := 3 * k + i
      (s.setLane d j { s.lane d j with xfault := none }).enterAsync d k 0x1C (0xA0 + 4 * i + kind)
    else s
  | none => s

/-- PLANE_FAULT_ENTRY: a pending plane fault of an owned lane is entered, the lowest lane first (R197). -/
def execPlaneFaultEntry (d k : Nat) (s : State) : Host.Outcome State Fault Refusal := .next (s.planeEntry d k)

/-- POSTED_BUS_ERROR: a destination reports a bus error for a posted access of a core to address `a`; cause 0x62 follows
at the next boundary (R77, R114). -/
def execPostedBusError (d k a : Nat) (s : State) : Host.Outcome State Fault Refusal :=
  .next (if s.coreUp d k then (s.reportBus d k a).boundary d k else s)

/-- The mask lifts; at least 2,048 cycles have passed since the DI, however many of them the core has waited (R90). -/
def State.diExpire (s : State) (d k : Nat) : State :=
  match (s.core d k).di with
  | some e =>
    let c := s.core d k
    (s.setCore d k { c with di := none, dix := true, cyc := max c.cyc e }).offer Ev.DI_LONG (.core d k)
  | none => s

/-- DI_LIMIT_EXPIRY: a DI mask has not been ended within its cycles (R90). -/
def execDiLimitExpiry (d k : Nat) (s : State) : Host.Outcome State Fault Refusal :=
  .next (if s.coreUp d k then s.diExpire d k else s)

/-! ### Reserved opcodes -/

/-- A function code that R68 lists. -/
def listedCode (c : Nat) : Bool :=
  decide ((1 ≤ c ∧ c ≤ 8) ∨ (0x10 ≤ c ∧ c ≤ 0x22) ∨ (0x100 ≤ c ∧ c ≤ 0x10B) ∨ (0x110 ≤ c ∧ c ≤ 0x116) ∨
    (0x200 ≤ c ∧ c ≤ 0x204) ∨ (0x210 ≤ c ∧ c ≤ 0x214) ∨ c = 0x220 ∨ c = 0x221 ∨ (0x230 ≤ c ∧ c ≤ 0x235) ∨
    (0x300 ≤ c ∧ c ≤ 0x305) ∨ c = 0x310)

/-- A parcel of a class that a scan core executes is an encoding of the class's tables (R55, R65, R67, R68, R71, R73, R78,
R80, R82, R88). -/
def stackListed (w : Nat) : Bool :=
  let op := bits w 8 4
  match w / 2 ^ 12 % 16 with
  | 0x0 => if op = 0xF then decide (1 ≤ bits w 0 8 ∧ bits w 0 8 ≤ 0xF)
           else decide (1 ≤ op ∧ op ≤ 0xC) && (w.testBit 7 || decide (bits w 0 5 = 0))
  | 0x1 => listedCode (w % 2 ^ 12)
  | 0x2 => decide (bits w 0 5 = 0 ∧ (op ≤ 5 ∨ (8 ≤ op ∧ op ≤ 0xD)))
  | 0x3 => decide (w = 0x3000 ∨ w = 0x3100 ∨ (bits w 0 6 = 0 ∧ (op = 2 ∨ op = 3)))
  | 0x4 => w.testBit 8 || decide (bits w 0 8 = 0)
  | 0x5 => decide (bits w 0 8 = 0 ∧ op ≤ 8)
  | 0x7 => decide (w ≤ 0x7803)
  | 0xF => decide (w ∈ [0xF000, 0xF001, 0xF003, 0xF010, 0xF011, 0xF030, 0xF031] ∨ op = 1 ∨ op = 2)
  | _ => false

/-- The cause with which an opcode parcel is reserved in a form, if it is (R54, R55, R92, R96). -/
def reservedOpcode (form : Bool) (w : Nat) : Option Nat :=
  let cls := w / 2 ^ 12 % 16
  if form then
    if cls = 6 then some 0x12
    else if 8 ≤ cls ∧ cls ≤ 0xE then some 0x10
    else if stackListed w then none else some 0x11
  else
    match memRow (w / 2 ^ 8) with
    | some (szs, _) => if bits w 0 6 = 0 ∧ bits w 6 2 ∈ szs then none else some 0x11
    | none => some 0x11

/-- RESERVED_OPCODE_TRAP: a scan core reaches a reserved opcode parcel and takes the trap without effect (R55, R92, R96,
R112). -/
def execReservedOpcodeTrap (d k parcel : Nat) (s : State) : Host.Outcome State Fault Refusal :=
  .next (match reservedOpcode (s.core d k).form (parcel % 2 ^ 16) with
    | some c =>
      if s.coreRuns d k then
        match s.fetch d k (s.core d k).pc 1 with
        | .error (x, t) => t.trap d k 0 1 x
        | .ok t => t.trap d k (parcel % 2 ^ 16) 1 c
      else s
    | none => s)

/-- INSTRUCTION_FETCH_FAULT: a parcel of the next instruction is refused outside the running bank and the shared code SRAM,
or meets an uncorrectable error (R77, R83). -/
def execInstructionFetchFault (d k : Nat) (s : State) : Host.Outcome State Fault Refusal :=
  .next (if s.coreRuns d k then
    match s.fetch d k (s.core d k).pc (codeLen (s.peekParcel d k) (s.core d k).form (s.core d k).pc) with
    | .error (c, t) => t.trap d k 0 1 c
    | .ok _ => s
  else s)

end Sys2Proof.Machine
end

