-- ==== Sys2Proof/Machine/HostIo.lean ====
section
/-! DEFINITION. The host's requests through BAR0 and BAR2 (R364 to R367), the ring frames that reach I/O space
(R384 to R388), and how what is held in a requester's path leaves it (R541). A request is given by its offset, whether it
writes, and one item for each byte: none where the byte is not enabled, else the byte, which a read ignores. -/

namespace Sys2Proof.Machine

/-- Bytes, as an output lists them. -/
def natBytes (bs : List Byte) : List Nat := bs.map BitVec.toNat

/-- A host read completes with data words. -/
def State.hostWords (s : State) (ws : List Nat) : State := s.emit (.hostRead false (ws.flatMap fun w => natBytes (leBytes 4 w)))

/-- A host read completes with Completer Abort, which AER shows (R361, R365). -/
def State.hostAbort (s : State) : State := { s.emit (.hostRead true []) with pcie := { s.pcie with aer := s.pcie.aer ||| 2 ^ 15 } }

/-- A request that comes in D3hot is not supported: a write is discarded, and a read completes so (R361). -/
def State.hostD3 (s : State) (write : Bool) : State :=
  let t := if write then s else s.emit (.hostRead true [])
  { t with pcie := { t.pcie with aer := t.pcie.aer ||| 2 ^ 20 } }

/-! ### BAR0 -/

/-- The I/O address that a BAR0 offset reaches (R364). -/
def State.bar0Addr (s : State) (o : Nat) : Nat := s.rd .host (HOST_APER_BASE (o / 2 ^ 24)) * 2 ^ 24 + o % 2 ^ 24

/-- I/O addresses that the head never carries to a member (R386). -/
def neverCarried (a : Nat) : Bool :=
  decide ((0x30000 ≤ a ∧ a < 0x40000) ∨ (0xF000 ≤ a ∧ a < 0x10000) ∨ (0x200000 ≤ a ∧ a < 0x240000))

/-- The member to which HOST_RING_SEL has a request carried (R386). -/
def State.carriedTo (s : State) (a : Nat) : Option Nat :=
  if s.rd .host HOST_RING_SEL_PKG = 0 ∨ neverCarried a then none else some (s.rd .host HOST_RING_SEL_PKG)

/-- The member is one of the ring (R386). -/
def State.isMember (s : State) (p : Nat) : Bool := s.hasRing && decide (p < s.rd .ring RING_COUNT_N)

/-- One word written by the host: to a member, or to I/O space (R49, R364, R367, R386). -/
def State.hostWrite (s : State) (a w : Nat) : State :=
  match s.carriedTo a with
  | some p =>
    if !s.isMember p then s.refuse .host 2 a (a + 3) true 0xF0
    else if s.heldOf .host = [] then s.ringWrite p a w
    else s.setHeld .host (s.heldOf .host ++ [.ring p a w])
  | none =>
    match s.ioWrite .host a w with
    | .done t | .refused t => t
    | .stall => s

/-- `n` words of I/O space are read in ascending order; the read ends with all of them or with Completer Abort. One that waits
stays in the host's path, and what comes later waits behind it (R49, R183, R365, R367). -/
def State.hostReads (s : State) (a : Nat) (got : List Nat) : Nat → State
  | 0 => s.hostWords got
  | n + 1 =>
    match s.ioRead .host a with
    | .word w t => t.hostReads (a + 4) (got ++ [w]) n
    | .refused t | .failed t => t.hostAbort
    | .wait t => t.setHeld .host (t.heldOf .host ++ [.reads a got (n + 1)])

/-- A host read of `n` words (R364, R386). -/
def State.hostRead (s : State) (a n : Nat) : State :=
  match s.carriedTo a with
  | some p => if s.isMember p then s.ringRead .host p a n else (s.refuse .host 2 a (a + 3) false 0xF0).hostAbort
  | none =>
    match s.ioCheck .host a false, s.ioTarget a with
    | none, .ok (.proxy p o) => s.ringRead .host p o n
    | _, _ => s.hostReads a [] n

/-- A request of the host is served, or waits in the host's path as it came while an earlier write is held there; the
registers by which it is translated are read when its turn comes (R367, R541). -/
def State.hostPath (s : State) (p : Posted) (now : State → State) : State :=
  if s.heldOf .host = [] then now s else s.setHeld .host (s.heldOf .host ++ [p])

/-- The words that bytes make up. -/
def reqWords (data : List (Option Nat)) : List Nat :=
  (List.range (data.length / 4)).map fun i => leNat (((data.drop (4 * i)).take 4).map fun b => BitVec.ofNat 8 (b.getD 0))

/-- The words are written at ascending addresses. -/
def State.hostWrites (s : State) (a : Nat) : List Nat → State
  | [] => s
  | w :: ws => (s.hostWrite a w).hostWrites (a + 4) ws

/-- A request that BAR0 takes: 4 or 8 bytes, aligned, every byte enabled (R365). -/
def bar0Takes (off : Nat) (data : List (Option Nat)) : Bool :=
  decide ((data.length = 4 ∨ data.length = 8) ∧ off % data.length = 0) && data.all Option.isSome

/-- A request to BAR0 at its turn (R364, R365, R386). -/
def State.bar0Now (s : State) (off : Nat) (write : Bool) (data : List (Option Nat)) : State :=
  if !bar0Takes off data then
    let t := s.wr .host HOST_ERR_ALIGN 1
    if write then t else t.hostAbort
  else if write then s.hostWrites (s.bar0Addr off) (reqWords data)
  else s.hostRead (s.bar0Addr off) (data.length / 4)

/-- BAR0_REQUEST (R364, R365, R386). -/
def execBar0Request (off : Nat) (write : Bool) (data : List (Option Nat)) (s : State) : Host.Outcome State Fault Refusal :=
  .next (if !s.crownRuns || decide (0x4000000 ≤ off) then s
  else if s.pcie.d3hot then s.hostD3 write
  else s.hostPath (.bar0 off write data) fun t => t.bar0Now off write data)

/-! ### BAR2 -/

/-- The D-space address that a BAR2 offset reaches (R366). -/
def State.bar2Addr (s : State) (o : Nat) : Nat := s.rd .host (HOST_B2MAP_ADDR (o / 2 ^ 30)) * 2 ^ 30 + o % 2 ^ 30

/-- The enabled bytes of a request that starts at an address, as runs of consecutive bytes. -/
def byteRuns (a : Nat) : List (Option Nat) → List (Nat × List Byte)
  | [] => []
  | none :: l => byteRuns (a + 1) l
  | some b :: l =>
    match byteRuns (a + 1) l with
    | (a', bs) :: rs => if a' = a + 1 then (a, BitVec.ofNat 8 b :: bs) :: rs else (a, [BitVec.ofNat 8 b]) :: (a', bs) :: rs
    | [] => [(a, [BitVec.ofNat 8 b])]

/-- The first address and the number of bytes from the first enabled byte of a request to the last; none where no byte is
enabled. -/
def byteSpan (a : Nat) (data : List (Option Nat)) : Option (Nat × Nat) :=
  match byteRuns a data with
  | [] => none
  | (b, bs) :: rs => some (b, ((b, bs) :: rs).foldl (fun m r => max m (r.1 + r.2.length - b)) 0)

/-- One run of bytes written by the host; a page of DRAM it touches is to be compared with the peer (R320, R367). -/
def State.hostStore (s : State) (a : Nat) (bs : List Byte) : State :=
  match s.postBytes .host a bs with
  | .done t => if s.heldOf .host = [] then t.pageWrite a bs.length else t
  | .refused t => t
  | .stall => s

/-- A host write to D-space: refused whole, or its enabled bytes stored (R48, R366). -/
def State.bar2Write (s : State) (a : Nat) (data : List (Option Nat)) : State :=
  match byteSpan a data with
  | none => s
  | some (b, n) =>
    match s.dCheck .host b n true with
    | some c => s.refuse .host 1 b (b + n - 1) true c
    | none => s.each (byteRuns a data) fun t r => t.hostStore r.1 r.2

/-- A host read of D-space (R48, R366). -/
def State.bar2Read (s : State) (a : Nat) (data : List (Option Nat)) : State :=
  match byteSpan a data with
  | none => s.emit (.hostRead false [])
  | some (b, n) =>
    match s.dRead .host b n with
    | .ok bs t => t.emit (.hostRead false (natBytes bs))
    | .refused t | .ecc t => t.hostAbort

/-- A request to BAR2 at its turn (R366). -/
def State.bar2Now (s : State) (off : Nat) (write : Bool) (data : List (Option Nat)) : State :=
  if write then s.bar2Write (s.bar2Addr off) data else s.bar2Read (s.bar2Addr off) data

/-- BAR2_REQUEST (R366). -/
def execBar2Request (off : Nat) (write : Bool) (data : List (Option Nat)) (s : State) : Host.Outcome State Fault Refusal :=
  .next (if !s.crownRuns || decide (0x1000000000 < off + data.length ∨ 2 ^ 30 < off % 2 ^ 30 + data.length) then s
  else if s.pcie.d3hot then s.hostD3 write
  else s.hostPath (.bar2 off write data) fun t => t.bar2Now off write data)

/-! ### Ring frames that reach I/O space -/

/-- The package is a member that takes the head's requests. -/
def State.ringMember (s : State) : Bool := s.ringOn && !s.straps.ringHead

/-- RESP of a member to `dst`: one data word, or none where the read was refused or failed (R384). -/
def State.ringResp (s : State) (dst tag : Nat) (ws : List Nat) : State := s.ringSend "RESP" 3 dst 0 tag 0 ws

/-- A READ frame at its turn: the member reads a word as its own host would, and answers with RESP (R384, R386). -/
def State.frameRead (s : State) (src tag a : Nat) : State :=
  match s.ioRead .host a with
  | .word w t => t.ringResp src tag [w]
  | .refused t | .failed t => t.ringResp src tag []
  | .wait t => t.setHeld .host (t.heldOf .host ++ [.frame src tag a])

/-- RING_READ_RX: a READ frame arrives; behind a held write it is answered once that write is taken (R384 to R386, R541). -/
def execRingReadRx (src tag a : Nat) (s : State) : Host.Outcome State Fault Refusal :=
  .next (if !s.ringMember || decide (a % 4 ≠ 0) then s
  else s.ringHeard.hostPath (.frame src tag a) fun t => t.frameRead src tag a)

/-- RING_WRITE_RX: a member takes a word written as its own host would write it (R384, R386). -/
def execRingWriteRx (a w : Nat) (s : State) : Host.Outcome State Fault Refusal :=
  .next (if !s.ringMember || decide (a % 4 ≠ 0) then s
  else
    match s.ringHeard.ioWrite .host a (w % 2 ^ 32) with
    | .done t | .refused t => t
    | .stall => s.ringHeard)

/-- The answer to a host read that was carried: the next word is asked for, or the read completes (R365, R384). -/
def State.hostAnswer (s : State) (r : RingReq) (data : List Nat) : State :=
  let t := s.ringAnswered r
  match data with
  | [] => t.hostAbort
  | w :: _ =>
    let got := r.got ++ [w % 2 ^ 32]
    if got.length < r.words then
      (t.ringSend "READ" 1 r.member 0 t.ring.tag (r.addr + 4) []).ringAwait
        [{ r with tag := t.ring.tag, at_ := t.tb, addr := r.addr + 4, got := got }]
    else t.hostWords got

/-- The answer to a core's read that was carried: it stays until its IN is carried out again (R37). -/
def State.coreAnswer (s : State) (r : RingReq) (data : List Nat) : State :=
  let x := match data with
    | [] => { r with words := 0 }
    | w :: _ => { r with got := [w % 2 ^ 32] }
  let t := s.ringAnswered r
  { t with ring := { t.ring with reqs := t.ring.reqs ++ [x] } }

/-- RING_RESP_RX: RESP with a data word, or with none, answers a READ of the head (R384). -/
def execRingRespRx (src tag : Nat) (data : List Nat) (s : State) : Host.Outcome State Fault Refusal :=
  .next (if !s.hasRing then s
  else
    match s.ringReq src tag 1 with
    | none => s
    | some r => if r.q = 0 then s.hostAnswer r data else if r.got = [] ∧ r.words ≠ 0 then s.coreAnswer r data else s)

/-! ### Held writes -/

/-- The first held write of a requester at its destination; none where it is still held, or is a request of the host. A write refused there, or that
meets a memory error, is reported to a scan core as a bus error (R77, R541). -/
def State.drainOne (s : State) (r : Req) : Posted → Option State
  | .io a w =>
    match s.ioNow r a w with
    | .taken t => some t
    | .refused c =>
      let t := s.refuse r 2 a (a + 3) true c
      some (match r with | .core d k => t.reportBus d k a | _ => t)
    | .held => none
  | .mem a bs =>
    match State.postAcc r a (s.dWrite r a bs) with
    | .done t => some (if r = .host then t.pageWrite a bs.length else t)
    | .refused t => some t
    | .stall => none
  | .ram a bs => some (match r with | .core d k => (s.writeBytes (.lram d k) a bs).2 | _ => s)
  | .ring p a w => some (s.ringWrite p a w)
  | .bits a mask v =>
    match State.postAcc r a (s.dBits r a mask v) with
    | .done t | .refused t => some t
    | .stall => none
  | .bar0 _ _ _ | .bar2 _ _ _ | .word _ _ | .reads _ _ _ | .frame _ _ _ => none

/-- A request of the host that waited behind a held write is served; none for a held write (R367). -/
def State.serve (s : State) : Posted → Option State
  | .bar0 off write data => some (s.bar0Now off write data)
  | .bar2 off write data => some (s.bar2Now off write data)
  | .word a (some w) => some (s.hostWrite a w)
  | .word a none => some (s.hostRead a 1)
  | .reads a got n => some (s.hostReads a got n)
  | .frame src tag a => some (s.frameRead src tag a)
  | _ => none

/-- What is held leaves in order until a write is still held (R367, R541). -/
def State.drain (s : State) (r : Req) : List Posted → State
  | [] => s.setHeld r []
  | p :: ps =>
    match (s.setHeld r []).serve p with
    | some t =>
      match t.heldOf r with
      | [] => t.drain r ps
      | h => t.setHeld r (h ++ ps)
    | none =>
      match (s.setHeld r ps).drainOne r p with
      | some t => t.drain r ps
      | none => s.setHeld r (p :: ps)

/-- HELD_WRITE_TAKEN: a place has freed for the write at the head of a requester's path; it is taken, and what stands
behind it follows (R541). -/
def execHeldWriteTaken (r : Req) (s : State) : Host.Outcome State Fault Refusal :=
  .next (match s.heldOf r with
    | [] => s
    | l =>
      let t := s.drain r l
      match r with | .core d k => t.boundary d k | _ => t)

end Sys2Proof.Machine
end

