-- ==== Sys2Proof/Machine/IoRows.lean ====
section
/-! DEFINITION. The rows that name one access to a register by its requester (R10, R11, R48, R49, R77, R118, R145, R183,
R203, R347). A scan core's access ends as its IN or OUT does; the instruction's row does the rest. -/

namespace Sys2Proof.Machine

/-- A scan core's access has ended: with its value left to the instruction, with the trap of the instruction at the pc, or
not yet. -/
def State.coreAccess {α : Type} (s : State) (d k : Nat) (g : Got α) : State :=
  match g with
  | .ok _ t | .stall t => t
  | .trap c t =>
    let pc := (s.core d k).pc
    t.trap d k ((s.peekParcel d k pc).getD 0) (codeLen (s.peekParcel d k) (s.core d k).form pc) c

/-- A write of one word by a requester (R48, R49, R79); no request reaches I/O space while the crown die is not up. -/
def State.accessWrite (s : State) (r : Req) (a w : Nat) : State :=
  if !s.crownRuns then s
  else
    match r with
    | .core d k => if s.coreRuns d k then s.coreAccess d k (if a % 4 ≠ 0 then .trap 0x41 s else s.coreOut d k a w) else s
    | .host => if a % 4 ≠ 0 then s else s.hostPath (.word a (some w)) fun t => t.hostWrite a w
    | r =>
      if a % 4 ≠ 0 then s
      else match s.ioWrite r a w with
        | .done t | .refused t => t
        | .stall => s

/-- A read of one word by a requester (R48, R49, R77, R79). -/
def State.accessRead (s : State) (r : Req) (a : Nat) : State :=
  if !s.crownRuns then s
  else
    match r with
    | .core d k => if s.coreRuns d k then s.coreAccess d k (if a % 4 ≠ 0 then .trap 0x41 s else s.coreIn d k a) else s
    | .host => if a % 4 ≠ 0 then s else s.hostPath (.word a none) fun t => t.hostRead a 1
    | r =>
      if a % 4 ≠ 0 then s
      else match s.ioRead r a with
        | .word _ t | .refused t | .failed t | .wait t => t

/-- A read, or a write of the word given. -/
def State.access (s : State) (r : Req) (a : Nat) (w : Option Nat) : State :=
  match w with
  | some w => s.accessWrite r a w
  | none => s.accessRead r a

/-- REG_WRITE: a requester writes a word to a register (R11). -/
def execRegWrite (r : Req) (a w : Nat) (s : State) : Host.Outcome State Fault Refusal := .next (s.accessWrite r a (w % 2 ^ 32))

/-- RC_READ: a requester reads a register (R11). -/
def execRcRead (r : Req) (a : Nat) (s : State) : Host.Outcome State Fault Refusal := .next (s.accessRead r a)

/-- CORE_LRAM_DATA: a requester reads a core's CORE_LRAM_DATA, or writes the word given (R118, R119). -/
def execCoreLramData (r : Req) (d k : Nat) (w : Option Nat) (s : State) : Host.Outcome State Fault Refusal :=
  .next (s.access r ((Blk.core d k).base + 0x214) w)

/-- CORE_ISP_DATA: a requester reads a core's I-space port, or writes the two parcels given (R145). -/
def execCoreIspData (r : Req) (d k : Nat) (w : Option Nat) (s : State) : Host.Outcome State Fault Refusal :=
  .next (s.access r ((Blk.core d k).base + 0x21C) w)

/-- LANE_SRAM_DATA: a requester reads a lane's LANE_SRAM_DATA, or writes the word given (R183). -/
def execLaneSramData (r : Req) (d j : Nat) (w : Option Nat) (s : State) : Host.Outcome State Fault Refusal :=
  .next (s.access r ((Blk.lane d j).base + 0x1C4) w)

/-- LANE_KS_DATA: a requester reads a lane's LANE_KS_DATA, or writes the two parcels given (R203). -/
def execLaneKsData (r : Req) (d j : Nat) (w : Option Nat) (s : State) : Host.Outcome State Fault Refusal :=
  .next (s.access r ((Blk.lane d j).base + 0x1CC) w)

/-- IRQ_DONE: a requester writes a level to IRQ_DONE of scan core `k` of die `d`; only the owning core's write ends a
level (R347). -/
def execIrqDone (r : Req) (d k w : Nat) (s : State) : Host.Outcome State Fault Refusal :=
  .next (s.accessWrite r ((Blk.irqDie d).base + 0x204 + 0x20 * k) w)

end Sys2Proof.Machine
end

