-- ==== Sys2Proof/Machine/Power.lean ====
section
/-! DEFINITION. Power, reset, boot, nap and temperature (R498 to R514, R535, R538). -/

namespace Sys2Proof.Machine

/-! ### Warnings (R501, R502) -/

/-- The field die's supervisor acts: the package has left reset and is not napping. -/
def State.supervised (s : State) : Bool := decide (s.pwr.phase = .on ∨ s.pwr.phase = .napEntry ∨ s.pwr.phase = .store)

/-- A warning begins at a reading; one that returns within 50 µs of the first start goes on from there (R502). -/
def State.warnBegin (s : State) (mv : Nat) : State :=
  let t := s.wrs .sup [(SUP_SENSE_MV, mv), (SUP_STAT_PWR_WARN, 1), (SUP_STAT_WARNNOW, 1)]
  let again := match s.pwr.warnStart with | some t0 => decide (s.now < t0 + 50000) | none => false
  let t := if again then t else t.raiseCrown 112
  if again then { t with pwr := { t.pwr with warnMin := min t.pwr.warnMin mv, warnEnd := none } }
  else { t with pwr := { t.pwr with warnStart := some s.now, warnMin := mv, warnEnd := none } }

/-- PWR_WARN: PWR_SENSE reads `mv` mV; below the warning level it is a warning, and during one it may be a lower reading
(R501, R502). -/
def execPwrWarn (mv : Nat) (s : State) : Host.Outcome State Fault Refusal :=
  .next (if s.supervised && decide (mv < s.rd .sup SUP_WARNCFG_MV) then
    if s.is .sup SUP_STAT_WARNNOW then
      { s.wr .sup SUP_SENSE_MV mv with pwr := { s.pwr with warnMin := min s.pwr.warnMin mv } }
    else s.warnBegin mv
  else s)

/-- PWR_WARN_END: PWR_SENSE has risen 20 mV above the warning level; a warning shorter than 50 µs is recorded (R501,
R502). -/
def execPwrWarnEnd (mv : Nat) (s : State) : Host.Outcome State Fault Refusal :=
  .next (match s.pwr.warnStart with
    | none => s
    | some t0 =>
      if s.supervised && s.is .sup SUP_STAT_WARNNOW && decide (s.rd .sup SUP_WARNCFG_MV + 20 ≤ mv) then
        let t := s.wrs .sup [(SUP_SENSE_MV, mv), (SUP_STAT_WARNNOW, 0)]
        let t := { t with pwr := { t.pwr with warnEnd := some s.now } }
        if s.now < t0 + 50000 then t.offer Ev.PWR_DIP .field [(s.now - t0) / 1000, s.pwr.warnMin] else t
      else s)

/-- A warning has lasted 50 µs (R502). -/
def State.warnDue (s : State) : Bool :=
  match s.pwr.warnStart with
  | some t0 => decide (t0 + 50000 ≤ (s.pwr.warnEnd.getD s.now))
  | none => false

/-! ### The power-fail store (R456, R503 to R505) -/

/-- t1: RESIGN, every compute die in reset, ports DOWN, the store marked as running; NVS_PEND and the pounce pass give way
(R456, R458, R503). The hoods and the job that the reset of the dies ends are recorded now (R164, R233); what the mirror covers
is fixed by the maps that run now (R152). -/
def State.pfStart (s : State) : State :=
  let plan := s.restPlan
  let t := ((s.resign 3).offer Ev.NVS_POWERFAIL .field).wrs .nvs [(NVS_STAT_PFINC, 1), (NVS_STAT_PFRUN, 1), (NVS_PEND_PEND, 0)]
  let t := (t.portsDown.wr .sup SUP_STAT_PFRUN 1).each s.diesList fun t d => t.resetDie d 2
  { t with
    nvs := { t.nvs with pfPhase := .copying, pounceQ := [], pfRest := plan }
    pwr := { t.pwr with phase := .store, pfAt := s.now } }

/-- Pages written since the last mirror are copied, the first `n` of them or all; nothing while a restart has still to
read the restart data (R152, R153). -/
def State.pfCopy (s : State) (n : Option Nat) : State :=
  if s.img.begun && !s.img.restarting then
    let l := s.img.pages
    let k := n.getD l.length
    let t := { s with img := { s.img with pages := l.take k } }.mirror
    { t with img := { t.img with pages := l.drop k } }
  else s

/-- t3: the list is formed; with NVS_PF_CAP at 0 nothing is stored (R456, R458). -/
def State.pfList (s : State) : State :=
  let t := s.formList
  if s.rd .nvs NVS_PF_CAP_UF = 0 then t.pfStop.offerAtBoot Ev.NVS_PFNOCFG .field else t

/-- The copies go on: with `stop`, that many pages are copied when the next command comes; without, all are, the event tail
is written and the list is formed (R456). -/
def State.pfGoOn (s : State) (stop : Option Nat) : State :=
  match stop with
  | some n => s.pfCopy (some n)
  | none => (s.pfCopy none).writeTail.pfList

/-- POWERFAIL_STORE: a warning has lasted 50 µs, and the power-fail store starts and copies; `stop` where the copying is
still under way, with the pages copied by then, at the next command (R456, R502, R503, R512). -/
def execPowerfailStore (stop : Option Nat) (s : State) : Host.Outcome State Fault Refusal :=
  .next (if s.pwr.phase = .store then (if s.nvs.pfPhase = .copying then s.pfGoOn stop else s)
  else if s.supervised && s.warnDue then s.pfStart.pfGoOn stop
  else s)

/-- The rails of SUP_RAIL that take part in a rail mask. -/
def railBit (rails i : Nat) : Bool := rails.testBit i

/-- The package stays in reset until its rails return and then boots as at power-on (R505). -/
def State.railsOut (s : State) (rails : Nat) : State :=
  let t := (s.doReset 1).wr .sup SUP_RAIL_RESET rails
  { t with pwr := { t.pwr with phase := .off } }

/-- POWERFAIL_STORE_END: the store has completed or stopped, with `rails` in reset: a package reset with cause 8, or the
wait for the rails. Restart data behind a PFINC that stays 1 does not count as valid (R461, R504, R505). -/
def execPowerfailStoreEnd (rails : Nat) (s : State) : Host.Outcome State Fault Refusal :=
  .next (if s.pwr.phase = .store ∧ s.nvs.pfPhase = .stopped ∧ s.nvs.run = none then
    if rails % 256 = 0 then
      let inc := s.pfinc
      let t := s.offerAtBoot Ev.POWER_RESET .pkg [inc.toNat]
      { t with nvs := { t.nvs with restartValid := t.nvs.restartValid && !inc } }.doReset 8
    else s.railsOut rails
  else s)

/-- VDD_CRN or VDD_IO goes into reset: before t3 the copying stops where it stands, the list is formed, and PFINC stays
1; the crown die's islands stop with VDD_CRN (R504). -/
def State.crownLost (s : State) (rail : Nat) : State :=
  let t := if s.nvs.pfPhase = .copying then
      let u := s.offerAtBoot Ev.PF_CROWN_LOST .field [rail, (s.now - s.pwr.pfAt) / 1000]
      { u with nvs := { u.nvs with pfKeepInc := true } }.pfList
    else s
  if rail = 1 then t.clrBits .crownNode CLK_LOCK_LOCK 3 else t

/-- RAIL_RESET_IN_STORE: rails go into reset during a power-fail store: VSTBY stops it; the others' rails are ignored
(R503, R504). -/
def execRailResetInStore (rails : Nat) (s : State) : Host.Outcome State Fault Refusal :=
  .next (if s.pwr.phase = .store then
    if railBit rails 7 then s.railsOut (rails ||| s.rd .sup SUP_RAIL_RESET)
    else
      let t := s.orBits .sup SUP_RAIL_RESET rails
      if railBit rails 1 then t.crownLost 1 else if railBit rails 6 then t.crownLost 6 else t
  else s)

/-! ### Reset sources (R506, R507) -/

/-- A rail reset shows, is recorded at the next boot, and resets the package, after a segment being programmed unless
VSTBY itself is in reset (R506). -/
def State.railReset (s : State) (rails : Nat) : State :=
  let t := (s.wrs .sup [(SUP_RAIL_RESET, rails), (SUP_RSTCAUSE_RAILS, rails)]).offerAtBoot Ev.RAIL_FAULT .field [rails]
  if railBit rails 7 then { (t.resign 2).doReset 2 with pwr := { ((t.resign 2).doReset 2).pwr with phase := .off } }
  else t.packageReset 2

/-- RAIL_RESET: rails are in reset without a warning running for 50 µs before; in a reset that is running already only
the event is recorded (R506, R507). -/
def execRailReset (rails : Nat) (s : State) : Host.Outcome State Fault Refusal :=
  .next (
    let rails := rails % 256
    if rails = 0 ∨ s.pwr.phase = .store ∨ s.pwr.phase = .off ∨ s.pwr.phase = .nap ∨ s.warnDue then s
    else if s.pwr.phase = .reset then s.offerAtBoot Ev.RAIL_FAULT .field [rails]
    else s.railReset rails)

/-- PWR_RESET_N: the ball has been low for 1 µs: a package reset, after a segment being programmed (R507). -/
def execPwrResetN (s : State) : Host.Outcome State Fault Refusal := .next (s.packageReset 3)

/-- POWER_ON: VSTBY leaves reset: a package reset that takes in the whole field die (R507). -/
def execPowerOn (s : State) : Host.Outcome State Fault Refusal := .next (s.doReset 1)

/-! ### Boot (R487, R507, R508) -/

/-- The boot ROM's step 1: a trial's boots are counted, and beyond their limit it falls back (R487, R489). -/
def State.bootTrial (s : State) : State :=
  if s.is .upd UPD_STAT_TRIAL then
    let t := (s.bump .upd UPD_TRIALSTAT_BOOTS).dirty 30
    if s.rd .upd UPD_TRIAL_BOOTS < s.rd .upd UPD_TRIALSTAT_BOOTS + 1 then
      let b := 1 - s.upd.bootsel
      let t := { t with upd := { t.upd with bootsel := b } }
      ((t.setTrial 0).clearXfer).offer Ev.UPD_FALLBACK .crown [b, 1]
    else t
  else s

/-- The boot ROM verifies a bank by checks 2 to 7: its result, and the failure recorded (R484, R487). -/
def State.bootVerify (s : State) (b : Nat) : Nat × State :=
  let t := s.wr .upd UPD_STAT_RUNBANK b
  let r := t.verifyBank b false
  (r, t.verifyRecord b r)

/-- The boot ROM's step 2 after the first bank has failed: the other bank, or recovery (R487, R538). -/
def State.bootOther (s : State) (b r : Nat) : State :=
  let t := ((s.offer Ev.UPD_BOOT_BAD .crown [b, r]).setTrial 0).dirty 30
  let t := { t with upd := { t.upd with bootsel := 1 - b } }
  match t.bootVerify (1 - b) with
  | (r2, t) =>
    if r2 = 1 then t
    else ((t.wrs .upd [(UPD_STAT_RECOVERY, 1), (UPD_STAT_RUNBANK, 1)]).raiseCrown 200).offer Ev.UPD_RECOVERY .crown (if b = 0 then [r, r2] else [r2, r])

/-- The boot ROM selects and verifies the bank, and has segment 30 stored where that changed it (R487). -/
def State.bootRom (s : State) : State :=
  let t := s.bootTrial
  let t := match t.bootVerify t.upd.bootsel with
    | (r, u) => if r = 1 then u else u.bootOther t.upd.bootsel r
  if s.is .upd UPD_STAT_TRIAL || decide (t.upd.bootsel ≠ s.upd.bootsel) then t.requestStore (2 ^ 30) else t

/-- What the boot shows of its images: the versions in the banks, and the key slot of the running image (R495, R496). -/
def State.bootVersions (s : State) : State :=
  let t := s.wrs .upd [(UPD_VER_A_VERSION, s.imgVersion 0), (UPD_VER_B_VERSION, s.imgVersion 1)]
  if s.is .upd UPD_STAT_RECOVERY then t else t.wr .cry CRY_KSTAT_RUNSLOT (s.flashByte s.runBank 6).toNat

/-- The blocks come up: clocks locked, ring ports on where strapped, HSB_HC from the claim (R306, R382, R508, R510). In
recovery the compute dies stay down (R487). -/
def State.bringUp (s : State) : State :=
  let t := s.wr .crownNode CLK_LOCK_LOCK 15
  let t := if s.is .upd UPD_STAT_RECOVERY then t else t.each s.diesList fun t d => t.relock d
  let t := t.wr .hsb HSB_HC_CLAIM (t.rd .hsb HSB_CLAIM_CLAIM)
  let t := if s.straps.ringEn then t.wrs .ring [(RING_STAT_STATE, 1), (RING_STAT_PORT0, 1), (RING_STAT_PORT1, 1)] else t
  let (v, t) := t.freeNat
  t.wr .wake SVC_STAT_SPEED (v % 4)

/-- The records that a boot makes: those kept for it, RESET_CAUSE, and NAP_WAKE after a nap (R468, R508, R514). -/
def State.bootRecords (s : State) : State :=
  let t := { s with recorder := { s.recorder with atBoot := [] } }.each s.recorder.atBoot fun t r =>
    t.offerRec { r with opsec := t.recorder.opNs / 1000000000 % 2 ^ 32 }
  let t := if s.is .upd UPD_STAT_RECOVERY then t else t.offer Ev.RESET_CAUSE .pkg [s.pwr.cause]
  if s.pwr.cause = 9 then t.offer Ev.NAP_WAKE .pkg [s.rd .wake WAKE_SRC_SRC] else t

/-- The boot from the end of reset to t3 (R508). -/
def State.boot (s : State) : State :=
  let c := s.pwr.cause
  let t := s.wrs .sup [(SUP_RSTCAUSE_CAUSE, c), (SUP_RAIL_RESET, 0)]
  let t := if c = 1 ∨ c = 9 then t.recall.failSafe else t
  let t := t.bootRom.bootVersions.bringUp.bootRecords
  { t with
    pwr := { t.pwr with phase := .on, pwrEnMain := true }
    field := { t.field with lastKeep := t.now } }

/-- BOOT_SEQUENCE: the reset ends with the straps as sampled, and the package boots (R507, R508). -/
def execBootSequence (hsbPair hsbUnit ringEn ringHead : Bool) (s : State) : Host.Outcome State Fault Refusal :=
  .next (if s.pwr.phase = .reset then
    { s with straps := { s.straps with hsbPair := hsbPair, hsbUnit := hsbUnit, ringEn := ringEn, ringHead := ringHead } }.boot
  else s)

/-! ### Nap and wake (R511 to R514) -/

/-- t4 of nap entry: PWR_EN_MAIN low; what the crown controller held is gone with its power (R350, R511). -/
def State.napDone (s : State) : State :=
  let t := { s with regs := s.regs.filter fun e => decide (e.1.blk ≠ Blk.irqCrown) || !(decide (e.1.off < 0x40 ∨ (0x180 ≤ e.1.off ∧ e.1.off < 0x1C0))) }
  let t := ((t.wr .pkgNode NODE_CTRL_RESULT 0).wr .ringNode NODE_CTRL_RESULT 0).wr .wake SVC_STAT_SPEED 1
  { t with
    field := { t.field with napSamples := [] }
    pwr := { t.pwr with phase := .nap, pwrEnMain := false, napAt := s.now } }

/-- NAP_STORE_DONE: every segment that the nap stores is stored (R511). -/
def execNapStoreDone (s : State) : Host.Outcome State Fault Refusal :=
  .next (if s.pwr.phase = .napEntry ∧ s.rd .nvs NVS_PEND_PEND = 0 ∧ s.rd .nvs NVS_DIRTY_DIRTY = 0 ∧ s.nvs.run = none then s.napDone else s)

/-- WAKE_N_LOW: WAKE_N has been low for 10 µs (R514). -/
def execWakeNLow (s : State) : Host.Outcome State Fault Refusal := .next (if s.is .wake WAKE_CFG_PINEN then s.wakeEvent 4 else s)

/-- SVC_WAKE_FRAME: a wake frame arrives at the service port (R514). -/
def execSvcWakeFrame (s : State) : Host.Outcome State Fault Refusal := .next (if s.is .wake WAKE_CFG_SVCEN then s.wakeEvent 2 else s)

/-- An input has read four samples alike that differ from its state before the nap (R514). -/
def State.napDiffers (s : State) (l : List Nat) (i : Nat) : Bool :=
  decide (l.length = 4) && l.all fun v => decide (v.testBit i ≠ s.inputOn i)

/-- Some masked input has changed in nap (R514). -/
def State.napChange (s : State) (l : List Nat) : Bool :=
  (List.range 32).any fun i => s.bit .wake WAKE_DINMASK_MASK i && s.napDiffers l i

/-- NAP_DIN_SAMPLE: in nap the field inputs are sampled, each 1 ms; an input that has changed, and is no fast one, sets the
latch of its source (R349, R513, R514). -/
def execNapDinSample (levels : Nat) (s : State) : Host.Outcome State Fault Refusal :=
  .next (if s.pwr.phase = .nap ∧ s.is .wake WAKE_CFG_DINEN then
    let l := (levels % 2 ^ 32 :: s.field.napSamples).take 4
    let t := { s with field := { s.field with napSamples := l } }
    let t := t.each ((List.range 32).filter fun i => s.napDiffers l i && !s.isFast i) fun u i => u.raiseCrown (64 + i)
    if s.napChange l then t.wakeEvent 8 else t
  else s)

/-- LATCHED_WAKE_START: a latched wake source wakes the package 20 ms after PWR_EN_MAIN went low (R512). -/
def execLatchedWakeStart (s : State) : Host.Outcome State Fault Refusal :=
  .next (if s.pwr.phase = .nap ∧ s.pwr.latchedWake ≠ 0 ∧ s.pwr.napAt + 20000000 ≤ s.now then s.wakeStart s.pwr.latchedWake else s)

/-- WAKE_SUPPLY_SWITCH: the wake island takes its supply from VFIELD, or from VSTBY (R499). -/
def execWakeSupplySwitch (vfield : Bool) (s : State) : Host.Outcome State Fault Refusal := .next (s.wrB .wake WAKE_STAT_SRC vfield)

/-! ### Clocks (R510) -/

/-- The node at which a clock fault is recorded: the die's, the field die's, or the package's (R510). -/
def clockNode (die : Option Nat) (island : Nat) : Node :=
  match die with
  | some d => .die d
  | none => if island < 2 then .pkg else .field

/-- The register field and bit that show a compute die's island: 0 scan cores, 1 to 3 lanes, 4 to 7 links, 8 DRAM
controller, 9 common (R521). -/
def lockField (island : Nat) : Field × Nat :=
  if island = 0 then (CLK_DLOCK_SCAN, 0) else if island < 4 then (CLK_DLOCK_LANE, island - 1)
  else if island < 8 then (CLK_DLOCK_LINK, island - 4) else if island = 8 then (CLK_DLOCK_DRC, 0) else (CLK_DLOCK_COMMON, 0)

/-- An island's clock stops: its bit clears, the node has a fault, and the event is recorded (R510). -/
def State.clockStop (s : State) (b : Blk) (f : Field) (i : Nat) (n : Node) (island : Nat) : State :=
  ((s.setBit b f i false).offer Ev.CLOCK_FAULT n [s.path n, island]).nodeFault n Ev.CLOCK_FAULT

/-- CLOCK_LOCK_LOSS: the generator of an island loses lock: of a compute die, or 0 crown, 1 timebase, 2 field, 3 wake
(R510). The links of a stopped group go DOWN. -/
def execClockLockLoss (die : Option Nat) (island : Nat) (s : State) : Host.Outcome State Fault Refusal :=
  .next (match die with
    | none => if island < 4 ∧ s.bit .crownNode CLK_LOCK_LOCK island then s.clockStop .crownNode CLK_LOCK_LOCK island (clockNode none island) island else s
    | some d =>
      let (f, i) := lockField island
      if s.hasDie d ∧ island < 10 ∧ s.bit (.dieNode d) f i then
        let t := s.clockStop (.dieNode d) f i (.die d) island
        if 4 ≤ island ∧ island < 8 then t.each ((List.range 8).map (8 * (island - 4) + ·)) fun t m => t.linkDown d m else t
      else s)

/-! ### Overtemperature (R535) -/

/-- A node that holds a die's junctions. -/
def Node.isDie : Node → Bool
  | .crown | .field | .die _ => true
  | _ => false

/-- THERM_HOT: a junction of a die reads `c` °C, 125 or more: THERM_N low, a warning at the node, and a compute die held at
step 5 (R535). -/
def execThermHot (n : Node) (c : Int) (s : State) : Host.Outcome State Fault Refusal :=
  .next (if n.isDie && s.hasNode n && decide (125 ≤ c) then
    let t := s.wr n.blk NODE_STATUS_OWN_WARN 1
    let t := { t with
      hot := if hotKey n ∈ t.hot then t.hot else hotKey n :: t.hot
      hotCool := some s.tb
      pwr := { t.pwr with thermN := false } }
    match n with
    | .die d =>
      let j := max c (toSigned 8 (s.rd (.dieNode d) THERM_STAT_JMAX))
      let t := t.wrs (.dieNode d) [(THERM_STAT_HOT, 1), (THERM_STAT_JMAX, ofSigned 8 j)]
      if (t.thermOf d).step < 5 then t.thetaLower d 5 else t
    | _ => t
  else s)

/-- THERM_CLEAR: every junction reading has stayed below 120 °C for 1 s: THERM_N is released, and the warnings and the
hold end (R535). -/
def execThermClear (s : State) : Host.Outcome State Fault Refusal :=
  .next (match s.hotCool with
    | some t0 =>
      if s.hot ≠ [] ∧ t0 + 1000000000 ≤ s.tb then
        let t := s.each (([Node.crown, .field] ++ s.diesList.map Node.die).filter fun n => decide (hotKey n ∈ s.hot)) fun t n =>
          t.wr n.blk NODE_STATUS_OWN_WARN 0
        let t := t.each s.diesList fun t d => t.wr (.dieNode d) THERM_STAT_HOT 0
        { t with
          hot := []
          hotCool := none
          pwr := { t.pwr with thermN := true } }
      else s
    | none => s)

/-! ### Status balls (R524) -/

/-- The levels of the balls STATUS0 to STATUS3, from bit 0 (R524). -/
def State.statusBalls (s : State) : Nat :=
  if s.supervised then
    s.pwr.bootDone.toNat + (decide (s.rd .hsb HSB_STAT_ROLE = 1)).toNat * 2 + (decide (s.rd .pkgNode JOB_STAT_STATE ≠ 0)).toNat * 4 +
      (([Node.pkg, .crown, .field] ++ s.diesList.map Node.die ++ s.coresList.map (fun c => Node.core c.1 c.2) ++
        s.lanesList.map fun l => Node.lane l.1 l.2).any fun n => s.is n.blk NODE_STATUS_OWN_FAULT).toNat * 8
  else 0

end Sys2Proof.Machine
end

