-- ==== Sys2Proof/Machine/Dispatch.lean ====
section
/-! DEFINITION. The dispatch of every command to its meaning, one arm per constructor. -/

namespace Sys2Proof.Machine

def exec (i : Instr) (s : State) : Host.Outcome State Fault Refusal :=
  match i with
  | .regWrite r a w => Sys2Proof.Machine.execRegWrite r a w s
  | .rcRead r a => Sys2Proof.Machine.execRcRead r a s
  | .heldWriteTaken r => Sys2Proof.Machine.execHeldWriteTaken r s
  | .nodeEnable => Sys2Proof.Machine.execNodeEnable s
  | .nodeNap => Sys2Proof.Machine.execNodeNap s
  | .nodeFreeze => Sys2Proof.Machine.execNodeFreeze s
  | .nodeReset => Sys2Proof.Machine.execNodeReset s
  | .nodeFaultFree n => Sys2Proof.Machine.execNodeFaultFree n s
  | .fltCaptureFree r => Sys2Proof.Machine.execFltCaptureFree r s
  | .protLock r n => Sys2Proof.Machine.execProtLock r n s
  | .bld d k w off => Sys2Proof.Machine.execBld d k w off s
  | .bldn d k w off => Sys2Proof.Machine.execBldn d k w off s
  | .band d k w off => Sys2Proof.Machine.execBand d k w off s
  | .bandn d k w off => Sys2Proof.Machine.execBandn d k w off s
  | .bor d k w off => Sys2Proof.Machine.execBor d k w off s
  | .born d k w off => Sys2Proof.Machine.execBorn d k w off s
  | .bst d k w off => Sys2Proof.Machine.execBst d k w off s
  | .bstn d k w off => Sys2Proof.Machine.execBstn d k w off s
  | .bset d k w off => Sys2Proof.Machine.execBset d k w off s
  | .bclr d k w off => Sys2Proof.Machine.execBclr d k w off s
  | .rise d k w off => Sys2Proof.Machine.execRise d k w off s
  | .fall d k w off => Sys2Proof.Machine.execFall d k w off s
  | .rAnd d k => Sys2Proof.Machine.execRAnd d k s
  | .rOr d k => Sys2Proof.Machine.execROr d k s
  | .rXor d k => Sys2Proof.Machine.execRXor d k s
  | .rAndn d k => Sys2Proof.Machine.execRAndn d k s
  | .rOrn d k => Sys2Proof.Machine.execROrn d k s
  | .rNot d k => Sys2Proof.Machine.execRNot d k s
  | .rDup d k => Sys2Proof.Machine.execRDup d k s
  | .rDrop d k => Sys2Proof.Machine.execRDrop d k s
  | .rSwap d k => Sys2Proof.Machine.execRSwap d k s
  | .rOne d k => Sys2Proof.Machine.execROne d k s
  | .rZero d k => Sys2Proof.Machine.execRZero d k s
  | .rTod d k => Sys2Proof.Machine.execRTod d k s
  | .rFromd d k => Sys2Proof.Machine.execRFromd d k s
  | .rDepth d k => Sys2Proof.Machine.execRDepth d k s
  | .rClr d k => Sys2Proof.Machine.execRClr d k s
  | .dup d k => Sys2Proof.Machine.execDup d k s
  | .drop d k => Sys2Proof.Machine.execDrop d k s
  | .swap d k => Sys2Proof.Machine.execSwap d k s
  | .over d k => Sys2Proof.Machine.execOver d k s
  | .rot d k => Sys2Proof.Machine.execRot d k s
  | .nip d k => Sys2Proof.Machine.execNip d k s
  | .tuck d k => Sys2Proof.Machine.execTuck d k s
  | .depth d k => Sys2Proof.Machine.execDepth d k s
  | .pick d k n => Sys2Proof.Machine.execPick d k n s
  | .tor d k => Sys2Proof.Machine.execTor d k s
  | .fromr d k => Sys2Proof.Machine.execFromr d k s
  | .rfetch d k => Sys2Proof.Machine.execRfetch d k s
  | .add d k => Sys2Proof.Machine.execAdd d k s
  | .sub d k => Sys2Proof.Machine.execSub d k s
  | .adds d k => Sys2Proof.Machine.execAdds d k s
  | .subs d k => Sys2Proof.Machine.execSubs d k s
  | .neg d k => Sys2Proof.Machine.execNeg d k s
  | .abs d k => Sys2Proof.Machine.execAbs d k s
  | .min d k => Sys2Proof.Machine.execMin d k s
  | .max d k => Sys2Proof.Machine.execMax d k s
  | .minu d k => Sys2Proof.Machine.execMinu d k s
  | .maxu d k => Sys2Proof.Machine.execMaxu d k s
  | .inc d k => Sys2Proof.Machine.execInc d k s
  | .dec d k => Sys2Proof.Machine.execDec d k s
  | .mul d k => Sys2Proof.Machine.execMul d k s
  | .mulh d k => Sys2Proof.Machine.execMulh d k s
  | .mulhu d k => Sys2Proof.Machine.execMulhu d k s
  | .div d k => Sys2Proof.Machine.execDiv d k s
  | .divu d k => Sys2Proof.Machine.execDivu d k s
  | .rem d k => Sys2Proof.Machine.execRem d k s
  | .remu d k => Sys2Proof.Machine.execRemu d k s
  | .andI d k => Sys2Proof.Machine.execAndI d k s
  | .orI d k => Sys2Proof.Machine.execOrI d k s
  | .xor d k => Sys2Proof.Machine.execXor d k s
  | .notI d k => Sys2Proof.Machine.execNotI d k s
  | .andn d k => Sys2Proof.Machine.execAndn d k s
  | .shl d k => Sys2Proof.Machine.execShl d k s
  | .shr d k => Sys2Proof.Machine.execShr d k s
  | .sar d k => Sys2Proof.Machine.execSar d k s
  | .rol d k => Sys2Proof.Machine.execRol d k s
  | .ror d k => Sys2Proof.Machine.execRor d k s
  | .bfx d k => Sys2Proof.Machine.execBfx d k s
  | .bfi d k => Sys2Proof.Machine.execBfi d k s
  | .clz d k => Sys2Proof.Machine.execClz d k s
  | .popc d k => Sys2Proof.Machine.execPopc d k s
  | .sexb d k => Sys2Proof.Machine.execSexb d k s
  | .sexh d k => Sys2Proof.Machine.execSexh d k s
  | .zexb d k => Sys2Proof.Machine.execZexb d k s
  | .zexh d k => Sys2Proof.Machine.execZexh d k s
  | .ceq d k => Sys2Proof.Machine.execCeq d k s
  | .cne d k => Sys2Proof.Machine.execCne d k s
  | .clt d k => Sys2Proof.Machine.execClt d k s
  | .cge d k => Sys2Proof.Machine.execCge d k s
  | .cltu d k => Sys2Proof.Machine.execCltu d k s
  | .cgeu d k => Sys2Proof.Machine.execCgeu d k s
  | .sel d k => Sys2Proof.Machine.execSel d k s
  | .lit11 d k v => Sys2Proof.Machine.execLit11 d k v s
  | .lit16s d k v => Sys2Proof.Machine.execLit16s d k v s
  | .lit16u d k v => Sys2Proof.Machine.execLit16u d k v s
  | .lit32 d k v => Sys2Proof.Machine.execLit32 d k v s
  | .lita d k v => Sys2Proof.Machine.execLita d k v s
  | .lddB d k w disp => Sys2Proof.Machine.execLddB d k w disp s
  | .lddBu d k w disp => Sys2Proof.Machine.execLddBu d k w disp s
  | .lddH d k w disp => Sys2Proof.Machine.execLddH d k w disp s
  | .lddHu d k w disp => Sys2Proof.Machine.execLddHu d k w disp s
  | .lddW d k w disp => Sys2Proof.Machine.execLddW d k w disp s
  | .lddT d k w disp => Sys2Proof.Machine.execLddT d k w disp s
  | .stdB d k w disp => Sys2Proof.Machine.execStdB d k w disp s
  | .stdH d k w disp => Sys2Proof.Machine.execStdH d k w disp s
  | .stdW d k w disp => Sys2Proof.Machine.execStdW d k w disp s
  | .stdT d k w disp => Sys2Proof.Machine.execStdT d k w disp s
  | .xchdW d k w disp => Sys2Proof.Machine.execXchdW d k w disp s
  | .adddW d k w disp => Sys2Proof.Machine.execAdddW d k w disp s
  | .inI d k => Sys2Proof.Machine.execInI d k s
  | .out d k => Sys2Proof.Machine.execOut d k s
  | .inD d k b disp => Sys2Proof.Machine.execInD d k b disp s
  | .outD d k b disp => Sys2Proof.Machine.execOutD d k b disp s
  | .bEq d k short disp => Sys2Proof.Machine.execBEq d k short disp s
  | .bNe d k short disp => Sys2Proof.Machine.execBNe d k short disp s
  | .bLt d k short disp => Sys2Proof.Machine.execBLt d k short disp s
  | .bGe d k short disp => Sys2Proof.Machine.execBGe d k short disp s
  | .bLtu d k short disp => Sys2Proof.Machine.execBLtu d k short disp s
  | .bGeu d k short disp => Sys2Proof.Machine.execBGeu d k short disp s
  | .bRz d k short disp => Sys2Proof.Machine.execBRz d k short disp s
  | .bRnz d k short disp => Sys2Proof.Machine.execBRnz d k short disp s
  | .jmp d k disp => Sys2Proof.Machine.execJmp d k disp s
  | .jmpl d k a => Sys2Proof.Machine.execJmpl d k a s
  | .jmpi d k => Sys2Proof.Machine.execJmpi d k s
  | .call d k disp => Sys2Proof.Machine.execCall d k disp s
  | .calll d k a => Sys2Proof.Machine.execCalll d k a s
  | .calli d k => Sys2Proof.Machine.execCalli d k s
  | .ret d k => Sys2Proof.Machine.execRet d k s
  | .yield d k => Sys2Proof.Machine.execYield d k s
  | .taskend d k => Sys2Proof.Machine.execTaskend d k s
  | .nop d k => Sys2Proof.Machine.execNop d k s
  | .fence d k => Sys2Proof.Machine.execFence d k s
  | .brk d k => Sys2Proof.Machine.execBrk d k s
  | .rdtb d k => Sys2Proof.Machine.execRdtb d k s
  | .rdcyc d k => Sys2Proof.Machine.execRdcyc d k s
  | .di d k => Sys2Proof.Machine.execDi d k s
  | .ei d k => Sys2Proof.Machine.execEi d k s
  | .rdcr d k n => Sys2Proof.Machine.execRdcr d k n s
  | .wrcr d k n => Sys2Proof.Machine.execWrcr d k n s
  | .mov d k sz a x => Sys2Proof.Machine.execMov d k sz a x s
  | .addM d k sz a b x => Sys2Proof.Machine.execAddM d k sz a b x s
  | .subM d k sz a b x => Sys2Proof.Machine.execSubM d k sz a b x s
  | .andM d k sz a b x => Sys2Proof.Machine.execAndM d k sz a b x s
  | .orM d k sz a b x => Sys2Proof.Machine.execOrM d k sz a b x s
  | .xorM d k sz a b x => Sys2Proof.Machine.execXorM d k sz a b x s
  | .andnM d k sz a b x => Sys2Proof.Machine.execAndnM d k sz a b x s
  | .shlM d k sz a n x => Sys2Proof.Machine.execShlM d k sz a n x s
  | .shrM d k sz a n x => Sys2Proof.Machine.execShrM d k sz a n x s
  | .sarM d k sz a n x => Sys2Proof.Machine.execSarM d k sz a n x s
  | .mulM d k sz a b x => Sys2Proof.Machine.execMulM d k sz a b x s
  | .divuM d k sz a b x => Sys2Proof.Machine.execDivuM d k sz a b x s
  | .remuM d k sz a b x => Sys2Proof.Machine.execRemuM d k sz a b x s
  | .bCc d k c sz a b disp => Sys2Proof.Machine.execBCc d k c sz a b disp s
  | .jalM d k sz tgt link => Sys2Proof.Machine.execJalM d k sz tgt link s
  | .iload d k sz ia x => Sys2Proof.Machine.execIload d k sz ia x s
  | .istore d k sz a ia => Sys2Proof.Machine.execIstore d k sz a ia s
  | .movblk d k sz p q c upto => Sys2Proof.Machine.execMovblk d k sz p q c upto s
  | .fillblk d k sz v q c upto => Sys2Proof.Machine.execFillblk d k sz v q c upto s
  | .crcblk d k sz p r c upto => Sys2Proof.Machine.execCrcblk d k sz p r c upto s
  | .cmpblk d k sz p q c upto => Sys2Proof.Machine.execCmpblk d k sz p q c upto s
  | .enterS d k sz tgt => Sys2Proof.Machine.execEnterS d k sz tgt s
  | .enterSc d k sz tgt => Sys2Proof.Machine.execEnterSc d k sz tgt s
  | .retS d k => Sys2Proof.Machine.execRetS d k s
  | .retM d k => Sys2Proof.Machine.execRetM d k s
  | .diM d k => Sys2Proof.Machine.execDiM d k s
  | .eiM d k => Sys2Proof.Machine.execEiM d k s
  | .fenceM d k => Sys2Proof.Machine.execFenceM d k s
  | .brkM d k => Sys2Proof.Machine.execBrkM d k s
  | .interruptEntry d k => Sys2Proof.Machine.execInterruptEntry d k s
  | .nmiEntry d k => Sys2Proof.Machine.execNmiEntry d k s
  | .planeFaultEntry d k => Sys2Proof.Machine.execPlaneFaultEntry d k s
  | .postedBusError d k a => Sys2Proof.Machine.execPostedBusError d k a s
  | .diLimitExpiry d k => Sys2Proof.Machine.execDiLimitExpiry d k s
  | .coreLramData r d k w => Sys2Proof.Machine.execCoreLramData r d k w s
  | .coreIspData r d k w => Sys2Proof.Machine.execCoreIspData r d k w s
  | .taskEnable d k t w => Sys2Proof.Machine.execTaskEnable d k t w s
  | .taskDisable d k t w => Sys2Proof.Machine.execTaskDisable d k t w s
  | .taskTrig d k t => Sys2Proof.Machine.execTaskTrig d k t s
  | .taskDue d k t => Sys2Proof.Machine.execTaskDue d k t s
  | .eventTaskSource d src => Sys2Proof.Machine.execEventTaskSource d src s
  | .releaseStart d k n => Sys2Proof.Machine.execReleaseStart d k n s
  | .taskSuspend d k n => Sys2Proof.Machine.execTaskSuspend d k n s
  | .taskRestore d k => Sys2Proof.Machine.execTaskRestore d k s
  | .copyOutDone d k => Sys2Proof.Machine.execCopyOutDone d k s
  | .backgroundSuspend d k => Sys2Proof.Machine.execBackgroundSuspend d k s
  | .backgroundResume d k => Sys2Proof.Machine.execBackgroundResume d k s
  | .imgRefresh => Sys2Proof.Machine.execImgRefresh s
  | .imgRun period => Sys2Proof.Machine.execImgRun period s
  | .imgStop period => Sys2Proof.Machine.execImgStop period s
  | .restartDone => Sys2Proof.Machine.execRestartDone s
  | .mirrorPass => Sys2Proof.Machine.execMirrorPass s
  | .hoodLoad q => Sys2Proof.Machine.execHoodLoad q s
  | .hoodBlock d k => Sys2Proof.Machine.execHoodBlock d k s
  | .hoodAbort d k => Sys2Proof.Machine.execHoodAbort d k s
  | .blocking d k => Sys2Proof.Machine.execBlocking d k s
  | .hoodNoGap d k => Sys2Proof.Machine.execHoodNoGap d k s
  | .hoodArmRx h d k digest n0 => Sys2Proof.Machine.execHoodArmRx h d k digest n0 s
  | .hoodReplyRx h d k ok => Sys2Proof.Machine.execHoodReplyRx h d k ok s
  | .hoodAtRx h d k n => Sys2Proof.Machine.execHoodAtRx h d k n s
  | .hoodMissRx h d k miss => Sys2Proof.Machine.execHoodMissRx h d k miss s
  | .hoodPairMiss d k => Sys2Proof.Machine.execHoodPairMiss d k s
  | .standbyHoodTimeout d k => Sys2Proof.Machine.execStandbyHoodTimeout d k s
  | .hoodPairSplit d k => Sys2Proof.Machine.execHoodPairSplit d k s
  | .lineAnnounce => Sys2Proof.Machine.execLineAnnounce s
  | .laneRun d j => Sys2Proof.Machine.execLaneRun d j s
  | .laneStop d j => Sys2Proof.Machine.execLaneStop d j s
  | .laneResume d j => Sys2Proof.Machine.execLaneResume d j s
  | .kernelStart d j => Sys2Proof.Machine.execKernelStart d j s
  | .kernelDeadline d j => Sys2Proof.Machine.execKernelDeadline d j s
  | .andp d j => Sys2Proof.Machine.execAndp d j s
  | .orp d j => Sys2Proof.Machine.execOrp d j s
  | .xorp d j => Sys2Proof.Machine.execXorp d j s
  | .andnp d j => Sys2Proof.Machine.execAndnp d j s
  | .notp d j => Sys2Proof.Machine.execNotp d j s
  | .selp d j => Sys2Proof.Machine.execSelp d j s
  | .zerop d j => Sys2Proof.Machine.execZerop d j s
  | .onesp d j => Sys2Proof.Machine.execOnesp d j s
  | .dupp d j => Sys2Proof.Machine.execDupp d j s
  | .dropp d j => Sys2Proof.Machine.execDropp d j s
  | .swapp d j => Sys2Proof.Machine.execSwapp d j s
  | .overp d j => Sys2Proof.Machine.execOverp d j s
  | .rotp d j => Sys2Proof.Machine.execRotp d j s
  | .nipp d j => Sys2Proof.Machine.execNipp d j s
  | .tuckp d j => Sys2Proof.Machine.execTuckp d j s
  | .pickp d j n => Sys2Proof.Machine.execPickp d j n s
  | .shlp d j n => Sys2Proof.Machine.execShlp d j n s
  | .shrp d j n => Sys2Proof.Machine.execShrp d j n s
  | .loadp d j k => Sys2Proof.Machine.execLoadp d j k s
  | .storep d j q => Sys2Proof.Machine.execStorep d j q s
  | .calp d j f => Sys2Proof.Machine.execCalp d j f s
  | .lutp d j t w => Sys2Proof.Machine.execLutp d j t w s
  | .popcp d j k => Sys2Proof.Machine.execPopcp d j k s
  | .flagp d j k => Sys2Proof.Machine.execFlagp d j k s
  | .gend d j => Sys2Proof.Machine.execGend d j s
  | .laneCntLine d j => Sys2Proof.Machine.execLaneCntLine d j s
  | .laneSramData r d j w => Sys2Proof.Machine.execLaneSramData r d j w s
  | .laneKsData r d j w => Sys2Proof.Machine.execLaneKsData r d j w s
  | .khoodLoad d j => Sys2Proof.Machine.execKhoodLoad d j s
  | .khoodSwitch d j at_ => Sys2Proof.Machine.execKhoodSwitch d j at_ s
  | .khoodAbort d j => Sys2Proof.Machine.execKhoodAbort d j s
  | .khoodSwitchPoint d j => Sys2Proof.Machine.execKhoodSwitchPoint d j s
  | .karmRx h d j n digest cost lead => Sys2Proof.Machine.execKarmRx h d j n digest cost lead s
  | .khoodAckRx h d j => Sys2Proof.Machine.execKhoodAckRx h d j s
  | .khoodNakRx h d j => Sys2Proof.Machine.execKhoodNakRx h d j s
  | .kgoRx h d j => Sys2Proof.Machine.execKgoRx h d j s
  | .kcancelRx h d j => Sys2Proof.Machine.execKcancelRx h d j s
  | .khoodAckTimeout d j => Sys2Proof.Machine.execKhoodAckTimeout d j s
  | .khoodStandbySplit d j => Sys2Proof.Machine.execKhoodStandbySplit d j s
  | .jobAdmit q => Sys2Proof.Machine.execJobAdmit q s
  | .jobStart q => Sys2Proof.Machine.execJobStart q s
  | .jobEnd q => Sys2Proof.Machine.execJobEnd q s
  | .hostNop q => Sys2Proof.Machine.execHostNop q s
  | .dramClear q => Sys2Proof.Machine.execDramClear q s
  | .dramCrc q => Sys2Proof.Machine.execDramCrc q s
  | .nvsCommit q => Sys2Proof.Machine.execNvsCommit q s
  | .imageVerify q => Sys2Proof.Machine.execImageVerify q s
  | .cmdAbort q => Sys2Proof.Machine.execCmdAbort q s
  | .ingWptrWrite d w => Sys2Proof.Machine.execIngWptrWrite d w s
  | .ingestFill d => Sys2Proof.Machine.execIngestFill d s
  | .ingestAbandon d j => Sys2Proof.Machine.execIngestAbandon d j s
  | .calTransfer d w => Sys2Proof.Machine.execCalTransfer d w s
  | .calTransferDone d => Sys2Proof.Machine.execCalTransferDone d s
  | .dramTempReading d raw16 => Sys2Proof.Machine.execDramTempReading d raw16 s
  | .caseTempReading d c jmax => Sys2Proof.Machine.execCaseTempReading d c jmax s
  | .thetaRaise d => Sys2Proof.Machine.execThetaRaise d s
  | .thetaLeadExpiry d => Sys2Proof.Machine.execThetaLeadExpiry d s
  | .capRaise => Sys2Proof.Machine.execCapRaise s
  | .capMessage => Sys2Proof.Machine.execCapMessage s
  | .linkEnable d m => Sys2Proof.Machine.execLinkEnable d m s
  | .linkDisable d m => Sys2Proof.Machine.execLinkDisable d m s
  | .linkRetrain d m => Sys2Proof.Machine.execLinkRetrain d m s
  | .hcrcFailRx d m => Sys2Proof.Machine.execHcrcFailRx d m s
  | .battRx d m f => Sys2Proof.Machine.execBattRx d m f s
  | .crespRx d m f => Sys2Proof.Machine.execCrespRx d m f s
  | .eventRx d m f => Sys2Proof.Machine.execEventRx d m f s
  | .creditRx d m f => Sys2Proof.Machine.execCreditRx d m f s
  | .creditResyncRx d m f => Sys2Proof.Machine.execCreditResyncRx d m f s
  | .creditMarkRx d m f => Sys2Proof.Machine.execCreditMarkRx d m f s
  | .creditFullRx d m f => Sys2Proof.Machine.execCreditFullRx d m f s
  | .idleRx d m f => Sys2Proof.Machine.execIdleRx d m f s
  | .trainRx d m f => Sys2Proof.Machine.execTrainRx d m f s
  | .linkTxSelect d m => Sys2Proof.Machine.execLinkTxSelect d m s
  | .idleTx d m => Sys2Proof.Machine.execIdleTx d m s
  | .creditTx d m => Sys2Proof.Machine.execCreditTx d m s
  | .trainTx d m ready taps => Sys2Proof.Machine.execTrainTx d m ready taps s
  | .linkTxGo d m => Sys2Proof.Machine.execLinkTxGo d m s
  | .linkRxPop d m => Sys2Proof.Machine.execLinkRxPop d m s
  | .linkHbTimeout d m => Sys2Proof.Machine.execLinkHbTimeout d m s
  | .linkLockLoss d m codewords => Sys2Proof.Machine.execLinkLockLoss d m codewords s
  | .creditResyncTimeout d m => Sys2Proof.Machine.execCreditResyncTimeout d m s
  | .faultRetrain d m => Sys2Proof.Machine.execFaultRetrain d m s
  | .linkTrainTimeout d m => Sys2Proof.Machine.execLinkTrainTimeout d m s
  | .routeDeadline d m => Sys2Proof.Machine.execRouteDeadline d m s
  | .reflexPass d => Sys2Proof.Machine.execReflexPass d s
  | .rfxFset d w => Sys2Proof.Machine.execRfxFset d w s
  | .rfxFclr d w => Sys2Proof.Machine.execRfxFclr d w s
  | .arbDecision c a arrivals last => Sys2Proof.Machine.execArbDecision c a arrivals last s
  | .hsbEnable => Sys2Proof.Machine.execHsbEnable s
  | .hsbDisable => Sys2Proof.Machine.execHsbDisable s
  | .hsbHandover => Sys2Proof.Machine.execHsbHandover s
  | .hbTx => Sys2Proof.Machine.execHbTx s
  | .hbRx h hc time echo residence ready jobpair => Sys2Proof.Machine.execHbRx h hc time echo residence ready jobpair s
  | .resignRx h => Sys2Proof.Machine.execResignRx h s
  | .handoverRx h n => Sys2Proof.Machine.execHandoverRx h n s
  | .handackRx h n => Sys2Proof.Machine.execHandackRx h n s
  | .handackTimeout => Sys2Proof.Machine.execHandackTimeout s
  | .handoverSwitch => Sys2Proof.Machine.execHandoverSwitch s
  | .lineMsgRx h n f => Sys2Proof.Machine.execLineMsgRx h n f s
  | .mirrorRx h seq whole blocks => Sys2Proof.Machine.execMirrorRx h seq whole blocks s
  | .eqRx h core n vals => Sys2Proof.Machine.execEqRx h core n vals s
  | .eqskipRx h core n => Sys2Proof.Machine.execEqskipRx h core n s
  | .jobMsgRx h state crc s0 dies => Sys2Proof.Machine.execJobMsgRx h state crc s0 dies s
  | .jobMsgTx => Sys2Proof.Machine.execJobMsgTx s
  | .capMsgRx h cap => Sys2Proof.Machine.execCapMsgRx h cap s
  | .joinRx h rev period maps lanes => Sys2Proof.Machine.execJoinRx h rev period maps lanes s
  | .leaveRx h => Sys2Proof.Machine.execLeaveRx h s
  | .hashRx h hashes => Sys2Proof.Machine.execHashRx h hashes s
  | .pageHash p => Sys2Proof.Machine.execPageHash p s
  | .seekwaitExpiry => Sys2Proof.Machine.execSeekwaitExpiry s
  | .pathSilence p => Sys2Proof.Machine.execPathSilence p s
  | .peerSilence => Sys2Proof.Machine.execPeerSilence s
  | .canHeartbeatTx => Sys2Proof.Machine.execCanHeartbeatTx s
  | .canHeartbeatRx claim => Sys2Proof.Machine.execCanHeartbeatRx claim s
  | .clxFrameTx => Sys2Proof.Machine.execClxFrameTx s
  | .clxFrameRx claim crcOk => Sys2Proof.Machine.execClxFrameRx claim crcOk s
  | .clxPeerLost => Sys2Proof.Machine.execClxPeerLost s
  | .keepFrameRx active claim lineRun => Sys2Proof.Machine.execKeepFrameRx active claim lineRun s
  | .keepFrameTx => Sys2Proof.Machine.execKeepFrameTx s
  | .keepTimeout => Sys2Proof.Machine.execKeepTimeout s
  | .irqPendSet c w v => Sys2Proof.Machine.execIrqPendSet c w v s
  | .irqPendClr c w v => Sys2Proof.Machine.execIrqPendClr c w v s
  | .irqEnSet c w v => Sys2Proof.Machine.execIrqEnSet c w v s
  | .irqEnClr c w v => Sys2Proof.Machine.execIrqEnClr c w v s
  | .irqDone r d k w => Sys2Proof.Machine.execIrqDone r d k w s
  | .wdtEnable => Sys2Proof.Machine.execWdtEnable s
  | .wdtKick r w => Sys2Proof.Machine.execWdtKick r w s
  | .wdtPeriodEnd => Sys2Proof.Machine.execWdtPeriodEnd s
  | .wdtHalfPeriod => Sys2Proof.Machine.execWdtHalfPeriod s
  | .wdtGraceExpiry => Sys2Proof.Machine.execWdtGraceExpiry s
  | .endpointReset cause => Sys2Proof.Machine.execEndpointReset cause s
  | .bar0Request off write data => Sys2Proof.Machine.execBar0Request off write data s
  | .bar2Request off write data => Sys2Proof.Machine.execBar2Request off write data s
  | .queueEnable q => Sys2Proof.Machine.execQueueEnable q s
  | .queueDisable q => Sys2Proof.Machine.execQueueDisable q s
  | .sqDoorbell q w => Sys2Proof.Machine.execSqDoorbell q w s
  | .cqDoorbell q w => Sys2Proof.Machine.execCqDoorbell q w s
  | .queueFetch q entry err => Sys2Proof.Machine.execQueueFetch q entry err s
  | .commandStep => Sys2Proof.Machine.execCommandStep s
  | .contextSlotGrant crc => Sys2Proof.Machine.execContextSlotGrant crc s
  | .enumTx => Sys2Proof.Machine.execEnumTx s
  | .enumRx count other => Sys2Proof.Machine.execEnumRx count other s
  | .ringReadRx src tag a => Sys2Proof.Machine.execRingReadRx src tag a s
  | .ringWriteRx a w => Sys2Proof.Machine.execRingWriteRx a w s
  | .ringRespRx src tag data => Sys2Proof.Machine.execRingRespRx src tag data s
  | .ringCmdRx src tag entry slack => Sys2Proof.Machine.execRingCmdRx src tag entry slack s
  | .ringCplRx src tag status result data => Sys2Proof.Machine.execRingCplRx src tag status result data s
  | .ringCheckRx src tag w => Sys2Proof.Machine.execRingCheckRx src tag w s
  | .ringApplyRx => Sys2Proof.Machine.execRingApplyRx s
  | .ringReleaseRx => Sys2Proof.Machine.execRingReleaseRx s
  | .ringTimeout src tag => Sys2Proof.Machine.execRingTimeout src tag s
  | .ringPortDown p lost => Sys2Proof.Machine.execRingPortDown p lost s
  | .ringPortRecovered p => Sys2Proof.Machine.execRingPortRecovered p s
  | .ringReenum => Sys2Proof.Machine.execRingReenum s
  | .fieldSupplyChange g raw => Sys2Proof.Machine.execFieldSupplyChange g raw s
  | .dinSample raw => Sys2Proof.Machine.execDinSample raw s
  | .fastEdge n level atPs => Sys2Proof.Machine.execFastEdge n level atPs s
  | .dinFiltWrite n w => Sys2Proof.Machine.execDinFiltWrite n w s
  | .lswSet w => Sys2Proof.Machine.execLswSet w s
  | .lswClr w => Sys2Proof.Machine.execLswClr w s
  | .lswResume => Sys2Proof.Machine.execLswResume s
  | .turnonDone c => Sys2Proof.Machine.execTurnonDone c s
  | .turnoffDone c => Sys2Proof.Machine.execTurnoffDone c s
  | .turnoffTimeout c => Sys2Proof.Machine.execTurnoffTimeout c s
  | .ocTrip c ms => Sys2Proof.Machine.execOcTrip c ms s
  | .otTrip c => Sys2Proof.Machine.execOtTrip c s
  | .openDetect c ma => Sys2Proof.Machine.execOpenDetect c ma s
  | .shortDetect c => Sys2Proof.Machine.execShortDetect c s
  | .lswDiagClear c w cool => Sys2Proof.Machine.execLswDiagClear c w cool s
  | .canEnable c w => Sys2Proof.Machine.execCanEnable c w s
  | .canFrameRx c f => Sys2Proof.Machine.execCanFrameRx c f s
  | .canTxStart c => Sys2Proof.Machine.execCanTxStart c s
  | .canTxDone c => Sys2Proof.Machine.execCanTxDone c s
  | .canTxRetry c kind noInc => Sys2Proof.Machine.execCanTxRetry c kind noInc s
  | .canBusoffRecovery c => Sys2Proof.Machine.execCanBusoffRecovery c s
  | .canBusStuck c => Sys2Proof.Machine.execCanBusStuck c s
  | .canObjsel c o => Sys2Proof.Machine.execCanObjsel c o s
  | .canObjWrite c => Sys2Proof.Machine.execCanObjWrite c s
  | .canObjTxreq c => Sys2Proof.Machine.execCanObjTxreq c s
  | .canObjCancel c => Sys2Proof.Machine.execCanObjCancel c s
  | .rtcSet => Sys2Proof.Machine.execRtcSet s
  | .rtcSetLoad => Sys2Proof.Machine.execRtcSetLoad s
  | .rtcShift w => Sys2Proof.Machine.execRtcShift w s
  | .rtcSecLoRead => Sys2Proof.Machine.execRtcSecLoRead s
  | .rtcFracRead => Sys2Proof.Machine.execRtcFracRead s
  | .alarmFire k => Sys2Proof.Machine.execAlarmFire k s
  | .vbatMeasure mv => Sys2Proof.Machine.execVbatMeasure mv s
  | .retentionLatch => Sys2Proof.Machine.execRetentionLatch s
  | .tmbSet => Sys2Proof.Machine.execTmbSet s
  | .ptpMessage ofs => Sys2Proof.Machine.execPtpMessage ofs s
  | .tmbTimeLoRead => Sys2Proof.Machine.execTmbTimeLoRead s
  | .lineEnable => Sys2Proof.Machine.execLineEnable s
  | .lineDisable => Sys2Proof.Machine.execLineDisable s
  | .refInvalid r => Sys2Proof.Machine.execRefInvalid r s
  | .refQualified r => Sys2Proof.Machine.execRefQualified r s
  | .nvsCmd w => Sys2Proof.Machine.execNvsCmd w s
  | .segmentStoreStart vhold => Sys2Proof.Machine.execSegmentStoreStart vhold s
  | .segmentProgramDone good vhold => Sys2Proof.Machine.execSegmentProgramDone good vhold s
  | .pouncePass weak => Sys2Proof.Machine.execPouncePass weak s
  | .pwrWarn mv => Sys2Proof.Machine.execPwrWarn mv s
  | .pwrWarnEnd mv => Sys2Proof.Machine.execPwrWarnEnd mv s
  | .powerfailStore stop => Sys2Proof.Machine.execPowerfailStore stop s
  | .powerfailStoreEnd rails => Sys2Proof.Machine.execPowerfailStoreEnd rails s
  | .eventOffer => Sys2Proof.Machine.execEventOffer s
  | .tokenRefill b => Sys2Proof.Machine.execTokenRefill b s
  | .evrWin7Read => Sys2Proof.Machine.execEvrWin7Read s
  | .evrCursorWrite v => Sys2Proof.Machine.execEvrCursorWrite v s
  | .updBegin => Sys2Proof.Machine.execUpdBegin s
  | .updPut => Sys2Proof.Machine.execUpdPut s
  | .updErase => Sys2Proof.Machine.execUpdErase s
  | .updActivate => Sys2Proof.Machine.execUpdActivate s
  | .stagingEraseDone => Sys2Proof.Machine.execStagingEraseDone s
  | .fragmentProgramDone good => Sys2Proof.Machine.execFragmentProgramDone good s
  | .updVerifyDone => Sys2Proof.Machine.execUpdVerifyDone s
  | .activateRecheck => Sys2Proof.Machine.execActivateRecheck s
  | .svcBegin crc index xid => Sys2Proof.Machine.execSvcBegin crc index xid s
  | .svcFragmentPart crc part index xid data => Sys2Proof.Machine.execSvcFragmentPart crc part index xid data s
  | .svcErase crc index xid => Sys2Proof.Machine.execSvcErase crc index xid s
  | .svcStatus crc index xid => Sys2Proof.Machine.execSvcStatus crc index xid s
  | .svcActivate crc xid => Sys2Proof.Machine.execSvcActivate crc xid s
  | .updConfirm w => Sys2Proof.Machine.execUpdConfirm w s
  | .updLockSet => Sys2Proof.Machine.execUpdLockSet s
  | .updUnlock => Sys2Proof.Machine.execUpdUnlock s
  | .trialExpiry => Sys2Proof.Machine.execTrialExpiry s
  | .trialFallback => Sys2Proof.Machine.execTrialFallback s
  | .keyProgram r good => Sys2Proof.Machine.execKeyProgram r good s
  | .keyRevoke r w => Sys2Proof.Machine.execKeyRevoke r w s
  | .trngAcqRead => Sys2Proof.Machine.execTrngAcqRead s
  | .trngReq n => Sys2Proof.Machine.execTrngReq n s
  | .trngRel n => Sys2Proof.Machine.execTrngRel n s
  | .trngRequestDone n => Sys2Proof.Machine.execTrngRequestDone n s
  | .trngStartDone => Sys2Proof.Machine.execTrngStartDone s
  | .trngTestFail apt => Sys2Proof.Machine.execTrngTestFail apt s
  | .trngFailsClear => Sys2Proof.Machine.execTrngFailsClear s
  | .powerOn => Sys2Proof.Machine.execPowerOn s
  | .railReset rails => Sys2Proof.Machine.execRailReset rails s
  | .pwrResetN => Sys2Proof.Machine.execPwrResetN s
  | .bootSequence hsbPair hsbUnit ringEn ringHead => Sys2Proof.Machine.execBootSequence hsbPair hsbUnit ringEn ringHead s
  | .napStoreDone => Sys2Proof.Machine.execNapStoreDone s
  | .wakeNLow => Sys2Proof.Machine.execWakeNLow s
  | .svcWakeFrame => Sys2Proof.Machine.execSvcWakeFrame s
  | .napDinSample levels => Sys2Proof.Machine.execNapDinSample levels s
  | .clockLockLoss die island => Sys2Proof.Machine.execClockLockLoss die island s
  | .thermHot n c => Sys2Proof.Machine.execThermHot n c s
  | .thermClear => Sys2Proof.Machine.execThermClear s
  | .reservedOpcodeTrap d k parcel => Sys2Proof.Machine.execReservedOpcodeTrap d k parcel s
  | .instructionFetchFault d k => Sys2Proof.Machine.execInstructionFetchFault d k s
  | .canRxError c kind eight => Sys2Proof.Machine.execCanRxError c kind eight s
  | .canIntegrated c => Sys2Proof.Machine.execCanIntegrated c s
  | .rtcShiftDone => Sys2Proof.Machine.execRtcShiftDone s
  | .railResetInStore rails => Sys2Proof.Machine.execRailResetInStore rails s
  | .wakeSupplySwitch vfield => Sys2Proof.Machine.execWakeSupplySwitch vfield s
  | .latchedWakeStart => Sys2Proof.Machine.execLatchedWakeStart s
  | .ringFramePassOn p name header payload crcOk => Sys2Proof.Machine.execRingFramePassOn p name header payload crcOk s
  | .pcieLinkTrained speed setup => Sys2Proof.Machine.execPcieLinkTrained speed setup s

end Sys2Proof.Machine
end

