-- ==== Sys2Proof/Safety.lean ====
section
/-! DEFINITION. What a sound state is, in the terms that statements use: memories and registers in canonical form (R7, R11,
R540); when a scan core executes an instruction, and where it goes on (R53, R63, R77, R83, R84). -/

namespace Sys2Proof.Machine

/-- The memories are in canonical form: sorted, each listing only bytes that differ from what an unlisted address reads as,
and none listed that lists nothing. -/
def Memory.wf (ms : Tab MemId Cells) : Bool := Tab.wf MemId.code (fun _ => []) ms && ms.all fun e => Cells.wf e.2

/-- The register file is in canonical form: sorted, and only fields that differ from their reset values are listed. -/
def Regs.wf (rs : Tab RegKey Nat) : Bool := Tab.wf RegKey.code RegKey.reset rs

/-- Memories and registers are in canonical form. -/
def State.wf (s : State) : Bool := Memory.wf s.mems && Regs.wf s.regs

/-! ### Scan cores -/

/-- The bytes `[a, a + n)` of a memory lie in units without an ECC error (R205, R540). -/
def State.eccGood (s : State) (m : MemId) (a n : Nat) : Bool := (eccUnits m a n).all fun u => decide (s.eccOf m u = .good)

/-- A core can fetch the `n` parcels from an address, and they hold no ECC error (R77, R83). -/
def State.codeGood (s : State) (d k a n : Nat) : Bool :=
  (List.range n).all fun i => fetchable (a + i) &&
    match s.iLoc d k (a + i) with
    | some (m, o) => s.eccGood m o 2
    | none => false

/-- A byte with bit `i` set to `v`. -/
def putBit (b i : Nat) (v : Bool) : Nat := if v then b ||| 2 ^ i else b ^^^ (b &&& 2 ^ i)

/-- A D-space address lies at offset `o` of memory `m` for a requester (R45). -/
def State.lies (s : State) (r : Req) (a : Nat) (m : MemId) (o : Nat) : Bool :=
  match s.dLoc r a with
  | .ok l => decide (l = (m, o))
  | .error _ => false

/-- A load of a core of `n` bytes at an address completes: no write of the core is held, nothing refuses the access, and
the bytes, at offset `o` of memory `m`, hold no ECC error (R23, R45, R48, R540). -/
def State.canLoad (s : State) (d k a n : Nat) (m : MemId) (o : Nat) : Bool :=
  decide (s.heldOf (.core d k) = []) && decide (s.dCheck (.core d k) a n false = none) && s.lies (.core d k) a m o &&
    s.eccGood m o n

/-- A store of bytes by a core at an address completes, likewise; a unit of ECC that it writes in part holds no
uncorrectable error (R540). -/
def State.canStore (s : State) (d k a : Nat) (bs : List Byte) (m : MemId) (o : Nat) : Bool :=
  decide (s.heldOf (.core d k) = []) && decide (s.dCheck (.core d k) a bs.length true = none) && s.lies (.core d k) a m o &&
    (s.memWrite (.core d k) m o bs).1

/-- A core executes an instruction of `len` parcels in a form now: it runs, its code can be fetched, no bus error is
pending, its queue holds no more than it has room for, and the instruction stands in no delay slot of a form-return (R53, R76, R77,
R121). -/
def State.ready (s : State) (d k len : Nat) (form : Bool) : Bool :=
  s.coreRuns d k && decide ((s.core d k).form = form) && !(s.core d k).busErr && s.codeGood d k (s.core d k).pc len &&
    !s.overfull d k &&
    match (s.core d k).br with
    | none => true
    | some b => !b.toMem

/-- The core after an instruction of `len` parcels and `cost` cycles: it goes on at the next parcel, or, where the
instruction stood in a delay slot, at the branch's target, with no instruction in progress (R63, R84, R91). -/
def Core.after (c : Core) (len cost : Nat) : Core :=
  match c.br with
  | none => { c with pc := (c.pc + len) % 2 ^ 32, busy := false, cyc := c.cyc + cost + enterCost c.pc ((c.pc + len) % 2 ^ 32) false }
  | some b =>
    { c with pc := b.tgt % 2 ^ 32, br := none, busy := false, cyc := c.cyc + cost + enterCost c.pc (b.tgt % 2 ^ 32) (b.tgt ≠ c.pc + len) }

/-- The state in which a core has finished such an instruction with its stacks and per-task registers at `h`. -/
def State.wentOn (s : State) (d k len cost : Nat) (h : Hot) : State :=
  s.setCore d k { (s.core d k).after len cost with hot := h }

/-- The state in which a core has gone on from an instruction of `len` parcels and `cost` cycles. -/
def State.after (s : State) (d k len cost : Nat) : State := s.setCore d k ((s.core d k).after len cost)

/-- The state in which a core has gone on into the delay slot of a branch of `len` parcels and `cost` cycles. -/
def State.intoSlot (s : State) (d k len cost : Nat) : State :=
  let c := s.core d k
  let pc := (c.pc + len) % 2 ^ 32
  s.setCore d k { c with pc := pc, busy := false, cyc := c.cyc + cost + enterCost c.pc pc false }

/-- The operands of a memory-form instruction stand at places `xs`, with the base words `u` changed, and the values read
are `vs` (R99, R100). -/
def State.operands (s : State) (d k sz : Nat) (l : List Arg) (xs : List Loc) (u : BaseWords) (vs : List Nat) : Bool :=
  decide (s.resolveArgs d k (2 ^ sz) [] l = some (xs, u, s)) &&
  (match s.readArgs d k 1 (l.zip xs) with
    | .ok ws t => decide (ws = vs ∧ t = s)
    | _ => false)

/-- A core executes a memory-form instruction of OP `op` now: the element size is allowed, no specifier is reserved, the
operands stand at `xs`, are aligned and are refused by nothing, those read are `vs`, and the core's queue has room for the
base words changed (R76, R96 to R100, R115). -/
def State.memReady (s : State) (d k op sz : Nat) (l : List Arg) (xs : List Loc) (u : BaseWords) (vs : List Nat) : Bool :=
  s.ready d k (argsLen l) false && ((memRow op).any fun r => r.1.contains sz) &&
    (reservedArg (2 ^ sz) (fun _ _ => none) 1 l).isNone && s.operands d k sz l xs u vs &&
    (misalignedArg 1 (l.zip xs)).isNone && (s.refusedArg d k 1 (l.zip xs)).isNone && (s.stopArgs d k 1 (l.zip xs)).isNone &&
    !(s.putBase d k u).overfull d k

/-- A core starts a block instruction now outside a delay slot: no specifier is reserved, no store of the core to its RAM is
held, the operands that are no pointers can be reached, and the count, at offset `lc` of core-local RAM, reads `n` (R105,
R106). -/
def State.blockReady (s : State) (d k op sz : Nat) (l : List Arg) (lc n : Nat) : Bool :=
  s.ready d k (argsLen l) false && decide ((s.core d k).br = none) && ((memRow op).any fun r => r.1.contains sz) &&
    (reservedArg (2 ^ sz) (s.blockBad d k) 1 l).isNone && !s.ramBehind d k &&
    decide (s.countIsZero d k (s.fixedArgs d k (2 ^ sz) 1 l) = if n = 0 then some s else none) &&
    (s.pointerTrap d k (s.fixedArgs d k (2 ^ sz) 1 l)).isNone && (badArg (s.fixedArgs d k (2 ^ sz) 1 l)).isNone &&
    decide ((l[2]?).bind (fun a => s.wordAt d k a.o) = some lc) && s.eccGood (.lram d k) lc 4 &&
    decide (s.load (.lram d k) lc 4 = n)

/-- The results of a memory-form instruction, `vs`, can be written to its operands `l`, from specifier `i` on, and the state
in which they have been (R99, R102). -/
def State.writes (s : State) (d k i : Nat) (l : List (Arg × Loc)) (vs : List Nat) : Bool :=
  match s.writeArgs d k i l vs with
  | .ok _ _ => true
  | _ => false
def State.written (s : State) (d k i : Nat) (l : List (Arg × Loc)) (vs : List Nat) : State :=
  match s.writeArgs d k i l vs with
  | .ok _ t => t
  | _ => s

/-- The state in which a block instruction of `len` parcels begins its elements: the cycles of its start-up are counted
when it starts, not when it resumes (R106, R108). -/
def State.blockBegun (s : State) (d k len : Nat) : State :=
  s.setCore d k { s.core d k with blk := false, cyc := (s.core d k).cyc + if (s.core d k).blk then 0 else len + 4 }

/-- One element's pointers, from specifier `i`, stand at `xs` and can be reached, with the base words `u` changed; those
read hold `vs` (R106, R109). -/
def State.elementReady (s : State) (d k sz i : Nat) (ptrs : List Arg) (xs : List Loc) (u : BaseWords) (vs : List Nat) : Bool :=
  decide (s.resolveArgs d k (2 ^ sz) [] ptrs = some (xs, u, s)) &&
  (match s.readArgs d k i (ptrs.zip xs) with
    | .ok ws t => decide (ws = vs ∧ t = s)
    | _ => false) &&
  (s.pointerTrap d k (numbered i (ptrs.zip xs))).isNone && (s.stopArgs d k i (ptrs.zip xs)).isNone

/-! ### Registers -/

/-- A register takes a write, and the state in which it has taken it (R11, R48). -/
def State.takes (s : State) (r : Req) (b : Blk) (o w : Nat) : Bool :=
  match s.regWrite r b o w with
  | .taken _ => true
  | _ => false
def State.took (s : State) (r : Req) (b : Blk) (o w : Nat) : State :=
  match s.regWrite r b o w with
  | .taken t => t
  | _ => s

/-- A register answers a read: the word, and the state that the read leaves (R11). -/
def State.answers (s : State) (b : Blk) (o : Nat) : Bool :=
  match s.regRead b o with
  | .word _ _ => true
  | _ => false
def State.answer (s : State) (b : Blk) (o : Nat) : Nat × State :=
  match s.regRead b o with
  | .word w t => (w, t)
  | _ => (0, s)

/-- A read of I/O space gives a word, and the word and the state it leaves; a write of it is made, and the state in which
it has been (R47, R48). -/
def State.gives (s : State) (r : Req) (a : Nat) : Bool :=
  match s.ioRead r a with
  | .word _ _ => true
  | _ => false
def State.given (s : State) (r : Req) (a : Nat) : Nat × State :=
  match s.ioRead r a with
  | .word w t => (w, t)
  | _ => (0, s)
def State.posts (s : State) (r : Req) (a w : Nat) : Bool :=
  match s.ioWrite r a w with
  | .done _ => true
  | _ => false
def State.posted (s : State) (r : Req) (a w : Nat) : State :=
  match s.ioWrite r a w with
  | .done t => t
  | _ => s

/-- A block whose registers do nothing but hold their fields. -/
def Blk.plain : Blk → Bool
  | .eth | .xspi | .sup | .wake | .arb _ | .drc _ => true
  | _ => false

/-! ### Requesters -/

/-- A requester reaches a word of I/O space of this package now: the crown die is up, no write of the requester is held,
nothing refuses the access, a read does not wait at its destination; a scan core executes its instruction, and its own IRQ_DONE and a die that is down are left
out (R48, R77, R347, R367, R386). -/
def State.reaches (s : State) (r : Req) (a : Nat) (write : Bool) : Bool :=
  s.crownRuns && decide (a % 4 = 0) && decide (s.ioCheck r a write = none) && decide (s.heldOf r = []) &&
    (write || !s.readWaits a) &&
    match r with
    | .core d k => s.coreRuns d k && (if write then !s.ownDone d k a else !s.islandDown a)
    | .host => decide (s.carriedTo a = none)
    | _ => true

/-- The state in which a requester has read a word: the host takes it as a completion (R365). -/
def State.readBy (s : State) (r : Req) (w : Nat) : State :=
  match r with
  | .host => s.hostWords [w]
  | _ => s

/-! ### Messages of the standby links -/

/-- The record of SEQs that a message meets: afresh after a silence of both paths (R310). -/
def State.seqRecord (s : State) : Hsb :=
  if s.pathSilent 0 && s.pathSilent 1 then { s.hsb with rxHigh := none, rxTaken := [] } else s.hsb

/-- The state in which a unit acts on a valid message: its path heard, its claim learned and its SEQ taken (R306, R310,
R311). -/
def State.heard (s : State) (h : SbHdr) : State :=
  let t := ({ s with hsb := s.seqRecord }.pathHeard h.path).learnClaim (h.claim % 2 ^ 32)
  { t with hsb := t.hsb.takeSeq (h.seq % 2 ^ 32) }

/-- A unit acts on a valid message: it is strapped, its ports are up, the SEQ has not been taken, and it is not OFF (R310,
R328). -/
def State.hears (s : State) (h : SbHdr) : Bool :=
  s.strapped && s.portsUp && decide (h.path < 2) && s.seqRecord.fresh (h.seq % 2 ^ 32) && decide ((s.heard h).hsbState ≠ hsbOFF)

end Sys2Proof.Machine
end

