-- ==== Sys2Proof/WellFormed.lean ====
section
/-! DEFINITION. Which commands are well formed: every operand lies in the range of the field, number or part that carries
it (R3, R34, R53, R64 to R101, R168, R175, R370). -/

namespace Sys2Proof

open Sys2Proof.Machine

/-- A compute die, and a scan core, lane or link of one (R34). -/
def isDie (d : Nat) : Bool := decide (d < 8)
def isCore (d k : Nat) : Bool := decide (d < 8 ∧ k < 4)
def isLane (d j : Nat) : Bool := decide (d < 8 ∧ j < 12)
def isLink (d m : Nat) : Bool := decide (d < 8 ∧ m < 32)

/-- A 32-bit word; a 16-bit parcel. -/
def isWord (w : Nat) : Bool := decide (w < 2 ^ 32)
def isParcel (w : Nat) : Bool := decide (w < 2 ^ 16)

/-- A specifier whose fields fit, with the extension parcels that it calls for (R97). -/
def Machine.Opd.wf (o : Opd) : Bool :=
  decide (o.mode < 8 ∧ o.space < 4 ∧ o.n < 8 ∧ o.x < 256) && o.ext.all isParcel && decide (o.ext.length ≤ 2)

/-- A frame of a link whose header fields and payload octets fit (R245). -/
def Machine.KFrame.wf (f : KFrame) : Bool :=
  decide (f.type < 2 ^ 8 ∧ f.len < 2 ^ 16 ∧ f.claim < 2 ^ 32) && f.payload.all fun o => decide (o < 256)

/-- The header of a standby message: path A or B (R310). -/
def Machine.SbHdr.wf (h : SbHdr) : Bool := decide (h.path < 2 ∧ h.claim < 2 ^ 32)

/-- A CAN FD frame whose identifier and bytes fit (R417). -/
def Machine.CanFrame.wf (f : CanFrame) : Bool :=
  decide (f.id < if f.ide then 2 ^ 29 else 2 ^ 11) && decide (f.dlc < 16) && f.data.all fun o => decide (o < 256)

/-- A requester that exists (R17). -/
def Machine.Req.wf : Req → Bool
  | .core d k => isCore d k
  | _ => true

/-- The operands of a command are in range. -/
def Instr.wf : Instr → Bool
  | .regWrite r a w => r.wf && decide (a < 2 ^ 32) && isWord w
  | .rcRead r a => r.wf && decide (a < 2 ^ 32)
  | .heldWriteTaken r => r.wf
  | .nodeEnable => true
  | .nodeNap => true
  | .nodeFreeze => true
  | .nodeReset => true
  | .nodeFaultFree _ => true
  | .fltCaptureFree r => r.wf
  | .protLock r n => r.wf && decide (n < 8)
  | .bld d k w off => isCore d k && decide (w < 4) && (off.all fun o => decide (o < 2 ^ 21))
  | .bldn d k w off => isCore d k && decide (w < 4) && (off.all fun o => decide (o < 2 ^ 21))
  | .band d k w off => isCore d k && decide (w < 4) && (off.all fun o => decide (o < 2 ^ 21))
  | .bandn d k w off => isCore d k && decide (w < 4) && (off.all fun o => decide (o < 2 ^ 21))
  | .bor d k w off => isCore d k && decide (w < 4) && (off.all fun o => decide (o < 2 ^ 21))
  | .born d k w off => isCore d k && decide (w < 4) && (off.all fun o => decide (o < 2 ^ 21))
  | .bst d k w off => isCore d k && decide (w < 4) && (off.all fun o => decide (o < 2 ^ 21))
  | .bstn d k w off => isCore d k && decide (w < 4) && (off.all fun o => decide (o < 2 ^ 21))
  | .bset d k w off => isCore d k && decide (w < 4) && (off.all fun o => decide (o < 2 ^ 21))
  | .bclr d k w off => isCore d k && decide (w < 4) && (off.all fun o => decide (o < 2 ^ 21))
  | .rise d k w off => isCore d k && decide (w < 4) && (off.all fun o => decide (o < 2 ^ 21))
  | .fall d k w off => isCore d k && decide (w < 4) && (off.all fun o => decide (o < 2 ^ 21))
  | .rAnd d k => isCore d k
  | .rOr d k => isCore d k
  | .rXor d k => isCore d k
  | .rAndn d k => isCore d k
  | .rOrn d k => isCore d k
  | .rNot d k => isCore d k
  | .rDup d k => isCore d k
  | .rDrop d k => isCore d k
  | .rSwap d k => isCore d k
  | .rOne d k => isCore d k
  | .rZero d k => isCore d k
  | .rTod d k => isCore d k
  | .rFromd d k => isCore d k
  | .rDepth d k => isCore d k
  | .rClr d k => isCore d k
  | .dup d k => isCore d k
  | .drop d k => isCore d k
  | .swap d k => isCore d k
  | .over d k => isCore d k
  | .rot d k => isCore d k
  | .nip d k => isCore d k
  | .tuck d k => isCore d k
  | .depth d k => isCore d k
  | .pick d k n => isCore d k && decide (n < 16)
  | .tor d k => isCore d k
  | .fromr d k => isCore d k
  | .rfetch d k => isCore d k
  | .add d k => isCore d k
  | .sub d k => isCore d k
  | .adds d k => isCore d k
  | .subs d k => isCore d k
  | .neg d k => isCore d k
  | .abs d k => isCore d k
  | .min d k => isCore d k
  | .max d k => isCore d k
  | .minu d k => isCore d k
  | .maxu d k => isCore d k
  | .inc d k => isCore d k
  | .dec d k => isCore d k
  | .mul d k => isCore d k
  | .mulh d k => isCore d k
  | .mulhu d k => isCore d k
  | .div d k => isCore d k
  | .divu d k => isCore d k
  | .rem d k => isCore d k
  | .remu d k => isCore d k
  | .andI d k => isCore d k
  | .orI d k => isCore d k
  | .xor d k => isCore d k
  | .notI d k => isCore d k
  | .andn d k => isCore d k
  | .shl d k => isCore d k
  | .shr d k => isCore d k
  | .sar d k => isCore d k
  | .rol d k => isCore d k
  | .ror d k => isCore d k
  | .bfx d k => isCore d k
  | .bfi d k => isCore d k
  | .clz d k => isCore d k
  | .popc d k => isCore d k
  | .sexb d k => isCore d k
  | .sexh d k => isCore d k
  | .zexb d k => isCore d k
  | .zexh d k => isCore d k
  | .ceq d k => isCore d k
  | .cne d k => isCore d k
  | .clt d k => isCore d k
  | .cge d k => isCore d k
  | .cltu d k => isCore d k
  | .cgeu d k => isCore d k
  | .sel d k => isCore d k
  | .lit11 d k v => isCore d k && decide (v < 2 ^ 11)
  | .lit16s d k v => isCore d k && decide (v < 2 ^ 16)
  | .lit16u d k v => isCore d k && decide (v < 2 ^ 16)
  | .lit32 d k v => isCore d k && decide (v < 2 ^ 32)
  | .lita d k v => isCore d k && decide (v < 2 ^ 16)
  | .lddB d k w disp => isCore d k && decide (w < 4) && disp.all isParcel
  | .lddBu d k w disp => isCore d k && decide (w < 4) && disp.all isParcel
  | .lddH d k w disp => isCore d k && decide (w < 4) && disp.all isParcel
  | .lddHu d k w disp => isCore d k && decide (w < 4) && disp.all isParcel
  | .lddW d k w disp => isCore d k && decide (w < 4) && disp.all isParcel
  | .lddT d k w disp => isCore d k && decide (w < 4) && disp.all isParcel
  | .stdB d k w disp => isCore d k && decide (w < 4) && disp.all isParcel
  | .stdH d k w disp => isCore d k && decide (w < 4) && disp.all isParcel
  | .stdW d k w disp => isCore d k && decide (w < 4) && disp.all isParcel
  | .stdT d k w disp => isCore d k && decide (w < 4) && disp.all isParcel
  | .xchdW d k w disp => isCore d k && decide (w < 4) && disp.all isParcel
  | .adddW d k w disp => isCore d k && decide (w < 4) && disp.all isParcel
  | .inI d k => isCore d k
  | .out d k => isCore d k
  | .inD d k b disp => isCore d k && decide (b < 4) && isParcel disp
  | .outD d k b disp => isCore d k && decide (b < 4) && isParcel disp
  | .bEq d k short disp => isCore d k && decide (disp < if short then 2 ^ 8 else 2 ^ 16)
  | .bNe d k short disp => isCore d k && decide (disp < if short then 2 ^ 8 else 2 ^ 16)
  | .bLt d k short disp => isCore d k && decide (disp < if short then 2 ^ 8 else 2 ^ 16)
  | .bGe d k short disp => isCore d k && decide (disp < if short then 2 ^ 8 else 2 ^ 16)
  | .bLtu d k short disp => isCore d k && decide (disp < if short then 2 ^ 8 else 2 ^ 16)
  | .bGeu d k short disp => isCore d k && decide (disp < if short then 2 ^ 8 else 2 ^ 16)
  | .bRz d k short disp => isCore d k && decide (disp < if short then 2 ^ 8 else 2 ^ 16)
  | .bRnz d k short disp => isCore d k && decide (disp < if short then 2 ^ 8 else 2 ^ 16)
  | .jmp d k disp => isCore d k && isParcel disp
  | .jmpl d k a => isCore d k && decide (a < 2 ^ 32)
  | .jmpi d k => isCore d k
  | .call d k disp => isCore d k && isParcel disp
  | .calll d k a => isCore d k && decide (a < 2 ^ 32)
  | .calli d k => isCore d k
  | .ret d k => isCore d k
  | .yield d k => isCore d k
  | .taskend d k => isCore d k
  | .nop d k => isCore d k
  | .fence d k => isCore d k
  | .brk d k => isCore d k
  | .rdtb d k => isCore d k
  | .rdcyc d k => isCore d k
  | .di d k => isCore d k
  | .ei d k => isCore d k
  | .rdcr d k n => isCore d k && decide (n < 256)
  | .wrcr d k n => isCore d k && decide (n < 256)
  | .mov d k sz a x => isCore d k && decide (sz < 3) && a.wf && x.wf
  | .addM d k sz a b x => isCore d k && decide (sz < 3) && a.wf && b.wf && x.wf
  | .subM d k sz a b x => isCore d k && decide (sz < 3) && a.wf && b.wf && x.wf
  | .andM d k sz a b x => isCore d k && decide (sz < 3) && a.wf && b.wf && x.wf
  | .orM d k sz a b x => isCore d k && decide (sz < 3) && a.wf && b.wf && x.wf
  | .xorM d k sz a b x => isCore d k && decide (sz < 3) && a.wf && b.wf && x.wf
  | .andnM d k sz a b x => isCore d k && decide (sz < 3) && a.wf && b.wf && x.wf
  | .shlM d k sz a n x => isCore d k && decide (sz < 3) && a.wf && n.wf && x.wf
  | .shrM d k sz a n x => isCore d k && decide (sz < 3) && a.wf && n.wf && x.wf
  | .sarM d k sz a n x => isCore d k && decide (sz < 3) && a.wf && n.wf && x.wf
  | .mulM d k sz a b x => isCore d k && decide (sz < 3) && a.wf && b.wf && x.wf
  | .divuM d k sz a b x => isCore d k && decide (sz < 3) && a.wf && b.wf && x.wf
  | .remuM d k sz a b x => isCore d k && decide (sz < 3) && a.wf && b.wf && x.wf
  | .bCc d k c sz a b disp => isCore d k && decide (c < 8) && decide (sz < 3) && a.wf && b.wf && disp.wf
  | .jalM d k sz tgt link => isCore d k && decide (sz < 3) && tgt.wf && link.wf
  | .iload d k sz ia x => isCore d k && decide (sz < 3) && ia.wf && x.wf
  | .istore d k sz a ia => isCore d k && decide (sz < 3) && a.wf && ia.wf
  | .movblk d k sz p q c _ => isCore d k && decide (sz < 3) && p.wf && q.wf && c.wf
  | .fillblk d k sz v q c _ => isCore d k && decide (sz < 3) && v.wf && q.wf && c.wf
  | .crcblk d k sz p r c _ => isCore d k && decide (sz < 3) && p.wf && r.wf && c.wf
  | .cmpblk d k sz p q c _ => isCore d k && decide (sz < 3) && p.wf && q.wf && c.wf
  | .enterS d k sz tgt => isCore d k && decide (sz < 3) && tgt.wf
  | .enterSc d k sz tgt => isCore d k && decide (sz < 3) && tgt.wf
  | .retS d k => isCore d k
  | .retM d k => isCore d k
  | .diM d k => isCore d k
  | .eiM d k => isCore d k
  | .fenceM d k => isCore d k
  | .brkM d k => isCore d k
  | .interruptEntry d k => isCore d k
  | .nmiEntry d k => isCore d k
  | .planeFaultEntry d k => isCore d k
  | .postedBusError d k a => isCore d k && decide (a < 2 ^ 40)
  | .diLimitExpiry d k => isCore d k
  | .coreLramData r d k w => isCore d k && r.wf && w.all isWord
  | .coreIspData r d k w => isCore d k && r.wf && w.all isWord
  | .taskEnable d k t w => isCore d k && decide (t < 16) && isWord w
  | .taskDisable d k t w => isCore d k && decide (t < 16) && isWord w
  | .taskTrig d k t => isCore d k && decide (t < 16)
  | .taskDue d k t => isCore d k && decide (t < 16)
  | .eventTaskSource d src => isDie d && decide (src < 512)
  | .releaseStart d k _ => isCore d k
  | .taskSuspend d k _ => isCore d k
  | .taskRestore d k => isCore d k
  | .copyOutDone d k => isCore d k
  | .backgroundSuspend d k => isCore d k
  | .backgroundResume d k => isCore d k
  | .imgRefresh => true
  | .imgRun _ => true
  | .imgStop _ => true
  | .restartDone => true
  | .mirrorPass => true
  | .hoodLoad q => decide (q < 32)
  | .hoodBlock d k => isCore d k
  | .hoodAbort d k => isCore d k
  | .blocking d k => isCore d k
  | .hoodNoGap d k => isCore d k
  | .hoodArmRx h d k _ _ => isCore d k && h.wf
  | .hoodReplyRx h d k _ => isCore d k && h.wf
  | .hoodAtRx h d k _ => isCore d k && h.wf
  | .hoodMissRx h d k _ => isCore d k && h.wf
  | .hoodPairMiss d k => isCore d k
  | .standbyHoodTimeout d k => isCore d k
  | .hoodPairSplit d k => isCore d k
  | .lineAnnounce => true
  | .laneRun d j => isLane d j
  | .laneStop d j => isLane d j
  | .laneResume d j => isLane d j
  | .kernelStart d j => isLane d j
  | .kernelDeadline d j => isLane d j
  | .andp d j => isLane d j
  | .orp d j => isLane d j
  | .xorp d j => isLane d j
  | .andnp d j => isLane d j
  | .notp d j => isLane d j
  | .selp d j => isLane d j
  | .zerop d j => isLane d j
  | .onesp d j => isLane d j
  | .dupp d j => isLane d j
  | .dropp d j => isLane d j
  | .swapp d j => isLane d j
  | .overp d j => isLane d j
  | .rotp d j => isLane d j
  | .nipp d j => isLane d j
  | .tuckp d j => isLane d j
  | .pickp d j n => isLane d j && decide (n < 16)
  | .shlp d j n => isLane d j && decide (1 ≤ n ∧ n ≤ 64)
  | .shrp d j n => isLane d j && decide (1 ≤ n ∧ n ≤ 64)
  | .loadp d j k => isLane d j && decide (k < 2)
  | .storep d j q => isLane d j && decide (q < 8)
  | .calp d j f => isLane d j && decide (f < 16)
  | .lutp d j t w => isLane d j && decide (t < 16) && decide (1 ≤ w ∧ w ≤ 8)
  | .popcp d j k => isLane d j && decide (k < 8)
  | .flagp d j k => isLane d j && decide (k < 4)
  | .gend d j => isLane d j
  | .laneCntLine d j => isLane d j
  | .laneSramData r d j w => isLane d j && r.wf && w.all isWord
  | .laneKsData r d j w => isLane d j && r.wf && w.all isWord
  | .khoodLoad d j => isLane d j
  | .khoodSwitch d j _ => isLane d j
  | .khoodAbort d j => isLane d j
  | .khoodSwitchPoint d j => isLane d j
  | .karmRx h d j _ _ _ _ => isLane d j && h.wf
  | .khoodAckRx h d j => isLane d j && h.wf
  | .khoodNakRx h d j => isLane d j && h.wf
  | .kgoRx h d j => isLane d j && h.wf
  | .kcancelRx h d j => isLane d j && h.wf
  | .khoodAckTimeout d j => isLane d j
  | .khoodStandbySplit d j => isLane d j
  | .jobAdmit q => decide (q < 32)
  | .jobStart q => decide (q < 32)
  | .jobEnd q => decide (q < 32)
  | .hostNop q => decide (q < 32)
  | .dramClear q => decide (q < 32)
  | .dramCrc q => decide (q < 32)
  | .nvsCommit q => decide (q < 32)
  | .imageVerify q => decide (q < 32)
  | .cmdAbort q => decide (q < 32)
  | .ingWptrWrite d w => isDie d && isWord w
  | .ingestFill d => isDie d
  | .ingestAbandon d j => isLane d j
  | .calTransfer d w => isDie d && isWord w
  | .calTransferDone d => isDie d
  | .dramTempReading d _ => isDie d
  | .caseTempReading d _ _ => isDie d
  | .thetaRaise d => isDie d
  | .thetaLeadExpiry d => isDie d
  | .capRaise => true
  | .capMessage => true
  | .linkEnable d m => isLink d m
  | .linkDisable d m => isLink d m
  | .linkRetrain d m => isLink d m
  | .hcrcFailRx d m => isLink d m
  | .battRx d m f => isLink d m && f.wf
  | .crespRx d m f => isLink d m && f.wf
  | .eventRx d m f => isLink d m && f.wf
  | .creditRx d m f => isLink d m && f.wf
  | .creditResyncRx d m f => isLink d m && f.wf
  | .creditMarkRx d m f => isLink d m && f.wf
  | .creditFullRx d m f => isLink d m && f.wf
  | .idleRx d m f => isLink d m && f.wf
  | .trainRx d m f => isLink d m && f.wf
  | .linkTxSelect d m => isLink d m
  | .idleTx d m => isLink d m
  | .creditTx d m => isLink d m
  | .trainTx d m _ _ => isLink d m
  | .linkTxGo d m => isLink d m
  | .linkRxPop d m => isLink d m
  | .linkHbTimeout d m => isLink d m
  | .linkLockLoss d m _ => isLink d m
  | .creditResyncTimeout d m => isLink d m
  | .faultRetrain d m => isLink d m
  | .linkTrainTimeout d m => isLink d m
  | .routeDeadline d m => isLink d m
  | .reflexPass d => isDie d
  | .rfxFset d w => isDie d && isWord w
  | .rfxFclr d w => isDie d && isWord w
  | .arbDecision _ _ _ _ => true
  | .hsbEnable => true
  | .hsbDisable => true
  | .hsbHandover => true
  | .hbTx => true
  | .hbRx h _ _ _ _ _ _ => h.wf
  | .resignRx h => h.wf
  | .handoverRx h _ => h.wf
  | .handackRx h _ => h.wf
  | .handackTimeout => true
  | .handoverSwitch => true
  | .lineMsgRx h n _ => h.wf && decide (n < 2 ^ 32)
  | .mirrorRx h _ _ _ => h.wf
  | .eqRx h core _ _ => h.wf && decide (core < 32)
  | .eqskipRx h core _ => h.wf && decide (core < 32)
  | .jobMsgRx h _ _ _ _ => h.wf
  | .jobMsgTx => true
  | .capMsgRx h _ => h.wf
  | .joinRx h _ _ _ _ => h.wf
  | .leaveRx h => h.wf
  | .hashRx h _ => h.wf
  | .pageHash _ => true
  | .seekwaitExpiry => true
  | .pathSilence _ => true
  | .peerSilence => true
  | .canHeartbeatTx => true
  | .canHeartbeatRx _ => true
  | .clxFrameTx => true
  | .clxFrameRx _ _ => true
  | .clxPeerLost => true
  | .keepFrameRx _ _ _ => true
  | .keepFrameTx => true
  | .keepTimeout => true
  | .irqPendSet _ w v => decide (w < 16) && isWord v
  | .irqPendClr _ w v => decide (w < 16) && isWord v
  | .irqEnSet _ w v => decide (w < 16) && isWord v
  | .irqEnClr _ w v => decide (w < 16) && isWord v
  | .irqDone r d k w => isCore d k && r.wf && isWord w
  | .wdtEnable => true
  | .wdtKick r w => r.wf && isWord w
  | .wdtPeriodEnd => true
  | .wdtHalfPeriod => true
  | .wdtGraceExpiry => true
  | .endpointReset _ => true
  | .bar0Request _ _ _ => true
  | .bar2Request _ _ _ => true
  | .queueEnable q => decide (q < 32)
  | .queueDisable q => decide (q < 32)
  | .sqDoorbell q w => decide (q < 32) && isWord w
  | .cqDoorbell q w => decide (q < 32) && isWord w
  | .queueFetch q entry _ => decide (q < 32) && decide (entry.length = 16)
  | .commandStep => true
  | .contextSlotGrant _ => true
  | .enumTx => true
  | .enumRx _ _ => true
  | .ringReadRx _ _ a => decide (a < 2 ^ 32)
  | .ringWriteRx a w => decide (a < 2 ^ 32) && isWord w
  | .ringRespRx _ _ _ => true
  | .ringCmdRx _ _ _ _ => true
  | .ringCplRx _ _ _ _ _ => true
  | .ringCheckRx _ _ w => isWord w
  | .ringApplyRx => true
  | .ringReleaseRx => true
  | .ringTimeout _ _ => true
  | .ringPortDown _ _ => true
  | .ringPortRecovered _ => true
  | .ringReenum => true
  | .fieldSupplyChange g _ => decide (g < 2)
  | .dinSample _ => true
  | .fastEdge n _ _ => decide (n < 32)
  | .dinFiltWrite n w => decide (n < 32) && isWord w
  | .lswSet w => isWord w
  | .lswClr w => isWord w
  | .lswResume => true
  | .turnonDone c => decide (c < 16)
  | .turnoffDone c => decide (c < 16)
  | .turnoffTimeout c => decide (c < 16)
  | .ocTrip c _ => decide (c < 16)
  | .otTrip c => decide (c < 16)
  | .openDetect c _ => decide (c < 16)
  | .shortDetect c => decide (c < 16)
  | .lswDiagClear c w _ => decide (c < 16) && isWord w
  | .canEnable c w => decide (c < 4) && isWord w
  | .canFrameRx c f => decide (c < 4) && f.wf
  | .canTxStart c => decide (c < 4)
  | .canTxDone c => decide (c < 4)
  | .canTxRetry c _ _ => decide (c < 4)
  | .canBusoffRecovery c => decide (c < 4)
  | .canBusStuck c => decide (c < 4)
  | .canObjsel c o => decide (c < 4) && decide (o < 2 ^ 32)
  | .canObjWrite c => decide (c < 4)
  | .canObjTxreq c => decide (c < 4)
  | .canObjCancel c => decide (c < 4)
  | .rtcSet => true
  | .rtcSetLoad => true
  | .rtcShift w => isWord w
  | .rtcSecLoRead => true
  | .rtcFracRead => true
  | .alarmFire _ => true
  | .vbatMeasure _ => true
  | .retentionLatch => true
  | .tmbSet => true
  | .ptpMessage _ => true
  | .tmbTimeLoRead => true
  | .lineEnable => true
  | .lineDisable => true
  | .refInvalid _ => true
  | .refQualified _ => true
  | .nvsCmd w => isWord w
  | .segmentStoreStart _ => true
  | .segmentProgramDone _ _ => true
  | .pouncePass _ => true
  | .pwrWarn _ => true
  | .pwrWarnEnd _ => true
  | .powerfailStore _ => true
  | .powerfailStoreEnd _ => true
  | .eventOffer => true
  | .tokenRefill _ => true
  | .evrWin7Read => true
  | .evrCursorWrite v => decide (v < 2 ^ 32)
  | .updBegin => true
  | .updPut => true
  | .updErase => true
  | .updActivate => true
  | .stagingEraseDone => true
  | .fragmentProgramDone _ => true
  | .updVerifyDone => true
  | .activateRecheck => true
  | .svcBegin _ _ _ => true
  | .svcFragmentPart _ _ _ _ _ => true
  | .svcErase _ _ _ => true
  | .svcStatus _ _ _ => true
  | .svcActivate _ _ => true
  | .updConfirm w => isWord w
  | .updLockSet => true
  | .updUnlock => true
  | .trialExpiry => true
  | .trialFallback => true
  | .keyProgram r _ => r.wf
  | .keyRevoke r w => r.wf && isWord w
  | .trngAcqRead => true
  | .trngReq _ => true
  | .trngRel _ => true
  | .trngRequestDone _ => true
  | .trngStartDone => true
  | .trngTestFail _ => true
  | .trngFailsClear => true
  | .powerOn => true
  | .railReset _ => true
  | .pwrResetN => true
  | .bootSequence _ _ _ _ => true
  | .napStoreDone => true
  | .wakeNLow => true
  | .svcWakeFrame => true
  | .napDinSample _ => true
  | .clockLockLoss _ _ => true
  | .thermHot _ _ => true
  | .thermClear => true
  | .reservedOpcodeTrap d k parcel => isCore d k && isParcel parcel
  | .instructionFetchFault d k => isCore d k
  | .canRxError c _ _ => decide (c < 4)
  | .canIntegrated c => decide (c < 4)
  | .rtcShiftDone => true
  | .railResetInStore _ => true
  | .wakeSupplySwitch _ => true
  | .latchedWakeStart => true
  | .ringFramePassOn _ _ _ _ _ => true
  | .pcieLinkTrained speed setup => decide (speed < 16) && decide (setup.width < 64)

end Sys2Proof
end

