-- ==== Sys2Proof/Certificates/Slice0/Obligations.lean ====
section
/-! DEFINITION. The statements for the provers: what each family of commands does where it completes, and what the whole
machine keeps. -/

open Sys2Proof Sys2Proof.Machine

/-! ### Stack form: words (R65 to R71) -/

/-- ADD to REMU (R68, R69): each takes ( a b ), or ( a ), and leaves one word; division and remainder are those of
bit vectors, whose quotient by zero is 0 and whose remainder by zero is a. DIV, DIVU, REM and REMU set CORE_STAT.DZ where b is
zero and change nothing else of the core. -/
def Obligations.ArithmeticWords : Prop :=
  ∀ (s : State) (d k : Nat) (a b : Word) (ds : List Word),
    s.ready d k 1 true = true → ds.length ≤ 30 →
    let h := (s.core d k).hot
    let one (c : Instr) (w : Word) : Prop :=
      h.ds = a :: ds → exec c s = .next (s.wentOn d k 1 1 { h with ds := w :: ds })
    let two (c : Instr) (cost : Nat) (w : Word) : Prop :=
      h.ds = b :: a :: ds → exec c s = .next (s.wentOn d k 1 cost { h with ds := w :: ds })
    let div (c : Instr) (w : Word) : Prop :=
      h.ds = b :: a :: ds → exec c s = .next (s.setCore d k { (s.core d k).after 1 20 with
        hot := { h with ds := w :: ds }, dz := (s.core d k).dz || b == 0 })
    let sat (i : Int) : Word := BitVec.ofInt 32 (if i < -0x80000000 then -0x80000000 else if 0x7FFFFFFF < i then 0x7FFFFFFF else i)
    two (.add d k) 1 (a + b) ∧ two (.sub d k) 1 (a - b) ∧
    two (.adds d k) 1 (sat (a.toInt + b.toInt)) ∧ two (.subs d k) 1 (sat (a.toInt - b.toInt)) ∧
    one (.neg d k) (0 - a) ∧ one (.abs d k) (sat |a.toInt|) ∧ one (.inc d k) (a + 1) ∧ one (.dec d k) (a - 1) ∧
    two (.min d k) 1 (if a.toInt ≤ b.toInt then a else b) ∧ two (.max d k) 1 (if a.toInt ≤ b.toInt then b else a) ∧
    two (.minu d k) 1 (if a.toNat ≤ b.toNat then a else b) ∧ two (.maxu d k) 1 (if a.toNat ≤ b.toNat then b else a) ∧
    two (.mul d k) 3 (a * b) ∧
    two (.mulh d k) 3 ((a.signExtend 64 * b.signExtend 64).extractLsb' 32 32) ∧
    two (.mulhu d k) 3 ((a.zeroExtend 64 * b.zeroExtend 64).extractLsb' 32 32) ∧
    div (.div d k) (a.sdiv b) ∧ div (.divu d k) (a.udiv b) ∧ div (.rem d k) (a.srem b) ∧ div (.remu d k) (a.umod b)

/-- AND to ZEXH (R68, R70): logic, shifts and rotates by bits [4:0] of the count, fields cut off at bit 31, counts of bits,
and extensions. -/
def Obligations.LogicAndShiftWords : Prop :=
  ∀ (s : State) (d k : Nat) (a b p n : Word) (ds : List Word),
    s.ready d k 1 true = true → ds.length ≤ 28 →
    let h := (s.core d k).hot
    let run (c : Instr) (i : List Word) (w : Word) : Prop :=
      h.ds = i ++ ds → exec c s = .next (s.wentOn d k 1 1 { h with ds := w :: ds })
    let cnt := (b &&& 31).toNat
    let pos := (p &&& 31).toNat
    let ones := 2 ^ (n.toNat % 64) - 1
    let mask : Word := BitVec.ofNat 32 (ones * 2 ^ pos)
    run (.andI d k) [b, a] (a &&& b) ∧ run (.orI d k) [b, a] (a ||| b) ∧ run (.xor d k) [b, a] (a ^^^ b) ∧
    run (.notI d k) [a] (~~~a) ∧ run (.andn d k) [b, a] (a &&& ~~~b) ∧
    run (.shl d k) [b, a] (a <<< cnt) ∧ run (.shr d k) [b, a] (a >>> cnt) ∧ run (.sar d k) [b, a] (a.sshiftRight cnt) ∧
    run (.rol d k) [b, a] (a <<< cnt ||| a >>> (32 - cnt)) ∧ run (.ror d k) [b, a] (a >>> cnt ||| a <<< (32 - cnt)) ∧
    run (.bfx d k) [n, p, a] ((a >>> pos) &&& BitVec.ofNat 32 ones) ∧
    run (.bfi d k) [n, p, b, a] ((a &&& ~~~mask) ||| ((b <<< pos) &&& mask)) ∧
    run (.clz d k) [a] a.clz ∧ run (.popc d k) [a] a.cpop ∧
    run (.sexb d k) [a] ((a.truncate 8).signExtend 32) ∧ run (.sexh d k) [a] ((a.truncate 16).signExtend 32) ∧
    run (.zexb d k) [a] (a &&& 0xFF) ∧ run (.zexh d k) [a] (a &&& 0xFFFF)

/-- DUP to RFETCH, and the literals (R68, R71): the data stack, top first, the return stack, and the one parcel that DUP to
RFETCH have; a literal takes a cycle per parcel. -/
def Obligations.StackWordsAndLiterals : Prop :=
  ∀ (s : State) (d k : Nat) (a b c : Word) (ds ts xs : List Word) (n v : Nat),
    let h := (s.core d k).hot
    let run (i : Instr) (pre post : List Word) : Prop :=
      h.ds = pre ++ ds → ds.length ≤ 29 → s.ready d k 1 true = true → exec i s = .next (s.wentOn d k 1 1 { h with ds := post ++ ds })
    let lit (i : Instr) (len : Nat) (w : Word) : Prop :=
      h.ds.length ≤ 31 → s.ready d k len true = true → exec i s = .next (s.wentOn d k len len { h with ds := w :: h.ds })
    run (.dup d k) [a] [a, a] ∧ run (.drop d k) [a] [] ∧ run (.swap d k) [b, a] [a, b] ∧ run (.over d k) [b, a] [a, b, a] ∧
    run (.rot d k) [c, b, a] [a, c, b] ∧ run (.nip d k) [b, a] [b] ∧ run (.tuck d k) [b, a] [b, a, b] ∧
    (h.ds.length ≤ 31 → s.ready d k 1 true = true → exec (.depth d k) s = .next (s.wentOn d k 1 1 { h with
      ds := w32 (h.ds.length + ((h.dspBase + 2 ^ 32 - h.dsp) % 2 ^ 32) / 4) :: h.ds })) ∧
    (n < 16 → xs.length = n → h.ds = xs ++ a :: ds → h.ds.length ≤ 31 → s.ready d k 1 true = true →
      exec (.pick d k n) s = .next (s.wentOn d k 1 1 { h with ds := a :: h.ds })) ∧
    (h.ds = a :: ds → ds.length ≤ 31 → h.ts.length ≤ 31 → s.ready d k 1 true = true →
      exec (.tor d k) s = .next (s.wentOn d k 1 1 { h with ds := ds, ts := a :: h.ts })) ∧
    (h.ts = a :: ts → h.ds.length ≤ 31 → ts.length ≤ 31 → s.ready d k 1 true = true →
      exec (.fromr d k) s = .next (s.wentOn d k 1 1 { h with ds := a :: h.ds, ts := ts }) ∧
      exec (.rfetch d k) s = .next (s.wentOn d k 1 1 { h with ds := a :: h.ds })) ∧
    (v < 2 ^ 11 → lit (.lit11 d k v) 1 ((BitVec.ofNat 11 v).signExtend 32)) ∧
    (v < 2 ^ 16 → lit (.lit16s d k v) 2 ((BitVec.ofNat 16 v).signExtend 32) ∧ lit (.lit16u d k v) 2 (BitVec.ofNat 32 v) ∧
      lit (.lita d k v) 2 (BitVec.ofNat 32 (s.core d k).pc + (BitVec.ofNat 16 v).signExtend 32)) ∧
    (v < 2 ^ 32 → lit (.lit32 d k v) 3 (BitVec.ofNat 32 v))

/-- The rung stack, comparisons and SEL (R67, R68, R81): operands and results, top first, one cycle each. -/
def Obligations.RungWords : Prop :=
  ∀ (s : State) (d k : Nat) (x y : Bool) (a b : Word) (rs : List Bool) (ds : List Word),
    s.ready d k 1 true = true →
    let h := (s.core d k).hot
    let rung (i : Instr) (pre post : List Bool) : Prop :=
      h.rs = pre ++ rs → rs.length ≤ 62 → h.ds.length ≤ 32 → exec i s = .next (s.wentOn d k 1 1 { h with rs := post ++ rs })
    let cmp (i : Instr) (r : Bool) : Prop :=
      h.ds = b :: a :: ds → ds.length ≤ 30 → h.rs.length ≤ 63 →
        exec i s = .next (s.wentOn d k 1 1 { h with ds := ds, rs := r :: h.rs })
    rung (.rAnd d k) [y, x] [x && y] ∧ rung (.rOr d k) [y, x] [x || y] ∧ rung (.rXor d k) [y, x] [x != y] ∧
    rung (.rAndn d k) [y, x] [x && !y] ∧ rung (.rOrn d k) [y, x] [x || !y] ∧ rung (.rNot d k) [x] [!x] ∧
    rung (.rDup d k) [x] [x, x] ∧ rung (.rDrop d k) [x] [] ∧ rung (.rSwap d k) [y, x] [x, y] ∧
    rung (.rOne d k) [] [true] ∧ rung (.rZero d k) [] [false] ∧
    (h.rs = x :: rs → rs.length ≤ 63 → h.ds.length ≤ 31 →
      exec (.rTod d k) s = .next (s.wentOn d k 1 1 { h with ds := (if x then 1 else 0) :: h.ds, rs := rs })) ∧
    (h.ds = a :: ds → ds.length ≤ 31 → h.rs.length ≤ 63 →
      exec (.rFromd d k) s = .next (s.wentOn d k 1 1 { h with ds := ds, rs := (a != 0) :: h.rs })) ∧
    (h.rs.length ≤ 64 → h.ds.length ≤ 31 →
      exec (.rDepth d k) s = .next (s.wentOn d k 1 1 { h with ds := BitVec.ofNat 32 h.rs.length :: h.ds })) ∧
    (h.rs.length ≤ 64 → h.ds.length ≤ 32 → exec (.rClr d k) s = .next (s.wentOn d k 1 1 { h with rs := [] })) ∧
    cmp (.ceq d k) (a == b) ∧ cmp (.cne d k) (a != b) ∧ cmp (.clt d k) (a.slt b) ∧ cmp (.cge d k) (b.sle a) ∧
    cmp (.cltu d k) (a.ult b) ∧ cmp (.cgeu d k) (b.ule a) ∧
    (h.ds = b :: a :: ds → ds.length ≤ 30 → h.rs = x :: rs → rs.length ≤ 63 →
      exec (.sel d k) s = .next (s.wentOn d k 1 1 { h with ds := (if x then b else a) :: ds, rs := rs }))

/-! ### Stack form: accesses (R64 to R79) -/

/-- BLD to FALL (R64, R65, R66): the offset stands in the parcels (21 bits) or is popped before the rungs; bit o of window
w is bit o % 8 of the byte at DWINw × 2^32 + o / 8; loads leave memory as it is, the others store that one byte with that
one bit changed, and BSET and BCLR store nothing where the rung is 0. -/
def Obligations.BitWords : Prop :=
  ∀ (s : State) (d k w y : Nat) (m : MemId) (off : Option Nat) (p : Word) (x : Bool) (ds : List Word) (rs : List Bool),
    let h := (s.core d k).hot
    let n := off.isSome.toNat
    let o := off.getD p.toNat
    let a := h.dwin.getD w 0 * 2 ^ 32 + o / 8
    let b := s.load m y 1
    let bit := b.testBit (o % 8)
    let put (v : Bool) := leBytes 1 (putBit b (o % 8) v)
    let load (c : Instr) (pre post : List Bool) : Prop :=
      h.rs = pre ++ rs → exec c s = .next (s.wentOn d k (1 + n) (2 + n) { h with ds := ds, rs := post ++ rs })
    let store (c : Instr) (cost : Nat) (v r : Bool) : Prop :=
      h.rs = x :: rs → s.canStore d k a (put v) m y = true →
        exec c s = .next ((s.memWrite (.core d k) m y (put v)).2.wentOn d k (1 + n) (cost + n) { h with ds := ds, rs := r :: rs })
    let keep (c : Instr) : Prop :=
      h.rs = x :: rs → x = false → s.dCheck (.core d k) a 1 true = none →
        exec c s = .next (s.wentOn d k (1 + n) (1 + n) { h with ds := ds, rs := x :: rs })
    s.ready d k (1 + n) true = true → w < 4 → (∀ v, off = some v → v < 2 ^ 21) → rs.length ≤ 63 → ds.length ≤ 31 →
    h.ds = (if off.isSome then ds else p :: ds) → s.canLoad d k a 1 m y = true →
    load (.bld d k w off) [] [bit] ∧ load (.bldn d k w off) [] [!bit] ∧
    load (.band d k w off) [x] [x && bit] ∧ load (.bandn d k w off) [x] [x && !bit] ∧
    load (.bor d k w off) [x] [x || bit] ∧ load (.born d k w off) [x] [x || !bit] ∧
    store (.bst d k w off) 1 x x ∧ store (.bstn d k w off) 1 (!x) x ∧
    (x = true → store (.bset d k w off) 1 true x ∧ store (.bclr d k w off) 1 false x) ∧
    keep (.bset d k w off) ∧ keep (.bclr d k w off) ∧
    store (.rise d k w off) 2 x (x && !bit) ∧ store (.fall d k w off) 2 x (!x && bit)

/-- LDD to ADDD (R72 to R75): the byte offset is the popped word plus the sign-extended displacement, modulo 2^32, in window
w; a load leaves everything but the core as it is, a store writes the low bytes of v, and XCHD.W and ADDD.W do both. -/
def Obligations.LoadAndStoreWords : Prop :=
  ∀ (s : State) (d k w y : Nat) (m : MemId) (disp : Option Nat) (o v : Word) (ds : List Word),
    let h := (s.core d k).hot
    let n := disp.isSome.toNat
    let e := (o + (BitVec.ofNat 16 (disp.getD 0)).signExtend 32).toNat
    let a := h.dwin.getD w 0 * 2 ^ 32 + e
    let ab := h.dwin.getD w 0 * 2 ^ 32 + e / 8
    let load (c : Instr) (r : Word) : Prop :=
      h.ds = o :: ds → exec c s = .next (s.wentOn d k (1 + n) (2 + n) { h with ds := r :: ds })
    let store (c : Instr) (a : Nat) (bs : List Byte) (cost : Nat) (r : List Word) : Prop :=
      h.ds = o :: v :: ds → s.canStore d k a bs m y = true →
        exec c s = .next ((s.memWrite (.core d k) m y bs).2.wentOn d k (1 + n) (cost + n) { h with ds := r ++ ds })
    s.ready d k (1 + n) true = true → w < 4 → ds.length ≤ 30 →
    (s.canLoad d k a 1 m y = true → load (.lddB d k w disp) ((BitVec.ofNat 8 (s.load m y 1)).signExtend 32) ∧
      load (.lddBu d k w disp) (BitVec.ofNat 32 (s.load m y 1))) ∧
    (a % 2 = 0 → s.canLoad d k a 2 m y = true → load (.lddH d k w disp) ((BitVec.ofNat 16 (s.load m y 2)).signExtend 32) ∧
      load (.lddHu d k w disp) (BitVec.ofNat 32 (s.load m y 2))) ∧
    (a % 4 = 0 → s.canLoad d k a 4 m y = true → load (.lddW d k w disp) (BitVec.ofNat 32 (s.load m y 4))) ∧
    (s.canLoad d k ab 1 m y = true → load (.lddT d k w disp) (if (s.load m y 1).testBit (e % 8) then 1 else 0)) ∧
    store (.stdB d k w disp) a (leBytes 1 v.toNat) 1 [] ∧
    (a % 2 = 0 → store (.stdH d k w disp) a (leBytes 2 v.toNat) 1 []) ∧
    (a % 4 = 0 → store (.stdW d k w disp) a (leBytes 4 v.toNat) 1 []) ∧
    (s.canLoad d k ab 1 m y = true →
      store (.stdT d k w disp) ab (leBytes 1 (putBit (s.load m y 1) (e % 8) (v.getLsbD 0))) 1 []) ∧
    (a % 4 = 0 → s.canLoad d k a 4 m y = true →
      store (.xchdW d k w disp) a (leBytes 4 v.toNat) 2 [BitVec.ofNat 32 (s.load m y 4)] ∧
      store (.adddW d k w disp) a (leBytes 4 (BitVec.ofNat 32 (s.load m y 4) + v).toNat) 2 [BitVec.ofNat 32 (s.load m y 4)])

/-- IN to OUT.D (R78, R79, R347): the word that a read of I/O space gives is pushed; an OUT makes the write; and an OUT to
the core's own IRQ_DONE whose low 4 bits are the running level ends it. The address is on the stack, or is IOBb plus four
times the parcel. A register that only holds fields gives its word, and takes the word written field by field. -/
def Obligations.IoWords : Prop :=
  ∀ (s : State) (d k b e l o : Nat) (x : Blk) (v a : Word) (ds : List Word) (ls : List Nat),
    let h := (s.core d k).hot
    let r := Req.core d k
    let p := a.toNat
    let q := (h.iob.getD b 0 + 4 * e) % 2 ^ 32
    let calm (t : State) : Prop := t.core d k = s.core d k ∧ t.overfull d k = false
    let push (t : State) (len w : Nat) : State := t.wentOn d k len (1 + len) { h with ds := BitVec.ofNat 32 w :: ds }
    let pop (t : State) (len : Nat) : State := t.wentOn d k len len { h with ds := ds }
    let inOf (n : Nat) : Prop := n % 4 = 0 ∧ s.islandDown n = false ∧ s.gives r n = true ∧ calm (s.given r n).2
    let outOf (n : Nat) : Prop := n % 4 = 0 ∧ s.ownDone d k n = false ∧ s.posts r n v.toNat = true ∧ calm (s.posted r n v.toNat)
    let holds (n : Nat) (write : Bool) : Prop := s.reaches r n write = true ∧ s.ioTarget n = .ok (.reg x o) ∧ x.plain = true
    b < 4 → e < 2 ^ 16 → ds.length ≤ 31 →
    (s.ready d k 1 true = true → h.ds = a :: ds →
      (inOf p → exec (.inI d k) s = .next (push (s.given r p).2 1 (s.given r p).1)) ∧
      (holds p false → exec (.inI d k) s = .next (push (s.rcTaken x o) 1 (s.regWord x o)))) ∧
    (s.ready d k 2 true = true → h.ds = ds →
      (inOf q → exec (.inD d k b e) s = .next (push (s.given r q).2 2 (s.given r q).1)) ∧
      (holds q false → exec (.inD d k b e) s = .next (push (s.rcTaken x o) 2 (s.regWord x o)))) ∧
    (s.ready d k 1 true = true → h.ds = a :: v :: ds →
      (outOf p → exec (.out d k) s = .next (pop (s.posted r p v.toNat) 1)) ∧
      (holds p true → exec (.out d k) s = .next (pop (s.putReg x o v.toNat) 1)) ∧
      (p % 4 = 0 → s.ownDone d k p = true → s.ioCheck r p true = none → s.heldOf r = [] → (s.core d k).prio = l :: ls →
        v.toNat % 16 = l →
        exec (.out d k) s = .next (s.setCore d k { (s.core d k).after 1 1 with hot := { h with ds := ds }, prio := ls }))) ∧
    (s.ready d k 2 true = true → h.ds = v :: ds →
      (outOf q → exec (.outD d k b e) s = .next (pop (s.posted r q v.toNat) 2)) ∧
      (holds q true → exec (.outD d k b e) s = .next (pop (s.putReg x o v.toNat) 2)))

/-! ### Stack form: transfers and system instructions (R80 to R90, R112) -/

/-- B.EQ to RET (R80 to R84): operands are popped whether the branch is taken or not; the core goes on into the delay slot
with the branch resolved: to the slot's address plus the displacement, or to the address that follows the slot; a call pushes
that address; none may stand in a delay slot itself. -/
def Obligations.BranchAndCallWords : Prop :=
  ∀ (s : State) (d k e : Nat) (short x : Bool) (a b : Word) (ds ts : List Word) (rs : List Bool),
    let c := s.core d k
    let h := c.hot
    let len := if short then 1 else 2
    let disp : Word := if short then (BitVec.ofNat 8 e).signExtend 32 else (BitVec.ofNat 16 e).signExtend 32
    let far : Word := BitVec.ofNat 32 (c.pc + 2) + (BitVec.ofNat 16 e).signExtend 32
    let next (len : Nat) (tgt : Nat) (h : Hot) : Host.Outcome State Fault Refusal :=
      .next (s.setCore d k { c.after len len with hot := h, br := some { tgt := tgt } })
    let go (len : Nat) (t : Bool) := if t then (BitVec.ofNat 32 (c.pc + len) + disp).toNat else s.slotEnd d k (c.pc + len)
    let cmp (i : Instr) (t : Bool) : Prop := h.ds = b :: a :: ds → exec i s = next len (go len t) { h with ds := ds }
    let rung (i : Instr) (t : Bool) : Prop := h.rs = x :: rs → h.ds = ds → exec i s = next len (go len t) { h with rs := rs }
    let ret (len : Nat) : Word := BitVec.ofNat 32 (s.slotEnd d k (c.pc + len))
    c.br = none → ds.length ≤ 32 →
    (s.ready d k len true = true →
      cmp (.bEq d k short e) (a == b) ∧ cmp (.bNe d k short e) (a != b) ∧ cmp (.bLt d k short e) (a.slt b) ∧
      cmp (.bGe d k short e) (b.sle a) ∧ cmp (.bLtu d k short e) (a.ult b) ∧ cmp (.bGeu d k short e) (b.ule a) ∧
      rung (.bRz d k short e) (!x) ∧ rung (.bRnz d k short e) x) ∧
    (s.ready d k 2 true = true → h.ds = ds →
      exec (.jmp d k e) s = next 2 far.toNat h ∧
      (h.ts.length ≤ 31 → exec (.call d k e) s = next 2 far.toNat { h with ts := ret 2 :: h.ts })) ∧
    (s.ready d k 3 true = true → h.ds = ds → e < 2 ^ 32 →
      exec (.jmpl d k e) s = next 3 e h ∧
      (h.ts.length ≤ 31 → exec (.calll d k e) s = next 3 e { h with ts := ret 3 :: h.ts })) ∧
    (s.ready d k 1 true = true → h.ds = a :: ds →
      exec (.jmpi d k) s = next 1 a.toNat { h with ds := ds } ∧
      (h.ts.length ≤ 31 → exec (.calli d k) s = next 1 a.toNat { h with ds := ds, ts := ret 1 :: h.ts })) ∧
    (s.ready d k 1 true = true → h.ds = ds → h.ts = a :: ts → a ≠ 0xFFFFFFF0 →
      exec (.ret d k) s = next 1 a.toNat { h with ts := ts }) ∧
    (s.ready d k 1 true = true → h.ds = ds → h.ts = a :: b :: ts → a = 0xFFFFFFF0 →
      exec (.ret d k) s = .next (s.setCore d k { c.after 1 1 with
        hot := { h with ts := b :: ts }, br := some { tgt := 0xFFFFFFF0, toMem := true } }))

/-- NOP to WRCR, YIELD and TASKEND (R61, R62, R82, R88 to R90, R138, R142, R543): FENCE completes once no write of the
core is held; BRK takes the breakpoint trap, whose return address is the next parcel; DI masks for 2,048 cycles; RDCYC
reads a count of cycles that takes in a free number of cycles waited (the model's choice, log entry 30); YIELD with no task to
yield to goes on; TASKEND ends the background, or starts the copy-outs of a task whose list has none. -/
def Obligations.SystemWords : Prop :=
  ∀ (s : State) (d k n t v : Nat) (a : Word) (ds : List Word),
    let c := s.core d k
    let h := c.hot
    s.ready d k 1 true = true → h.ds.length ≤ 30 →
    exec (.nop d k) s = .next (s.wentOn d k 1 1 h) ∧
    (s.heldOf (.core d k) = [] → exec (.fence d k) s = .next (s.wentOn d k 1 1 h)) ∧
    exec (.brk d k) s = .next (s.enterExc d k
      { vec := 0x28, cause := 0x70, opc := 0xF003, reta := (c.pc + 1) % 2 ^ 32, iaddr := c.pc }) ∧
    exec (.rdtb d k) s = .next (s.wentOn d k 1 2 { h with
      ds := BitVec.ofNat 32 (s.tmb.count / 2 ^ 32) :: BitVec.ofNat 32 s.tmb.count :: h.ds }) ∧
    (let cyc := c.cyc + Config.freeNat s.free;
      exec (.rdcyc d k) s = .next (({ s with free := s.free + 1 }).setCore d k { ({ c with cyc := cyc }).after 1 2 with
        hot := { h with ds := BitVec.ofNat 32 (cyc / 2 ^ 32) :: BitVec.ofNat 32 cyc :: h.ds } })) ∧
    exec (.di d k) s = .next (s.setCore d k { c.after 1 1 with di := some (c.cyc + 2048) }) ∧
    exec (.ei d k) s = .next (s.setCore d k { c.after 1 1 with di := none }) ∧
    (n < 256 → c.reg n = some v → exec (.rdcr d k n) s = .next (s.wentOn d k 1 1 { h with ds := BitVec.ofNat 32 v :: h.ds })) ∧
    (n < 256 → c.reg n = some v → h.ds = a :: ds →
      exec (.wrcr d k n) s = .next (s.setCore d k (({ c.after 1 1 with hot := { h with ds := ds } } : Core).setReg n a.toNat))) ∧
    (c.br = none → s.rd (.core d k) CORE_TRAP_DEPTH = 0 →
      ((∀ u, u < 16 → s.rd (.core d k) (TASK_STAT_STATE u) ≠ 2) → exec (.yield d k) s = .next (s.wentOn d k 1 1 h)) ∧
      (c.ctx = .background → exec (.taskend d k) s = .next (s.setCore d k { c.after 1 1 with
        hot := { h with ds := [], rs := [], ts := [] }, ctx := .idle })) ∧
      (c.ctx = .task t → s.rd (.core d k) (TASK_IMG_COUNT t) = 0 →
        exec (.taskend d k) s = .next ((s.setCore d k { c.after 1 1 with
          hot := { h with ds := [], rs := [], ts := [] }
          tasks := Tab.set (fun n => n) c.tasks t {} { s.task d k t with pos := 0, out := true, stop := none } }).wr
            (.core d k) (TASK_STAT_STATE t) 5)))

/-! ### Memory form (R96 to R109, R120 to R122) -/

/-- MOV to REMU.M (R69, R70, R100 to R102): the operands are resolved in order, the read ones read at the width of SZ and the
result written at it, where the core's queue has room for what is written; then the base words of the modes that step are written, and the core goes on, with a cycle for each
parcel and each memory or I/O operand and the extra cycles of the row. -/
def Obligations.MemoryFormArithmetic : Prop :=
  ∀ (s : State) (d k sz : Nat) (a b x : Opd) (xs : List Loc) (u : BaseWords) (v w : Nat),
    let i := inArg sz
    let o := outArg sz
    let fit (t : State) : Prop := (t.core d k).br = (s.core d k).br ∧ (t.core d k).busErr = false ∧ (t.core d k).wait = none ∧
      (t.putBase d k u).overfull d k = false
    let run (c : Instr) (op cost : Nat) (r : Word) : Prop :=
      let l := [i a, i b, o x]
      let t := s.written d k 1 (l.zip xs) [r.toNat]
      s.memReady d k op sz l xs u [v, w] = true → s.writes d k 1 (l.zip xs) [r.toNat] = true → fit t →
        exec c s = .next ((t.putBase d k u).after d k (argsLen l) (argsLen l + (xs.map Loc.cost).sum + cost))
    let p := BitVec.ofNat 32 v
    let q := BitVec.ofNat 32 w
    let cnt := (q &&& 31).toNat
    (let l := [i a, o x];
      let t := s.written d k 1 (l.zip xs) [p.toNat]
      s.memReady d k 0x01 sz l xs u [v] = true → s.writes d k 1 (l.zip xs) [p.toNat] = true → fit t →
        exec (.mov d k sz a x) s = .next ((t.putBase d k u).after d k (argsLen l) (argsLen l + (xs.map Loc.cost).sum))) ∧
    run (.addM d k sz a b x) 0x02 0 (p + q) ∧ run (.subM d k sz a b x) 0x03 0 (p - q) ∧
    run (.andM d k sz a b x) 0x04 0 (p &&& q) ∧ run (.orM d k sz a b x) 0x05 0 (p ||| q) ∧
    run (.xorM d k sz a b x) 0x06 0 (p ^^^ q) ∧ run (.andnM d k sz a b x) 0x07 0 (p &&& ~~~q) ∧
    run (.shlM d k sz a b x) 0x08 0 (p <<< cnt) ∧ run (.shrM d k sz a b x) 0x09 0 (p >>> cnt) ∧
    run (.sarM d k sz a b x) 0x0A 0 (p.sshiftRight cnt) ∧ run (.mulM d k sz a b x) 0x0B 2 (p * q) ∧
    (let l := [i a, i b, o x];
      let n := s.noteDiv d k q
      let div (c : Instr) (op : Nat) (r : Word) : Prop :=
        let t := n.written d k 1 (l.zip xs) [r.toNat]
        s.memReady d k op sz l xs u [v, w] = true → n.writes d k 1 (l.zip xs) [r.toNat] = true → fit t →
          exec c s = .next ((t.putBase d k u).after d k (argsLen l) (argsLen l + (xs.map Loc.cost).sum + 19))
      (n.core d k).dz = ((s.core d k).dz || q == 0) ∧
      div (.divuM d k sz a b x) 0x0C (p.udiv q) ∧ div (.remuM d k sz a b x) 0x0D (p.umod q))

/-- B.cc, JAL.M, ENTER.S and ENTER.SC (R100, R101, R103, R120): signed conditions take the sign of the width that SZ gives;
the branch goes to the delay slot's address plus the displacement; JAL.M writes the address after its slot; ENTER goes on in
stack form at once, and ENTER.SC leaves its return address and the form-return marker on the return stack. -/
def Obligations.MemoryFormTransfers : Prop :=
  ∀ (s : State) (d k sz n : Nat) (a b x : Opd) (xs : List Loc) (u : BaseWords) (v w e : Nat),
    let c := s.core d k
    let i := inArg sz
    let word (o : Opd) (r : Role) : Arg := { o := o, role := r, n := 4 }
    let bits := 8 * 2 ^ sz
    let p := BitVec.ofNat bits v
    let q := BitVec.ofNat bits w
    let cond : Bool := [p == q, p != q, p.slt q, !p.slt q, p.ult q, !p.ult q, (p &&& q) == 0, (p &&& q) != 0].getD n false
    let slot (len : Nat) := s.slotEnd d k (c.pc + len)
    c.br = none →
    (let l := [i a, i b, word x rd];
      n < 8 → s.memReady d k (0x10 + n) sz l xs u [v, w, e] = true →
      let len := argsLen l
      let y : State := s.setCore d k { c with br := some { tgt := if cond then (c.pc + len + e) % 2 ^ 32 else slot len } }
      exec (.bCc d k n sz a b x) s = .next ((y.putBase d k u).intoSlot d k len (len + (xs.map Loc.cost).sum))) ∧
    (let l := [word a rd, word x wr];
      s.memReady d k 0x18 2 l xs u [v] = true →
      let len := argsLen l
      let y : State := s.setCore d k { c with br := some { tgt := v % 2 ^ 32 } }
      let t := y.written d k 1 (l.zip xs) [slot len]
      y.writes d k 1 (l.zip xs) [slot len] = true → (t.core d k).busErr = false → (t.core d k).wait = none →
      (t.putBase d k u).overfull d k = false →
      exec (.jalM d k 2 a x) s = .next ((t.putBase d k u).intoSlot d k len (len + (xs.map Loc.cost).sum))) ∧
    (let l := [word a rdX];
      let len := argsLen l
      let y := (s.putBase d k u).after d k len (len + (xs.map Loc.cost).sum + 2)
      let z := y.core d k
      (s.memReady d k 0xF0 2 l xs u [v] = true → exec (.enterS d k 2 a) s = .next (y.setCore d k { z.goTo (v % 2 ^ 32) true with form := true })) ∧
      (s.memReady d k 0xF1 2 l xs u [v] = true → c.hot.ts.length ≤ 30 →
        exec (.enterSc d k 2 a) s = .next (y.setCore d k { z.goTo (v % 2 ^ 32) true with
          form := true, hot := { z.hot with ts := 0xFFFFFFF0 :: BitVec.ofNat 32 z.pc :: z.hot.ts } })))

/-- ILOAD and ISTORE (R44, R101, R104): a half is one parcel, a word two; the address is a word operand. -/
def Obligations.CodeAccesses : Prop :=
  ∀ (s : State) (d k sz : Nat) (a x : Opd) (p q : Loc) (u : BaseWords) (v w : Nat),
    let word (o : Opd) : Arg := { o := o, role := rdX, n := 4 }
    let even := sz = 2 → v % 2 = 0
    even → v < 2 ^ 32 → w < 2 ^ 32 →
    (let l := [word a, { outArg sz x with role := wrX }];
      s.memReady d k 0x20 sz l [p, q] u [v] = true →
      s.iBytes d k v (2 ^ sz) = (some w, s) →
      let n := s.setCore d k { s.core d k with cyc := (s.core d k).cyc + if 0x80000 ≤ v then 6 else 0 }
      let t := n.written d k 1 (l.zip [p, q]) [w]
      n.writes d k 1 (l.zip [p, q]) [w] = true → (t.core d k).br = (s.core d k).br → (t.core d k).busErr = false →
      (t.core d k).wait = none → (t.putBase d k u).overfull d k = false →
      exec (.iload d k sz a x) s = .next ((t.putBase d k u).after d k (argsLen l) (argsLen l + p.cost + q.cost + 1))) ∧
    (let l := [{ inArg sz a with role := rdX }, word x];
      s.memReady d k 0x21 sz l [p, q] u [w, v] = true → s.readLoc d k 4 q = .ok v s → s.iWriteCheck d k v = none →
      let y := (s.iStore d k v (2 ^ sz) w).2
      (s.iStore d k v (2 ^ sz) w).1 = true → y.core d k = s.core d k → (y.putBase d k u).overfull d k = false →
      exec (.istore d k sz a x) s = .next ((y.putBase d k u).after d k (argsLen l) (argsLen l + p.cost + q.cost + 1)))

/-- RET.S to BRK.M (R87, R89, R90, R101, R112, R121, R122): a return takes the form, the DI mask with the cycles left and
the address from the top frame and removes the frame; a recorded branch is pending again, or, where the handler moved RETA,
taken at once. -/
def Obligations.MemoryFormSystem : Prop :=
  ∀ (s : State) (d k : Nat) (stack : Bool),
    let c := s.core d k
    let b := Blk.core d k
    let n := s.rd b CORE_TRAP_DEPTH
    let slot := 0x100 + 32 * (n - 1)
    let word (i : Nat) := s.load (.lram d k) (slot + 4 * i) 4
    let info := word 0
    let reta := word 2
    let iaddr := word 3
    let btgt := word 4
    let at_ (op : Nat) := s.memReady d k op 0 [] [] [] [] = true
    let y := c.after 1 11
    let u := { y with form := stack, di := if info.testBit 18 then some (y.cyc + info / 2 ^ 20) else none }
    let back (v : Core) : Host.Outcome State Fault Refusal := .next ((s.setCore d k v).wr b CORE_TRAP_DEPTH (n - 1))
    let returns (v : Core) : Prop := (stack = true → exec (.retS d k) s = back v) ∧ (stack = false → exec (.retM d k) s = back v)
    (at_ (if stack then 0xF2 else 0xF3) → c.br = none → n ≠ 0 → s.ramBehind d k = false → s.eccGood (.lram d k) slot 32 = true →
      info.testBit 16 = stack →
      (info.testBit 17 = false → returns { u.goTo reta true with blk := info.testBit 19 && reta == iaddr }) ∧
      (info.testBit 17 = true → reta = iaddr →
        returns { u.goTo reta true with br := some { tgt := btgt, toMem := btgt == 0xFFFFFFF0 } }) ∧
      (info.testBit 17 = true → reta ≠ iaddr → btgt ≠ 0xFFFFFFF0 → returns (u.goTo btgt true))) ∧
    (at_ 0xF4 → exec (.diM d k) s = .next (s.setCore d k { c.after 1 1 with di := some (c.cyc + 2048) })) ∧
    (at_ 0xF5 → exec (.eiM d k) s = .next (s.setCore d k { c.after 1 1 with di := none })) ∧
    (at_ 0xF6 → s.heldOf (.core d k) = [] → exec (.fenceM d k) s = .next (s.after d k 1 1)) ∧
    (at_ 0xF7 → exec (.brkM d k) s = .next (s.enterExc d k
      { vec := 0x28, cause := 0x70, opc := 0xF700, reta := (c.pc + 1) % 2 ^ 32, iaddr := c.pc }))

/-- MOVBLK to CMPBLK (R105, R106, R541): with a count of 0 the instruction completes at once; with a count of 1 it carries
out its one element, writes its base words, its count and CRCBLK's r, and completes; CMPBLK completes without change where
the pair differs. -/
def Obligations.BlockInstructions : Prop :=
  ∀ (s : State) (d k sz lc lr : Nat) (p q r c : Opd) (xs : List Loc) (u : BaseWords) (v e : Nat),
    let word (o : Opd) : Arg := { o := o, role := wdP, n := 4 }
    let pin (o : Opd) : Arg := { o := o, role := rdP, n := 2 ^ sz }
    let pout (o : Opd) : Arg := { o := o, role := wrP, n := 2 ^ sz }
    let val (o : Opd) : Arg := { o := o, role := rdX, n := 2 ^ sz }
    let put (t : State) (ws : List (Nat × Nat)) : State := (t.putBase d k u).inPlace d k ((lc, 0) :: ws)
    let zeroed (y t : State) : Prop := t.core d k = y.core d k ∧ t.overfull d k = false ∧ t.ramBehind d k = false ∧
      t.eccGood (.lram d k) lc 4 = true ∧ t.load (.lram d k) lc 4 = 0
    let at0 (op : Nat) (l : List Arg) (i : Instr) : Prop :=
      s.blockReady d k op sz l lc 0 = true → exec i s = .next ((s.blockBegun d k (argsLen l)).after d k (argsLen l) 0)
    (let l := [pin p, pout q, word c];
      let y := s.blockBegun d k (argsLen l)
      at0 0x30 l (.movblk d k sz p q c none) ∧
      (s.blockReady d k 0x30 sz l lc 1 = true → y.elementReady d k sz 1 [pin p, pout q] xs u [v] = true →
        let t := y.written d k 1 ([pin p, pout q].zip xs) [v]
        y.writes d k 1 ([pin p, pout q].zip xs) [v] = true → zeroed y (put t []) →
        exec (.movblk d k sz p q c none) s = .next ((put t []).after d k (argsLen l) 2))) ∧
    (let l := [val p, pout q, word c];
      let y := s.blockBegun d k (argsLen l)
      at0 0x31 l (.fillblk d k sz p q c none) ∧
      (s.blockReady d k 0x31 sz l lc 1 = true → y.fillValue d k sz p = .ok v y → y.elementReady d k sz 2 [pout q] xs u [] = true →
        let t := y.written d k 2 ([pout q].zip xs) [v]
        y.writes d k 2 ([pout q].zip xs) [v] = true → zeroed y (put t []) →
        exec (.fillblk d k sz p q c none) s = .next ((put t []).after d k (argsLen l) 1))) ∧
    (let l := [pin p, word r, word c];
      let y := s.blockBegun d k (argsLen l)
      let ws := [(lr, crc32cRaw e (leBytes (2 ^ sz) v))]
      at0 0x32 l (.crcblk d k sz p r c none) ∧
      (s.blockReady d k 0x32 sz l lc 1 = true → y.wordAt d k r = some lr → y.elementReady d k sz 1 [pin p] xs u [v] = true →
        y.localWord d k lr = .ok e y → zeroed y (put y ws) →
        exec (.crcblk d k sz p r c none) s = .next ((put y ws).after d k (argsLen l) (2 ^ sz)))) ∧
    (let l := [pin p, pin q, word c];
      let y := s.blockBegun d k (argsLen l)
      at0 0x33 l (.cmpblk d k sz p q c none) ∧
      (s.blockReady d k 0x33 sz l lc 1 = true → y.elementReady d k sz 1 [pin p, pin q] xs u [v, e] = true →
        (v ≠ e → exec (.cmpblk d k sz p q c none) s = .next (y.after d k (argsLen l) 0)) ∧
        (v = e → zeroed y (put y []) → exec (.cmpblk d k sz p q c none) s = .next ((put y []).after d k (argsLen l) 3))))

/-- Exception entry (R23, R110, R111, R113): with 8 frames held the core halts; with stores of the core to its own RAM held the
entry waits for them; else the frame's eight words stand in slot
DEPTH, DEPTH has risen, and the core stands in memory form, without DI mask and branch, at the vector word's address; no
other byte of memory changes. -/
def Obligations.ExceptionEntry : Prop :=
  ∀ (s : State) (d k : Nat) (x : Exc),
    let c := s.core d k
    let b := Blk.core d k
    let m := MemId.lram d k
    let n := s.rd b CORE_TRAP_DEPTH
    let slot := 0x100 + 32 * n
    let a := s.load m (0x40 + x.vec) 4
    let left := match c.di with | none => 0 | some e => min 2047 (e - c.cyc - Config.freeNat s.free)
    let info := x.vec + x.cause * 2 ^ 8 + c.form.toNat * 2 ^ 16 + c.br.isSome.toNat * 2 ^ 17 + c.di.isSome.toNat * 2 ^ 18 +
      c.blk.toNat * 2 ^ 19 + left * 2 ^ 20
    let btgt := match c.br with | none => 0 | some y => if y.toMem then 0xFFFFFFF0 else y.tgt
    let words := [info, x.opc + x.opidx * 2 ^ 16, x.reta, x.iaddr, btgt, x.level, s.tmb.count % 2 ^ 32, 0]
    let t := s.enterExc d k x
    (n = 8 → t.rd b CORE_TRAP_HALTED = 1 ∧ t.rd b NODE_STATUS_OWN_FAULT = 1 ∧ t.mems = s.mems) ∧
    (n ≠ 8 → s.ramBehind d k = true → t = s.setCore d k { c with wait := some x }) ∧
    (n < 8 → s.ramBehind d k = false → x.vec < 0x80 → s.eccGood m (0x40 + x.vec) 4 = true → s.codeGood d k a 1 = true →
      t.core d k = { c with form := false, di := none, br := none, blk := false, busy := false, pc := a } ∧
      t.rd b CORE_TRAP_DEPTH = n + 1 ∧ t.rd b CORE_TRAP_LAST_CAUSE = x.cause % 2 ^ 8 ∧ t.rd b CORE_TRAP_LAST_VEC = x.vec ∧
      t.rd b CORE_TRAPCNT_COUNT = min (s.rd b CORE_TRAPCNT_COUNT + 1) (2 ^ 32 - 1) ∧
      (∀ i, i < 8 → t.load m (slot + 4 * i) 4 = words.getD i 0 % 2 ^ 32) ∧
      (∀ m' o, (m' ≠ m ∨ o < slot ∨ slot + 32 ≤ o) → t.byte m' o = s.byte m' o))

/-- INTERRUPT_ENTRY to INSTRUCTION_FETCH_FAULT (R55, R77, R90, R92, R96, R112, R114, R197, R344, R345, R356): where each is
accepted, the core enters its vector with its cause. -/
def Obligations.CoreBoundaryEvents : Prop :=
  ∀ (s : State) (d k a i kind e : Nat),
    let c := s.core d k
    let level := s.presented d k
    let entry (t : State) (x : Exc) : Host.Outcome State Fault Refusal := .next (t.enterExc d k x)
    let free := s.coreLive d k = true ∧ c.br = none ∧ c.busy = false
    (free → c.busErr = false → c.nmi = false → s.planePending d k = none → c.di = none → c.prio.headD 0 < level →
      s.rd (.irqDie d) (IRQ_THRESH_THRESH k) < level → c.prio.length < 8 → s.rd (.core d k) CORE_TRAP_DEPTH < 7 →
      exec (.interruptEntry d k) s = entry (s.setCore d k { c with prio := level :: c.prio })
        { vec := 0x40 + 4 * level, cause := 0x80 + level, reta := c.pc, iaddr := c.pc, level := level }) ∧
    (free → c.busErr = false → c.nmi = true → exec (.nmiEntry d k) s = entry (s.setCore d k { c with nmi := false })
      { vec := 0x04, cause := 0x90, reta := c.pc, iaddr := c.pc }) ∧
    (free → c.busErr = false → c.nmi = false → s.planePending d k = some (i, kind) →
      exec (.planeFaultEntry d k) s = entry (s.setLane d (3 * k + i) { s.lane d (3 * k + i) with xfault := none })
        { vec := 0x1C, cause := 0xA0 + 4 * i + kind, reta := c.pc, iaddr := c.pc }) ∧
    (s.coreUp d k = true → ¬ free → c.wait = none → exec (.postedBusError d k a) s =
      .next ((s.setCore d k { c with busErr := true }).offer Ev.BUS_ERROR (.core d k) [a % 2 ^ 32, a / 2 ^ 32 % 2 ^ 32])) ∧
    (free → exec (.postedBusError d k a) s =
      entry (((s.setCore d k { c with busErr := true }).offer Ev.BUS_ERROR (.core d k) [a % 2 ^ 32, a / 2 ^ 32 % 2 ^ 32]).setCore d k
        { c with busErr := false }) { vec := 0x24, cause := 0x62, reta := c.pc, iaddr := c.pc }) ∧
    (s.coreUp d k = true → c.di = some e → exec (.diLimitExpiry d k) s =
      .next ((s.setCore d k { c with di := none, dix := true, cyc := max c.cyc e }).offer Ev.DI_LONG (.core d k))) ∧
    (s.coreRuns d k = true → s.codeGood d k c.pc 1 = true → reservedOpcode c.form (a % 2 ^ 16) = some e → e ∈ [0x10, 0x11, 0x12] →
      exec (.reservedOpcodeTrap d k a) s =
        entry s { vec := 0x0C, cause := e, opc := a % 2 ^ 16, reta := (c.pc + 1) % 2 ^ 32, iaddr := c.pc }) ∧
    (s.coreRuns d k = true → fetchable c.pc = false → exec (.instructionFetchFault d k) s =
      entry (s.refuse (.core d k) 0 c.pc c.pc false 0xF0) { vec := 0x08, cause := 0x03, reta := c.pc % 2 ^ 32, iaddr := c.pc })

/-- The presented level of a core is the highest PRIO of the sources that its die's controller and the crown controller
deliver to it (R342, R344): at least that of each pending and enabled source, and 0 or that of some. -/
def Obligations.PresentedLevel : Prop :=
  ∀ (s : State) (d k : Nat),
    let offers (c : Option Nat) (src : Nat) : Prop :=
      (c = none ∨ c = some d) ∧ src < 512 ∧ (s.rd (ctlBlk c) (IRQ_PEND_PEND (src / 32))).testBit (src % 32) = true ∧
        (s.rd (ctlBlk c) (IRQ_EN_EN (src / 32))).testBit (src % 32) = true
    (∀ c src, offers c src → s.delivered c d k src ≤ s.presented d k) ∧
    (s.presented d k = 0 ∨ ∃ c src, offers c src ∧ s.delivered c d k src = s.presented d k)

/-- REG_WRITE, RC_READ and HELD_WRITE_TAKEN (R11, R48, R49, R541): an access that reaches a register has the register's own
effect, and a read gives the word that the register answers; a register that only holds fields takes the word field by
field, and each field takes what its access code gives it. -/
def Obligations.RegisterAccess : Prop :=
  ∀ (s : State) (r : Req) (b : Blk) (f : Field) (a o w : Nat) (ps : List Posted),
    let v := w % 2 ^ 32
    let z := s.setHeld r ps
    (s.reaches r a true = true → s.ioTarget a = .ok (.reg b o) → s.takes r b o v = true →
      exec (.regWrite r a w) s = .next (s.took r b o v)) ∧
    (s.reaches r a false = true → s.ioTarget a = .ok (.reg b o) → s.answers b o = true →
      exec (.rcRead r a) s = .next ((s.answer b o).2.readBy r (s.answer b o).1)) ∧
    (s.heldOf r = .io a w :: ps → s.ioTarget a = .ok (.reg b o) → z.takes r b o w = true →
      exec (.heldWriteTaken r) s = .next (match r with
        | .core d k => ((z.took r b o w).drain r ps).boundary d k
        | _ => (z.took r b o w).drain r ps)) ∧
    (b.plain = true →
      (s.reaches r a true = true → s.ioTarget a = .ok (.reg b o) → exec (.regWrite r a w) s = .next (s.putReg b o v)) ∧
      (s.reaches r a false = true → s.ioTarget a = .ok (.reg b o) →
        exec (.rcRead r a) s = .next ((s.rcTaken b o).readBy r (s.regWord b o))) ∧
      (r = .host → s.heldOf r = [.io a w] → s.ioTarget a = .ok (.reg b o) →
        exec (.heldWriteTaken r) s = .next (((s.setHeld r []).putReg b o w).setHeld r []))) ∧
    (s.putReg b o w = (fieldsOf b o).foldl (fun t g => t.putField b w g) s) ∧
    (s.putField b w f).rd b f = (match f.acc with
      | .rw => if f.vmax = 0 ∨ (f.vmin ≤ f.of w ∧ f.of w ≤ f.vmax) then f.of w % 2 ^ f.width else s.rd b f
      | .w1s => (s.rd b f ||| f.of w) % 2 ^ f.width
      | .w1c => clearBits (s.rd b f) (f.of w) % 2 ^ f.width
      | _ => s.rd b f)

/-- CORE_LRAM_DATA to IRQ_DONE (R118, R119, R145, R183, R203, R347): a data port reads or writes what its address register
names and steps the address; a core's write to its own IRQ_DONE of its running level ends that level. -/
def Obligations.DataPorts : Prop :=
  ∀ (s : State) (r : Req) (d k j w : Nat),
    let b := Blk.core d k
    let l := Blk.lane d j
    let at_ (x : Blk) (o : Nat) (write : Bool) := d < 8 ∧ s.reaches r (x.base + o) write = true
    let la := s.rd b CORE_LRAM_ADDR_ADDR
    let ia := s.rd b CORE_ISP_ADDR_ADDR
    let sa := s.rd l LANE_SRAM_ADDR_ADDR
    let ka := s.rd l LANE_KS_ADDR_ADDR
    let c := s.core d k
    (s.hasNode (.core d k) = true →
      (at_ b 0x214 true → exec (.coreLramData r d k (some w)) s =
        .next ((s.lramWords d k (4 * la) [w]).wr b CORE_LRAM_ADDR_ADDR (la + 1))) ∧
      (at_ b 0x214 false → s.eccGood (.lram d k) (4 * la) 4 = true → exec (.coreLramData r d k none) s =
        .next ((s.wr b CORE_LRAM_ADDR_ADDR (la + 1)).readBy r (s.load (.lram d k) (4 * la) 4))) ∧
      (at_ b 0x21C true → s.iWriteCheck d k (2 * ia) = none → s.iWriteCheck d k (2 * ia + 1) = none →
        exec (.coreIspData r d k (some w)) s = .next (((s.iStore d k (2 * ia) 4 w).2).wr b CORE_ISP_ADDR_ADDR (ia + 1))) ∧
      (at_ b 0x21C false → 2 * ia < 0x480000 → (∃ m o, s.iLoc d k (2 * ia) = some (m, o) ∧ s.eccGood m o 4 = true ∧ w = s.load m o 4) →
        exec (.coreIspData r d k none) s = .next ((s.wr b CORE_ISP_ADDR_ADDR (ia + 1)).readBy r w)) ∧
      (∀ x xs, r = .core d k → d < 8 → s.crownRuns = true → s.coreRuns d k = true → s.heldOf r = [] → s.ioCheck r ((Blk.irqDie d).base + 0x204 + 0x20 * k) true = none →
        c.prio = x :: xs → w % 16 = x →
        exec (.irqDone r d k w) s = .next (s.setCore d k { c with prio := xs }))) ∧
    (s.hasNode (.lane d j) = true →
      (at_ l 0x1C4 true → 0x100000 ≤ 4 * sa → (4 * sa < 0x380000 ∨ 0x380200 ≤ 4 * sa) → exec (.laneSramData r d j (some w)) s =
        .next (((s.writeBytes (.lsram d j) (4 * sa) (leBytes 4 w)).2).wr l LANE_SRAM_ADDR_ADDR (sa + 1))) ∧
      (at_ l 0x1C4 true → 4 * sa < 0x100000 → s.holdRoom d j 1 = true → exec (.laneSramData r d j (some w)) s =
        .next ((s.calWrite d j (4 * sa) (leBytes 4 w)).stepLaneAddr d j)) ∧
      (at_ l 0x1C4 false → s.eccGood (.lsram d j) (s.laneAddr d j (4 * sa)) 4 = true → (s.lane d j).held = [] →
        exec (.laneSramData r d j none) s =
          .next ((s.wr l LANE_SRAM_ADDR_ADDR (sa + 1)).readBy r (s.load (.lsram d j) (s.laneAddr d j (4 * sa)) 4))) ∧
      (at_ l 0x1CC true → s.is l LANE_KS_ADDR_RUNSLOT = false → s.rd l LANE_KHOOD_STAT_STATE ≠ 2 →
        exec (.laneKsData r d j (some w)) s =
          .next ((((s.writeBytes (.ks d j (1 - s.rd l LANE_STAT_SLOT)) (4 * ka) (leBytes 4 w)).2).wr l LANE_KS_ADDR_ADDR (ka + 1)).setKhood
            d j 0)) ∧
      (at_ l 0x1CC false → s.eccGood (.ks d j (s.ksSlot d j)) (4 * ka) 4 = true → exec (.laneKsData r d j none) s =
        .next ((s.wr l LANE_KS_ADDR_ADDR (ka + 1)).readBy r (s.load (.ks d j (s.ksSlot d j)) (4 * ka) 4))))

/-- NODE_FAULT_FREE, FLT_CAPTURE_FREE and PROT_LOCK (R32, R50): the named capture is free again, or the named region is
locked, and nothing else changes. -/
def Obligations.CapturesAndLocks : Prop :=
  ∀ (s : State) (n : Node) (r : Req) (b : Blk) (i : Nat),
    (s.hasNode n = true → exec (.nodeFaultFree n) s = .next (s.wr n.blk NODE_FAULT_VALID 0)) ∧
    (s.hasReq r = true → r.blk = some b → exec (.fltCaptureFree r) s = .next (s.wr b FLT_INFO_VALID 0) ∧
      (i < 8 → exec (.protLock r i) s = .next (s.wr b (PROT_ATTR_LOCK i) 1)) ∧
      ∀ o w, i < 8 → 0x100 + 0x10 * i ≤ o → o < 0x110 + 0x10 * i → b.node? = some n → s.is b (PROT_ATTR_LOCK i) = true →
        s.putNode n o w = some (.taken s)) ∧
    (r.blk = none → exec (.fltCaptureFree r) s = .next s ∧ exec (.protLock r i) s = .next s)

/-- IRQ_PEND_SET to IRQ_EN_CLR (R346): a 1 sets or clears its pending or enable bit, a 0 does nothing, and the enable bits
and clears touch nothing else. -/
def Obligations.InterruptRegisters : Prop :=
  ∀ (s : State) (c : Option Nat) (w v i : Nat),
    s.hasCtl c = true → w < 16 → i < 32 →
    let b := ctlBlk c
    let pend (t : State) := (t.rd b (IRQ_PEND_PEND w)).testBit i
    let en (t : State) := (t.rd b (IRQ_EN_EN w)).testBit i
    (∃ t, exec (.irqPendSet c w v) s = .next t ∧ pend t = (pend s || v.testBit i) ∧ en t = en s ∧
      t.mems = s.mems ∧ t.cores = s.cores) ∧
    (∃ t, exec (.irqPendClr c w v) s = .next t ∧ pend t = (pend s && !v.testBit i) ∧
      t = s.wr b (IRQ_PEND_PEND w) (t.rd b (IRQ_PEND_PEND w))) ∧
    (∃ t, exec (.irqEnSet c w v) s = .next t ∧ en t = (en s || v.testBit i) ∧ t = s.wr b (IRQ_EN_EN w) (t.rd b (IRQ_EN_EN w))) ∧
    (∃ t, exec (.irqEnClr c w v) s = .next t ∧ en t = (en s && !v.testBit i) ∧ t = s.wr b (IRQ_EN_EN w) (t.rd b (IRQ_EN_EN w)))

/-- WDT_ENABLE to WDT_GRACE_EXPIRY (R353 to R359): the first period starts; a right check-in is noted and a wrong one sets
BADKICK, before expiry and after it; a period in which every required task has checked in is followed by the next, and one in which a task has not
expires with an NMI at every scan core. -/
def Obligations.Watchdog : Prop :=
  ∀ (s : State) (r : Req) (w : Nat),
    let n := WDT_KICK_TASK.of w
    let period := s.rd .wdt WDT_PERIOD_US
    let required := s.wdt.required &&& s.rd .wdt WDT_TASKEN_EN
    let missing := clearBits required (s.rd .wdt WDT_DONE_DONE)
    let due := s.crownRuns = true ∧ s.is .wdt WDT_STAT_RUN = true
    let half := { s with wdt := { s.wdt with halfDone := true } }
    (s.is .wdt WDT_CTRL_EN = false → exec .wdtEnable s = .next
      { (((s.wr .wdt WDT_CTRL_EN 1).wr .wdt WDT_STAT_RUN 1).wr .wdt WDT_DONE_DONE 0) with
        wdt := { start := s.now, required := s.rd .wdt WDT_TASKEN_EN, halfDone := false, expiredAt := 0 } }) ∧
    (s.is .wdt WDT_CTRL_EN = true → exec .wdtEnable s = .next s) ∧
    (s.is .wdt WDT_STAT_EXPIRED = false → WDT_KICK_KEY.of w = 0x5A → (s.rd .wdt WDT_TASKEN_EN).testBit n = true → s.wdtOwner r n = true →
      exec (.wdtKick r w) s = .next (s.wr .wdt WDT_DONE_DONE (s.rd .wdt WDT_DONE_DONE ||| 2 ^ n))) ∧
    (s.is .wdt WDT_STAT_EXPIRED = true → WDT_KICK_KEY.of w = 0x5A → (s.rd .wdt WDT_TASKEN_EN).testBit n = true → s.wdtOwner r n = true →
      exec (.wdtKick r w) s = .next s) ∧
    ((WDT_KICK_KEY.of w ≠ 0x5A ∨ (s.rd .wdt WDT_TASKEN_EN).testBit n = false ∨ s.wdtOwner r n = false) →
      exec (.wdtKick r w) s = .next ((s.wr .wdt WDT_STAT_BADKICK 1).raiseCrown 193)) ∧
    (due → s.wdt.start + period * 1000 ≤ s.now → missing = 0 → exec .wdtPeriodEnd s = .next
      { s.wr .wdt WDT_DONE_DONE 0 with
        wdt := { s.wdt with start := s.wdt.start + period * 1000, required := s.rd .wdt WDT_TASKEN_EN, halfDone := false } }) ∧
    (due → s.wdt.start + period * 1000 ≤ s.now → missing ≠ 0 → ∃ t, exec .wdtPeriodEnd s = .next t ∧
      t.wdt = { s.wdt with expiredAt := s.now } ∧
      ∀ d k, (d, k) ∈ s.coresList → (t.core d k).nmi = true) ∧
    (due → s.wdt.halfDone = false → s.wdt.start + period * 500 ≤ s.now →
      exec .wdtHalfPeriod s =
        .next (if clearBits (s.rd .wdt WDT_TASKEN_EN) (s.rd .wdt WDT_DONE_DONE) = 0 then half else half.raiseCrown 192)) ∧
    (s.crownRuns = true → s.is .wdt WDT_STAT_EXPIRED = true → s.wdt.expiredAt + s.rd .wdt WDT_GRACE_US * 1000 ≤ s.now →
      exec .wdtGraceExpiry s = .next (s.packageReset 4))

/-- EVENT_OFFER to EVR_CURSOR_WRITE (R464, R466, R467): a record below MINSEV is discarded, one whose bucket is empty is
suppressed and counted, any other takes the next slot and SEQ; a bucket gains a token up to BURST; reading the last window
word moves the cursor on, and a cursor outside the records takes the oldest. -/
def Obligations.EventRecorder : Prop :=
  ∀ (s : State) (r : Offered) (rs : List Offered) (b v : Nat),
    let sev := r.code / 2 ^ 12
    let k := r.code % 256
    let seq := s.recorder.next
    let limited := s.is .evr (EVR_RATE_EN k) = true ∧ s.rd .evr (EVR_RATE_TOKENS k) = 0
    let t := { s with recorder := { s.recorder with hold := rs } }
    let step (t u : State) := t.recorder.hold = r :: rs → t.recorder.lost = 0 → exec .eventOffer t = .next u
    let c := s.evrCursor
    let good := s.eccGood .evr (32 * (c % 16384) + 28) 4 = true
    (sev < s.rd .evr EVR_CFG_MINSEV → step s t) ∧
    (s.rd .evr EVR_CFG_MINSEV ≤ sev → limited → step s ((t.bump .evr (EVR_SUP_COUNT k)).bump .evr EVR_SUPCNT_COUNT)) ∧
    (s.rd .evr EVR_CFG_MINSEV ≤ sev → ¬ limited → s.recorder.hold = r :: rs → s.recorder.lost = 0 →
      ∃ u, exec .eventOffer s = .next u ∧ u.recorder.hold = rs ∧ u.recorder.next = (if seq + 1 < 2 ^ 32 then seq + 1 else 1) ∧
        (u.slot (seq % 16384)) = [seq, r.code % 2 ^ 16 + (sev + s.rd .evr (EVR_SUP_COUNT k) * 16) * 2 ^ 16, r.path, r.opsec,
          s.recorder.pwrcnt, r.payload.getD 0 0, r.payload.getD 1 0, r.payload.getD 2 0] ∧
        (∀ n, n ≠ seq % 16384 → u.slot n = s.slot n)) ∧
    (b < 256 → s.rd .evr (EVR_RATE_RATE b) ≠ 0 → s.rd .evr (EVR_RATE_TOKENS b) < s.rd .evr (EVR_RATE_BURST b) →
      exec (.tokenRefill b) s = .next (s.wr .evr (EVR_RATE_TOKENS b) (s.rd .evr (EVR_RATE_TOKENS b) + 1))) ∧
    (c ≠ s.recorder.next → good → (s.slot (c % 16384)).getD 0 0 = c →
      exec .evrWin7Read s = .next (s.wr .evr EVR_CURSOR_SEQ (if c + 1 < 2 ^ 32 then c + 1 else 1))) ∧
    (c ≠ s.recorder.next → good → (s.slot (c % 16384)).getD 0 0 ≠ c →
      exec .evrWin7Read s = .next (((s.wr .evr EVR_CURSOR_SEQ s.recorder.oldest).wr .evr EVR_STAT_OVERRUN 1).raiseCrown 185)) ∧
    (v < 2 ^ 32 → 0 ≤ seqDiff v s.recorder.oldest → 0 ≤ seqDiff s.recorder.next v →
      exec (.evrCursorWrite v) s = .next (s.wr .evr EVR_CURSOR_SEQ v)) ∧
    (v < 2 ^ 32 → (seqDiff v s.recorder.oldest < 0 ∨ seqDiff s.recorder.next v < 0) →
      exec (.evrCursorWrite v) s = .next (((s.wr .evr EVR_CURSOR_SEQ s.recorder.oldest).wr .evr EVR_STAT_OVERRUN 1).raiseCrown 185))

/-- NODE_ENABLE to NODE_RESET (R38, R39, R40, R41, R389, R511): while the sequencer is free and no granted transfer holds its
first command up, the row of that command's kind refuses it with its code or applies it to the whole subtree; a package
reset and a package nap stay BUSY; a command to the ring node starts with CHECK; a freeze sets FRZ and withdraws what waits. -/
def Obligations.NodeCommands : Prop :=
  ∀ (s : State) (c : NodeCmd) (cs : List NodeCmd) (code : Nat),
    let u := { s with seqQ := cs }
    let w := c.word
    let done (t : State) : Host.Outcome State Fault Refusal := .next t.markWaiting.bootMark
    let nap := ctlNAP w = true ∧ w.testBit 1 = true
    let run (i : Instr) (k : Nat) := ctlKind w = k →
      (c.node = .ring → exec i s = done (u.ringStart w)) ∧
      (c.node ≠ .ring → u.cmdRefused c.node w = some code →
        exec i s = done ((u.wr c.node.blk NODE_CTRL_RESULT code).recordRefusal c.node w code)) ∧
      (c.node ≠ .ring → u.cmdRefused c.node w = none → ¬ (c.node = .pkg ∧ nap) → ¬ (k = 3 ∧ c.node.resetsPackage = true) →
        exec i s = done ((u.wr c.node.blk NODE_CTRL_RESULT 0).applyCmd c.node w))
    s.seqQ = c :: cs → s.seqFree = true → s.heldByGrant c = false →
    run .nodeReset 3 ∧ run .nodeNap 2 ∧ run .nodeEnable 1 ∧ run .nodeFreeze 0 ∧
    (ctlKind w = 3 → c.node ≠ .ring → c.node.resetsPackage = true → u.cmdRefused c.node w = none → exec .nodeReset s =
      done (({ u with pwr := { u.pwr with seqReset := true } }.finishBlocks (u.subtree c.node)).packageReset 5)) ∧
    (ctlKind w = 2 → c.node = .pkg → w.testBit 1 = true → u.cmdRefused .pkg w = none →
      let t := u.finishBlocks (u.subtree .pkg)
      exec .nodeNap s = done ((t.applyFields (t.subtree .pkg) (w &&& 0x50005)).napEnter w)) ∧
    (∀ d j, ctlKind w = 3 → c.node = .lane d j → ctlNAP w = false → ctlEN w = false → ctlFRZ w = false →
      u.applyCmd c.node w = (u.finishBlocks [.lane d j]).resetLane d j 2) ∧
    (∀ d j, ctlKind w = 0 → c.node = .lane d j → ctlFRZ w = true →
      u.applyCmd c.node w = (if w.testBit 2 then u.withdraw [.lane d j] else u).wrB (.lane d j) NODE_CTRL_FRZ (w.testBit 2))

/-- TASK_ENABLE to TASK_DUE and EVENT_TASK_SOURCE (R135, R136, R138, R143, R343): enabling a task makes it IDLE unless its
settings are out of range; a due time makes an IDLE task READY with its release number, and is an overrun in any other
state. -/
def Obligations.TaskDueTimes : Prop :=
  ∀ (s : State) (d k t w src : Nat),
    let b := Blk.core d k
    let r := s.task d k t
    let period := s.rd b (TASK_PERIOD_PERIOD t)
    let runs := s.is b CORE_SCHED_RUN = true ∧ s.is b NODE_CTRL_FRZ = false ∧ (s.core d k).hood.hold = none ∧ (s.core d k).eqHold = none
    let ready (q : TaskRun) (due num : Nat) := (s.setTask d k t { q with due := due, num := num, ord := s.tb + due - s.tmb.count, yielded := false, pos := 0, out := false }).wr
      b (TASK_STAT_STATE t) 2
    let num (due : Nat) := (due / 1000 - s.rd b (TASK_PHASE_PHASE t)) / period % 2 ^ 32
    let cyclic (l : Nat) := s.is b (TASK_CFG_EN t) = true ∧ s.is b (TASK_CFG_KIND t) = false ∧ s.newDues d k t = [l] ∧ s.tmb.stepTo ≤ l
    s.hasNode (.core d k) = true → t < 16 → s.rd b HOOD_STAT_STATE < 2 →
    (w % 2 = 1 → s.is b (TASK_CFG_EN t) = false → s.rd b (TASK_STAT_STATE t) = 0 →
      (w.testBit 1 = true ∨ (25 ≤ period ∧ s.rd b (TASK_PHASE_PHASE t) < period)) →
      ∃ u, exec (.taskEnable d k t w) s = .next u ∧ u.rd b (TASK_CFG_EN t) = 1 ∧ u.rd b (TASK_STAT_STATE t) = 1 ∧
        u.rd b (TASK_CFG_KIND t) = (w.testBit 1).toNat ∧ u.task d k t = { r with seen := s.tmb.count + 999, backs := s.tmb.backs, count := 0 }) ∧
    (w % 4 = 1 → s.is b (TASK_CFG_EN t) = false → (period < 25 ∨ period ≤ s.rd b (TASK_PHASE_PHASE t)) →
      ∃ u, exec (.taskEnable d k t w) s = .next u ∧ u.rd b (TASK_CFG_EN t) = s.rd b (TASK_CFG_EN t) ∧ u.rd b (TASK_STAT_CFGERR t) = 1) ∧
    (w % 2 = 0 → ∃ u, exec (.taskDisable d k t w) s = .next u ∧ u.rd b (TASK_CFG_EN t) = 0 ∧
      u.rd b (TASK_STAT_STATE t) = if s.rd b (TASK_STAT_STATE t) ≤ 2 then 0 else s.rd b (TASK_STAT_STATE t)) ∧
    (s.is b (TASK_CFG_EN t) = true → s.is b (TASK_CFG_KIND t) = true → runs → s.rd b (TASK_STAT_STATE t) = 1 →
      exec (.taskTrig d k t) s = .next (ready { r with count := r.count + 1 } s.tmb.count (r.count % 2 ^ 32))) ∧
    (∀ l, cyclic l → runs → s.rd b (TASK_STAT_STATE t) = 1 →
      exec (.taskDue d k t) s = .next (ready { r with seen := l, backs := s.tmb.backs } l (num l))) ∧
    (∀ l, cyclic l → runs → s.rd b (TASK_STAT_STATE t) ≠ 1 → exec (.taskDue d k t) s =
      .next ((s.setTask d k t { r with seen := l, backs := s.tmb.backs }).overrun d k t (num l))) ∧
    (s.hasDie d = true → src < 512 → s.bit (.irqDie d) (IRQ_PEND_PEND (src / 32)) (src % 32) = true → s.consumers d src ≠ [] →
      exec (.eventTaskSource d src) s =
        .next ((s.setBit (.irqDie d) (IRQ_PEND_PEND (src / 32)) (src % 32) false).each (s.consumers d src) fun u p => u.eventDue d p.1 p.2))

/-- The scheduler's choice (R138): of some tasks, the one of the highest priority; among equals the one that fell due
first, then one that has not yielded, then the lowest number. -/
def Obligations.SchedulerChoice : Prop :=
  ∀ (s : State) (d k t : Nat) (l : List Nat), l.Nodup → s.firstTask d k l = some t →
    let prio (x : Nat) := s.rd (.core d k) (TASK_CFG_PRIO x)
    let r (x : Nat) := s.task d k x
    t ∈ l ∧ ∀ x ∈ l, x ≠ t → prio x < prio t ∨ (prio x = prio t ∧ ((r t).ord < (r x).ord ∨ ((r t).ord = (r x).ord ∧
      (((r t).yielded = false ∧ (r x).yielded = true) ∨ ((r t).yielded = (r x).yielded ∧ t < x)))))

/-- RELEASE_START to BACKGROUND_RESUME (R138 to R142, R543): a release starts with its own registers at its entry; a task of
strictly higher priority suspends the running one, whose context is saved; what was saved is restored; the end of a release
leaves the core with nothing to run. -/
def Obligations.TaskSwitches : Prop :=
  ∀ (s : State) (d k t u n : Nat) (v : Saved),
    let b := Blk.core d k
    let c := s.core d k
    let prio (x : Nat) := s.rd b (TASK_CFG_PRIO x)
    let slot := if (s.task d k t).out then 5 else 3
    let freed := s.maySwitch d k = true ∧ c.ctx = .idle ∧ s.rd b HOOD_STAT_STATE ≠ 4 ∧ c.eqTill ≤ s.tb
    let next (l : List Nat) := s.firstTask d k (s.tasksIn d k l) = some t
    let back (x : Nat) (ctx : Ctx) : Core := { c with hot := v.hot, pc := v.pc, form := v.form, br := none, ctx := ctx, saved := Tab.erase c.saved x }
    (freed → next [2, 4] → s.rd b (TASK_STAT_STATE t) = 2 → s.rd b (TASK_IMG_COUNT t) = 0 → ∃ y, exec (.releaseStart d k n) s = .next y ∧
      y.rd b (TASK_STAT_STATE t) = 3 ∧ y.rd b (TASK_RELNUM_NUM t) = (s.task d k t).num % 2 ^ 32 ∧
      y.core d k = { c with
        hot := { Hot.fresh d k with
          dspBase := s.rd b (TASK_SPILL_BASE t) * 64, dsp := s.rd b (TASK_SPILL_BASE t) * 64 % 2 ^ 19
          dspLimit := s.rd b (TASK_SPILL_LIMIT t) * 64 }
        pc := s.rd b (TASK_ENTRY_ENTRY t), form := true, br := none, blk := false, ctx := .task t }) ∧
    (c.ctx = .task u → next [2] → s.maySwitch d k = true → prio u < prio t → s.rd b (TASK_IMG_COUNT u) ≤ (s.task d k u).pos →
      exec (.taskSuspend d k n) s = .next ((s.saveCtx d k u).wr b (TASK_STAT_STATE u) 4)) ∧
    (freed → next [2, 4] → s.rd b (TASK_STAT_STATE t) = 4 → c.saved.get t none = some v →
      exec (.taskRestore d k) s = .next ((s.setCore d k (back t (.task t))).wr b (TASK_STAT_STATE t) slot)) ∧
    (c.ctx = .task t → s.coreUp d k = true → s.rd b (TASK_STAT_STATE t) = 5 → s.rd b (TASK_IMG_COUNT t) ≤ (s.task d k t).pos →
      exec (.copyOutDone d k) s = .next (s.endRelease d k t)) ∧
    (c.ctx = .background → s.is b CORE_SCHED_RUN = true → s.maySwitch d k = true → s.tasksIn d k [2] ≠ [] →
      exec (.backgroundSuspend d k) s = .next (s.saveCtx d k 16)) ∧
    (freed → s.tasksIn d k [2, 3, 4, 5] = [] → c.saved.get 16 none = some v →
      exec (.backgroundResume d k) s = .next (s.setCore d k (back 16 .background))) ∧
    (∀ x, (s.saveCtx d k x).core d k = { c with
      saved := Tab.set (fun i => i) c.saved x none (some { hot := c.hot, pc := c.pc, form := c.form }), ctx := .idle, blk := false })

/-- HOOD_BLOCK to HOOD_PAIR_SPLIT (R159 to R167): BLOCK with no hood loaded fails with 3; a single unit waits for a gap and
blocks there, in two halves, an active unit arms and blocks only in a pair whose standby has replied, sending AT; a standby
blocks where it is idle once AT has come; a request that is aborted, misses its gap or meets a mismatch ends with its result,
the hood still loaded. -/
def Obligations.ControlHoods : Prop :=
  ∀ (s : State) (h : SbHdr) (d k digest n0 n r at_ : Nat) (p : HoodPlan),
    let b := Blk.core d k
    let stat (t : State) := t.rd b HOOD_STAT_STATE
    let hood (t : State) (x : Hood) := t.setCore d k { t.core d k with hood := x }
    let until_ := s.tb + s.rd b HOOD_WAIT_MS * 1000000
    let first := (s.rd b (TASK_RELNUM_NUM (s.rd b HOOD_CTRL_REF)) + 2) % 2 ^ 32
    let req (x : Hood) : Hood := { x with until_ := until_, look := none, hold := none, atGot := none, miss := none }
    let end_ (t : State) (result : Nat) := (t.wrs b [(HOOD_STAT_STATE, 1), (HOOD_CTRL_BLOCK, 0)]).hoodRes d k result
    let c (t : State) := (t.core d k).hood
    let half (t : State) := (t.carryOver d k p).wr b HOOD_STAT_STATE 4
    let u := s.heard h
    let standby := s.hears h = true ∧ u.hasNode (.core d k) = true ∧ u.isStandby = true
    s.hasNode (.core d k) = true →
    (stat s = 0 → exec (.hoodBlock d k) s = .next (s.hoodRes d k 3)) ∧
    (stat s = 1 → s.inPair = false →
      exec (.hoodBlock d k) s = .next ((hood s (req (c s))).wrs b [(HOOD_STAT_STATE, 3), (HOOD_CTRL_BLOCK, 1)])) ∧
    (stat s = 1 → s.inPair = true → s.isActive = true → s.refValidTask d k = true →
      exec (.hoodBlock d k) s = .next (((hood s { req (c s) with n0 := first }).wrs b [(HOOD_STAT_STATE, 2), (HOOD_CTRL_BLOCK, 1)]).hsbSend
        .arm [4 * d + k, s.rd b HOOD_DIGEST_CRC, first])) ∧
    (stat s = 2 ∨ stat s = 3 → s.inPair = false → exec (.hoodAbort d k) s = .next ((end_ s 0x0B).endHold d k)) ∧
    (stat s = 3 → s.inPair = false → s.gap d k = true → s.tb ≤ (c s).until_ → (c s).plan = some p →
      exec (.blocking d k) s = .next (half s)) ∧
    (stat s = 4 → (c s).plan = some p → exec (.blocking d k) s = .next ((s.exchange d k p).endHold d k)) ∧
    (stat s = 3 → s.inPair = true → s.isActive = true → s.gap d k = true → (c s).look = some n → s.refPast d k n = false →
      (c s).plan = some p → exec (.blocking d k) s = .next ((half s).hsbSend .atN [4 * d + k, n])) ∧
    (stat s = 3 → s.inPair = true → s.isActive = false → s.standbyReady d k = true → (c s).plan = some p →
      exec (.blocking d k) s = .next (half s)) ∧
    (stat s = 3 → s.inPair = false → (c s).until_ < s.tb →
      exec (.hoodNoGap d k) s = .next (((end_ s 2).endHold d k).offer Ev.HOOD_NO_GAP (.core d k))) ∧
    (standby → stat u = 1 → u.rd b HOOD_DIGEST_CRC = digest → exec (.hoodArmRx h d k digest n0) s =
      .next (((hood u { c u with n0 := n0 % 2 ^ 32, look := none, hold := none, atGot := none, miss := none }).wr b HOOD_STAT_STATE 3).hsbSend .reply
        [4 * d + k, 1])) ∧
    (standby → (stat u ≠ 1 ∨ u.rd b HOOD_DIGEST_CRC ≠ digest) →
      exec (.hoodArmRx h d k digest n0) s = .next ((u.hoodRes d k 7).hsbSend .reply [4 * d + k, 0])) ∧
    (s.hears h = true → u.hasNode (.core d k) = true → u.isActive = true → stat u = 2 →
      exec (.hoodReplyRx h d k true) s = .next (u.wr b HOOD_STAT_STATE 3) ∧ exec (.hoodReplyRx h d k false) s = .next (end_ u 7)) ∧
    (standby → stat u = 3 →
      exec (.hoodAtRx h d k n) s = .next ((hood u { c u with atGot := some (n, u.tb) }).blocking d k) ∧
      ((c u).look = some n → exec (.hoodMissRx h d k { n := n }) s = .next (u.endHold d k)) ∧
      ((c u).look ≠ some n → exec (.hoodMissRx h d k { n := n }) s = .next (hood u { c u with miss := some n })) ∧
      exec (.hoodMissRx h d k { n := n, final := some r }) s = .next ((end_ u r).endHold d k)) ∧
    ((c s).look = some n → s.inPair = true → s.isActive = true → stat s = 3 → s.tb ≤ (c s).until_ →
      s.refPast d k n = true → exec (.hoodPairMiss d k) s = .next ((hood s { c s with look := none }).hsbSend .miss [4 * d + k, n])) ∧
    ((c s).hold = some r → s.isStandby = true → (c s).atGot = none → r + 30000 ≤ s.tb →
      exec (.standbyHoodTimeout d k) s = .next (s.endHold d k)) ∧
    ((c s).atGot = some (n, at_) → s.isStandby = true → stat s = 3 → s.standbyReady d k = false →
      at_ + s.rd b (TASK_PERIOD_PERIOD (s.rd b HOOD_CTRL_REF)) * 1000 ≤ s.tb →
      exec (.hoodPairSplit d k) s = .next ((((end_ s 9).offer Ev.HOOD_PAIR_SPLIT (.core d k)).endHold d k).leavePair))

/-- KHOOD_LOAD to LANE_CNT_LINE (R194, R198 to R202): a hood that passes the walk and the budget is LOADED with its cost and
digest, another is refused with its parcel; SWITCH arms it, for a line or the next start, or switches a stopped lane at
once; in a pair the units agree by KARM, ACK and KGO, or the request ends with KHOOD_PAIR_MISMATCH. -/
def Obligations.KernelHoods : Prop :=
  ∀ (s : State) (h : SbHdr) (d j n count pos detail digest cost lead : Nat) (a : KArm),
    let b := Blk.lane d j
    let stat (t : State) := t.rd b LANE_KHOOD_STAT_STATE
    let slot := 1 - s.rd b LANE_STAT_SLOT
    let mem := s.mem (.ks d j slot)
    let walk := loadWalk (fun p => leNat (mem.getList (2 * p) 2)) 16384 0 [] 0
    let budget := s.rd b LANE_BUDGET_CYCLES
    let w := s.wr b LANE_KHOOD_CTRL_AT 0
    let arm (t : State) (x : KArm) := t.setLane d j { t.lane d j with arm := some x }
    let u := s.heard h
    let armed (t : State) := (t.lane d j).arm = some a ∧ a.paired = true ∧ a.line = some n
    let active (t : State) := armed t ∧ t.isActive = true ∧ a.agreed = false
    let mismatch (t : State) := ((t.setLane d j { t.lane d j with arm := none }).setKhood d j 1).khoodResult d j 8
    s.hasNode (.lane d j) = true →
    (stat s ≠ 2 → walk = .bad pos detail → s.eccGood (.ks d j slot) 0 (2 * (pos + 1)) = true →
      exec (.khoodLoad d j) s = .next (((s.wr b LANE_KHOOD_POS_PARCEL pos).setKhood d j 0).khoodResult d j 2 detail)) ∧
    (stat s ≠ 2 → walk = .ok count → s.eccGood (.ks d j slot) 0 (2 * count) = true →
      s.eccGood (.lsram d j) (0x380000 + 0x100 * slot) 256 = true → (budget = 0 ∨ count * s.rd b LANE_GROUPS_N ≤ budget) →
      exec (.khoodLoad d j) s = .next (((s.wrs b [(LANE_KHOOD_COST_PERGROUP, count),
        (LANE_KHOOD_DIGEST_CRC, crc32c (mem.getList 0 (2 * count) ++ (s.mem (.lsram d j)).getList (0x380000 + 0x100 * slot) 256))]).setKhood
          d j 1).khoodResult d j 1)) ∧
    (w.isStandby = true → exec (.khoodSwitch d j false) s = .next (w.khoodResult d j 7)) ∧
    (w.isStandby = false → stat w ≠ 1 → exec (.khoodSwitch d j false) s = .next (w.khoodResult d j 4)) ∧
    (w.isStandby = false → stat w = 1 → w.hsbState ≠ 3 → w.is b LANE_CTRL_RUN = true → w.is b LANE_KHOOD_CTRL_AT = false →
      exec (.khoodSwitch d j false) s = .next ((arm w { line := none, paired := false }).setKhood d j 2)) ∧
    (w.isStandby = false → stat w = 1 → w.hsbState ≠ 3 → w.is b LANE_CTRL_RUN = false →
      exec (.khoodSwitch d j false) s = .next (w.khoodSwitch d j none)) ∧
    (stat s = 2 → exec (.khoodAbort d j) s =
      .next (((s.setLane d j { s.lane d j with arm := none }).setKhood d j 1).khoodResult d j 0x0B)) ∧
    (∀ t : Int, (s.lane d j).arm = some a → a.line = some n → s.switchS d j n = some t → t ≤ s.ps → (a.paired = true → a.agreed = true) →
      exec (.khoodSwitchPoint d j) s = .next (s.khoodSwitch d j (some n))) ∧
    (s.hears h = true → u.hasNode (.lane d j) = true → u.isStandby = true →
      (stat u = 1 → u.rd b LANE_KHOOD_DIGEST_CRC = digest → u.rd b LANE_KHOOD_COST_PERGROUP = cost → u.rd b LANE_LEAD_NS = lead →
        exec (.karmRx h d j n digest cost lead) s =
          .next (((arm u { line := some (n % 2 ^ 32), paired := true }).setKhood d j 2).hsbSend .ack [d, j, n])) ∧
      (stat u ≠ 1 → exec (.karmRx h d j n digest cost lead) s = .next (u.hsbSend .nak [d, j, n]))) ∧
    (s.hears h = true → active u → u.aheadBy d j n 4000000 = true →
      exec (.khoodAckRx h d j) s = .next ((arm u { a with agreed := true }).hsbSend .kgo [d, j, n])) ∧
    (s.hears h = true → active u → exec (.khoodNakRx h d j) s = .next ((mismatch u).hsbSend .kcancel [d, j, n])) ∧
    (s.hears h = true → armed u → u.isStandby = true → u.aheadBy d j n 1 = true →
      exec (.kgoRx h d j) s = .next (arm u { a with agreed := true }) ∧ exec (.kcancelRx h d j) s = .next (mismatch u)) ∧
    (active s → s.aheadBy d j n 4000000 = false →
      exec (.khoodAckTimeout d j) s = .next ((mismatch s).hsbSend .kcancel [d, j, n])) ∧
    (armed s → s.isStandby = true → a.agreed = false → s.aheadBy d j n 1 = false → exec (.khoodStandbySplit d j) s =
      .next (((((s.setLane d j { s.lane d j with arm := none }).setKhood d j 1).khoodResult d j 9).offer Ev.KHOOD_PAIR_SPLIT
        (.lane d j)).leavePair)) ∧
    (∃ t, exec (.laneCntLine d j) s = .next t ∧ t.rd b LANE_CNT_LINE_LINE = (s.lane d j).cntLine % 2 ^ 32 ∧
      (∀ i, i < 8 → t.rd b (LANE_CNT_COUNT i) = (s.lane d j).counts.getD i 0 % 2 ^ 32) ∧ t.lanes = s.lanes)

/-- CAN_ENABLE to CAN_RX_ERROR and CAN_BUSOFF_RECOVERY, CAN_BUS_STUCK (R416, R417, R418, R422, R423): a controller that
leaves the bus is not integrated; one that has integrated, or recovered from bus-off, is error active with its counts at 0; a
frame is stored in the object that matches it, or counted in NOMATCH; an error counts, and the error state follows the
counts. -/
def Obligations.CanReception : Prop :=
  ∀ (s : State) (c w kind o : Nat) (f : CanFrame) (eight : Bool),
    let b := Blk.can c
    let tec := s.rd b CAN_ERRCNT_TEC
    let rec_ := s.rd b CAN_ERRCNT_REC
    let n := rec_ + if eight then 8 else 1
    let taken := s.canLive c = true ∧ (s.is b CAN_CTRL_FDEN = true ∨ f.fdf = false) ∧ f.remote = false ∧
      s.isPeerHeartbeat c f = false
    let active (t : State) := t.rd b CAN_STAT_ERRST = 0 ∧ t.rd b CAN_ERRCNT_TEC = 0 ∧ t.rd b CAN_ERRCNT_REC = 0
    c < 4 →
    (∃ u, exec (.canEnable c w) s = .next u ∧ u.rd b CAN_CTRL_EN = w % 2 ∧ u.rd b CAN_CTRL_LISTEN = w / 2 % 2 ∧
      u.rd b CAN_CTRL_FDEN = w / 4 % 2 ∧ (w % 2 = 0 → s.is b CAN_CTRL_EN = true → u.rd b CAN_STAT_ERRST = 3)) ∧
    (s.is b CAN_CTRL_EN = true → s.rd b CAN_STAT_ERRST = 3 → ∃ u, exec (.canIntegrated c) s = .next u ∧ active u) ∧
    (s.is b CAN_CTRL_EN = true → s.rd b CAN_STAT_ERRST = 2 → ∃ u, exec (.canBusoffRecovery c) s = .next u ∧ active u) ∧
    (taken → s.canMatch c f = some o → ∃ u, exec (.canFrameRx c f) s = .next u ∧ u.canObj c o = (s.canObj c o).take f) ∧
    (taken → s.canMatch c f = none → ∃ u, exec (.canFrameRx c f) s = .next u ∧ u.canOf c = s.canOf c ∧
      u.rd b CAN_NOMATCH_COUNT = min (s.rd b CAN_NOMATCH_COUNT + 1) (2 ^ 32 - 1) % 2 ^ 32) ∧
    (s.canLive c = true → ∃ u, exec (.canRxError c kind eight) s = .next u ∧ u.rd b CAN_ERRCNT_LASTERR = kind % 8 ∧
      u.rd b CAN_ERRCNT_TEC = min tec 255 ∧ u.rd b CAN_ERRCNT_REC = min n 255 ∧ u.rd b CAN_STAT_ERRST = errState tec n) ∧
    exec (.canBusStuck c) s = .next
      (((s.wr b CAN_STAT_BUSSTUCK 1).raiseCrown (123 + 8 * c)).offer Ev.CAN_BUS_STUCK .crown [c])

/-- CAN_TX_START to CAN_TX_RETRY and CAN_OBJSEL to CAN_OBJ_CANCEL (R415, R418 to R422, R426): a frame that starts has begun,
with its time, in its object's format, Classical while FDEN is 0 (log entry 199); sent, its request is over; an attempt that fails leaves it pending, with a held WRITE applied. The buffer takes the
selected object; WRITE, TXREQ and CANCEL act on it, a begun frame holding a WRITE and refusing a CANCEL. -/
def Obligations.CanTransmission : Prop :=
  ∀ (s : State) (c o kind p : Nat) (noInc : Bool),
    let b := Blk.can c
    let tec := s.rd b CAN_ERRCNT_TEC
    let rec_ := s.rd b CAN_ERRCNT_REC
    let x := s.canObj c o
    let fd := x.fdf && s.is b CAN_CTRL_FDEN
    let n := if fd then dlcLength x.dlc else min (dlcLength x.dlc) 8
    let y := s.canObj c (s.canSel c)
    let buf := (s.canOf c).buf
    let put (v : CanObj) : Host.Outcome State Fault Refusal := .next (s.setCanObj c (s.canSel c) v)
    c < 4 →
    (s.canLive c = true → s.portsUp = true → s.is b CAN_CTRL_LISTEN = false → s.canBegun c = none → s.canChoice c = some o → exec (.canTxStart c) s =
      .next ((s.setCanObj c o { x with begun := true, sofTs := s.canTsc }).emit (s.canFrameOf c o))) ∧
    s.canFrameOf c o = .canFrame c x.ide fd (fd && x.brs) (s.canSendId c o) x.dlc (x.data.take n ++ List.replicate (n - x.data.length) 0) ∧
    (s.canBegun c = some o → ∃ u, exec (.canTxDone c) s = .next u ∧
      u.canObj c o = { x.endAttempt with txreq := false, result := 1, ts := x.sofTs } ∧ u.rd b CAN_ERRCNT_TEC = min (tec - 1) 255) ∧
    (s.canBegun c = some o → exec (.canTxRetry c 0 noInc) s = .next (s.setCanObj c o x.endAttempt)) ∧
    (s.canBegun c = some o → kind ≠ 0 → ∃ u, exec (.canTxRetry c kind noInc) s = .next u ∧ u.canObj c o = x.endAttempt ∧
      u.rd b CAN_ERRCNT_LASTERR = kind % 8 ∧ u.rd b CAN_ERRCNT_TEC = min (tec + if noInc then 0 else 8) 255 ∧
      u.rd b CAN_STAT_ERRST = errState (tec + if noInc then 0 else 8) rec_) ∧
    (x.begun = true → x.endAttempt.begun = false ∧ x.endAttempt.txreq = x.txreq ∧ (x.heldWrite = none → x.endAttempt.data = x.data)) ∧
    (∃ u, exec (.canObjsel c p) s = .next u ∧ u.rd b CAN_OBJSEL_OBJ = p % 128 ∧ (u.canOf c).buf = s.canObj c (p % 128) ∧
      u.canObj c (p % 128) = { s.canObj c (p % 128) with isNew := false, lost := false }) ∧
    (s.canClash c (s.canSel c) buf = false → y.begun = false → exec (.canObjWrite c) s = put (y.write buf)) ∧
    (s.canClash c (s.canSel c) buf = false → y.begun = true →
      exec (.canObjWrite c) s = put { y with heldWrite := some buf.pack }) ∧
    (s.canClash c (s.canSel c) buf = true → y.begun = false → ∃ u, exec (.canObjWrite c) s = .next u ∧
      u.rd b CAN_STAT_CFGERR = 1 ∧ u.canObj c (s.canSel c) = { y.write buf with en := false }) ∧
    exec (.canObjTxreq c) s = (if y.dir then put { y with txreq := true } else .next s) ∧
    exec (.canObjCancel c) s = (if y.begun then put { y with result := 3 }
      else if y.txreq then put { y with txreq := false, result := 2 } else .next s)

/-- The pending object that a controller starts (R419): one that may be sent, and of those the one that wins arbitration,
the lower number on equal identifiers. -/
def Obligations.CanArbitration : Prop :=
  ∀ (s : State) (c o : Nat), s.canChoice c = some o →
    o < 128 ∧ s.canReady c o = true ∧
    ∀ p < 128, s.canReady c p = true → s.arbKey c o < s.arbKey c p ∨ (s.arbKey c o = s.arbKey c p ∧ o ≤ p)

/-- RTC_SET to RETENTION_LATCH (R429 to R435): SET loads the clock at the next tick, ends a shift, sets VALID and clears the
latch; a shift's last tick moves the clock by 3 or 1; SEC_LO freezes what FRAC releases; an alarm that reaches its time fires,
an exact one clearing its EN; VBATLOW follows the battery with its hysteresis; the retention latch loses every register. -/
def Obligations.RealTimeClock : Prop :=
  ∀ (s : State) (w k mv : Nat),
    let r (f : Field) := s.rd .rtc f
    let busy := s.is .rtc RTC_STAT_SHBUSY
    let exact := s.almMask k = 0
    let woken (u : State) : Host.Outcome State Fault Refusal :=
      .next (if s.is .rtc (ALM_CTRL_WAKE k) = true ∧ s.is .wake WAKE_CFG_RTCEN = true then u.wakeEvent 1 else u)
    exec .rtcSet s = .next (s.wr .rtc RTC_CTRL_SET 1) ∧
    (r RTC_CTRL_SET ≠ 0 → ∃ u, exec .rtcSetLoad s = .next u ∧
      u.rtc.time = (r RTC_SETFRAC_FRAC + r RTC_SETSEC_LO_SEC * 2 ^ 16 + r RTC_SETSEC_HI_SEC * 2 ^ 48) / 2 * 2 % 2 ^ 64 ∧ u.rd .rtc RTC_CTRL_SET = 0 ∧
      u.rd .rtc RTC_SHIFT_UNITS = 0 ∧ u.rd .rtc RTC_STAT_SHBUSY = 0 ∧ u.rd .rtc RTC_STAT_VALID = 1 ∧ u.rd .rtc RTC_STAT_RETLATCH = 0) ∧
    (busy = false → w % 2 ^ 16 ≠ 0 → ∃ u, exec (.rtcShift w) s = .next u ∧ u.rtc = s.rtc ∧ u.rd .rtc RTC_SHIFT_UNITS = w % 2 ^ 16 ∧
      u.rd .rtc RTC_STAT_SHBUSY = 1) ∧
    (busy = true ∨ w % 2 ^ 16 = 0 → exec (.rtcShift w) s = .next s) ∧
    (busy = true → (r RTC_SHIFT_UNITS = 1 ∨ r RTC_SHIFT_UNITS = 0xFFFF) → ∃ u, exec .rtcShiftDone s = .next u ∧
      u.rtc.time = (s.rtc.time + if r RTC_SHIFT_UNITS = 1 then 3 else 1) / 2 * 2 % 2 ^ 64 ∧ u.rd .rtc RTC_SHIFT_UNITS = 0 ∧
      u.rd .rtc RTC_STAT_SHBUSY = 0) ∧
    exec .rtcSecLoRead s = .next { s.wr .rtc RTC_STAT_FROZEN 1 with rtc := { s.rtc with shadow := some s.rtc.time } } ∧
    exec .rtcFracRead s = .next { s.wr .rtc RTC_STAT_FROZEN 0 with rtc := { s.rtc with shadow := none } } ∧
    (k < 2 → r (ALM_CTRL_EN k) ≠ 0 → s.rtc.fresh k = false → exact → s.almVal k ≤ s.rtc.time → ∃ u, exec (.alarmFire k) s = woken u ∧
      u.rd .rtc (ALM_CTRL_FIRED k) = 1 ∧ u.rd .rtc (ALM_CTRL_EN k) = 0 ∧
      u.rd .rtc (ALM_CTRL_LATE k) = if s.rtc.late k then 1 else r (ALM_CTRL_LATE k)) ∧
    (k < 2 → r (ALM_CTRL_EN k) ≠ 0 → s.rtc.fresh k = false → ¬ exact → s.almMatch k s.rtc.time = true → s.rtc.prev k = false →
      ∃ u, exec (.alarmFire k) s = woken u ∧ u.rd .rtc (ALM_CTRL_FIRED k) = 1 ∧
        u.rd .rtc (ALM_CTRL_EN k) = r (ALM_CTRL_EN k) ∧ u.rtc.prev k = true) ∧
    exec (.vbatMeasure mv) s =
      .next (if mv < 2200 then s.wr .rtc RTC_STAT_VBATLOW 1 else if 2300 < mv then s.wr .rtc RTC_STAT_VBATLOW 0 else s) ∧
    (∃ u, exec .retentionLatch s = .next u ∧ u.rtc = {} ∧ (∀ f, u.rd .rtc f = f.reset) ∧ ∀ b f, b ≠ .rtc → u.rd b f = s.rd b f)

/-- TMB_SET, PTP_MESSAGE, TMB_TIME_LO_READ and REF_INVALID, REF_QUALIFIED (R438, R439, R441, R443, R446): SET steps the count
unless a job is admitted; a PTP offset is held in PTPOFS, stepped away or disciplined within 200 ppm; a reference is lost, or
qualified after 64 ms, and with no lines to steer REF moves at once. -/
def Obligations.PackageTime : Prop :=
  ∀ (s : State) (ofs : Int) (r : Nat),
    let m (f : Field) := s.rd .tmb f
    let far := 1000000 < ofs.natAbs
    let still := s.is .tmb TMB_STAT_FOLLOW = false ∧ s.is .tmb TMB_STAT_SWITCHING = false ∧ s.is .tmb TMB_CTRL_LINEEN = false
    (s.jobAdmitted = true → exec .tmbSet s = .next ((s.wr .tmb TMB_STAT_STEPREF 1).offer Ev.TB_STEP_REFUSED .crown)) ∧
    (s.jobAdmitted = false → ∃ u, exec .tmbSet s = .next u ∧
      u.tmb.count = (m TMB_SET_LO_NS + m TMB_SET_HI_NS * 2 ^ 32) % 2 ^ 64) ∧
    exec .tmbTimeLoRead s = .next { s with tmb := { s.tmb with frozenHi := some (s.tmb.count / 2 ^ 32 % 2 ^ 32) } } ∧
    (s.is .tmb TMB_CTRL_PTPEN = true → s.jobAdmitted = false → far → ∃ u, exec (.ptpMessage ofs) s = .next u ∧
      u.tmb.count = ofSigned 64 (s.tmb.count - ofs) ∧ u.tmb.rate = 0 ∧ u.refValid 1 = false) ∧
    (s.is .tmb TMB_CTRL_PTPEN = true → (¬ far ∨ s.jobAdmitted = true) → ∃ u, exec (.ptpMessage ofs) s = .next u ∧
      u.tmb.count = s.tmb.count ∧ u.tmb.rate.natAbs ≤ (if far then 100000 else 200000) ∧
      u.refValid 1 = decide (ofs.natAbs ≤ 1000)) ∧
    ((r = 1 ∨ r = 2) → s.refValid r = true → s.refBroken r = true → exec (.refInvalid r) s = .next (s.loseRef r) ∧
      (s.loseRef r).refValid r = false ∧ (s.loseRef r).refQual r = false ∧
      (still → m TMB_STAT_REF = r → (s.loseRef r).rd .tmb TMB_STAT_REF = (s.loseRef r).bestRef)) ∧
    ((r = 1 ∨ r = 2) → s.refValid r = true → s.refQual r = false → s.refSince r + 64000000 ≤ s.tb →
      ∃ u, exec (.refQualified r) s = .next u ∧ u.refQual r = true ∧
        (still → u.rd .tmb TMB_STAT_REF = max r (m TMB_STAT_REF)))

/-- LINE_ENABLE, LINE_DISABLE and LINE_ANNOUNCE (R440, R443, R446): the first line is TMB_LINE_NEXT, in free running due
TMB_ANN and 1 µs after the write; disabling stops the lines and completes a switch; a line that is due is announced with its
number and its F, the next number following. -/
def Obligations.LineGenerator : Prop :=
  ∀ (s : State),
    let t := s.generate.2
    let m (g : Field) := s.rd .tmb g
    let t0 := (s.tmb.count + m TMB_ANN_NS + 1000) * 1000
    (m TMB_CTRL_LINEEN = 0 → ∃ u, exec .lineEnable s = .next u ∧ u.rd .tmb TMB_CTRL_LINEEN = 1 ∧
      u.tmb.nextN = m TMB_LINE_NEXT_LINE ∧ u.tmb.periods = [] ∧
      (m TMB_STAT_REF = 0 → u.tmb.nextF = some t0) ∧
      (m TMB_STAT_REF = 2 → s.encStopped = true → u.tmb.nextF = none) ∧
      (∀ o p, s.grid (m TMB_STAT_REF) = some (o, p) → ¬ (m TMB_STAT_REF = 2 ∧ s.encStopped = true) → u.tmb.nextF = some (gridAfter o p t0))) ∧
    (m TMB_CTRL_LINEEN ≠ 0 → ∃ u, exec .lineDisable s = .next u ∧ u.rd .tmb TMB_CTRL_LINEEN = 0 ∧ u.tmb.nextF = none ∧
      u.rd .tmb TMB_STAT_LINERUN = 0 ∧ u.lines = s.lines ∧
      u.rd .tmb TMB_STAT_REF = if m TMB_STAT_SWITCHING = 0 then m TMB_STAT_REF else m TMB_STAT_TARGET % 4) ∧
    (∀ n f, s.generate.1 = some (n, f) → ∃ u, exec .lineAnnounce s = .next u ∧
      u.lines = t.lines ++ [{ n := n, f := f, at_ := s.tmb.count }] ∧ u.job.lastF = some f ∧
      n = s.tmb.nextN ∧ t.tmb.nextN = (n + 1) % 2 ^ 32 ∧ u.tmb = t.tmb) ∧
    (s.generate.1 = none → exec .lineAnnounce s = .next t)

/-- LSW_SET to LSW_DIAG_CLEAR (R399 to R405): a command is kept unless FAILSAFE is 1; a channel's phase follows its turn-on
and turn-off; a trip sets its bit and LATCHED and turns the channel off; OPEN, below 10 mA, and SHORT do not; LATCHED clears with both OC
and OT. -/
def Obligations.LoadSwitches : Prop :=
  ∀ (s : State) (c w ma ms : Nat) (cool : Bool),
    let x (t : State) (f : Nat → Field) := t.rd .lsw (f c)
    let phase (t : State) := x t LSW_CH_STAT_PHASE
    let safe := s.is .lsw LSW_STAT_FAILSAFE
    let up := s.missing (chanGroup c) = false
    let rest (t : State) := if s.missing (chanGroup c) then phHELDOFF else if t.chanDrives c then phTURNON else phOFF
    let short := s.is .lsw (LSW_CH_CFG_SHORTEN c) = true ∧ s.heldOff = false
    let low := (s.calibrate 6 7 ma).1 < 10
    let wet := w.testBit 8
    let hot := w.testBit 9 && cool
    c < 16 →
    (safe = true → exec (.lswSet w) s = .next s ∧ exec (.lswClr w) s = .next s) ∧
    (safe = false → (∃ u, exec (.lswSet w) s = .next u ∧ u.bit .lsw LSW_CMD_CMD c = (w.testBit c || s.bit .lsw LSW_CMD_CMD c)) ∧
      ∃ u, exec (.lswClr w) s = .next u ∧ u.bit .lsw LSW_CMD_CMD c = (!w.testBit c && s.bit .lsw LSW_CMD_CMD c)) ∧
    (phase s = phTURNON → exec (.turnonDone c) s = .next (s.wr .lsw (LSW_CH_STAT_PHASE c) phON)) ∧
    (phase s = phTURNOFF → ∃ u, exec (.turnoffDone c) s = .next u ∧ phase u = rest s ∧ x u LSW_CH_STAT_PEND = 0) ∧
    (phase s = phTURNOFF → ∃ u, exec (.turnoffTimeout c) s = .next u ∧ phase u = rest s ∧
      (short → x u LSW_CH_STAT_SHORT ≠ 0) ∧ (¬ short → x u LSW_CH_STAT_SHORT = x s LSW_CH_STAT_SHORT)) ∧
    (s.chanDrives c = true → phase s = phTURNON ∨ phase s = phON → s.rd .lsw (LSW_CH_CFG_OCBLANK c) ≤ ms → ∃ u, exec (.ocTrip c ms) s = .next u ∧ x u LSW_CH_STAT_OC ≠ 0 ∧
      x u LSW_CH_STAT_LATCHED = 1 ∧ u.chanDrives c = false ∧ phase u = phTURNOFF) ∧
    (∃ u, exec (.otTrip c) s = .next u ∧ x u LSW_CH_STAT_OT ≠ 0 ∧ x u LSW_CH_STAT_LATCHED = 1 ∧ u.chanDrives c = false ∧
      (up → phase s = phTURNON ∨ phase s = phON → phase u = phTURNOFF)) ∧
    (phase s = phON → up → s.is .lsw (LSW_CH_CFG_OPENEN c) = true → ∃ u, exec (.openDetect c ma) s = .next u ∧ phase u = phON ∧
      (low → x u LSW_CH_STAT_OPEN ≠ 0) ∧ (¬ low → x u LSW_CH_STAT_OPEN = x s LSW_CH_STAT_OPEN)) ∧
    (phase s = phOFF → up → short → ∃ u, exec (.shortDetect c) s = .next u ∧ x u LSW_CH_STAT_SHORT ≠ 0 ∧ phase u = phOFF) ∧
    (∃ u, exec (.lswDiagClear c w cool) s = .next u ∧ x u LSW_CH_STAT_OC = (if wet then 0 else x s LSW_CH_STAT_OC) ∧
      x u LSW_CH_STAT_OT = (if hot then 0 else x s LSW_CH_STAT_OT) ∧
      x u LSW_CH_STAT_LATCHED = if (wet ∨ x s LSW_CH_STAT_OC = 0) ∧ (hot ∨ x s LSW_CH_STAT_OT = 0) then 0
        else x s LSW_CH_STAT_LATCHED)

/-- KEEP_FRAME_RX, KEEP_TIMEOUT, LSW_RESUME and FIELD_SUPPLY_CHANGE (R337, R393, R407 to R410): a keep frame sets KEEPOK and
carries the unit's role and claim to the drive rule, by which a claim that has risen drives only once a frame carrying it has
ended; the timeout sets FAILSAFE and gives each channel its fail-safe command;
RESUME clears FAILSAFE only while KEEPOK is 1; a supply group takes the state of its measured voltage. -/
def Obligations.FieldWatch : Prop :=
  ∀ (s : State) (active run : Bool) (claim g raw c : Nat),
    let k (t : State) (f : Field) := t.rd .lsw f
    let l (t : State) (f : Field) := t.rd .sup f
    let own := claim % 2 ^ 32
    let late := k s LSW_STAT_KEEPOK ≠ 0 ∧ s.field.lastKeep + k s LSW_KEEP_TMO_MS * 1000000 ≤ s.now
    let code := k s LSW_FS_FS / 2 ^ (2 * c) % 4
    (∃ u, exec (.keepFrameRx active claim run) s = .next u ∧ k u LSW_STAT_KEEPOK = 1 ∧ u.field.lastKeep = s.now ∧
      u.field.keepRole = active ∧ u.field.keepClaim = own ∧ l u CLX_STAT_ROLE = active.toNat ∧ l u CLX_OWN_CLAIM = own ∧
      (s.strapped = true → l u CLX_STAT_DRIVE = (active && (l s CLX_STAT_DRIVE != 0 || decide (own ≤ s.field.clxClaim)) &&
        (l s CLX_STAT_PEERVALID == 0 || decide (l s CLX_PEER_CLAIM < own))).toNat)) ∧
    (late → ∃ u, exec .keepTimeout s = .next u ∧ k u LSW_STAT_KEEPOK = 0 ∧ k u LSW_STAT_FAILSAFE = 1 ∧
      (c < 16 → u.bit .lsw LSW_CMD_CMD c = if code = 2 then s.bit .lsw LSW_CMD_CMD c else decide (code = 1))) ∧
    (k s LSW_STAT_KEEPOK ≠ 0 → ∃ u, exec .lswResume s = .next u ∧ k u LSW_STAT_FAILSAFE = 0 ∧ u.field.qxAll = true) ∧
    (k s LSW_STAT_KEEPOK = 0 → exec .lswResume s = .next s) ∧
    (g < 2 → ∃ u, exec (.fieldSupplyChange g raw) s = .next u ∧
      u.supply g = supplyNext (s.supply g) (s.calibrate (2 * g) (2 * g + 1) raw).1 % 4)

/-- DIN_SAMPLE, DIN_FILT_WRITE and FAST_EDGE (R395 to R398): a sample that is due steps an input's counter, and the state
follows where it reaches an end, but of a missing group only RAW; FILT_MAX sets the counter to match the state; a fast input takes its level at once and counts. -/
def Obligations.DigitalInputs : Prop :=
  ∀ (s : State) (i w raw at_ : Nat) (level : Bool),
    let bit (t : State) (f : Field) := t.bit .din f i
    let mx := s.rd .din (DIN_FILT_MAX i)
    let n := s.rd .din (DIN_FILT_COUNT i)
    let n' := if raw.testBit i then min (n + 1) mx else n - 1
    let due := s.fieldRuns = true ∧ s.field.nextSample ≤ s.now
    i < 32 →
    (due → s.isFast i = false → s.missing (inputGroup i) = true → ∃ u, exec (.dinSample raw) s = .next u ∧
      u.rd .din (DIN_FILT_COUNT i) = n ∧ bit u DIN_RAW_RAW = raw.testBit i ∧ bit u DIN_STATE_STATE = bit s DIN_STATE_STATE ∧
      bit u DIN_VALID_VALID = bit s DIN_VALID_VALID) ∧
    (due → s.isFast i = false → s.missing (inputGroup i) = false → ∃ u, exec (.dinSample raw) s = .next u ∧
      u.field.nextSample = s.now + 1000 * s.rd .din DIN_PERIOD_US ∧ u.rd .din (DIN_FILT_COUNT i) = n' % 2 ^ 12 ∧ bit u DIN_RAW_RAW = raw.testBit i ∧
      bit u DIN_STATE_STATE = (if n' = mx then true else if n' = 0 then false else bit s DIN_STATE_STATE) ∧
      bit u DIN_VALID_VALID = (bit s DIN_VALID_VALID || n' == mx || n' == 0)) ∧
    (w % 2 ^ 12 ≠ 0 → ∃ u, exec (.dinFiltWrite i w) s = .next u ∧ u.rd .din (DIN_FILT_MAX i) = w % 2 ^ 12 ∧
      u.rd .din (DIN_FILT_COUNT i) = (if bit s DIN_STATE_STATE then w % 2 ^ 12 else 0) ∧
      bit u DIN_STATE_STATE = bit s DIN_STATE_STATE) ∧
    (w % 2 ^ 12 = 0 → exec (.dinFiltWrite i w) s = .next s) ∧
    (s.isFast i = true → s.missing (inputGroup i) = false → bit s DIN_STATE_STATE ≠ level → ∃ u,
      exec (.fastEdge i level at_) s = .next u ∧ bit u DIN_STATE_STATE = level ∧ bit u DIN_CHG_CHG = true ∧
      u.rd .din (DIN_FASTCNT_COUNT i) = min (s.rd .din (DIN_FASTCNT_COUNT i) + 1) (2 ^ 32 - 1))

/-- NVS_CMD, SEGMENT_STORE_START, SEGMENT_PROGRAM_DONE and POUNCE_PASS (R451, R452, R455): a command adds to NVS_PEND; the
engine takes the lowest dirty segment of it, whose snapshot goes to the bank of the older copy as an invalid copy of the next
generation; a good read-back makes the copy valid, a bad one is programmed once more, in a power failure while the energy
allows, and then fails the segment; a pounce pass counts the weak copies and queues their rewriting. -/
def Obligations.RetainedStores : Prop :=
  ∀ (s : State) (w vhold g : Nat) (clean : List Nat) (r : StoreRun) (why : StoreWhy) (weak : List (Nat × Nat)),
    let b := s.targetBank g
    let n (x : Field) := s.rd .nvs x
    let ready := s.nvs.run = none ∧ s.nvs.recalled = true ∧ s.pwr.phase = .on ∧ s.nvs.pfPhase = .idle ∧ s.pwr.resetWaits = none
    let counted := (s.clrBits .nvs NVS_PEND_PEND (segMask clean)).countStored (segMask clean)
    let due := n NVS_POUNCE_EN ≠ 0 ∧ s.nvs.recalled = true ∧ s.pwr.phase = .on ∧ n NVS_PEND_PEND = 0 ∧ n NVS_STAT_POUNCE = 0 ∧
      s.nvs.pounceAt + n NVS_POUNCE_HOURS * 3600000000000 ≤ s.recorder.opNs
    let weakCount := ((List.range 32).map fun g => (s.weakBanks weak g).length).sum
    let queue := (List.range 32).flatMap fun g => List.replicate (s.pounceStores weak g) g
    let stored (t : State) := ((t.setCopy r.bank r.seg { t.copyOf r.bank r.seg with valid := true }).wr .nvs (NVS_GEN_GEN r.seg) r.gen).countStored
      (2 ^ r.seg)
    let failed (t : State) := (t.orBits .nvs NVS_FAILMASK_FAIL (2 ^ r.seg)).wr .nvs NVS_STAT_FAIL 1
    let u := s.startStore g why
    let pf := decide (s.nvs.pfPhase ≠ .idle)
    let read := if pf then s.readVhold vhold else s
    let passed := { (s.bump .nvs NVS_POUNCE_CNT_COUNT weakCount).wr .nvs NVS_STAT_POUNCE 1 with
      nvs := { s.nvs with pounceQ := queue, pounceAt := s.recorder.opNs } }
    let other := s.copyOf (1 - b) g
    let a := s.copyOf 0 g
    let z := s.copyOf 1 g
    exec (.nvsCmd w) s = .next (s.orBits .nvs NVS_PEND_PEND (w % 2 ^ 32)) ∧
    (ready → s.splitDirty (State.storeNext.onesOf32 (n NVS_PEND_PEND)) = (clean, some g) →
      exec (.segmentStoreStart vhold) s = .next ((counted.clrBits .nvs NVS_PEND_PEND (2 ^ g)).startStore g .commanded)) ∧
    (g < 31 → u.nvs.run = some { seg := g, bank := b, gen := s.nextGen g, why := why } ∧ (u.copyOf b g).valid = false ∧
      (u.copyOf b g).gen = s.nextGen g ∧ u.copyOf (1 - b) g = other ∧ u.bit .nvs NVS_DIRTY_DIRTY g = false ∧
      ∀ o < 0x10000, u.byte (.nv b g) o = s.byte .ret (g * 0x10000 + o)) ∧
    (a.valid = true → z.valid = true → b = if genNewer z.gen a.gen then 0 else 1) ∧ (a.valid = false → z.valid = true → b = 0) ∧
    (z.valid = false → b = 1) ∧
    (s.nvs.run = some r → r.why ≠ .pounce → exec (.segmentProgramDone true vhold) s = .next ((stored s).storeEnded r)) ∧
    (s.nvs.run = some r → r.why = .pounce → exec (.segmentProgramDone true vhold) s =
      .next ((((stored s).raiseCrown 118).offer Ev.POUNCE_REWRITE .field [r.seg, r.bank]).storeEnded r)) ∧
    (s.nvs.run = some r → r.second = false → (pf = true → (s.readVhold vhold).energyOk = true) →
      exec (.segmentProgramDone false vhold) s = .next { read with nvs := { read.nvs with run := some { r with second := true } } }) ∧
    (s.nvs.run = some r → r.second = false → pf = true → (s.readVhold vhold).energyOk = false →
      exec (.segmentProgramDone false vhold) s =
        .next ({ read.pfStop with nvs := { read.pfStop.nvs with run := none } }.wr .nvs NVS_STAT_BUSY 0)) ∧
    (s.nvs.run = some r → r.second = true → exec (.segmentProgramDone false vhold) s = .next (({ failed read with
      nvs := { read.nvs with failed := read.nvs.failed ||| 2 ^ r.seg, pfKeepInc := read.nvs.pfKeepInc || pf } }.offer
        Ev.NVS_FAIL .field).storeEnded r)) ∧
    (due → exec (.pouncePass weak) s = .next passed.pounceEnd) ∧
    (queue ≠ [] → passed.pounceEnd = passed)

/-- UPD_BEGIN to ACTIVATE_RECHECK (R479 to R485): a new transfer clears the bitmap and erases the staging bank; a fragment is
programmed into its blank sector and sets its bit, and the last one starts verification; verification ends READY or BAD;
activation needs READY and open gates, and after its store checks the gates again before it resets the package. -/
def Obligations.FirmwareTransfers : Prop :=
  ∀ (s : State) (k c : Nat) (bs : List Byte) (a : ActReq),
    let n (x : Field) := s.rd .upd x
    let state := n UPD_STAT_STATE
    let xid := n UPD_XFER_XID
    let frags := n UPD_FRAGS_COUNT
    let i := n UPD_FRAG_IDX_INDEX
    let own := s.svcPath = false
    let open_ := own ∧ state ≠ 1 ∧ state ≠ 3 ∧ n UPD_STAT_TRIAL = 0 ∧ 1 ≤ frags ∧ frags ≤ 16384
    let taken := own ∧ state = 2 ∧ i < s.xferFrags ∧ s.upd.writing = none
    let r := s.verifyBank s.stagingBank true
    let idle (t : State) := { t with upd := { t.upd with writing := none } }
    let put := (((idle s).programSector k bs).setBit .upd (UPD_MAP_MAP (k / 32)) (k % 32) true).bump .upd UPD_HAVE_COUNT |>.dirty 30
    let fresh := ((s.clearMap.wr .upd UPD_XFER_XID xid).wr .upd UPD_FRAGS_COUNT frags).dirty 30
    let begun := ({ fresh with upd := { fresh.upd with xfer := some (xid, frags), writing := none, parts := [] } }).offer Ev.UPD_XFER_BEGIN
      .crown [xid, frags, 0]
    let erased := s.eraseSector i
    let chosen := { s with upd := { s.upd with bootsel := s.stagingBank, act := some { boot := s.upd.bootsel, trial := 0, svc := false } } }
    let trial := ((chosen.setTrial 1).wr .upd UPD_TRIALSTAT_BOOTS 0).wr .upd UPD_TRIALSTAT_RUNSEC 0
    let stored := s.upd.act = some a ∧ a.svc = false ∧ s.bit .nvs NVS_PEND_PEND 30 = false ∧ (s.nvs.run.map fun r => r.seg) ≠ some 30
    let free := { s with upd := { s.upd with act := none } }
    let back := { free with upd := { s.upd with act := none, bootsel := a.boot } }.setTrial a.trial
    (open_ → s.upd.xfer ≠ some (xid, frags) → exec .updBegin s = .next ((begun.updState 1).updResult 1)) ∧
    (open_ → s.upd.xfer = some (xid, frags) → s.mapFull = false →
      exec .updBegin s = .next (((s.offer Ev.UPD_XFER_BEGIN .crown [xid, frags, 1]).updState 2).updResult 1)) ∧
    (state = 1 → exec .stagingEraseDone s = .next ((s.setMem (.flash s.stagingBank) []).updState 2)) ∧
    (taken → s.mapBit i = false → s.sectorBlank i = true →
      exec .updPut s = .next { s with upd := { s.upd with writing := some (i, s.fragBuf) } }) ∧
    (taken → s.mapBit i = false → exec .updErase s = .next (erased.updResult 1)) ∧
    (taken → s.mapBit i = true → exec .updErase s = .next ((((erased.setBit .upd (UPD_MAP_MAP (i / 32)) (i % 32) false).wr .upd
      UPD_HAVE_COUNT (n UPD_HAVE_COUNT - 1)).dirty 30).updResult 1)) ∧
    (own → s.upd.writing = some (k, bs) → put.mapFull = false → exec (.fragmentProgramDone true) s = .next (put.updResult 1)) ∧
    (own → s.upd.writing = some (k, bs) → put.mapFull = true → exec (.fragmentProgramDone true) s =
      .next (((put.offer Ev.UPD_XFER_COMPLETE .crown [put.xferXid]).updState 3).updResult 1)) ∧
    (state = 3 → s.ctxCry.waits updUser = false → exec .updVerifyDone s =
      .next (((s.verifyRecord s.stagingBank r).updResult r).updState (if r = 1 then 4 else 5))) ∧
    (state = 4 → n UPD_STAT_TRIAL = 0 → s.gateCode = some c → exec .updActivate s = .next (s.actRefuse false c)) ∧
    (state = 4 → n UPD_STAT_TRIAL = 0 → s.gateCode = none → exec .updActivate s = .next (((trial.dirty 30).requestStore (2 ^ 30)).offer
      Ev.UPD_ACTIVATED .crown [s.stagingBank, s.imgVersion s.stagingBank])) ∧
    (stored → s.gateCode = none → exec .activateRecheck s = .next ((free.updResult 1).packageReset 6)) ∧
    (stored → s.gateCode = some c → exec .activateRecheck s = .next (((back.dirty 30).requestStore (2 ^ 30)).actRefuse false c))

/-- SVC_BEGIN to TRIAL_FALLBACK (R478, R483, R486 to R489): the service port answers each request with its result; the lock
is set, and cleared where the key input allows it; a confirmation ends the trial and raises the security floor; a trial that
expires falls back, or is held while the web gate holds. -/
def Obligations.FirmwareTrials : Prop :=
  ∀ (s : State) (w part index xid : Nat) (data : List Nat),
    let n (x : Field) := s.rd .upd x
    let up := s.pwr.phase = .on
    let mine := s.upd.xfer.map Prod.fst = some xid
    let b := s.updBegin true xid index
    let e := s.updErase true index
    let trial := n UPD_STAT_TRIAL ≠ 0
    let held := n UPD_TRIALSTAT_HELD ≠ 0
    let sv := s.imgSecver s.runBank
    let ended := ((s.setTrial 0).wr .upd UPD_TRIALSTAT_HELD 0).wr .upd UPD_SECVER_FLOOR (max (n UPD_SECVER_FLOOR) sv)
    let due := trial ∧ s.upd.act = none ∧ ¬ held ∧ n UPD_TRIAL_SECONDS ≤ n UPD_TRIALSTAT_RUNSEC
    (up → exec (.svcBegin true index xid) s = .next ((b.2.updResult b.1).svcReply 1 b.1 index xid)) ∧
    (up → mine → exec (.svcFragmentPart true part index xid data) s = .next (s.svcPart part index data)) ∧
    (up → mine → exec (.svcErase true index xid) s = .next ((e.2.updResult e.1).svcReply 3 e.1 index xid)) ∧
    (up → mine → exec (.svcStatus true index xid) s = .next (s.svcReply 4 1 index xid (s.statusOctets index))) ∧
    (up → mine → s.svcPath = true → exec (.svcActivate true xid) s = .next (s.activate true)) ∧
    (up → ¬ mine → exec (.svcErase true index xid) s = .next (s.svcReply 3 4 index xid)) ∧
    exec .updLockSet s = .next ((s.wr .upd UPD_LOCK_LOCK 1).dirty 30) ∧
    (n UPD_GATE_KEYEN = 0 ∨ s.inputOn (n UPD_GATE_KEYIN) = true → exec .updUnlock s = .next ((s.wr .upd UPD_LOCK_LOCK 0).dirty 30)) ∧
    (w % 256 = 0xA5 → trial → exec (.updConfirm w) s =
      .next ((ended.clearXfer.requestStore (2 ^ 30)).offer Ev.UPD_CONFIRMED .crown [s.imgVersion s.runBank, sv])) ∧
    (due → s.gateWeb = false → exec .trialExpiry s = .next s.fallback) ∧
    (due → s.gateWeb = true → exec .trialExpiry s = .next ((s.wr .upd UPD_TRIALSTAT_HELD 1).offer Ev.UPD_TRIAL_HELD .crown)) ∧
    (trial → held → s.gateWeb = false → exec .trialFallback s = .next s.fallback)

/-- KEY_PROGRAM to TRNG_FAILS_CLEAR (R477, R491 to R493): a blank key slot takes CRY_KDATA, a scan core's write none; a slot
is revoked once, and not the running one; a random-number slot is acquired, asked, filled with free words and released; the
generator starts, fails and latches. -/
def Obligations.KeysAndRandomNumbers : Prop :=
  ∀ (s : State) (r : Req) (i : Nat) (apt : Bool),
    let n (x : Field) := s.rd .cry x
    let slot := n CRY_KSEL_SLOT
    let crown := keyAllowed r = true
    let keys := Tab.set (fun k => k) s.cry.keys slot [] (s.kdata (if slot = 4 then 8 else 12))
    let result (t : State) (c : Nat) := (t.wr .cry CRY_KPROG_RESULT c).wr .cry CRY_KPROG_GO 0
    let st (t : State) := t.rd .cry TRNG_STAT_STATE
    (keyAllowed r = false → exec (.keyProgram r true) s = .next s) ∧
    (crown → slot ≤ 4 → s.slotTaken slot = true → exec (.keyProgram r true) s = .next (result s 2)) ∧
    (crown → slot ≤ 4 → s.slotTaken slot = false → exec (.keyProgram r true) s = .next
      ((result ({ s with cry := { s.cry with keys := keys } }.setBit .cry CRY_KSTAT_PROG slot true) 1).offer Ev.KEY_PROGRAMMED .crown [slot])) ∧
    (crown → slot ≤ 4 → s.slotTaken slot = false → exec (.keyProgram r false) s =
      .next (result { s with cry := { s.cry with dead := s.cry.dead ||| 2 ^ slot } } 4)) ∧
    (crown → i < 4 → s.bit .cry CRY_KSTAT_REVOKED i = false → (i ≠ n CRY_KSTAT_RUNSLOT ∨ s.is .upd UPD_STAT_RECOVERY = true) →
      exec (.keyRevoke r (2 ^ i)) s = .next ((result (s.setBit .cry CRY_KSTAT_REVOKED i true) 1).offer Ev.KEY_REVOKED .crown [i])) ∧
    (i < 4 → n (TRNG_SLOT_STAT_OWNED i) = 0 → (∀ j < i, n (TRNG_SLOT_STAT_OWNED j) ≠ 0) →
      exec .trngAcqRead s = .next (s.wr .cry (TRNG_SLOT_STAT_OWNED i) 1) ∧ s.trngAcq.1 = i) ∧
    (i < 4 → st s ≠ trngLATCHED → exec (.trngReq i) s = .next ((s.trngClear i).wr .cry (TRNG_SLOT_STAT_PEND i) 1)) ∧
    (i < 4 → st s = trngLATCHED → exec (.trngReq i) s = .next ((s.trngClear i).wr .cry (TRNG_SLOT_STAT_FAIL i) 1)) ∧
    (i < 4 → exec (.trngRel i) s = .next (s.wr .cry (TRNG_SLOT_STAT_OWNED i) 0)) ∧
    (i < 4 → st s = trngRUN → n (TRNG_SLOT_STAT_PEND i) ≠ 0 → exec (.trngRequestDone i) s =
      .next (((s.trngFill i).wr .cry (TRNG_SLOT_STAT_PEND i) 0).wr .cry (TRNG_SLOT_STAT_DONE i) 1)) ∧
    (st s = trngSTART → exec .trngStartDone s =
      .next { s.wr .cry TRNG_STAT_STATE trngRUN with cry := { s.cry with runSince := s.tb } }) ∧
    (st s = trngSTART ∨ st s = trngRUN → ∃ u, exec (.trngTestFail apt) s = .next u ∧
      st u = (if n TRNG_STAT_FAILS < 3 then trngSTART else trngLATCHED) ∧
      u.rd .cry TRNG_STAT_FAILS = (n TRNG_STAT_FAILS + 1) % 2 ^ TRNG_STAT_FAILS.width ∧
      u.is .cry (if apt then TRNG_STAT_APT else TRNG_STAT_RCT) = true) ∧
    (st s = trngRUN → s.cry.runSince + 86400000000000 ≤ s.tb → exec .trngFailsClear s = .next (s.wr .cry TRNG_STAT_FAILS 0))

/-- PWR_WARN to RAIL_RESET_IN_STORE (R456, R501 to R505): a reading below the warning level starts a warning or lowers its
minimum; its end records a dip shorter than 50 µs; a warning of 50 µs starts the power-fail store, whose end is a package reset
with cause 8 or the wait for the rails. -/
def Obligations.PowerFailure : Prop :=
  ∀ (s : State) (mv rails n t0 : Nat) (stop : Option Nat),
    let warned := s.is .sup SUP_STAT_WARNNOW = true
    let low := s.supervised = true ∧ mv < s.rd .sup SUP_WARNCFG_MV
    let seen := s.wrs .sup [(SUP_SENSE_MV, mv), (SUP_STAT_PWR_WARN, 1), (SUP_STAT_WARNNOW, 1)]
    let shown := seen.raiseCrown 112
    let again := s.pwr.warnStart = some n ∧ s.now < n + 50000
    let ended := s.wrs .sup [(SUP_SENSE_MV, mv), (SUP_STAT_WARNNOW, 0)]
    let risen := s.pwr.warnStart = some t0 ∧ s.supervised = true ∧ warned ∧ s.rd .sup SUP_WARNCFG_MV + 20 ≤ mv
    let due := s.supervised = true ∧ s.pwr.phase ≠ .store ∧ s.warnDue = true
    let running := s.pwr.phase = .store
    let stopped := running ∧ s.nvs.pfPhase = .stopped ∧ s.nvs.run = none
    let told := s.offerAtBoot Ev.POWER_RESET .pkg [s.pfinc.toNat]
    let p := s.pwr
    (low → warned → exec (.pwrWarn mv) s = .next { s.wr .sup SUP_SENSE_MV mv with pwr := { p with warnMin := min p.warnMin mv } }) ∧
    (low → ¬ warned → again → exec (.pwrWarn mv) s =
      .next { seen with pwr := { p with warnMin := min p.warnMin mv, warnEnd := none } }) ∧
    (low → ¬ warned → (∀ t, p.warnStart = some t → t + 50000 ≤ s.now) → exec (.pwrWarn mv) s =
      .next { shown with pwr := { p with warnStart := some s.now, warnMin := mv, warnEnd := none } }) ∧
    (risen → t0 + 50000 ≤ s.now → exec (.pwrWarnEnd mv) s = .next { ended with pwr := { p with warnEnd := some s.now } }) ∧
    (risen → s.now < t0 + 50000 → exec (.pwrWarnEnd mv) s = .next ({ ended with pwr := { p with warnEnd := some s.now } }.offer
      Ev.PWR_DIP .field [(s.now - t0) / 1000, p.warnMin])) ∧
    (due → exec (.powerfailStore none) s = .next ((s.pfStart.pfCopy none).writeTail.pfList)) ∧
    (due → exec (.powerfailStore (some n)) s = .next (s.pfStart.pfCopy (some n))) ∧
    (running → s.nvs.pfPhase = .copying → exec (.powerfailStore stop) s = .next (s.pfGoOn stop)) ∧
    (s.pfStart.pwr.phase = .store ∧ s.pfStart.pwr.pfAt = s.now ∧ s.pfStart.nvs.pfPhase = .copying) ∧
    (stopped → rails % 256 = 0 → exec (.powerfailStoreEnd rails) s =
      .next ({ told with nvs := { s.nvs with restartValid := s.nvs.restartValid && !s.pfinc } }.doReset 8)) ∧
    (stopped → rails % 256 ≠ 0 → exec (.powerfailStoreEnd rails) s = .next (s.railsOut rails)) ∧
    (running → rails.testBit 7 = true → exec (.railResetInStore rails) s = .next (s.railsOut (rails ||| s.rd .sup SUP_RAIL_RESET))) ∧
    (running → rails.testBit 7 = false → rails.testBit 1 = true → exec (.railResetInStore rails) s =
      .next ((s.orBits .sup SUP_RAIL_RESET rails).crownLost 1)) ∧
    (running → rails.testBit 7 = false → rails.testBit 1 = false → rails.testBit 6 = false → exec (.railResetInStore rails) s =
      .next (s.orBits .sup SUP_RAIL_RESET rails))

/-- POWER_ON to THERM_CLEAR (R506 to R510, R535): each reset source and its cause; a source in a running reset only records;
the boot from the sampled straps ends with the package on; a clock that loses lock shows and faults its node; a junction of
125 °C drives THERM_N low until every reading has stayed below 120 °C for 1 s. -/
def Obligations.ResetsAndBoots : Prop :=
  ∀ (s : State) (rails c island d t0 : Nat) (x : Int) (pair unit ringEn ringHead : Bool),
    let settled := s.nvs.run = none ∧ s.nvs.mustStore = 0
    let on := s.pwr.phase = .on
    let r := rails % 256
    let shown := (s.wrs .sup [(SUP_RAIL_RESET, r), (SUP_RSTCAUSE_RAILS, r)]).offerAtBoot Ev.RAIL_FAULT .field [r]
    let u := s.doReset c
    let v := { s with straps := { s.straps with hsbPair := pair, hsbUnit := unit, ringEn := ringEn, ringHead := ringHead } }.boot
    let k := lockField island
    let w := s.clockStop (.dieNode d) k.1 k.2 (.die d) island
    let hotter (n : Node) := { s.wr n.blk NODE_STATUS_OWN_WARN 1 with
      hot := if hotKey n ∈ s.hot then s.hot else hotKey n :: s.hot, hotCool := some s.tb, pwr := { s.pwr with thermN := false } }
    let jmax := ofSigned 8 (max x (toSigned 8 (s.rd (.dieNode d) THERM_STAT_JMAX)))
    let hotDie := (hotter (.die d)).wrs (.dieNode d) [(THERM_STAT_HOT, 1), (THERM_STAT_JMAX, jmax)]
    exec .powerOn s = .next (s.doReset 1) ∧
    (u.pwr.phase = .reset ∧ u.pwr.cause = c ∧ u.pwr.bootDone = false) ∧
    (on → settled → exec .pwrResetN s = .next ((s.resign 2).doReset 3)) ∧
    (on → s.nvs.run ≠ none → s.pwr.resetWaits = none →
      exec .pwrResetN s = .next { s.resign 2 with pwr := { (s.resign 2).pwr with resetWaits := some 3 } }) ∧
    (r ≠ 0 → on → s.warnDue = false → r.testBit 7 = false → exec (.railReset rails) s = .next (shown.packageReset 2)) ∧
    (r ≠ 0 → s.pwr.phase = .reset → s.warnDue = false →
      exec (.railReset rails) s = .next (s.offerAtBoot Ev.RAIL_FAULT .field [r])) ∧
    (s.pwr.phase = .reset → exec (.bootSequence pair unit ringEn ringHead) s = .next v ∧ v.pwr.phase = .on ∧ v.pwr.pwrEnMain = true) ∧
    (island < 4 → s.bit .crownNode CLK_LOCK_LOCK island = true → exec (.clockLockLoss none island) s =
      .next (s.clockStop .crownNode CLK_LOCK_LOCK island (clockNode none island) island)) ∧
    (s.hasDie d = true → island < 10 → s.bit (.dieNode d) k.1 k.2 = true → exec (.clockLockLoss (some d) island) s = .next
      (if 4 ≤ island ∧ island < 8 then w.each ((List.range 8).map (8 * (island - 4) + ·)) fun t m => t.linkDown d m else w)) ∧
    (125 ≤ x → exec (.thermHot .crown x) s = .next (hotter .crown) ∧ exec (.thermHot .field x) s = .next (hotter .field)) ∧
    (125 ≤ x → s.hasDie d = true →
      exec (.thermHot (.die d) x) s = .next (if (s.thermOf d).step < 5 then hotDie.thetaLower d 5 else hotDie)) ∧
    (s.hot ≠ [] → s.hotCool = some t0 → t0 + 1000000000 ≤ s.tb → ∃ t, exec .thermClear s = .next t ∧ t.hot = [] ∧
      t.pwr.thermN = true)

/-- NAP_STORE_DONE to WAKE_SUPPLY_SWITCH (R499, R500, R511 to R514): nap begins once every segment it stores is stored; a
wake source that is enabled wakes the package in nap, is latched during nap entry and the first 20 ms of nap, and has no
effect while the package is on; four samples alike that differ set the input's latch, and wake through a masked input. -/
def Obligations.NapAndWake : Prop :=
  ∀ (s : State) (l src : Nat) (vfield : Bool),
    let x (f : Field) := s.rd .wake f
    let early := s.pwr.phase = .napEntry ∨ (s.pwr.phase = .nap ∧ s.now < s.pwr.napAt + 20000000)
    let late := s.pwr.phase = .nap ∧ s.pwr.napAt + 20000000 ≤ s.now
    let samples := (l % 2 ^ 32 :: s.field.napSamples).take 4
    let t := { s with field := { s.field with napSamples := samples } }.each
      ((List.range 32).filter fun i => s.napDiffers samples i && !s.isFast i) fun w i => w.raiseCrown (64 + i)
    let u := s.napDone
    let v := s.wakeStart src
    (s.pwr.phase = .napEntry → s.rd .nvs NVS_PEND_PEND = 0 → s.rd .nvs NVS_DIRTY_DIRTY = 0 → s.nvs.run = none → exec .napStoreDone s = .next u ∧
      u.pwr.phase = .nap ∧ u.pwr.pwrEnMain = false ∧ u.pwr.napAt = s.now ∧ u.mems = s.mems) ∧
    (early → s.wakeEvent src = { s with pwr := { s.pwr with latchedWake := s.pwr.latchedWake ||| src } }) ∧
    (late → s.wakeEvent src = v ∧ v.pwr.phase = .reset ∧ v.pwr.cause = 9) ∧
    (s.pwr.phase = .on → s.wakeEvent src = s) ∧
    (x WAKE_CFG_PINEN ≠ 0 → exec .wakeNLow s = .next (s.wakeEvent 4)) ∧ (x WAKE_CFG_PINEN = 0 → exec .wakeNLow s = .next s) ∧
    (x WAKE_CFG_SVCEN ≠ 0 → exec .svcWakeFrame s = .next (s.wakeEvent 2)) ∧ (x WAKE_CFG_SVCEN = 0 → exec .svcWakeFrame s = .next s) ∧
    (s.pwr.phase = .nap → x WAKE_CFG_DINEN ≠ 0 → exec (.napDinSample l) s = .next (if s.napChange samples then t.wakeEvent 8 else t)) ∧
    (late → s.pwr.latchedWake ≠ 0 → exec .latchedWakeStart s = .next (s.wakeStart s.pwr.latchedWake)) ∧
    exec (.wakeSupplySwitch vfield) s = .next (s.wr .wake WAKE_STAT_SRC vfield.toNat)

/-- ENUM_TX to RING_FRAME_PASS_ON (R382 to R384, R388, R391): the head sends ENUM every 10 ms until its own comes back with
fewer than 64 members, which gives N and the loop time; a port that goes down wraps the ring or takes it down, and one that
recovers brings it back; 16 CRC failures within 1 ms take a port down; a frame that is not for this package goes on from the
other port, or back where the ring is wrapped, and one of its own is removed. -/
def Obligations.RingEnumeration : Prop :=
  ∀ (s : State) (count p : Nat) (name : String) (header payload : List Nat),
    let r (f : Field) := s.rd .ring f
    let st := r RING_STAT_STATE
    let head := s.isHead = true ∧ s.ringOn = true
    let n := count + 1
    let counts := st = 1 ∨ st = 5 ∨ st = 6
    let back := head ∧ counts ∧ s.ring.enumAt ≠ none ∧ s.ring.dup = false
    let found := s.wrs .ring [(RING_COUNT_N, n), (RING_LOOPNS_NS, s.tb - s.ring.enumAt.getD s.tb), (RING_CTRL_REENUM, 0), (RING_POS_POS, 0)]
    let again (t : State) := { t.setRing 1 with ring := { t.ring with enumAt := none, dup := false } }
    let port := s.ringOn = true ∧ p < 2
    let other (t : State) := t.is .ring (ringPort (1 - p))
    let down := s.wr .ring (ringPort p) 0
    let up := s.wr .ring (ringPort p) 1
    let fails := (s.tb :: s.ring.crcs p).take 16
    let failed := { s with ring := s.ring.setCrcs p fails }.bump .ring (if p = 0 then RING_ERRCNT_PORT0 else RING_ERRCNT_PORT1)
    let mine := bits (header.getD 0 0) 16 8 = r RING_POS_POS ∨ bits (header.getD 0 0) 8 8 = r RING_POS_POS
    let heard := if bits (header.getD 0 0) 24 8 = 7 then s else s.ringHeard
    (head → counts → (s.ring.enumAt = none ∨ s.sinceAtLeast s.ring.enumAt 10000000 = true) → exec .enumTx s =
      .next { s.ringSend "ENUM" 7 0xFF 0 0 0 [] with ring := { s.ring with enumAt := some s.tb } }) ∧
    (back → 16 ≤ n → n ≤ 64 → exec (.enumRx count false) s = .next (found.setRing 2)) ∧
    (back → 64 < n → exec (.enumRx count false) s = .next (found.setRing 6)) ∧
    (back → n < 16 → st ≠ 5 → exec (.enumRx count false) s = .next ((found.setRing 5).offer Ev.RING_SHORT .pkg)) ∧
    (back → n < 16 → st = 5 → exec (.enumRx count false) s = .next found) ∧
    (head → s.ring.dup = false → exec (.enumRx count true) s = .next { (s.setRing 1).offer Ev.RING_DUP_HEAD .pkg with
      ring := { s.ring with dup := true } }) ∧
    (s.ringOn = true → s.straps.ringHead = false → exec (.enumRx count false) s =
      .next (((s.wr .ring RING_POS_POS n).setRing 1).ringSend "ENUM" 7 0xFF n 0 0 [])) ∧
    (head → exec .ringReenum s = .next (again (s.wr .ring RING_CTRL_REENUM 1))) ∧
    (port → r (ringPort p) ≠ 0 → st = 2 → exec (.ringPortDown p 0) s =
      .next (((down.setRing 3).bump .ring RING_WRAPCNT_COUNT).offer Ev.RING_WRAP .pkg)) ∧
    (port → r (ringPort p) ≠ 0 → st = 3 → exec (.ringPortDown p 0) s = .next (down.setRing 4)) ∧
    (port → r (ringPort p) = 0 → other up = true → st = 3 ∨ st = 4 → exec (.ringPortRecovered p) s = .next (again up)) ∧
    (port → r (ringPort p) = 0 → other up = false → st = 4 → exec (.ringPortRecovered p) s = .next (up.setRing 3)) ∧
    (port → (∀ a, fails[15]? = some a → a + 1000000 ≤ s.tb) → exec (.ringFramePassOn p name header payload false) s = .next failed) ∧
    (∀ a, port → fails[15]? = some a → s.tb < a + 1000000 → exec (.ringFramePassOn p name header payload false) s =
      .next ({ failed with ring := failed.ring.setCrcs p [] }.ringPortDown p 0)) ∧
    (s.straps.ringHead = false → st = 1 → r RING_POS_POS ≠ 0 → s.ringHeard = s.setRing 2) ∧
    (port → mine → exec (.ringFramePassOn p name header payload true) s = .next heard) ∧
    (port → ¬ mine → exec (.ringFramePassOn p name header payload true) s =
      .next (heard.ringEmit (if other heard then 1 - p else p) name (header ++ payload)))

/-- RING_READ_RX to RING_TIMEOUT (R384 to R389): a member reads, writes, executes, checks, applies and drops what the head
asks of it and answers with RESP or CPL, a read behind an earlier held request in its turn; the head completes the host's read or command, or, after RING_TMO, ends it with
Completer Abort or RING_UNREACHABLE. -/
def Obligations.RingTransactions : Prop :=
  ∀ (s t : State) (src tag a w q d status result data slack : Nat) (entry : List Nat) (r : RingReq),
    let member := s.ringOn = true ∧ s.straps.ringHead = false
    let aligned := member ∧ a % 4 = 0
    let m := s.ringHeard
    let resp (t : State) (ws : List Nat) := t.ringSend "RESP" 3 src 0 tag 0 ws
    let got := r.got ++ [d % 2 ^ 32]
    let asked (k : Nat) := s.hasRing = true ∧ s.ringReq src tag k = some r
    let free := s.ringAnswered r
    let taken := m.takeEntry q slack entry
    let code := (m.cmdRefused .pkg w true).getD 0
    let cpl := m.ringSend "CPL" 5 src 0 tag 0 [code * 256, 0, 0]
    let late := (s.ring.reqs.find? fun r => decide (r.member = src ∧ r.tag = tag)) = some r ∧ r.at_ + 1000 * s.rd .ring RING_TMO_US ≤ s.tb
    (aligned → m.heldOf .host = [] → exec (.ringReadRx src tag a) s = .next (m.frameRead src tag a)) ∧
    (aligned → m.heldOf .host ≠ [] → exec (.ringReadRx src tag a) s =
      .next (m.setHeld .host (m.heldOf .host ++ [.frame src tag a]))) ∧
    (m.ioRead .host a = .word w t → m.frameRead src tag a = resp t [w]) ∧
    (m.ioRead .host a = .refused t ∨ m.ioRead .host a = .failed t → m.frameRead src tag a = resp t []) ∧
    (aligned → exec (.ringWriteRx a w) s =
      .next (match m.ioWrite .host a (w % 2 ^ 32) with | .done u | .refused u => u | .stall => m)) ∧
    (asked 1 → r.q = 0 → r.words ≤ r.got.length + 1 → exec (.ringRespRx src tag [d]) s = .next (free.hostWords got)) ∧
    (asked 1 → r.q = 0 → exec (.ringRespRx src tag []) s = .next free.hostAbort) ∧
    (asked 1 → r.q = 0 → r.got.length + 1 < r.words → exec (.ringRespRx src tag [d]) s =
      .next ((free.ringSend "READ" 1 r.member 0 free.ring.tag (r.addr + 4) []).ringAwait
        [{ r with tag := free.ring.tag, at_ := free.tb, addr := r.addr + 4, got := got }])) ∧
    (asked 1 → r.q ≠ 0 → r.got = [] → r.words ≠ 0 → exec (.ringRespRx src tag [d]) s =
      .next { free with ring := { free.ring with reqs := free.ring.reqs ++ [{ r with got := [d % 2 ^ 32] }] } }) ∧
    (member → m.freeInput = some q →
      exec (.ringCmdRx src tag entry slack) s = .next (taken.setQueue q { taken.queue q with src := src, tag := tag })) ∧
    (asked 4 → exec (.ringCplRx src tag status result data) s = .next (free.cmdEnd r.q (status % 256) (result % 256) data)) ∧
    (asked 8 → s.ringReq src tag 4 = none → exec (.ringCplRx src tag status result data) s = .next (s.checkAnswer r (result % 256))) ∧
    (member → code = 0 → exec (.ringCheckRx src tag w) s = .next { cpl with ring := { cpl.ring with check := some w } }) ∧
    (member → code ≠ 0 → exec (.ringCheckRx src tag w) s = .next cpl) ∧
    (member → s.ring.check = some w → exec .ringApplyRx s = .next (s.ringDrop.applyCmd .pkg w)) ∧
    (member → exec .ringReleaseRx s = .next s.ringDrop) ∧
    (late → r.kind = 1 → r.q = 0 → exec (.ringTimeout src tag) s = .next (free.emit (.hostRead true []))) ∧
    (late → r.kind = 4 → exec (.ringTimeout src tag) s = .next (free.cmdEnd r.q 5 0 0)) ∧
    (late → r.kind = 8 → s.ring.ctl = some (w, false) → exec (.ringTimeout src tag) s =
      .next ({ s with ring := { s.ring with ctl := some (w, true) } }.checkAnswer r 0))

/-- BAR0_REQUEST to CONTEXT_SLOT_GRANT (R361 to R367, R371 to R374, R377, R381): the host's requests are refused whole,
written or read, wait behind one that is held, and are unsupported in D3hot; a queue is enabled with its size and pointers at 0; a doorbell beyond the size is an error; a fetched entry
becomes the queue's command; the engine runs the first step of the command it chooses; a freed context slot is granted. -/
def Obligations.HostPortAndQueues : Prop :=
  ∀ (s : State) (off q w n speed width mps cause : Nat) (write msixEn msixMask : Bool) (data : List (Option Nat)) (entry : List Nat) (c : QCmd),
    let h (f : Field) := s.rd .host f
    let up := s.crownRuns = true
    let d0 := s.pcie.d3hot = false
    let clear := s.heldOf .host = []
    let bar0 := up ∧ off < 0x4000000
    let bar2 := up ∧ off + data.length ≤ 0x1000000000 ∧ off % 2 ^ 30 + data.length ≤ 2 ^ 30
    let bad := s.wr .host HOST_ERR_ALIGN 1
    let v := w % 2 ^ 13
    let size := h (Q_CFG_SIZE q)
    let run := s.qState q = qRUN
    let well := s.qState q ≠ qERROR
    let fetch := run ∧ (s.queue q).cmd = none ∧ h (Q_SQHEAD_HEAD q) ≠ h (Q_SQTAIL_TAIL q)
    let moved := s.wr .host (Q_SQHEAD_HEAD q) ((h (Q_SQHEAD_HEAD q) + 1) % size)
    let taken : QCmd :=
      { op := entry.getD 0 0 % 2 ^ 16, cid := entry.getD 0 0 / 2 ^ 16 % 2 ^ 16, target := entry.getD 1 0 % 2 ^ 32,
        params := ((entry.drop 2).take 14).map (· % 2 ^ 32), dl := (s.tmb.count + 1000 * h (Q_SLACK_US q)) % 2 ^ 32 }
    let waited := { s.each (s.readyQueues.map Prod.fst) (fun t r => t.cmdWait r n) with
      cmdEng := { last := (s.cmdEng.last + 1) % 16, step := some n } }
    let trained := { s.wrs .host [(HOST_LINK_SPEED, speed), (HOST_LINK_WIDTH, width)] with
      pcie := { s.pcie with mps := mps, msixEn := msixEn, msixMask := msixMask } }
    let cqRoom := v < size ∧ (v + size - h (Q_CQHEAD_HEAD q)) % size ≤ (h (Q_CQTAIL_TAIL q) + size - h (Q_CQHEAD_HEAD q)) % size
    (bar0 → d0 → clear → bar0Takes off data = false → exec (.bar0Request off write data) s =
      .next (if write then bad else bad.hostAbort)) ∧
    (bar0 → d0 → clear → bar0Takes off data = true →
      exec (.bar0Request off true data) s = .next (s.hostWrites (s.bar0Addr off) (reqWords data))) ∧
    (bar0 → d0 → clear → bar0Takes off data = true →
      exec (.bar0Request off false data) s = .next (s.hostRead (s.bar0Addr off) (data.length / 4))) ∧
    (bar0 → d0 → ¬ clear → exec (.bar0Request off write data) s =
      .next (s.setHeld .host (s.heldOf .host ++ [.bar0 off write data]))) ∧
    (bar0 → ¬ d0 → exec (.bar0Request off write data) s = .next (s.hostD3 write)) ∧
    (bar2 → d0 → clear → exec (.bar2Request off true data) s = .next (s.bar2Write (s.bar2Addr off) data)) ∧
    (bar2 → d0 → clear → exec (.bar2Request off false data) s = .next (s.bar2Read (s.bar2Addr off) data)) ∧
    (bar2 → d0 → ¬ clear → exec (.bar2Request off write data) s =
      .next (s.setHeld .host (s.heldOf .host ++ [.bar2 off write data]))) ∧
    (bar2 → ¬ d0 → exec (.bar2Request off write data) s = .next (s.hostD3 write)) ∧
    (up → 1 ≤ cause → cause ≤ 5 → exec (.endpointReset cause) s = .next (s.endpointReset cause)) ∧
    (up → 1 ≤ speed → speed ≤ 5 → width ∈ [1, 2, 4, 8, 16] → mps ∈ [128, 256, 512] →
      exec (.pcieLinkTrained speed { width := width, mps := mps, msixEn := msixEn, msixMask := msixMask }) s = .next trained.sendPending) ∧
    (q < 16 →
      (h (Q_CTRL_EN q) = 0 → well → 16 ≤ size → size ≤ 4096 → ∃ u, exec (.queueEnable q) s = .next u ∧ u.rd .host (Q_CTRL_EN q) = 1 ∧
        u.rd .host (Q_SQTAIL_TAIL q) = 0 ∧ u.rd .host (Q_SQHEAD_HEAD q) = 0 ∧ u.rd .host (Q_CQHEAD_HEAD q) = 0 ∧
        u.rd .host (Q_CQTAIL_TAIL q) = 0 ∧ u.rd .host (Q_STAT_ERR q) = 0 ∧ u.qState q = qRUN) ∧
      (h (Q_CTRL_EN q) = 0 → well → size < 16 ∨ 4096 < size → exec (.queueEnable q) s = .next (s.wr .host (Q_STAT_ERR q) 3)) ∧
      (h (Q_CTRL_EN q) ≠ 0 → exec (.queueDisable q) s = .next ((s.wr .host (Q_CTRL_EN q) 0).windDown q qDRAIN)) ∧
      (well → v < size → exec (.sqDoorbell q w) s = .next (s.wr .host (Q_SQTAIL_TAIL q) v)) ∧
      (well → size ≤ v → exec (.sqDoorbell q w) s = .next ((s.wr .host (Q_STAT_ERR q) 1).windDown q qERROR)) ∧
      (well → ¬ cqRoom → exec (.cqDoorbell q w) s = .next ((s.wr .host (Q_STAT_ERR q) 1).windDown q qERROR)) ∧
      (well → cqRoom → (s.queue q).cmd = none → exec (.cqDoorbell q w) s = .next (s.wr .host (Q_CQHEAD_HEAD q) v)) ∧
      (¬ well → exec (.sqDoorbell q w) s = .next (s.wr .host (Q_SQTAIL_TAIL q) v) ∧
        exec (.cqDoorbell q w) s = .next (s.wr .host (Q_CQHEAD_HEAD q) v)) ∧
      (fetch → exec (.queueFetch q entry true) s = .next ((moved.wr .host (Q_STAT_ERR q) 2).windDown q qERROR)) ∧
      (fetch → ∃ u, exec (.queueFetch q entry false) s = .next u ∧ (u.queue q).cmd = some taken ∧ u.rd .host (Q_STAT_BUSY q) = 1)) ∧
    (s.chooseQueue = some (n, c) → exec .commandStep s = .next (if c.started then waited else waited.firstStep n c)) ∧
    (s.chooseQueue = none → exec .commandStep s = .next s) ∧
    exec (.contextSlotGrant true) s = .next { s with ctxCrc := s.slotGrant s.ctxCrc } ∧
    exec (.contextSlotGrant false) s = .next { s with ctxCry := s.slotGrant s.ctxCry }

/-- HOST_NOP to CMD_ABORT (R156, R206, R226, R232, R233, R375, R379, R454, R484): each running command of a queue acts and
completes with its RESULT and DATA; a job is admitted whole or not at all, starts once and ends. -/
def Obligations.HostCommands : Prop :=
  ∀ (s : State) (q d k n : Nat) (c : QCmd) (jb : Job),
    let runs (op : Nat) := s.running q op = some c
    let ends (res data : Nat) (t : State) : Host.Outcome State Fault Refusal := .next (t.cmdEnd q 0 res data)
    let admitted := s.job.job = some jb
    let on := s.targetDie c = some d
    let scan := s.scanBytes (.dram d) (c.num 0 - dramBase d) (c.num 2)
    let loaded := s.hoodLoad d k (c.num 0) (c.p 2) (c.p 3)
    let shown := s.jobAdmit (c.num 0) s.ringHolds
    let aborted := s.cmdAbort q (c.p 0) (c.p 1)
    let kept := (s.nvs.stored &&& c.p 0) + (s.nvs.failed &&& c.p 0) * 2 ^ 32
    (runs 0 → exec (.hostNop q) s = ends 0 0 s) ∧
    (runs 0x10 → exec (.jobAdmit q) s = ends shown.1 0 shown.2.jobPairUpdate) ∧
    (admitted → s.jobAdmit n false = (7, s.admitResult 7 0 0 0 0)) ∧
    (s.job.job = none → (s.engineRead n descSize).1 = none →
      s.jobAdmit n false = (6, (s.engineRead n descSize).2.admitResult 6 0 0 0 1)) ∧
    (runs 0x11 → s.job.job = none → exec (.jobStart q) s = ends 3 0 s) ∧
    (runs 0x11 → admitted → s.jobState ≠ 1 → exec (.jobStart q) s = ends 5 0 s) ∧
    (runs 0x11 → admitted → s.jobState = 1 → s.fillBegun (c.p 0) = false →
      exec (.jobStart q) s = ends 1 0 (s.jobBegin jb (c.p 0) (s.startPlace (c.p 0))).jobPairUpdate) ∧
    (runs 0x11 → admitted → s.jobState = 1 → s.fillBegun (c.p 0) = true → s.lateAllowed jb (c.p 0) = false →
      exec (.jobStart q) s = ends 2 0 s) ∧
    (runs 0x11 → admitted → s.jobState = 1 → s.fillBegun (c.p 0) = true → s.lateAllowed jb (c.p 0) = true →
      exec (.jobStart q) s = ends 4 0 (s.lateStart jb (c.p 0)).jobPairUpdate) ∧
    (runs 0x12 → admitted → exec (.jobEnd q) s = ends 1 0 (s.jobEnd 1).jobPairUpdate) ∧
    (runs 0x12 → s.job.job = none → exec (.jobEnd q) s = ends 3 0 s) ∧
    (runs 0x20 → s.targetCore c = some (d, k) →
      exec (.hoodLoad q) s = ends loaded.1 (loaded.2.rd (.core d k) HOOD_DIGEST_CRC) loaded.2) ∧
    (runs 0x30 → on → s.clearBusy d (c.num 0) (c.num 2) = true → exec (.dramClear q) s = ends 2 0 s) ∧
    (runs 0x30 → on → s.clearBusy d (c.num 0) (c.num 2) = false →
      exec (.dramClear q) s = ends 1 (c.num 2) (s.clearDram d (c.num 0) (c.num 2))) ∧
    (runs 0x31 → on → exec (.dramCrc q) s = ends 1 (crc32c scan.1) scan.2) ∧
    (runs 0x40 → s.commitDone (c.p 0) = true →
      exec (.nvsCommit q) s = ends (if s.nvs.failed &&& c.p 0 = 0 then 1 else 4) kept s) ∧
    (runs 0x40 → s.commitDone (c.p 0) = false → s.nvs.pfPhase ≠ .idle → exec (.nvsCommit q) s = ends 3 kept s) ∧
    (runs 0x50 → exec (.imageVerify q) s = ends (s.verifyBank (c.p 0) true) (s.imgVersion (c.p 0) + s.imgSecver (c.p 0) * 2 ^ 32)
      (s.verifyRecord (c.p 0) (s.verifyBank (c.p 0) true))) ∧
    (runs 0xF0 → exec (.cmdAbort q) s = ends aborted.1 0 aborted.2)

/-- HSB_ENABLE to PEER_SILENCE (R307, R311 to R316, R328, R329, R335): the pair states. A claim is the least of the unit's
parity above HSB_HC and HSB_CLAIM; enabling seeks; silence in SEEK makes an active unit; a standby takes over at RESIGN, at a
handover's instant and at the peer's silence; a message acts once, from the state in which it is heard. -/
def Obligations.PairStates : Prop :=
  ∀ (s : State) (h : SbHdr) (p n i rev period : Nat) (maps : List Nat) (lanes : List (List Nat)),
    let heard := s.hears h = true
    let u := s.heard h
    let off := s.hsbState = hsbOFF
    let c := s.nextClaim
    let seek := s.wr .hsb HSB_CTRL_EN 1 |>.setHsbState hsbSEEK
    let wait := max s.hsb.seekAt s.hsb.lastMsg + s.rd .hsb HSB_CFG_SEEKWAIT * 1000000
    let taken := (((s.wr .hsb HSB_CLAIM_CLAIM c).wr .hsb HSB_HC_CLAIM c).dirty 28).orBits .nvs NVS_PEND_PEND (2 ^ 28)
    let waited := s.hsbState = hsbSEEK ∧ s.ringHoldsRole = false ∧ wait ≤ s.tb
    let path := p < 2 ∧ s.strapped = true ∧ s.portsUp = true ∧ s.hsb.failed p = false ∧ s.pathSilent p = true
    let dead := { s with hsb := s.hsb.setFailed p true }.wr .hsb (pathBit p) 0
    let beat := { s.readyUpdate with hsb := { s.readyUpdate.hsb with hbSentAt := s.tb } }
    let silent := ¬ off ∧ s.portsUp = true ∧ s.pathSilent 0 = true ∧ s.pathSilent 1 = true
    let e := u.joinDiffers rev period maps lanes
    let asked (t : State) (v : Option (Nat × Bool)) := { t with hsb := { t.hsb with handover := v } }
    let due := s.hsb.handover = some (n, true) ∧ s.placeOf (n + 2 ^ 32 - 1) = some i ∧ ((s.lineAt i).f : Int) + 500000 ≤ s.ps
    let mirrored := s.rd .pkgNode IMG_SEQ_SEQ
    let follower := { s.hsb with handover := none, fullMirror := true, mirrorSeq := mirrored, mirrors := [] }
    (c % 2 = s.ownParity ∧ s.rd .hsb HSB_HC_CLAIM < c ∧ s.rd .hsb HSB_CLAIM_CLAIM < c ∧ c ≤ max (s.rd .hsb HSB_HC_CLAIM) (s.rd .hsb HSB_CLAIM_CLAIM) + 2) ∧
    (s.strapped = true → off → exec .hsbEnable s =
      .next { seek with hsb := { s.hsb with seekAt := s.tb, peerState := 0, peerJob := none } }) ∧
    (off → exec .hsbDisable s = .next (s.wr .hsb HSB_CTRL_EN 0)) ∧ (¬ off → exec .hsbDisable s = .next s.leavePair.readyUpdate) ∧
    (waited → c < 2 ^ 32 → exec .seekwaitExpiry s = .next (taken.setHsbState hsbSOLO)) ∧
    (waited → 2 ^ 32 ≤ c → exec .seekwaitExpiry s = .next (s.offer Ev.CLAIM_EXHAUSTED .crown)) ∧
    (¬ off → s.portsUp = true → s.hsb.hbSentAt + 10000 ≤ s.tb → exec .hbTx s = .next (beat.hsbSend .hb ([s.rd .hsb HSB_HC_CLAIM] ++ twoWords s.tmb.count ++
      twoWords s.hsb.hbTime ++ [s.tmb.count - s.hsb.hbAt, s.hsbReady.toNat, s.rd .hsb HSB_STAT_JOBPAIR]))) ∧
    (heard → u.hsbState = hsbSTANDBY → exec (.resignRx h) s = .next (u.takeover 2)) ∧
    (heard → u.isActive = true → exec (.leaveRx h) s = .next ((u.setPeerReady false).setHsbState hsbSOLO).jobPairEnd) ∧
    (heard → u.hsbState = hsbJOINING → e = 0 → exec (.joinRx h rev period maps lanes) s = .next u.joinRecords) ∧
    (heard → u.hsbState = hsbJOINING → e ≠ 0 → exec (.joinRx h rev period maps lanes) s = .next
      (((u.wrs .hsb [(HSB_JOINERR_DETAIL, e), (HSB_CTRL_EN, 0)]).offer Ev.HSB_MISMATCH .crown [e]).leaveStandby hsbOFF)) ∧
    (path → exec (.pathSilence p) s = .next (((dead.bump .hsb
      (if p = 0 then HSB_PATHCNT_PATHA else HSB_PATHCNT_PATHB)).offer Ev.PATH_FAULT .crown [p]).raiseCrown 169)) ∧
    (silent → exec .peerSilence s = .next s.peerFails) ∧
    (s.hsbState = hsbACTIVE → s.hsb.handover = none → s.rd .hsb HSB_STAT_PEER_READY = 0 → exec .hsbHandover s =
      .next (((asked s none).wr .hsb HSB_CTRL_HANDOVER 0).offer Ev.HANDOVER_FAIL .crown)) ∧
    (s.hsbState = hsbACTIVE → s.hsb.handover = none → s.rd .hsb HSB_STAT_PEER_READY ≠ 0 → exec .hsbHandover s =
      .next ((asked (s.wr .hsb HSB_CTRL_HANDOVER 1) (some (s.handoverLine, false))).hsbSend .handover [s.handoverLine])) ∧
    (heard → u.hsbState = hsbSTANDBY → exec (.handoverRx h n) s = .next ((asked u (some (n, true))).hsbSend .handack [n])) ∧
    (heard → u.hsbState = hsbACTIVE → u.hsb.handover = some (n, false) → u.handoverOpen n = true →
      exec (.handackRx h n) s = .next (asked u (some (n, true)))) ∧
    (s.hsbState = hsbACTIVE → s.hsb.handover = some (n, false) → s.handoverOpen n = false → exec .handackTimeout s =
      .next (((asked s none).wr .hsb HSB_CTRL_HANDOVER 0).offer Ev.HANDOVER_FAIL .crown)) ∧
    (due → s.hsbState = hsbSTANDBY → exec .handoverSwitch s = .next (s.takeover 3)) ∧
    (due → s.hsbState = hsbACTIVE → exec .handoverSwitch s =
      .next ({ s.wr .hsb HSB_CTRL_HANDOVER 0 with hsb := follower }.setHsbState hsbSTANDBY).readyUpdate)

/-- LINE_MSG_RX to KEEP_FRAME_TX (R306, R317 to R322, R324, R327, R330, R336, R407): what a standby takes from the active
unit, what both units compare, the heartbeat on CAN, the claims on the exchange line, whose frames
are lost by a free value, and the keep frames; a message that is
heard acts on the state in which it is heard. -/
def Obligations.Shadowing : Prop :=
  ∀ (s : State) (h : SbHdr) (a b c : Nat) (whole ok : Bool) (blocks vals : List (Nat × List Nat)) (dies : List (Nat × Nat × Nat))
    (hashes : List (Nat × Nat)) (m : MemId) (o : Nat) (hb : HbBody),
    let heard := s.hears h = true
    let u := s.heard h
    let standby := u.isStandby = true
    let core := 4 * a + b % 4
    let x := s.page a
    let scan := s.scanBytes m o 65536
    let hash := crc32c scan.1
    let quiet := s.hsbState ≠ hsbOFF ∧ x.own = none ∧ x.writtenAt ≠ 0 ∧ x.writtenAt + 99999 ≤ s.tb
    let job := s.hsbState ≠ hsbOFF ∧ s.portsUp = true ∧ s.job.job = none ∧ s.hsb.jobSent ≠ s.jobKey
    let told := (s.hsbSend .job s.jobKey).jobPairUpdate
    let can := s.rd .hsb HSB_CTRL_CANHB ≠ 0 ∧ s.crownRuns = true
    let line := s.strapped = true ∧ s.fieldPowered = true
    let lost := s.freeBit
    let again := { lost.2 with field := { s.field with clxNext := s.now + 800 } }
    let t := s.sbRx h fun s => s.hbRx h hb
    (heard → standby → exec (.lineMsgRx h a b) s = .next (u.followLine (a % 2 ^ 32) b)) ∧
    (heard → exec (.mirrorRx h a whole blocks) s = .next (u.mirrorRx h a whole blocks)) ∧
    (heard → standby → u.hasNode (.core a (b % 4)) = true → (u.core a (b % 4)).eqHold = some c →
      exec (.eqRx h core c vals) s = .next (u.eqApply a (b % 4) (some vals)) ∧
      exec (.eqskipRx h core c) s = .next (u.eqApply a (b % 4) none)) ∧
    (heard → standby → u.hasNode (.core a (b % 4)) = true → (u.core a (b % 4)).eqHold ≠ some c → exec (.eqRx h core c vals) s =
      .next { u with hsb := { u.hsb with eqGot := (core, c, some vals) :: u.hsb.eqGot.filter fun e => decide (e.1 ≠ core) } }) ∧
    (heard → exec (.jobMsgRx h a b c dies) s = .next
      { u with hsb := { u.hsb with peerJob := some { state := a, crc := b, s0 := c, dies := dies } } }.jobPairUpdate) ∧
    (job → exec .jobMsgTx s = .next { told with hsb := { told.hsb with jobSent := s.jobKey, jobSentAt := s.tb } }) ∧
    (heard → exec (.capMsgRx h a) s = .next (u.wr .hsb HSB_PEERCAP_HZ a).oweCap) ∧
    (heard → exec (.hashRx h hashes) s = .next (u.each hashes fun t e =>
      (t.setPage e.1 ({ t.page e.1 with peer := some (e.2 % 2 ^ 32) }).judge).readyUpdate)) ∧
    (quiet → s.dLoc .engine (65536 * a) = .ok (m, o) → exec (.pageHash a) s =
      .next ((scan.2.setPage a ({ x with own := some hash }).judge).readyUpdate.hsbSend .hash (twoWords (65536 * a) ++ [hash]))) ∧
    (exec (.hbRx h hb.hc hb.time hb.echo hb.residence hb.ready hb.jobpair) s = .next
      (if s.strapped ∧ s.portsUp ∧ t.isStandby ∧ (h.path = 0 ∨ (h.path = 1 ∧ s.pathSilent 0)) then t.hbFollow hb else t).joinCheck ∧
      (heard → t = u.hbRx h hb)) ∧
    (can → s.hsb.canHbAt + 1000000 ≤ s.tb → exec .canHeartbeatTx s =
      .next ({ s with hsb := { s.hsb with canHbAt := s.tb } }.canOwnerSend (s.rd .hsb HSB_CFG_CANCTL) (s.rd .hsb HSB_CFG_CANOBJ)
        (octets (s.rd .hsb HSB_CLAIM_CLAIM) ++ [s.hsbState, 0, 0, 0]))) ∧
    (can → s.strapped = true → exec (.canHeartbeatRx a) s =
      .next (({ s with hsb := { s.hsb with lastCan := some s.tb } }.wr .hsb HSB_STAT_CANPATH 1).learnClaim (a % 2 ^ 32))) ∧
    (line → s.field.clxNext + 4800 ≤ s.now → exec .clxFrameTx s = .next (if lost.1 then again else
      { lost.2.emit (.clx (clxFrame s.field.keepClaim s.field.keepRole)) with
        field := { s.field with clxNext := s.now + 15200, clxClaim := s.field.keepClaim } }.clxUpdate)) ∧
    (line → s.field.clxNext ≤ s.now → s.now < s.field.clxNext + 4800 → exec .clxFrameTx s =
      .next (if lost.1 then again else lost.2)) ∧
    (line → s.now < s.field.clxNext → exec .clxFrameTx s = .next s) ∧
    (line → exec (.clxFrameRx a ok) s = .next (if ok then s.clxRx a else s.bump .sup CLX_ERRCNT_COUNT)) ∧
    (line → s.hsb.clxAt = some a → a + 100000 ≤ s.now → s.rd .sup CLX_STAT_PEERLOST = 0 → exec .clxPeerLost s =
      .next ((s.wr .sup CLX_STAT_PEERLOST 1).raiseCrown 119)) ∧
    (s.crownRuns = true → s.pwr.phase = .on → s.keepStopped = false → s.img.keepAt + 1000000 ≤ s.now → exec .keepFrameTx s =
      .next ({ s with img := { s.img with keepAt := s.now } }.emit
        (.keep s.isActive (s.rd .hsb HSB_CLAIM_CLAIM) (s.is .tmb TMB_STAT_LINERUN))))

/-- IMG_REFRESH to MIRROR_PASS and DRAM_TEMP_READING to CAP_MESSAGE (R126, R128, R148 to R153, R234 to R239, R534): the image
service refreshes, starts with a restart and is stopped; a reading above a threshold lowers θ or the DRAM limit, and one second
below it returns; the cap rises to what every evaluation of a second has given, and is sent. -/
def Obligations.ImageAndRates : Prop :=
  ∀ (s : State) (w d st t0 v : Nat) (c jmax raw16 : Int) (l : List (Nat × Option Nat)) (jb : Job),
    let i := s.img
    let up := s.crownRuns = true
    let p := w % 2 ^ 10
    let period (t : State) := t.rd .pkgNode IMG_CTRL_PERIOD
    let timed := if 5 ≤ p ∧ p ≤ 1000 then s.wr .pkgNode IMG_CTRL_PERIOD p else s
    let on := s.hasDie d = true
    let hot (t : State) := t.rd (.drc d) DRC_DERATE_HOT
    let limit (t : State) := t.rd (.drc d) DRC_LIMIT_MBS
    let t16 := raw16 + s.calEff (8 + d)
    let th := s.thermOf d
    let shown := (s.wr (.dieNode d) THERM_STAT_CASE (ofSigned 8 c)).wr (.dieNode d) THERM_STAT_JMAX (ofSigned 8 jmax)
    (up → s.rd .pkgNode IMG_CTRL_RUN ≠ 0 → i.lastAt + period s * 1000 ≤ s.tb → exec .imgRefresh s = .next s.refresh) ∧
    (i.restarting = false → i.begun = false →
      exec (.imgRun w) s = .next { timed with img := { timed.img with begun := true, restarting := true } }) ∧
    (i.restarting = false → i.begun = true → exec (.imgRun w) s = .next (timed.wr .pkgNode IMG_CTRL_RUN 1) ∧
      exec (.imgStop w) s = .next (timed.wr .pkgNode IMG_CTRL_RUN 0)) ∧
    (i.restarting = true → exec (.imgRun w) s = .next timed ∧ exec (.imgStop w) s = .next timed) ∧
    (up → i.restarting = true → exec .restartDone s = .next s.restart.bootMark ∧ s.restart.img.restarting = false) ∧
    (up → i.begun = true → i.restarting = false → i.mirrorAt + s.rd .pkgNode RST_MIRROR_PERIOD * 1000000 ≤ s.tb →
      exec .mirrorPass s = .next s.mirror ∧ s.mirror.img.pages = [] ∧ s.mirror.img.mirrorAt = s.tb) ∧
    (on → hot s = 0 → 85 * 16 < t16 → s.job.job = none → ∃ u, exec (.dramTempReading d raw16) s = .next u ∧ hot u = 1 ∧ limit u = 538902) ∧
    (on → hot s = 0 → t16 ≤ 85 * 16 → exec (.dramTempReading d raw16) s = .next (s.wr (.drc d) DRC_TEMP_DEGC (ofSigned 8 (t16 / 16)))) ∧
    (on → hot s ≠ 0 → t16 ≤ 80 * 16 → th.dramCool = some t0 → t0 + 1000000000 ≤ s.tb → s.job.job = none →
      ∃ u, exec (.dramTempReading d raw16) s = .next u ∧ hot u = 0 ∧ limit u = 573300) ∧
    (on → s.heldHot d = false → jmax < 120 → th.step < caseStep c →
      exec (.caseTempReading d c jmax) s = .next (shown.thetaLower d (caseStep c))) ∧
    (on → s.heldHot d = false → jmax < 120 → caseStep c < th.step → c ≤ caseLimit th.step - 3 → exec (.caseTempReading d c jmax) s =
      .next (shown.setTherm d { th with coolSince := some (th.coolSince.getD s.tb) })) ∧
    (s.job.job = none → s.thetaLower d st = (s.setTherm d { th with step := st, coolSince := none }).wr (.dieNode d) THERM_STAT_STEP st) ∧
    (on → th.coolSince = some t0 → t0 + 1000000000 ≤ s.tb → exec (.thetaRaise d) s =
      .next (s.thetaRaise d (caseStep (toSigned 8 (s.rd (.dieNode d) THERM_STAT_CASE))))) ∧
    (on → th.leads = (st, some t0) :: l → t0 + s.rd .pkgNode CAP_CFG_LEAD * 1000000 ≤ s.tb →
      exec (.thetaLeadExpiry d) s = .next ((s.wr (.dieNode d) THERM_STAT_STEP st).setLeads d l)) ∧
    (s.job.job = some jb → evalFloor s.tb s.job.evals = some v → s.cap < v → exec .capRaise s =
      .next ((((s.setCap v).offer Ev.CAP_RAISED .pkg).setCapCause (s.capEval jb).2).wr .pkgNode CAP_CAUSE_HELD
        (decide (v < (s.capEval jb).1)).toNat)) ∧
    (s.mayDrive = true → s.job.owed = true → exec .capMessage s = .next s.capSend)

/-- LANE_RUN to KERNEL_DEADLINE and ING_WPTR_WRITE to CAL_TRANSFER_DONE (R187 to R191, R196, R203, R214 to R224): a lane runs
where its settings allow it and stops without a budget; a kernel starts on its conditions and is abandoned at E; the engine
fills or abandons its next line; a calibration transfer is refused, started and ended. -/
def Obligations.LanesAndIngest : Prop :=
  ∀ (s : State) (d j w i : Nat) (k : Kern) (b : DieJob) (jb : Job) (c : CalRun),
    let x := Blk.lane d j
    let y := Blk.ing d
    let on := s.hasNode (.lane d j) = true
    let l := s.lane d j
    let run := s.rd x LANE_CTRL_RUN
    let place := s.fillPlace d j
    let busy := (s.ing d).cal.isSome = true
    let go := ING_CAL_CTRL_GO.of w = 1
    let set := s.wrOf y [ING_CAL_CTRL_LANE, ING_CAL_CTRL_MODE] w
    let n := if c.mode = 1 ∧ c.ecc = true then 0 else c.recs.length
    (on → run = 0 → s.runRefused d j = false → exec (.laneRun d j) s = .next
      ((s.wr x LANE_CTRL_RUN 1).setLane d j { l with runAt := some s.tmb.count, stopping := false })) ∧
    (on → run = 0 → s.runRefused d j = true → exec (.laneRun d j) s = .next (s.wr x LANE_STAT_CFGERR 1)) ∧
    (on → s.rd x LANE_BUDGET_CYCLES ≠ 0 → exec (.laneStop d j) s = .next s) ∧
    (on → s.rd x LANE_BUDGET_CYCLES = 0 → run ≠ 0 → l.kern = none →
      exec (.laneStop d j) s = .next ((s.setLane d j { l with runAt := none }).wr x LANE_CTRL_RUN 0)) ∧
    (on → s.rd x LANE_BUDGET_CYCLES = 0 → run ≠ 0 → l.kern = some k →
      exec (.laneStop d j) s = .next (s.setLane d j { l with runAt := none, stopping := true })) ∧
    (on → s.rd x LANE_STAT_STATE = 3 → ∃ u, exec (.laneResume d j) s = .next u ∧ u.rd x LANE_STAT_STATE = 0 ∧
      (u.lane d j).faultEnd = some s.tmb.count) ∧
    (on → s.laneNext d j = some i → s.mayStart d j i = true → exec (.kernelStart d j) s = .next (s.kernelBegin d j i) ∧
      ∃ k, ((s.kernelBegin d j i).lane d j).kern = some k ∧ k.line = i ∧ k.group = 0 ∧ k.pos = 0 ∧ k.stack = []) ∧
    (on → s.laneGated d j = false → l.kern = some k → s.lineE d j k.line ≤ s.ps → exec (.kernelDeadline d j) s =
      .next ((s.kernelOver d j).blankBatt d j k.line (s.blankReason d j k.line true))) ∧
    (on → s.laneGated d j = false → l.kern = none → s.blankNext d j = some i → s.lineE d j i ≤ s.ps →
      exec (.kernelDeadline d j) s = .next (s.blankBatt d j i (s.blankReason d j i false))) ∧
    (s.dieJob d = some b → exec (.ingWptrWrite d w) s = .next
      (if 16 * ING_WPTR_OFFSET.of w < b.ring then s.wr y ING_WPTR_OFFSET (ING_WPTR_OFFSET.of w) else s)) ∧
    (s.dieJob d = some b → s.job.job = some jb → s.fillChoice d b.lanes = some j →
      exec (.ingestFill d) s = .next (s.fillLane b jb.length j)) ∧
    (s.laneInJob d j = true → place < s.lines.length → s.lineE d j place ≤ s.ps →
      exec (.ingestAbandon d j) s = .next (s.abandonLine d j)) ∧
    (s.hasDie d = true → busy → go → exec (.calTransfer d w) s = .next ((set.wr y ING_CAL_STAT_RESULT 5).raiseDie d 68)) ∧
    (s.hasDie d = true → ¬ go → exec (.calTransfer d w) s = .next set) ∧
    (s.hasDie d = true → ¬ busy → go → exec (.calTransfer d w) s = .next (set.calStart d)) ∧
    (s.rd y ING_CAL_CTRL_MODE = 1 → 64 < s.rd y ING_CAL_COUNT_COUNT → s.calStart d = (s.wr y ING_CAL_STAT_RESULT 2).raiseDie d 68) ∧
    ((s.ing d).cal = some c → s.holdRoom d c.lane c.recs.length = true → ∃ u, exec (.calTransferDone d) s = .next u ∧
      u = s.calEnd d c ∧ (u.ing d).cal = none)

/-- ANDP to GEND (R170, R172 to R178, R188, R196): the plane instruction that a running kernel meets replaces the top planes by
its result and the kernel goes on with the next parcel; GEND goes on with the next group or hands the batt; an uncorrectable
error of the parcel, or of what is loaded, is a plane fault of its kind; in the deadline cycle only a plane fault counts (R190). -/
def Obligations.PlaneWords : Prop :=
  ∀ (s : State) (d j n q f i w : Nat) (k : Kern) (a b c e : Plane) (st : List Plane),
    let parcel := s.eccRead (.ks d j k.slot) (2 * k.pos) 2
    let t := parcel.2
    let met (op : LaneOp) (bad : Bool) := (s.lane d j).kern = some k ∧ s.ps < s.lineE d j k.line ∧ s.laneGated d j = false ∧
      s.laneClocked d j = true ∧ laneDecode (s.load (.ks d j k.slot) (2 * k.pos) 2) = some op ∧
      parcel.1 = bad
    let runs (op : LaneOp) (l : List Plane) := met op false ∧ k.stack = l
    let goes (k : Kern) (u : State) (l : List Plane) : Host.Outcome State Fault Refusal :=
      .next (u.setLane d j { u.lane d j with kern := some { k with pos := k.pos + 1, stack := l } })
    let put := goes k t
    let line := (t.lineAt k.line).n
    let load := t.loadPlane d j (srcBuf line) n k.group
    let cal := t.calPlane d j f k.group
    let lut := t.kernelRead d j (lutBase k.slot + 16 * i) 16
    let late := s.laneCycle d j k .gend
    let added := { k with acc := k.acc.set q (min (k.acc.getD q 0 + popcount a.body 2048) 0xFFFFFFFF) }
    (runs .andp (b :: a :: st) → exec (.andp d j) s = put (pointwise (a.bits &&& b.bits) [a, b] :: st)) ∧
    (runs .orp (b :: a :: st) → exec (.orp d j) s = put (pointwise (a.bits ||| b.bits) [a, b] :: st)) ∧
    (runs .xorp (b :: a :: st) → exec (.xorp d j) s = put (pointwise (a.bits ^^^ b.bits) [a, b] :: st)) ∧
    (runs .andnp (b :: a :: st) → exec (.andnp d j) s = put (pointwise (clearBits a.bits b.bits) [a, b] :: st)) ∧
    (runs .notp (a :: st) → exec (.notp d j) s = put (pointwise (allPos - a.bits) [a] :: st)) ∧
    (runs .selp (c :: b :: a :: st) →
      exec (.selp d j) s = put (pointwise ((b.bits &&& c.bits) ||| clearBits a.bits c.bits) [a, b, c] :: st)) ∧
    (runs .zerop st → exec (.zerop d j) s = put ({ bits := 0, lo := 64, hi := 64 } :: st)) ∧
    (runs .onesp st → exec (.onesp d j) s = put ({ bits := allPos, lo := 64, hi := 64 } :: st)) ∧
    (runs .dupp (a :: st) → exec (.dupp d j) s = put (a :: a :: st)) ∧
    (runs .dropp (a :: st) → exec (.dropp d j) s = put st) ∧
    (runs .swapp (b :: a :: st) → exec (.swapp d j) s = put (a :: b :: st)) ∧
    (runs .overp (b :: a :: st) → exec (.overp d j) s = put (a :: b :: a :: st)) ∧
    (runs .rotp (c :: b :: a :: st) → exec (.rotp d j) s = put (a :: c :: b :: st)) ∧
    (runs .nipp (b :: a :: st) → exec (.nipp d j) s = put (b :: st)) ∧
    (runs .tuckp (b :: a :: st) → exec (.tuckp d j) s = put (b :: a :: b :: st)) ∧
    (runs (.pickp n) st → st[n]? = some a → exec (.pickp d j n) s = put (a :: st)) ∧
    (runs (.shlp n) (a :: st) →
      exec (.shlp d j n) s = put ({ bits := a.bits / 2 ^ n, lo := min 64 (a.lo + n), hi := a.hi - n } :: st)) ∧
    (runs (.shrp n) (a :: st) →
      exec (.shrp d j n) s = put ({ bits := a.bits * 2 ^ n % 2 ^ 2176, lo := a.lo - n, hi := min 64 (a.hi + n) } :: st)) ∧
    (runs (.loadp n) st → load.2.1 = false → exec (.loadp d j n) s = goes k load.2.2 (load.1 :: st)) ∧
    (runs (.loadp n) st → load.2.1 = true → exec (.loadp d j n) s = .next (load.2.2.planeFault d j 2)) ∧
    (runs (.calp f) st → cal.2.1 = false → exec (.calp d j f) s = goes k cal.2.2 (cal.1 :: st)) ∧
    (runs (.calp f) st → cal.2.1 = true → exec (.calp d j f) s = .next (cal.2.2.planeFault d j 1)) ∧
    (runs (.lutp i w) (a :: b :: c :: e :: st) → lut.2.1 = false →
      exec (.lutp d j i w) s = goes k lut.2.2 ((List.range w).map (fun n => lutPlane lut.1 n e c b a) ++ st)) ∧
    (runs (.lutp i w) (a :: b :: c :: e :: st) → lut.2.1 = true → exec (.lutp d j i w) s = .next (lut.2.2.planeFault d j 3)) ∧
    (runs (.storep q) (a :: st) →
      exec (.storep d j q) s = goes k (t.laneWrite d j (outBuf line + (8 * k.group + q) * 256) (leBytes 256 a.body)) st) ∧
    (runs (.popcp q) (a :: st) → exec (.popcp d j q) s = goes added t st) ∧
    (runs (.flagp n) (a :: st) → a.body = 0 → exec (.flagp d j n) s = put st) ∧
    (runs (.flagp n) (a :: st) → a.body ≠ 0 → exec (.flagp d j n) s =
      .next (((t.kernNext d j k st).orBits (.lane d j) LANE_FLAGS_FLAG (2 ^ n)).raiseDie d (256 + 8 * j + n))) ∧
    (runs .gend st → k.group + 1 < t.rd (.lane d j) LANE_GROUPS_N → exec (.gend d j) s =
      .next (t.setLane d j { t.lane d j with kern := some { k with group := k.group + 1, pos := 0, stack := [] } })) ∧
    (runs .gend st → t.rd (.lane d j) LANE_GROUPS_N ≤ k.group + 1 →
      let slack := min ((t.lineE d j k.line - t.ps) / 1000).toNat (t.rd (.lane d j) LANE_SLACK_NS)
      exec (.gend d j) s = .next (((t.wr (.lane d j) LANE_SLACK_NS slack).kernelOver d j).handBatt d j k.line false k.acc)) ∧
    (met .gend true → exec (.gend d j) s = .next (t.planeFault d j 0)) ∧
    ((s.lane d j).kern = some k → s.laneGated d j = false → s.laneClocked d j = true → s.lineE d j k.line ≤ s.ps →
      s.ps < s.lineE d j k.line + 1000 → exec (.gend d j) s = .next (if late.faulted d j = true then late else s))

/-- LINK_ENABLE to LINK_TRAIN_TIMEOUT (R230, R252, R256 to R262, R282): the states of a Keati link and what the device sends of
itself. An enabled link trains; a fault in UP goes to FAULT with its reason, and after 100 µs to TRAIN; codewords that the FEC
meets are counted, and enough of them are such a fault; a header that fails its HCRC starts the credit resync; IDLE, CREDIT and
TRAIN frames go out when they are due; the mailbox queues or refuses a frame. -/
def Obligations.LinkStates : Prop :=
  ∀ (s t : State) (d m taps corr unc why : Nat) (ready : Bool) (f : RxFrame) (fs : List RxFrame),
    let b := Blk.link d m
    let on := s.hasLink d m = true
    let l := s.link d m
    let st := s.linkState d m
    let fault (t : State) (why : Nat) := (t.leaveUp d m).setLinkState d m 3 why
    let locked := s.bit (.dieNode d) CLK_DLOCK_LINK (m / 8) = true
    let counted := s.bump b LINK_HCRCERR_COUNT
    let resync := counted.setLink d m { l with resyncAt := some s.tb, full := false }
    let late := s.sinceAtLeast l.resyncAt 100000 = true ∨ s.sinceAtLeast l.txStop 100000 = true
    let coded := s.codewords d m corr unc
    let enough := s.rd b LINK_CFG_FECTHR ≤ ((coded.link d m).fec.map Prod.snd).sum
    let ok := ready && l.peerPools && decide (32 ≤ s.rd b LINK_POOL_POOL0 ∧ 32 ≤ s.rd b LINK_POOL_POOL1)
    let req := if taps % 2 ^ 10 = 0 then l.ownReq else (l.ownReq + 1) % 256
    let told := s.setLink d m { l with ownReady := ok, ownReq := req }
    let type := s.rd b LINK_TX_CFG_TYPE
    let len := 4 * s.rd b LINK_TX_LEN_WORDS
    let dl := if s.is b LINK_TX_LEN_USEDL then s.rd b LINK_TX_DL_DEADLINE else (s.tmb.count + s.rd (.arb d) ARB_BG_SLACK_NS) % 2 ^ 32
    let frame : TxFrame :=
      { type := type, flags := s.rd b LINK_TX_CFG_FLAGS, cls := s.rd b LINK_TX_CFG_CLASS, target := s.rd b LINK_TX_CFG_TARGET,
        dl := dl, words := s.mailWords d m }
    let fits := (type = 2 ∨ type = 3 ∨ type = 5) ∧ len ≤ 256 ∧ lengthOk type len false = true
    on →
    (st = 0 → exec (.linkEnable d m) s = .next ((s.wr b LINK_CTRL_EN 1).enterTrain d m)) ∧
    (locked → s.enterTrain d m = s.beginTrain d m) ∧ (¬ locked → s.enterTrain d m = s) ∧
    (s.rd b LINK_CTRL_EN ≠ 0 → s.job.job = none → exec (.linkDisable d m) s = .next ((s.wr b LINK_CTRL_EN 0).linkDown d m)) ∧
    (st = 1 ∨ st = 2 → exec (.linkRetrain d m) s = .next ((s.wr b LINK_CTRL_RETRAIN 1).enterTrain d m)) ∧
    (¬ (st = 1 ∨ st = 2) → exec (.linkRetrain d m) s = .next (s.wr b LINK_CTRL_RETRAIN 1)) ∧
    (st = 2 → l.lastRx + 1000 * s.rd b LINK_CFG_HBTMO ≤ s.tb → exec (.linkHbTimeout d m) s = .next (fault s 1)) ∧
    (st ≠ 0 → exec (.linkLockLoss d m { corr := corr, unc := unc, lock := true }) s = .next (coded.linkFault d m 2)) ∧
    (st ≠ 0 → enough → exec (.linkLockLoss d m { corr := corr, unc := unc, lock := false }) s = .next (coded.linkFault d m 3)) ∧
    (st ≠ 0 → ¬ enough → exec (.linkLockLoss d m { corr := corr, unc := unc, lock := false }) s = .next coded) ∧
    (t.linkState d m = 2 → t.linkFault d m why = fault t why) ∧ (t.linkState d m ≠ 2 → t.linkFault d m why = t) ∧
    (st = 2 → late → exec (.creditResyncTimeout d m) s = .next (fault s 5)) ∧
    (st = 3 → s.rd b LINK_CTRL_EN ≠ 0 → l.stateAt + 100000 ≤ s.tb → exec (.faultRetrain d m) s = .next (s.enterTrain d m)) ∧
    (st = 1 → l.stateAt + 500000000 ≤ s.tb → exec (.linkTrainTimeout d m) s =
      .next ((s.offer Ev.LINK_TRAIN_FAIL (.die d) [m]).enterTrain d m)) ∧
    (st = 2 → exec (.hcrcFailRx d m) s = .next (resync.creditSend d m 1 0 0)) ∧
    (st = 1 → exec (.hcrcFailRx d m) s = .next counted) ∧
    (st = 2 → l.lastTx + 1000 ≤ s.tb → exec (.idleTx d m) s = .next (s.linkSendNow d m 8 0 [])) ∧
    (st = 2 → l.full = true → l.owe = true → exec (.creditTx d m) s = .next (s.sendFull d m)) ∧
    (st = 2 → l.resyncAt = none ∨ l.full = true → l.owe = true ∨ l.lastCredit + 10000 ≤ s.tb → ¬ (l.full = true ∧ l.owe = true) →
      exec (.creditTx d m) s = .next ((s.setLink d m l.resumed).creditSend d m 0 l.freed0 l.freed1)) ∧
    (st = 1 → exec (.trainTx d m ready taps) s = .next ((told.linkSendNow d m 9 0
      [2 ^ 16 + (ok.toNat + 2 * l.ack.toNat) * 256 + req, taps % 2 ^ 10 * 2 ^ 16, ownPool 0, ownPool 1, 0, 0, 0, 0]).trainDone d m)) ∧
    (s.rd b LINK_TX_GO_GO = 0 → st = 2 → fits →
      exec (.linkTxGo d m) s = .next ((s.setLink d m { l with mailbox := some frame }).wr b LINK_TX_GO_GO 1)) ∧
    (s.rd b LINK_TX_GO_GO = 0 → st ≠ 2 ∨ ¬ fits → exec (.linkTxGo d m) s = .next (s.mailboxEnd d m 3)) ∧
    (l.rx = f :: fs → exec (.linkRxPop d m) s =
      .next (s.setLink d m { l.free 1 (creditCost (f.hdr.headD 0 % 2 ^ 16)) with rx := fs }))

/-- BATT_RX to TRAIN_RX, LINK_TX_SELECT, ROUTE_DEADLINE, REFLEX_PASS to RFX_FCLR and ARB_DECISION (R252 to R257, R260, R265,
R266, R276, R279, R288, R296): a frame that passes the checks in their order is acted on by its type; a late route is blanked before
the transmitter decides; in loopback only what the link has sent arrives; the reflex engine, while enabled, takes its oldest
trigger; a decision grants the input that its
ranks choose, and there is none while a
transfer is in progress before its last beat, or held by a requester that has stopped. -/
def Obligations.LinkFramesAndArbiters : Prop :=
  ∀ (s : State) (d m p w a : Nat) (f e : KFrame) (es : List KFrame) (r : TxReq) (g : Trigger) (gs : List Trigger) (c : Option Nat)
    (arrivals : List ArbArrival) (last : Bool) (q x : ArbReq),
    let on := s.hasLink d m = true
    let plain := on ∧ s.rd (.link d m) LINK_CTRL_LOOP = 0
    let looped := on ∧ s.rd (.link d m) LINK_CTRL_LOOP ≠ 0
    let up := plain ∧ s.linkState d m = 2
    let h := s.headerRx d m
    let v := h.claimRx d m f.claim
    let good (ty : Nat) (start : Bool) := f.len = f.payload.length ∧ f.crcOk = true ∧ lengthOk ty f.len start = true
    let room := (h.link d m).overrun 1 (creditCost f.len) = false
    let n := v.link d m
    let k1 := s.each (s.link d m).routes fun t x => t.routeBlank d m x
    let k2 := k1.each (routeHeads (k1.link d m).routes) fun t x => t.battCheck d m x
    let choice := (s.txReady d m).linkDecide d m
    let free := up ∧ (s.link d m).wire ≤ 1000 * s.tb
    let b := arbBlk c
    let i := arbIdx c a
    let inputs := arbInputs c a
    let wait (t : State) := t.each (s.arrivals c a arrivals) fun t y => t.present c a y
    let t := wait (s.endTransfer c a)
    let reqs := t.behind c a
    let ins := (List.range inputs).filterMap fun i => (presentReq i reqs).map fun r => (i, r)
    let pick := t.arbPick (t.rd b (ARB_LIMIT_LIMIT i)) (t.rd b (ARB_STAT_PTR i)) inputs ins
    let member := t.memberPick c a p (reqs.filter fun y => decide (y.input = p))
    let granted := (member.2.arbCount b i inputs p pick.2 x.dl).arbWaits c a x
    (up → f.type = 0 ∨ 9 < f.type → exec (.battRx d m f) s = .next ((h.bump (.link d m) LINK_RXBAD_COUNT).freeAtOnce d m f.type f.len)) ∧
    (up → 1 ≤ f.type → f.type ≤ 3 → good f.type (f.flags.testBit 0) →
      (h.link d m).overrun ((poolOf f.type).getD 0) (creditCost f.len) = false →
      exec (.battRx d m f) s = .next ((v.bump (.link d m) LINK_RXBAD_COUNT).freeAtOnce d m f.type f.len)) ∧
    (up → f.len = f.payload.length → f.crcOk = false → exec (.crespRx d m f) s =
      .next ((h.bump (.link d m) LINK_CRCERR_COUNT).freeAtOnce d m 4 f.len)) ∧
    (up → good 4 (f.flags.testBit 0) → room → exec (.crespRx d m f) s = .next (v.rxPut d m { f with type := 4 })) ∧
    (up → good 4 (f.flags.testBit 0) → ¬ room → exec (.crespRx d m f) s = .next ((h.bump (.link d m) LINK_RXBAD_COUNT).linkFault d m 4)) ∧
    (up → good 5 (f.flags.testBit 0) → room → exec (.eventRx d m f) s =
      .next ((v.eventRx d m { f with type := 5 }).rxPut d m { f with type := 5 })) ∧
    (up → good 6 false → exec (.creditRx d m f) s =
      .next (v.setLink d m { n with got0 := f.figures.1, got1 := f.figures.2 })) ∧
    (up → good 6 true → exec (.creditResyncRx d m f) s = .next ((v.setLink d m { n with txStop := some v.tb }).creditSend d m 2 0 0)) ∧
    (up → good 6 false → n.resyncAt.isSome = true → exec (.creditMarkRx d m f) s =
      .next ((v.setLink d m { n with full := true, freed0 := 0, freed1 := 0 }).sendFull d m)) ∧
    (up → good 6 false → exec (.creditFullRx d m f) s = .next (v.setLink d m
      { n with base0 := f.figures.1, base1 := f.figures.2, sent0 := 0, sent1 := 0, got0 := 0, got1 := 0, txStop := none })) ∧
    (up → f.type ≠ 7 → good 8 (f.flags.testBit 0) → exec (.idleRx d m f) s = .next v) ∧
    (plain → s.linkState d m = 1 → good 9 (f.flags.testBit 0) → v.linkState d m = 1 →
      exec (.trainRx d m f) s = .next (v.trainRx d m { f with type := 9 })) ∧
    (up → good 9 (f.flags.testBit 0) → v.linkState d m = 2 →
      exec (.trainRx d m f) s = .next ((v.enterTrain d m).trainRx d m { f with type := 9 })) ∧
    (looped → (s.link d m).loop = e :: es → e = { f with type := 4 } →
      exec (.crespRx d m f) s = .next ((s.setLink d m { s.link d m with loop := es }).frameRx d m e)) ∧
    (looped → (s.link d m).loop.head? ≠ some { f with type := 4 } → exec (.crespRx d m f) s = .next s) ∧
    (on → exec (.routeDeadline d m) s = .next k1) ∧
    ((k2.link d m).reflex = [] → s.txReady d m = k2) ∧
    (free → choice.1 = some r → exec (.linkTxSelect d m) s = .next ((choice.2.txStart d m r).linkHold d m)) ∧
    (free → choice.1 = none → exec (.linkTxSelect d m) s = .next choice.2) ∧
    (s.hasDie d = true → s.rd (.rfx d) RFX_CTRL_EN ≠ 0 → Tab.get s.rfx d [] = g :: gs → exec (.reflexPass d) s =
      .next ({ s with rfx := Tab.set (fun k => k) s.rfx d [] gs }.reflexPass d g)) ∧
    (s.hasDie d = true → exec (.rfxFset d w) s = .next (s.wr (.rfx d) RFX_FLAGS_FLAGS (s.rd (.rfx d) RFX_FLAGS_FLAGS ||| w % 2 ^ 32)) ∧
      exec (.rfxFclr d w) s = .next (s.wr (.rfx d) RFX_FLAGS_FLAGS (clearBits (s.rd (.rfx d) RFX_FLAGS_FLAGS) (w % 2 ^ 32)))) ∧
    (s.hasArb c a = true → s.arbBusy c a last = false → exec (.arbDecision c a arrivals last) s = .next (t.arbDecide c a)) ∧
    (s.hasArb c a = true → s.arbBusy c a last = true → exec (.arbDecision c a arrivals last) s = .next (wait s)) ∧
    (pick.1 = none → t.arbDecide c a = t) ∧
    (pick.1 = some (p, q) → member.1 = some x →
      t.arbDecide c a = (granted.setArbiter c a { granted.arbiter c a with grant := some (t.tb, x) }).passOn c a x)

/-! ### The whole machine -/

/-- A step runs the command at the front of the queue, on the state with the rest of the queue. With no command waiting the
package time alone moves on (the model's choice, log entries 1 and 2). -/
def Obligations.StepRunsTheCommand : Prop :=
  (∀ (c : Instr) (cs : List Instr) (s : State), step { s with pending := c :: cs } = exec c { s with pending := cs }) ∧
  (∀ s : State, step { s with pending := [] } = .next { s with pending := [] }.tick)

/-- The state after reset is in canonical form: no command waits, no memory lists a byte, and no register a field. -/
def Obligations.ResetIsCanonical : Prop :=
  State.reset.wf = true ∧ State.reset.pending = [] ∧ State.reset.mems = [] ∧ State.reset.regs = []

/-- Whatever command a step runs, memories and registers stay in canonical form (the form is the model's, log entry 8): each memory
and the register file sorted, each memory listing only bytes other than what an unlisted address reads as, each register field
listed only where it differs from its reset value. So states that read alike everywhere hold equal memories and registers. -/
def Obligations.StepKeepsCanonicalForm : Prop :=
  ∀ s s' : State, s.wf = true → step s = .next s' → s'.wf = true
end

