-- ==== Sys2Proof/Laws/Codes.lean ====
section
/-! SUPPORT. The numbers by which tables are sorted tell their keys apart. -/

namespace Sys2Proof.Machine

theorem pairCode_inj (a b : Nat × Nat) (h : pairCode a = pairCode b) : a = b := by
  simpa [pairCode, Nat.pair_eq_pair, Prod.ext_iff] using h

theorem memId_code_inj (a b : MemId) (h : a.code = b.code) : a = b := by
  cases a <;> cases b <;> simp_all [MemId.code, Nat.pair_eq_pair]

theorem blk_code_inj (a b : Blk) (h : a.code = b.code) : a = b := by
  cases a <;> cases b <;> simp_all [Blk.code, Nat.pair_eq_pair]

theorem bool_toNat_inj (a b : Bool) (h : a.toNat = b.toNat) : a = b := by
  cases a <;> cases b <;> simp_all

theorem regKey_code_inj (a b : RegKey) (h : a.code = b.code) : a = b := by
  obtain ⟨_, _, _, _, _⟩ := a
  obtain ⟨_, _, _, _, _⟩ := b
  simp only [RegKey.code, Nat.pair_eq_pair] at h
  obtain ⟨⟨h1, h2⟩, ⟨h3, h4⟩, h5⟩ := h
  simp [blk_code_inj _ _ h1, h2, h3, h5, bool_toNat_inj _ _ h4]

end Sys2Proof.Machine
end

