-- ==== Sys2Proof/Laws/State.lean ====
section
/-! SUPPORT. What each update of the state leaves: one lemma per field and update. -/

namespace Sys2Proof.Machine

/-! ### State.wr -/

@[simp] theorem State.wr_pending (s : State) (b : Blk) (f : Field) (v : Nat) : (s.wr b f v).pending = s.pending := rfl
@[simp] theorem State.wr_now (s : State) (b : Blk) (f : Field) (v : Nat) : (s.wr b f v).now = s.now := rfl
@[simp] theorem State.wr_free (s : State) (b : Blk) (f : Field) (v : Nat) : (s.wr b f v).free = s.free := rfl
@[simp] theorem State.wr_straps (s : State) (b : Blk) (f : Field) (v : Nat) : (s.wr b f v).straps = s.straps := rfl
@[simp] theorem State.wr_mems (s : State) (b : Blk) (f : Field) (v : Nat) : (s.wr b f v).mems = s.mems := rfl
@[simp] theorem State.wr_ecc (s : State) (b : Blk) (f : Field) (v : Nat) : (s.wr b f v).ecc = s.ecc := rfl
@[simp] theorem State.wr_recorder (s : State) (b : Blk) (f : Field) (v : Nat) : (s.wr b f v).recorder = s.recorder := rfl
@[simp] theorem State.wr_nvs (s : State) (b : Blk) (f : Field) (v : Nat) : (s.wr b f v).nvs = s.nvs := rfl
@[simp] theorem State.wr_rest (s : State) (b : Blk) (f : Field) (v : Nat) : (s.wr b f v).rest = s.rest := rfl
@[simp] theorem State.wr_wdt (s : State) (b : Blk) (f : Field) (v : Nat) : (s.wr b f v).wdt = s.wdt := rfl
@[simp] theorem State.wr_can (s : State) (b : Blk) (f : Field) (v : Nat) : (s.wr b f v).can = s.can := rfl
@[simp] theorem State.wr_rtc (s : State) (b : Blk) (f : Field) (v : Nat) : (s.wr b f v).rtc = s.rtc := rfl
@[simp] theorem State.wr_tmb (s : State) (b : Blk) (f : Field) (v : Nat) : (s.wr b f v).tmb = s.tmb := rfl
@[simp] theorem State.wr_field (s : State) (b : Blk) (f : Field) (v : Nat) : (s.wr b f v).field = s.field := rfl
@[simp] theorem State.wr_pwr (s : State) (b : Blk) (f : Field) (v : Nat) : (s.wr b f v).pwr = s.pwr := rfl
@[simp] theorem State.wr_hsb (s : State) (b : Blk) (f : Field) (v : Nat) : (s.wr b f v).hsb = s.hsb := rfl
@[simp] theorem State.wr_upd (s : State) (b : Blk) (f : Field) (v : Nat) : (s.wr b f v).upd = s.upd := rfl
@[simp] theorem State.wr_cry (s : State) (b : Blk) (f : Field) (v : Nat) : (s.wr b f v).cry = s.cry := rfl
@[simp] theorem State.wr_cores (s : State) (b : Blk) (f : Field) (v : Nat) : (s.wr b f v).cores = s.cores := rfl
@[simp] theorem State.wr_job (s : State) (b : Blk) (f : Field) (v : Nat) : (s.wr b f v).job = s.job := rfl
@[simp] theorem State.wr_ings (s : State) (b : Blk) (f : Field) (v : Nat) : (s.wr b f v).ings = s.ings := rfl
@[simp] theorem State.wr_lines (s : State) (b : Blk) (f : Field) (v : Nat) : (s.wr b f v).lines = s.lines := rfl
@[simp] theorem State.wr_lanes (s : State) (b : Blk) (f : Field) (v : Nat) : (s.wr b f v).lanes = s.lanes := rfl
@[simp] theorem State.wr_links (s : State) (b : Blk) (f : Field) (v : Nat) : (s.wr b f v).links = s.links := rfl
@[simp] theorem State.wr_arbs (s : State) (b : Blk) (f : Field) (v : Nat) : (s.wr b f v).arbs = s.arbs := rfl
@[simp] theorem State.wr_therm (s : State) (b : Blk) (f : Field) (v : Nat) : (s.wr b f v).therm = s.therm := rfl
@[simp] theorem State.wr_hot (s : State) (b : Blk) (f : Field) (v : Nat) : (s.wr b f v).hot = s.hot := rfl
@[simp] theorem State.wr_hotCool (s : State) (b : Blk) (f : Field) (v : Nat) : (s.wr b f v).hotCool = s.hotCool := rfl
@[simp] theorem State.wr_rfx (s : State) (b : Blk) (f : Field) (v : Nat) : (s.wr b f v).rfx = s.rfx := rfl
@[simp] theorem State.wr_held (s : State) (b : Blk) (f : Field) (v : Nat) : (s.wr b f v).held = s.held := rfl
@[simp] theorem State.wr_seqQ (s : State) (b : Blk) (f : Field) (v : Nat) : (s.wr b f v).seqQ = s.seqQ := rfl
@[simp] theorem State.wr_img (s : State) (b : Blk) (f : Field) (v : Nat) : (s.wr b f v).img = s.img := rfl
@[simp] theorem State.wr_queues (s : State) (b : Blk) (f : Field) (v : Nat) : (s.wr b f v).queues = s.queues := rfl
@[simp] theorem State.wr_cmdEng (s : State) (b : Blk) (f : Field) (v : Nat) : (s.wr b f v).cmdEng = s.cmdEng := rfl
@[simp] theorem State.wr_pcie (s : State) (b : Blk) (f : Field) (v : Nat) : (s.wr b f v).pcie = s.pcie := rfl
@[simp] theorem State.wr_ctxCry (s : State) (b : Blk) (f : Field) (v : Nat) : (s.wr b f v).ctxCry = s.ctxCry := rfl
@[simp] theorem State.wr_ctxCrc (s : State) (b : Blk) (f : Field) (v : Nat) : (s.wr b f v).ctxCrc = s.ctxCrc := rfl
@[simp] theorem State.wr_ring (s : State) (b : Blk) (f : Field) (v : Nat) : (s.wr b f v).ring = s.ring := rfl
@[simp] theorem State.wr_out (s : State) (b : Blk) (f : Field) (v : Nat) : (s.wr b f v).out = s.out := rfl

/-! ### State.setMem -/

@[simp] theorem State.setMem_pending (s : State) (m : MemId) (c : Cells) : (s.setMem m c).pending = s.pending := rfl
@[simp] theorem State.setMem_now (s : State) (m : MemId) (c : Cells) : (s.setMem m c).now = s.now := rfl
@[simp] theorem State.setMem_free (s : State) (m : MemId) (c : Cells) : (s.setMem m c).free = s.free := rfl
@[simp] theorem State.setMem_straps (s : State) (m : MemId) (c : Cells) : (s.setMem m c).straps = s.straps := rfl
@[simp] theorem State.setMem_regs (s : State) (m : MemId) (c : Cells) : (s.setMem m c).regs = s.regs := rfl
@[simp] theorem State.setMem_ecc (s : State) (m : MemId) (c : Cells) : (s.setMem m c).ecc = s.ecc := rfl
@[simp] theorem State.setMem_recorder (s : State) (m : MemId) (c : Cells) : (s.setMem m c).recorder = s.recorder := rfl
@[simp] theorem State.setMem_nvs (s : State) (m : MemId) (c : Cells) : (s.setMem m c).nvs = s.nvs := rfl
@[simp] theorem State.setMem_rest (s : State) (m : MemId) (c : Cells) : (s.setMem m c).rest = s.rest := rfl
@[simp] theorem State.setMem_wdt (s : State) (m : MemId) (c : Cells) : (s.setMem m c).wdt = s.wdt := rfl
@[simp] theorem State.setMem_can (s : State) (m : MemId) (c : Cells) : (s.setMem m c).can = s.can := rfl
@[simp] theorem State.setMem_rtc (s : State) (m : MemId) (c : Cells) : (s.setMem m c).rtc = s.rtc := rfl
@[simp] theorem State.setMem_tmb (s : State) (m : MemId) (c : Cells) : (s.setMem m c).tmb = s.tmb := rfl
@[simp] theorem State.setMem_field (s : State) (m : MemId) (c : Cells) : (s.setMem m c).field = s.field := rfl
@[simp] theorem State.setMem_pwr (s : State) (m : MemId) (c : Cells) : (s.setMem m c).pwr = s.pwr := rfl
@[simp] theorem State.setMem_hsb (s : State) (m : MemId) (c : Cells) : (s.setMem m c).hsb = s.hsb := rfl
@[simp] theorem State.setMem_upd (s : State) (m : MemId) (c : Cells) : (s.setMem m c).upd = s.upd := rfl
@[simp] theorem State.setMem_cry (s : State) (m : MemId) (c : Cells) : (s.setMem m c).cry = s.cry := rfl
@[simp] theorem State.setMem_cores (s : State) (m : MemId) (c : Cells) : (s.setMem m c).cores = s.cores := rfl
@[simp] theorem State.setMem_job (s : State) (m : MemId) (c : Cells) : (s.setMem m c).job = s.job := rfl
@[simp] theorem State.setMem_ings (s : State) (m : MemId) (c : Cells) : (s.setMem m c).ings = s.ings := rfl
@[simp] theorem State.setMem_lines (s : State) (m : MemId) (c : Cells) : (s.setMem m c).lines = s.lines := rfl
@[simp] theorem State.setMem_lanes (s : State) (m : MemId) (c : Cells) : (s.setMem m c).lanes = s.lanes := rfl
@[simp] theorem State.setMem_links (s : State) (m : MemId) (c : Cells) : (s.setMem m c).links = s.links := rfl
@[simp] theorem State.setMem_arbs (s : State) (m : MemId) (c : Cells) : (s.setMem m c).arbs = s.arbs := rfl
@[simp] theorem State.setMem_therm (s : State) (m : MemId) (c : Cells) : (s.setMem m c).therm = s.therm := rfl
@[simp] theorem State.setMem_hot (s : State) (m : MemId) (c : Cells) : (s.setMem m c).hot = s.hot := rfl
@[simp] theorem State.setMem_hotCool (s : State) (m : MemId) (c : Cells) : (s.setMem m c).hotCool = s.hotCool := rfl
@[simp] theorem State.setMem_rfx (s : State) (m : MemId) (c : Cells) : (s.setMem m c).rfx = s.rfx := rfl
@[simp] theorem State.setMem_held (s : State) (m : MemId) (c : Cells) : (s.setMem m c).held = s.held := rfl
@[simp] theorem State.setMem_seqQ (s : State) (m : MemId) (c : Cells) : (s.setMem m c).seqQ = s.seqQ := rfl
@[simp] theorem State.setMem_img (s : State) (m : MemId) (c : Cells) : (s.setMem m c).img = s.img := rfl
@[simp] theorem State.setMem_queues (s : State) (m : MemId) (c : Cells) : (s.setMem m c).queues = s.queues := rfl
@[simp] theorem State.setMem_cmdEng (s : State) (m : MemId) (c : Cells) : (s.setMem m c).cmdEng = s.cmdEng := rfl
@[simp] theorem State.setMem_pcie (s : State) (m : MemId) (c : Cells) : (s.setMem m c).pcie = s.pcie := rfl
@[simp] theorem State.setMem_ctxCry (s : State) (m : MemId) (c : Cells) : (s.setMem m c).ctxCry = s.ctxCry := rfl
@[simp] theorem State.setMem_ctxCrc (s : State) (m : MemId) (c : Cells) : (s.setMem m c).ctxCrc = s.ctxCrc := rfl
@[simp] theorem State.setMem_ring (s : State) (m : MemId) (c : Cells) : (s.setMem m c).ring = s.ring := rfl
@[simp] theorem State.setMem_out (s : State) (m : MemId) (c : Cells) : (s.setMem m c).out = s.out := rfl

/-! ### State.store -/

@[simp] theorem State.store_pending (s : State) (m : MemId) (a n v : Nat) : (s.store m a n v).pending = s.pending := rfl
@[simp] theorem State.store_now (s : State) (m : MemId) (a n v : Nat) : (s.store m a n v).now = s.now := rfl
@[simp] theorem State.store_free (s : State) (m : MemId) (a n v : Nat) : (s.store m a n v).free = s.free := rfl
@[simp] theorem State.store_straps (s : State) (m : MemId) (a n v : Nat) : (s.store m a n v).straps = s.straps := rfl
@[simp] theorem State.store_regs (s : State) (m : MemId) (a n v : Nat) : (s.store m a n v).regs = s.regs := rfl
@[simp] theorem State.store_ecc (s : State) (m : MemId) (a n v : Nat) : (s.store m a n v).ecc = s.ecc := rfl
@[simp] theorem State.store_recorder (s : State) (m : MemId) (a n v : Nat) : (s.store m a n v).recorder = s.recorder := rfl
@[simp] theorem State.store_nvs (s : State) (m : MemId) (a n v : Nat) : (s.store m a n v).nvs = s.nvs := rfl
@[simp] theorem State.store_rest (s : State) (m : MemId) (a n v : Nat) : (s.store m a n v).rest = s.rest := rfl
@[simp] theorem State.store_wdt (s : State) (m : MemId) (a n v : Nat) : (s.store m a n v).wdt = s.wdt := rfl
@[simp] theorem State.store_can (s : State) (m : MemId) (a n v : Nat) : (s.store m a n v).can = s.can := rfl
@[simp] theorem State.store_rtc (s : State) (m : MemId) (a n v : Nat) : (s.store m a n v).rtc = s.rtc := rfl
@[simp] theorem State.store_tmb (s : State) (m : MemId) (a n v : Nat) : (s.store m a n v).tmb = s.tmb := rfl
@[simp] theorem State.store_field (s : State) (m : MemId) (a n v : Nat) : (s.store m a n v).field = s.field := rfl
@[simp] theorem State.store_pwr (s : State) (m : MemId) (a n v : Nat) : (s.store m a n v).pwr = s.pwr := rfl
@[simp] theorem State.store_hsb (s : State) (m : MemId) (a n v : Nat) : (s.store m a n v).hsb = s.hsb := rfl
@[simp] theorem State.store_upd (s : State) (m : MemId) (a n v : Nat) : (s.store m a n v).upd = s.upd := rfl
@[simp] theorem State.store_cry (s : State) (m : MemId) (a n v : Nat) : (s.store m a n v).cry = s.cry := rfl
@[simp] theorem State.store_cores (s : State) (m : MemId) (a n v : Nat) : (s.store m a n v).cores = s.cores := rfl
@[simp] theorem State.store_job (s : State) (m : MemId) (a n v : Nat) : (s.store m a n v).job = s.job := rfl
@[simp] theorem State.store_ings (s : State) (m : MemId) (a n v : Nat) : (s.store m a n v).ings = s.ings := rfl
@[simp] theorem State.store_lines (s : State) (m : MemId) (a n v : Nat) : (s.store m a n v).lines = s.lines := rfl
@[simp] theorem State.store_lanes (s : State) (m : MemId) (a n v : Nat) : (s.store m a n v).lanes = s.lanes := rfl
@[simp] theorem State.store_links (s : State) (m : MemId) (a n v : Nat) : (s.store m a n v).links = s.links := rfl
@[simp] theorem State.store_arbs (s : State) (m : MemId) (a n v : Nat) : (s.store m a n v).arbs = s.arbs := rfl
@[simp] theorem State.store_therm (s : State) (m : MemId) (a n v : Nat) : (s.store m a n v).therm = s.therm := rfl
@[simp] theorem State.store_hot (s : State) (m : MemId) (a n v : Nat) : (s.store m a n v).hot = s.hot := rfl
@[simp] theorem State.store_hotCool (s : State) (m : MemId) (a n v : Nat) : (s.store m a n v).hotCool = s.hotCool := rfl
@[simp] theorem State.store_rfx (s : State) (m : MemId) (a n v : Nat) : (s.store m a n v).rfx = s.rfx := rfl
@[simp] theorem State.store_held (s : State) (m : MemId) (a n v : Nat) : (s.store m a n v).held = s.held := rfl
@[simp] theorem State.store_seqQ (s : State) (m : MemId) (a n v : Nat) : (s.store m a n v).seqQ = s.seqQ := rfl
@[simp] theorem State.store_img (s : State) (m : MemId) (a n v : Nat) : (s.store m a n v).img = s.img := rfl
@[simp] theorem State.store_queues (s : State) (m : MemId) (a n v : Nat) : (s.store m a n v).queues = s.queues := rfl
@[simp] theorem State.store_cmdEng (s : State) (m : MemId) (a n v : Nat) : (s.store m a n v).cmdEng = s.cmdEng := rfl
@[simp] theorem State.store_pcie (s : State) (m : MemId) (a n v : Nat) : (s.store m a n v).pcie = s.pcie := rfl
@[simp] theorem State.store_ctxCry (s : State) (m : MemId) (a n v : Nat) : (s.store m a n v).ctxCry = s.ctxCry := rfl
@[simp] theorem State.store_ctxCrc (s : State) (m : MemId) (a n v : Nat) : (s.store m a n v).ctxCrc = s.ctxCrc := rfl
@[simp] theorem State.store_ring (s : State) (m : MemId) (a n v : Nat) : (s.store m a n v).ring = s.ring := rfl
@[simp] theorem State.store_out (s : State) (m : MemId) (a n v : Nat) : (s.store m a n v).out = s.out := rfl

/-! ### State.storeBytes -/

@[simp] theorem State.storeBytes_pending (s : State) (m : MemId) (a : Nat) (l : List Byte) : (s.storeBytes m a l).pending = s.pending := rfl
@[simp] theorem State.storeBytes_now (s : State) (m : MemId) (a : Nat) (l : List Byte) : (s.storeBytes m a l).now = s.now := rfl
@[simp] theorem State.storeBytes_free (s : State) (m : MemId) (a : Nat) (l : List Byte) : (s.storeBytes m a l).free = s.free := rfl
@[simp] theorem State.storeBytes_straps (s : State) (m : MemId) (a : Nat) (l : List Byte) : (s.storeBytes m a l).straps = s.straps := rfl
@[simp] theorem State.storeBytes_regs (s : State) (m : MemId) (a : Nat) (l : List Byte) : (s.storeBytes m a l).regs = s.regs := rfl
@[simp] theorem State.storeBytes_ecc (s : State) (m : MemId) (a : Nat) (l : List Byte) : (s.storeBytes m a l).ecc = s.ecc := rfl
@[simp] theorem State.storeBytes_recorder (s : State) (m : MemId) (a : Nat) (l : List Byte) : (s.storeBytes m a l).recorder = s.recorder := rfl
@[simp] theorem State.storeBytes_nvs (s : State) (m : MemId) (a : Nat) (l : List Byte) : (s.storeBytes m a l).nvs = s.nvs := rfl
@[simp] theorem State.storeBytes_rest (s : State) (m : MemId) (a : Nat) (l : List Byte) : (s.storeBytes m a l).rest = s.rest := rfl
@[simp] theorem State.storeBytes_wdt (s : State) (m : MemId) (a : Nat) (l : List Byte) : (s.storeBytes m a l).wdt = s.wdt := rfl
@[simp] theorem State.storeBytes_can (s : State) (m : MemId) (a : Nat) (l : List Byte) : (s.storeBytes m a l).can = s.can := rfl
@[simp] theorem State.storeBytes_rtc (s : State) (m : MemId) (a : Nat) (l : List Byte) : (s.storeBytes m a l).rtc = s.rtc := rfl
@[simp] theorem State.storeBytes_tmb (s : State) (m : MemId) (a : Nat) (l : List Byte) : (s.storeBytes m a l).tmb = s.tmb := rfl
@[simp] theorem State.storeBytes_field (s : State) (m : MemId) (a : Nat) (l : List Byte) : (s.storeBytes m a l).field = s.field := rfl
@[simp] theorem State.storeBytes_pwr (s : State) (m : MemId) (a : Nat) (l : List Byte) : (s.storeBytes m a l).pwr = s.pwr := rfl
@[simp] theorem State.storeBytes_hsb (s : State) (m : MemId) (a : Nat) (l : List Byte) : (s.storeBytes m a l).hsb = s.hsb := rfl
@[simp] theorem State.storeBytes_upd (s : State) (m : MemId) (a : Nat) (l : List Byte) : (s.storeBytes m a l).upd = s.upd := rfl
@[simp] theorem State.storeBytes_cry (s : State) (m : MemId) (a : Nat) (l : List Byte) : (s.storeBytes m a l).cry = s.cry := rfl
@[simp] theorem State.storeBytes_cores (s : State) (m : MemId) (a : Nat) (l : List Byte) : (s.storeBytes m a l).cores = s.cores := rfl
@[simp] theorem State.storeBytes_job (s : State) (m : MemId) (a : Nat) (l : List Byte) : (s.storeBytes m a l).job = s.job := rfl
@[simp] theorem State.storeBytes_ings (s : State) (m : MemId) (a : Nat) (l : List Byte) : (s.storeBytes m a l).ings = s.ings := rfl
@[simp] theorem State.storeBytes_lines (s : State) (m : MemId) (a : Nat) (l : List Byte) : (s.storeBytes m a l).lines = s.lines := rfl
@[simp] theorem State.storeBytes_lanes (s : State) (m : MemId) (a : Nat) (l : List Byte) : (s.storeBytes m a l).lanes = s.lanes := rfl
@[simp] theorem State.storeBytes_links (s : State) (m : MemId) (a : Nat) (l : List Byte) : (s.storeBytes m a l).links = s.links := rfl
@[simp] theorem State.storeBytes_arbs (s : State) (m : MemId) (a : Nat) (l : List Byte) : (s.storeBytes m a l).arbs = s.arbs := rfl
@[simp] theorem State.storeBytes_therm (s : State) (m : MemId) (a : Nat) (l : List Byte) : (s.storeBytes m a l).therm = s.therm := rfl
@[simp] theorem State.storeBytes_hot (s : State) (m : MemId) (a : Nat) (l : List Byte) : (s.storeBytes m a l).hot = s.hot := rfl
@[simp] theorem State.storeBytes_hotCool (s : State) (m : MemId) (a : Nat) (l : List Byte) : (s.storeBytes m a l).hotCool = s.hotCool := rfl
@[simp] theorem State.storeBytes_rfx (s : State) (m : MemId) (a : Nat) (l : List Byte) : (s.storeBytes m a l).rfx = s.rfx := rfl
@[simp] theorem State.storeBytes_held (s : State) (m : MemId) (a : Nat) (l : List Byte) : (s.storeBytes m a l).held = s.held := rfl
@[simp] theorem State.storeBytes_seqQ (s : State) (m : MemId) (a : Nat) (l : List Byte) : (s.storeBytes m a l).seqQ = s.seqQ := rfl
@[simp] theorem State.storeBytes_img (s : State) (m : MemId) (a : Nat) (l : List Byte) : (s.storeBytes m a l).img = s.img := rfl
@[simp] theorem State.storeBytes_queues (s : State) (m : MemId) (a : Nat) (l : List Byte) : (s.storeBytes m a l).queues = s.queues := rfl
@[simp] theorem State.storeBytes_cmdEng (s : State) (m : MemId) (a : Nat) (l : List Byte) : (s.storeBytes m a l).cmdEng = s.cmdEng := rfl
@[simp] theorem State.storeBytes_pcie (s : State) (m : MemId) (a : Nat) (l : List Byte) : (s.storeBytes m a l).pcie = s.pcie := rfl
@[simp] theorem State.storeBytes_ctxCry (s : State) (m : MemId) (a : Nat) (l : List Byte) : (s.storeBytes m a l).ctxCry = s.ctxCry := rfl
@[simp] theorem State.storeBytes_ctxCrc (s : State) (m : MemId) (a : Nat) (l : List Byte) : (s.storeBytes m a l).ctxCrc = s.ctxCrc := rfl
@[simp] theorem State.storeBytes_ring (s : State) (m : MemId) (a : Nat) (l : List Byte) : (s.storeBytes m a l).ring = s.ring := rfl
@[simp] theorem State.storeBytes_out (s : State) (m : MemId) (a : Nat) (l : List Byte) : (s.storeBytes m a l).out = s.out := rfl

/-! ### State.zeroMem -/

@[simp] theorem State.zeroMem_pending (s : State) (m : MemId) (a n : Nat) : (s.zeroMem m a n).pending = s.pending := rfl
@[simp] theorem State.zeroMem_now (s : State) (m : MemId) (a n : Nat) : (s.zeroMem m a n).now = s.now := rfl
@[simp] theorem State.zeroMem_free (s : State) (m : MemId) (a n : Nat) : (s.zeroMem m a n).free = s.free := rfl
@[simp] theorem State.zeroMem_straps (s : State) (m : MemId) (a n : Nat) : (s.zeroMem m a n).straps = s.straps := rfl
@[simp] theorem State.zeroMem_regs (s : State) (m : MemId) (a n : Nat) : (s.zeroMem m a n).regs = s.regs := rfl
@[simp] theorem State.zeroMem_ecc (s : State) (m : MemId) (a n : Nat) : (s.zeroMem m a n).ecc = s.ecc := rfl
@[simp] theorem State.zeroMem_recorder (s : State) (m : MemId) (a n : Nat) : (s.zeroMem m a n).recorder = s.recorder := rfl
@[simp] theorem State.zeroMem_nvs (s : State) (m : MemId) (a n : Nat) : (s.zeroMem m a n).nvs = s.nvs := rfl
@[simp] theorem State.zeroMem_rest (s : State) (m : MemId) (a n : Nat) : (s.zeroMem m a n).rest = s.rest := rfl
@[simp] theorem State.zeroMem_wdt (s : State) (m : MemId) (a n : Nat) : (s.zeroMem m a n).wdt = s.wdt := rfl
@[simp] theorem State.zeroMem_can (s : State) (m : MemId) (a n : Nat) : (s.zeroMem m a n).can = s.can := rfl
@[simp] theorem State.zeroMem_rtc (s : State) (m : MemId) (a n : Nat) : (s.zeroMem m a n).rtc = s.rtc := rfl
@[simp] theorem State.zeroMem_tmb (s : State) (m : MemId) (a n : Nat) : (s.zeroMem m a n).tmb = s.tmb := rfl
@[simp] theorem State.zeroMem_field (s : State) (m : MemId) (a n : Nat) : (s.zeroMem m a n).field = s.field := rfl
@[simp] theorem State.zeroMem_pwr (s : State) (m : MemId) (a n : Nat) : (s.zeroMem m a n).pwr = s.pwr := rfl
@[simp] theorem State.zeroMem_hsb (s : State) (m : MemId) (a n : Nat) : (s.zeroMem m a n).hsb = s.hsb := rfl
@[simp] theorem State.zeroMem_upd (s : State) (m : MemId) (a n : Nat) : (s.zeroMem m a n).upd = s.upd := rfl
@[simp] theorem State.zeroMem_cry (s : State) (m : MemId) (a n : Nat) : (s.zeroMem m a n).cry = s.cry := rfl
@[simp] theorem State.zeroMem_cores (s : State) (m : MemId) (a n : Nat) : (s.zeroMem m a n).cores = s.cores := rfl
@[simp] theorem State.zeroMem_job (s : State) (m : MemId) (a n : Nat) : (s.zeroMem m a n).job = s.job := rfl
@[simp] theorem State.zeroMem_ings (s : State) (m : MemId) (a n : Nat) : (s.zeroMem m a n).ings = s.ings := rfl
@[simp] theorem State.zeroMem_lines (s : State) (m : MemId) (a n : Nat) : (s.zeroMem m a n).lines = s.lines := rfl
@[simp] theorem State.zeroMem_lanes (s : State) (m : MemId) (a n : Nat) : (s.zeroMem m a n).lanes = s.lanes := rfl
@[simp] theorem State.zeroMem_links (s : State) (m : MemId) (a n : Nat) : (s.zeroMem m a n).links = s.links := rfl
@[simp] theorem State.zeroMem_arbs (s : State) (m : MemId) (a n : Nat) : (s.zeroMem m a n).arbs = s.arbs := rfl
@[simp] theorem State.zeroMem_therm (s : State) (m : MemId) (a n : Nat) : (s.zeroMem m a n).therm = s.therm := rfl
@[simp] theorem State.zeroMem_hot (s : State) (m : MemId) (a n : Nat) : (s.zeroMem m a n).hot = s.hot := rfl
@[simp] theorem State.zeroMem_hotCool (s : State) (m : MemId) (a n : Nat) : (s.zeroMem m a n).hotCool = s.hotCool := rfl
@[simp] theorem State.zeroMem_rfx (s : State) (m : MemId) (a n : Nat) : (s.zeroMem m a n).rfx = s.rfx := rfl
@[simp] theorem State.zeroMem_held (s : State) (m : MemId) (a n : Nat) : (s.zeroMem m a n).held = s.held := rfl
@[simp] theorem State.zeroMem_seqQ (s : State) (m : MemId) (a n : Nat) : (s.zeroMem m a n).seqQ = s.seqQ := rfl
@[simp] theorem State.zeroMem_img (s : State) (m : MemId) (a n : Nat) : (s.zeroMem m a n).img = s.img := rfl
@[simp] theorem State.zeroMem_queues (s : State) (m : MemId) (a n : Nat) : (s.zeroMem m a n).queues = s.queues := rfl
@[simp] theorem State.zeroMem_cmdEng (s : State) (m : MemId) (a n : Nat) : (s.zeroMem m a n).cmdEng = s.cmdEng := rfl
@[simp] theorem State.zeroMem_pcie (s : State) (m : MemId) (a n : Nat) : (s.zeroMem m a n).pcie = s.pcie := rfl
@[simp] theorem State.zeroMem_ctxCry (s : State) (m : MemId) (a n : Nat) : (s.zeroMem m a n).ctxCry = s.ctxCry := rfl
@[simp] theorem State.zeroMem_ctxCrc (s : State) (m : MemId) (a n : Nat) : (s.zeroMem m a n).ctxCrc = s.ctxCrc := rfl
@[simp] theorem State.zeroMem_ring (s : State) (m : MemId) (a n : Nat) : (s.zeroMem m a n).ring = s.ring := rfl
@[simp] theorem State.zeroMem_out (s : State) (m : MemId) (a n : Nat) : (s.zeroMem m a n).out = s.out := rfl

/-! ### State.setEcc -/

@[simp] theorem State.setEcc_pending (s : State) (m : MemId) (w : Nat) (e : Ecc) : (s.setEcc m w e).pending = s.pending := rfl
@[simp] theorem State.setEcc_now (s : State) (m : MemId) (w : Nat) (e : Ecc) : (s.setEcc m w e).now = s.now := rfl
@[simp] theorem State.setEcc_free (s : State) (m : MemId) (w : Nat) (e : Ecc) : (s.setEcc m w e).free = s.free := rfl
@[simp] theorem State.setEcc_straps (s : State) (m : MemId) (w : Nat) (e : Ecc) : (s.setEcc m w e).straps = s.straps := rfl
@[simp] theorem State.setEcc_regs (s : State) (m : MemId) (w : Nat) (e : Ecc) : (s.setEcc m w e).regs = s.regs := rfl
@[simp] theorem State.setEcc_mems (s : State) (m : MemId) (w : Nat) (e : Ecc) : (s.setEcc m w e).mems = s.mems := rfl
@[simp] theorem State.setEcc_recorder (s : State) (m : MemId) (w : Nat) (e : Ecc) : (s.setEcc m w e).recorder = s.recorder := rfl
@[simp] theorem State.setEcc_nvs (s : State) (m : MemId) (w : Nat) (e : Ecc) : (s.setEcc m w e).nvs = s.nvs := rfl
@[simp] theorem State.setEcc_rest (s : State) (m : MemId) (w : Nat) (e : Ecc) : (s.setEcc m w e).rest = s.rest := rfl
@[simp] theorem State.setEcc_wdt (s : State) (m : MemId) (w : Nat) (e : Ecc) : (s.setEcc m w e).wdt = s.wdt := rfl
@[simp] theorem State.setEcc_can (s : State) (m : MemId) (w : Nat) (e : Ecc) : (s.setEcc m w e).can = s.can := rfl
@[simp] theorem State.setEcc_rtc (s : State) (m : MemId) (w : Nat) (e : Ecc) : (s.setEcc m w e).rtc = s.rtc := rfl
@[simp] theorem State.setEcc_tmb (s : State) (m : MemId) (w : Nat) (e : Ecc) : (s.setEcc m w e).tmb = s.tmb := rfl
@[simp] theorem State.setEcc_field (s : State) (m : MemId) (w : Nat) (e : Ecc) : (s.setEcc m w e).field = s.field := rfl
@[simp] theorem State.setEcc_pwr (s : State) (m : MemId) (w : Nat) (e : Ecc) : (s.setEcc m w e).pwr = s.pwr := rfl
@[simp] theorem State.setEcc_hsb (s : State) (m : MemId) (w : Nat) (e : Ecc) : (s.setEcc m w e).hsb = s.hsb := rfl
@[simp] theorem State.setEcc_upd (s : State) (m : MemId) (w : Nat) (e : Ecc) : (s.setEcc m w e).upd = s.upd := rfl
@[simp] theorem State.setEcc_cry (s : State) (m : MemId) (w : Nat) (e : Ecc) : (s.setEcc m w e).cry = s.cry := rfl
@[simp] theorem State.setEcc_cores (s : State) (m : MemId) (w : Nat) (e : Ecc) : (s.setEcc m w e).cores = s.cores := rfl
@[simp] theorem State.setEcc_job (s : State) (m : MemId) (w : Nat) (e : Ecc) : (s.setEcc m w e).job = s.job := rfl
@[simp] theorem State.setEcc_ings (s : State) (m : MemId) (w : Nat) (e : Ecc) : (s.setEcc m w e).ings = s.ings := rfl
@[simp] theorem State.setEcc_lines (s : State) (m : MemId) (w : Nat) (e : Ecc) : (s.setEcc m w e).lines = s.lines := rfl
@[simp] theorem State.setEcc_lanes (s : State) (m : MemId) (w : Nat) (e : Ecc) : (s.setEcc m w e).lanes = s.lanes := rfl
@[simp] theorem State.setEcc_links (s : State) (m : MemId) (w : Nat) (e : Ecc) : (s.setEcc m w e).links = s.links := rfl
@[simp] theorem State.setEcc_arbs (s : State) (m : MemId) (w : Nat) (e : Ecc) : (s.setEcc m w e).arbs = s.arbs := rfl
@[simp] theorem State.setEcc_therm (s : State) (m : MemId) (w : Nat) (e : Ecc) : (s.setEcc m w e).therm = s.therm := rfl
@[simp] theorem State.setEcc_hot (s : State) (m : MemId) (w : Nat) (e : Ecc) : (s.setEcc m w e).hot = s.hot := rfl
@[simp] theorem State.setEcc_hotCool (s : State) (m : MemId) (w : Nat) (e : Ecc) : (s.setEcc m w e).hotCool = s.hotCool := rfl
@[simp] theorem State.setEcc_rfx (s : State) (m : MemId) (w : Nat) (e : Ecc) : (s.setEcc m w e).rfx = s.rfx := rfl
@[simp] theorem State.setEcc_held (s : State) (m : MemId) (w : Nat) (e : Ecc) : (s.setEcc m w e).held = s.held := rfl
@[simp] theorem State.setEcc_seqQ (s : State) (m : MemId) (w : Nat) (e : Ecc) : (s.setEcc m w e).seqQ = s.seqQ := rfl
@[simp] theorem State.setEcc_img (s : State) (m : MemId) (w : Nat) (e : Ecc) : (s.setEcc m w e).img = s.img := rfl
@[simp] theorem State.setEcc_queues (s : State) (m : MemId) (w : Nat) (e : Ecc) : (s.setEcc m w e).queues = s.queues := rfl
@[simp] theorem State.setEcc_cmdEng (s : State) (m : MemId) (w : Nat) (e : Ecc) : (s.setEcc m w e).cmdEng = s.cmdEng := rfl
@[simp] theorem State.setEcc_pcie (s : State) (m : MemId) (w : Nat) (e : Ecc) : (s.setEcc m w e).pcie = s.pcie := rfl
@[simp] theorem State.setEcc_ctxCry (s : State) (m : MemId) (w : Nat) (e : Ecc) : (s.setEcc m w e).ctxCry = s.ctxCry := rfl
@[simp] theorem State.setEcc_ctxCrc (s : State) (m : MemId) (w : Nat) (e : Ecc) : (s.setEcc m w e).ctxCrc = s.ctxCrc := rfl
@[simp] theorem State.setEcc_ring (s : State) (m : MemId) (w : Nat) (e : Ecc) : (s.setEcc m w e).ring = s.ring := rfl
@[simp] theorem State.setEcc_out (s : State) (m : MemId) (w : Nat) (e : Ecc) : (s.setEcc m w e).out = s.out := rfl

/-! ### State.setCore -/

@[simp] theorem State.setCore_pending (s : State) (d k : Nat) (c : Core) : (s.setCore d k c).pending = s.pending := rfl
@[simp] theorem State.setCore_now (s : State) (d k : Nat) (c : Core) : (s.setCore d k c).now = s.now := rfl
@[simp] theorem State.setCore_free (s : State) (d k : Nat) (c : Core) : (s.setCore d k c).free = s.free := rfl
@[simp] theorem State.setCore_straps (s : State) (d k : Nat) (c : Core) : (s.setCore d k c).straps = s.straps := rfl
@[simp] theorem State.setCore_regs (s : State) (d k : Nat) (c : Core) : (s.setCore d k c).regs = s.regs := rfl
@[simp] theorem State.setCore_mems (s : State) (d k : Nat) (c : Core) : (s.setCore d k c).mems = s.mems := rfl
@[simp] theorem State.setCore_ecc (s : State) (d k : Nat) (c : Core) : (s.setCore d k c).ecc = s.ecc := rfl
@[simp] theorem State.setCore_recorder (s : State) (d k : Nat) (c : Core) : (s.setCore d k c).recorder = s.recorder := rfl
@[simp] theorem State.setCore_nvs (s : State) (d k : Nat) (c : Core) : (s.setCore d k c).nvs = s.nvs := rfl
@[simp] theorem State.setCore_rest (s : State) (d k : Nat) (c : Core) : (s.setCore d k c).rest = s.rest := rfl
@[simp] theorem State.setCore_wdt (s : State) (d k : Nat) (c : Core) : (s.setCore d k c).wdt = s.wdt := rfl
@[simp] theorem State.setCore_can (s : State) (d k : Nat) (c : Core) : (s.setCore d k c).can = s.can := rfl
@[simp] theorem State.setCore_rtc (s : State) (d k : Nat) (c : Core) : (s.setCore d k c).rtc = s.rtc := rfl
@[simp] theorem State.setCore_tmb (s : State) (d k : Nat) (c : Core) : (s.setCore d k c).tmb = s.tmb := rfl
@[simp] theorem State.setCore_field (s : State) (d k : Nat) (c : Core) : (s.setCore d k c).field = s.field := rfl
@[simp] theorem State.setCore_pwr (s : State) (d k : Nat) (c : Core) : (s.setCore d k c).pwr = s.pwr := rfl
@[simp] theorem State.setCore_hsb (s : State) (d k : Nat) (c : Core) : (s.setCore d k c).hsb = s.hsb := rfl
@[simp] theorem State.setCore_upd (s : State) (d k : Nat) (c : Core) : (s.setCore d k c).upd = s.upd := rfl
@[simp] theorem State.setCore_cry (s : State) (d k : Nat) (c : Core) : (s.setCore d k c).cry = s.cry := rfl
@[simp] theorem State.setCore_job (s : State) (d k : Nat) (c : Core) : (s.setCore d k c).job = s.job := rfl
@[simp] theorem State.setCore_ings (s : State) (d k : Nat) (c : Core) : (s.setCore d k c).ings = s.ings := rfl
@[simp] theorem State.setCore_lines (s : State) (d k : Nat) (c : Core) : (s.setCore d k c).lines = s.lines := rfl
@[simp] theorem State.setCore_lanes (s : State) (d k : Nat) (c : Core) : (s.setCore d k c).lanes = s.lanes := rfl
@[simp] theorem State.setCore_links (s : State) (d k : Nat) (c : Core) : (s.setCore d k c).links = s.links := rfl
@[simp] theorem State.setCore_arbs (s : State) (d k : Nat) (c : Core) : (s.setCore d k c).arbs = s.arbs := rfl
@[simp] theorem State.setCore_therm (s : State) (d k : Nat) (c : Core) : (s.setCore d k c).therm = s.therm := rfl
@[simp] theorem State.setCore_hot (s : State) (d k : Nat) (c : Core) : (s.setCore d k c).hot = s.hot := rfl
@[simp] theorem State.setCore_hotCool (s : State) (d k : Nat) (c : Core) : (s.setCore d k c).hotCool = s.hotCool := rfl
@[simp] theorem State.setCore_rfx (s : State) (d k : Nat) (c : Core) : (s.setCore d k c).rfx = s.rfx := rfl
@[simp] theorem State.setCore_held (s : State) (d k : Nat) (c : Core) : (s.setCore d k c).held = s.held := rfl
@[simp] theorem State.setCore_seqQ (s : State) (d k : Nat) (c : Core) : (s.setCore d k c).seqQ = s.seqQ := rfl
@[simp] theorem State.setCore_img (s : State) (d k : Nat) (c : Core) : (s.setCore d k c).img = s.img := rfl
@[simp] theorem State.setCore_queues (s : State) (d k : Nat) (c : Core) : (s.setCore d k c).queues = s.queues := rfl
@[simp] theorem State.setCore_cmdEng (s : State) (d k : Nat) (c : Core) : (s.setCore d k c).cmdEng = s.cmdEng := rfl
@[simp] theorem State.setCore_pcie (s : State) (d k : Nat) (c : Core) : (s.setCore d k c).pcie = s.pcie := rfl
@[simp] theorem State.setCore_ctxCry (s : State) (d k : Nat) (c : Core) : (s.setCore d k c).ctxCry = s.ctxCry := rfl
@[simp] theorem State.setCore_ctxCrc (s : State) (d k : Nat) (c : Core) : (s.setCore d k c).ctxCrc = s.ctxCrc := rfl
@[simp] theorem State.setCore_ring (s : State) (d k : Nat) (c : Core) : (s.setCore d k c).ring = s.ring := rfl
@[simp] theorem State.setCore_out (s : State) (d k : Nat) (c : Core) : (s.setCore d k c).out = s.out := rfl

/-! ### State.setLane -/

@[simp] theorem State.setLane_pending (s : State) (d j : Nat) (v : Lane) : (s.setLane d j v).pending = s.pending := rfl
@[simp] theorem State.setLane_now (s : State) (d j : Nat) (v : Lane) : (s.setLane d j v).now = s.now := rfl
@[simp] theorem State.setLane_free (s : State) (d j : Nat) (v : Lane) : (s.setLane d j v).free = s.free := rfl
@[simp] theorem State.setLane_straps (s : State) (d j : Nat) (v : Lane) : (s.setLane d j v).straps = s.straps := rfl
@[simp] theorem State.setLane_regs (s : State) (d j : Nat) (v : Lane) : (s.setLane d j v).regs = s.regs := rfl
@[simp] theorem State.setLane_mems (s : State) (d j : Nat) (v : Lane) : (s.setLane d j v).mems = s.mems := rfl
@[simp] theorem State.setLane_ecc (s : State) (d j : Nat) (v : Lane) : (s.setLane d j v).ecc = s.ecc := rfl
@[simp] theorem State.setLane_recorder (s : State) (d j : Nat) (v : Lane) : (s.setLane d j v).recorder = s.recorder := rfl
@[simp] theorem State.setLane_nvs (s : State) (d j : Nat) (v : Lane) : (s.setLane d j v).nvs = s.nvs := rfl
@[simp] theorem State.setLane_rest (s : State) (d j : Nat) (v : Lane) : (s.setLane d j v).rest = s.rest := rfl
@[simp] theorem State.setLane_wdt (s : State) (d j : Nat) (v : Lane) : (s.setLane d j v).wdt = s.wdt := rfl
@[simp] theorem State.setLane_can (s : State) (d j : Nat) (v : Lane) : (s.setLane d j v).can = s.can := rfl
@[simp] theorem State.setLane_rtc (s : State) (d j : Nat) (v : Lane) : (s.setLane d j v).rtc = s.rtc := rfl
@[simp] theorem State.setLane_tmb (s : State) (d j : Nat) (v : Lane) : (s.setLane d j v).tmb = s.tmb := rfl
@[simp] theorem State.setLane_field (s : State) (d j : Nat) (v : Lane) : (s.setLane d j v).field = s.field := rfl
@[simp] theorem State.setLane_pwr (s : State) (d j : Nat) (v : Lane) : (s.setLane d j v).pwr = s.pwr := rfl
@[simp] theorem State.setLane_hsb (s : State) (d j : Nat) (v : Lane) : (s.setLane d j v).hsb = s.hsb := rfl
@[simp] theorem State.setLane_upd (s : State) (d j : Nat) (v : Lane) : (s.setLane d j v).upd = s.upd := rfl
@[simp] theorem State.setLane_cry (s : State) (d j : Nat) (v : Lane) : (s.setLane d j v).cry = s.cry := rfl
@[simp] theorem State.setLane_cores (s : State) (d j : Nat) (v : Lane) : (s.setLane d j v).cores = s.cores := rfl
@[simp] theorem State.setLane_job (s : State) (d j : Nat) (v : Lane) : (s.setLane d j v).job = s.job := rfl
@[simp] theorem State.setLane_ings (s : State) (d j : Nat) (v : Lane) : (s.setLane d j v).ings = s.ings := rfl
@[simp] theorem State.setLane_lines (s : State) (d j : Nat) (v : Lane) : (s.setLane d j v).lines = s.lines := rfl
@[simp] theorem State.setLane_links (s : State) (d j : Nat) (v : Lane) : (s.setLane d j v).links = s.links := rfl
@[simp] theorem State.setLane_arbs (s : State) (d j : Nat) (v : Lane) : (s.setLane d j v).arbs = s.arbs := rfl
@[simp] theorem State.setLane_therm (s : State) (d j : Nat) (v : Lane) : (s.setLane d j v).therm = s.therm := rfl
@[simp] theorem State.setLane_hot (s : State) (d j : Nat) (v : Lane) : (s.setLane d j v).hot = s.hot := rfl
@[simp] theorem State.setLane_hotCool (s : State) (d j : Nat) (v : Lane) : (s.setLane d j v).hotCool = s.hotCool := rfl
@[simp] theorem State.setLane_rfx (s : State) (d j : Nat) (v : Lane) : (s.setLane d j v).rfx = s.rfx := rfl
@[simp] theorem State.setLane_held (s : State) (d j : Nat) (v : Lane) : (s.setLane d j v).held = s.held := rfl
@[simp] theorem State.setLane_seqQ (s : State) (d j : Nat) (v : Lane) : (s.setLane d j v).seqQ = s.seqQ := rfl
@[simp] theorem State.setLane_img (s : State) (d j : Nat) (v : Lane) : (s.setLane d j v).img = s.img := rfl
@[simp] theorem State.setLane_queues (s : State) (d j : Nat) (v : Lane) : (s.setLane d j v).queues = s.queues := rfl
@[simp] theorem State.setLane_cmdEng (s : State) (d j : Nat) (v : Lane) : (s.setLane d j v).cmdEng = s.cmdEng := rfl
@[simp] theorem State.setLane_pcie (s : State) (d j : Nat) (v : Lane) : (s.setLane d j v).pcie = s.pcie := rfl
@[simp] theorem State.setLane_ctxCry (s : State) (d j : Nat) (v : Lane) : (s.setLane d j v).ctxCry = s.ctxCry := rfl
@[simp] theorem State.setLane_ctxCrc (s : State) (d j : Nat) (v : Lane) : (s.setLane d j v).ctxCrc = s.ctxCrc := rfl
@[simp] theorem State.setLane_ring (s : State) (d j : Nat) (v : Lane) : (s.setLane d j v).ring = s.ring := rfl
@[simp] theorem State.setLane_out (s : State) (d j : Nat) (v : Lane) : (s.setLane d j v).out = s.out := rfl

/-! ### State.setLink -/

@[simp] theorem State.setLink_pending (s : State) (d m : Nat) (v : Link) : (s.setLink d m v).pending = s.pending := rfl
@[simp] theorem State.setLink_now (s : State) (d m : Nat) (v : Link) : (s.setLink d m v).now = s.now := rfl
@[simp] theorem State.setLink_free (s : State) (d m : Nat) (v : Link) : (s.setLink d m v).free = s.free := rfl
@[simp] theorem State.setLink_straps (s : State) (d m : Nat) (v : Link) : (s.setLink d m v).straps = s.straps := rfl
@[simp] theorem State.setLink_regs (s : State) (d m : Nat) (v : Link) : (s.setLink d m v).regs = s.regs := rfl
@[simp] theorem State.setLink_mems (s : State) (d m : Nat) (v : Link) : (s.setLink d m v).mems = s.mems := rfl
@[simp] theorem State.setLink_ecc (s : State) (d m : Nat) (v : Link) : (s.setLink d m v).ecc = s.ecc := rfl
@[simp] theorem State.setLink_recorder (s : State) (d m : Nat) (v : Link) : (s.setLink d m v).recorder = s.recorder := rfl
@[simp] theorem State.setLink_nvs (s : State) (d m : Nat) (v : Link) : (s.setLink d m v).nvs = s.nvs := rfl
@[simp] theorem State.setLink_rest (s : State) (d m : Nat) (v : Link) : (s.setLink d m v).rest = s.rest := rfl
@[simp] theorem State.setLink_wdt (s : State) (d m : Nat) (v : Link) : (s.setLink d m v).wdt = s.wdt := rfl
@[simp] theorem State.setLink_can (s : State) (d m : Nat) (v : Link) : (s.setLink d m v).can = s.can := rfl
@[simp] theorem State.setLink_rtc (s : State) (d m : Nat) (v : Link) : (s.setLink d m v).rtc = s.rtc := rfl
@[simp] theorem State.setLink_tmb (s : State) (d m : Nat) (v : Link) : (s.setLink d m v).tmb = s.tmb := rfl
@[simp] theorem State.setLink_field (s : State) (d m : Nat) (v : Link) : (s.setLink d m v).field = s.field := rfl
@[simp] theorem State.setLink_pwr (s : State) (d m : Nat) (v : Link) : (s.setLink d m v).pwr = s.pwr := rfl
@[simp] theorem State.setLink_hsb (s : State) (d m : Nat) (v : Link) : (s.setLink d m v).hsb = s.hsb := rfl
@[simp] theorem State.setLink_upd (s : State) (d m : Nat) (v : Link) : (s.setLink d m v).upd = s.upd := rfl
@[simp] theorem State.setLink_cry (s : State) (d m : Nat) (v : Link) : (s.setLink d m v).cry = s.cry := rfl
@[simp] theorem State.setLink_cores (s : State) (d m : Nat) (v : Link) : (s.setLink d m v).cores = s.cores := rfl
@[simp] theorem State.setLink_job (s : State) (d m : Nat) (v : Link) : (s.setLink d m v).job = s.job := rfl
@[simp] theorem State.setLink_ings (s : State) (d m : Nat) (v : Link) : (s.setLink d m v).ings = s.ings := rfl
@[simp] theorem State.setLink_lines (s : State) (d m : Nat) (v : Link) : (s.setLink d m v).lines = s.lines := rfl
@[simp] theorem State.setLink_lanes (s : State) (d m : Nat) (v : Link) : (s.setLink d m v).lanes = s.lanes := rfl
@[simp] theorem State.setLink_arbs (s : State) (d m : Nat) (v : Link) : (s.setLink d m v).arbs = s.arbs := rfl
@[simp] theorem State.setLink_therm (s : State) (d m : Nat) (v : Link) : (s.setLink d m v).therm = s.therm := rfl
@[simp] theorem State.setLink_hot (s : State) (d m : Nat) (v : Link) : (s.setLink d m v).hot = s.hot := rfl
@[simp] theorem State.setLink_hotCool (s : State) (d m : Nat) (v : Link) : (s.setLink d m v).hotCool = s.hotCool := rfl
@[simp] theorem State.setLink_rfx (s : State) (d m : Nat) (v : Link) : (s.setLink d m v).rfx = s.rfx := rfl
@[simp] theorem State.setLink_held (s : State) (d m : Nat) (v : Link) : (s.setLink d m v).held = s.held := rfl
@[simp] theorem State.setLink_seqQ (s : State) (d m : Nat) (v : Link) : (s.setLink d m v).seqQ = s.seqQ := rfl
@[simp] theorem State.setLink_img (s : State) (d m : Nat) (v : Link) : (s.setLink d m v).img = s.img := rfl
@[simp] theorem State.setLink_queues (s : State) (d m : Nat) (v : Link) : (s.setLink d m v).queues = s.queues := rfl
@[simp] theorem State.setLink_cmdEng (s : State) (d m : Nat) (v : Link) : (s.setLink d m v).cmdEng = s.cmdEng := rfl
@[simp] theorem State.setLink_pcie (s : State) (d m : Nat) (v : Link) : (s.setLink d m v).pcie = s.pcie := rfl
@[simp] theorem State.setLink_ctxCry (s : State) (d m : Nat) (v : Link) : (s.setLink d m v).ctxCry = s.ctxCry := rfl
@[simp] theorem State.setLink_ctxCrc (s : State) (d m : Nat) (v : Link) : (s.setLink d m v).ctxCrc = s.ctxCrc := rfl
@[simp] theorem State.setLink_ring (s : State) (d m : Nat) (v : Link) : (s.setLink d m v).ring = s.ring := rfl
@[simp] theorem State.setLink_out (s : State) (d m : Nat) (v : Link) : (s.setLink d m v).out = s.out := rfl

/-! ### State.setIng -/

@[simp] theorem State.setIng_pending (s : State) (d : Nat) (v : Ing) : (s.setIng d v).pending = s.pending := rfl
@[simp] theorem State.setIng_now (s : State) (d : Nat) (v : Ing) : (s.setIng d v).now = s.now := rfl
@[simp] theorem State.setIng_free (s : State) (d : Nat) (v : Ing) : (s.setIng d v).free = s.free := rfl
@[simp] theorem State.setIng_straps (s : State) (d : Nat) (v : Ing) : (s.setIng d v).straps = s.straps := rfl
@[simp] theorem State.setIng_regs (s : State) (d : Nat) (v : Ing) : (s.setIng d v).regs = s.regs := rfl
@[simp] theorem State.setIng_mems (s : State) (d : Nat) (v : Ing) : (s.setIng d v).mems = s.mems := rfl
@[simp] theorem State.setIng_ecc (s : State) (d : Nat) (v : Ing) : (s.setIng d v).ecc = s.ecc := rfl
@[simp] theorem State.setIng_recorder (s : State) (d : Nat) (v : Ing) : (s.setIng d v).recorder = s.recorder := rfl
@[simp] theorem State.setIng_nvs (s : State) (d : Nat) (v : Ing) : (s.setIng d v).nvs = s.nvs := rfl
@[simp] theorem State.setIng_rest (s : State) (d : Nat) (v : Ing) : (s.setIng d v).rest = s.rest := rfl
@[simp] theorem State.setIng_wdt (s : State) (d : Nat) (v : Ing) : (s.setIng d v).wdt = s.wdt := rfl
@[simp] theorem State.setIng_can (s : State) (d : Nat) (v : Ing) : (s.setIng d v).can = s.can := rfl
@[simp] theorem State.setIng_rtc (s : State) (d : Nat) (v : Ing) : (s.setIng d v).rtc = s.rtc := rfl
@[simp] theorem State.setIng_tmb (s : State) (d : Nat) (v : Ing) : (s.setIng d v).tmb = s.tmb := rfl
@[simp] theorem State.setIng_field (s : State) (d : Nat) (v : Ing) : (s.setIng d v).field = s.field := rfl
@[simp] theorem State.setIng_pwr (s : State) (d : Nat) (v : Ing) : (s.setIng d v).pwr = s.pwr := rfl
@[simp] theorem State.setIng_hsb (s : State) (d : Nat) (v : Ing) : (s.setIng d v).hsb = s.hsb := rfl
@[simp] theorem State.setIng_upd (s : State) (d : Nat) (v : Ing) : (s.setIng d v).upd = s.upd := rfl
@[simp] theorem State.setIng_cry (s : State) (d : Nat) (v : Ing) : (s.setIng d v).cry = s.cry := rfl
@[simp] theorem State.setIng_cores (s : State) (d : Nat) (v : Ing) : (s.setIng d v).cores = s.cores := rfl
@[simp] theorem State.setIng_job (s : State) (d : Nat) (v : Ing) : (s.setIng d v).job = s.job := rfl
@[simp] theorem State.setIng_lines (s : State) (d : Nat) (v : Ing) : (s.setIng d v).lines = s.lines := rfl
@[simp] theorem State.setIng_lanes (s : State) (d : Nat) (v : Ing) : (s.setIng d v).lanes = s.lanes := rfl
@[simp] theorem State.setIng_links (s : State) (d : Nat) (v : Ing) : (s.setIng d v).links = s.links := rfl
@[simp] theorem State.setIng_arbs (s : State) (d : Nat) (v : Ing) : (s.setIng d v).arbs = s.arbs := rfl
@[simp] theorem State.setIng_therm (s : State) (d : Nat) (v : Ing) : (s.setIng d v).therm = s.therm := rfl
@[simp] theorem State.setIng_hot (s : State) (d : Nat) (v : Ing) : (s.setIng d v).hot = s.hot := rfl
@[simp] theorem State.setIng_hotCool (s : State) (d : Nat) (v : Ing) : (s.setIng d v).hotCool = s.hotCool := rfl
@[simp] theorem State.setIng_rfx (s : State) (d : Nat) (v : Ing) : (s.setIng d v).rfx = s.rfx := rfl
@[simp] theorem State.setIng_held (s : State) (d : Nat) (v : Ing) : (s.setIng d v).held = s.held := rfl
@[simp] theorem State.setIng_seqQ (s : State) (d : Nat) (v : Ing) : (s.setIng d v).seqQ = s.seqQ := rfl
@[simp] theorem State.setIng_img (s : State) (d : Nat) (v : Ing) : (s.setIng d v).img = s.img := rfl
@[simp] theorem State.setIng_queues (s : State) (d : Nat) (v : Ing) : (s.setIng d v).queues = s.queues := rfl
@[simp] theorem State.setIng_cmdEng (s : State) (d : Nat) (v : Ing) : (s.setIng d v).cmdEng = s.cmdEng := rfl
@[simp] theorem State.setIng_pcie (s : State) (d : Nat) (v : Ing) : (s.setIng d v).pcie = s.pcie := rfl
@[simp] theorem State.setIng_ctxCry (s : State) (d : Nat) (v : Ing) : (s.setIng d v).ctxCry = s.ctxCry := rfl
@[simp] theorem State.setIng_ctxCrc (s : State) (d : Nat) (v : Ing) : (s.setIng d v).ctxCrc = s.ctxCrc := rfl
@[simp] theorem State.setIng_ring (s : State) (d : Nat) (v : Ing) : (s.setIng d v).ring = s.ring := rfl
@[simp] theorem State.setIng_out (s : State) (d : Nat) (v : Ing) : (s.setIng d v).out = s.out := rfl

/-! ### State.setTherm -/

@[simp] theorem State.setTherm_pending (s : State) (d : Nat) (v : Therm) : (s.setTherm d v).pending = s.pending := rfl
@[simp] theorem State.setTherm_now (s : State) (d : Nat) (v : Therm) : (s.setTherm d v).now = s.now := rfl
@[simp] theorem State.setTherm_free (s : State) (d : Nat) (v : Therm) : (s.setTherm d v).free = s.free := rfl
@[simp] theorem State.setTherm_straps (s : State) (d : Nat) (v : Therm) : (s.setTherm d v).straps = s.straps := rfl
@[simp] theorem State.setTherm_regs (s : State) (d : Nat) (v : Therm) : (s.setTherm d v).regs = s.regs := rfl
@[simp] theorem State.setTherm_mems (s : State) (d : Nat) (v : Therm) : (s.setTherm d v).mems = s.mems := rfl
@[simp] theorem State.setTherm_ecc (s : State) (d : Nat) (v : Therm) : (s.setTherm d v).ecc = s.ecc := rfl
@[simp] theorem State.setTherm_recorder (s : State) (d : Nat) (v : Therm) : (s.setTherm d v).recorder = s.recorder := rfl
@[simp] theorem State.setTherm_nvs (s : State) (d : Nat) (v : Therm) : (s.setTherm d v).nvs = s.nvs := rfl
@[simp] theorem State.setTherm_rest (s : State) (d : Nat) (v : Therm) : (s.setTherm d v).rest = s.rest := rfl
@[simp] theorem State.setTherm_wdt (s : State) (d : Nat) (v : Therm) : (s.setTherm d v).wdt = s.wdt := rfl
@[simp] theorem State.setTherm_can (s : State) (d : Nat) (v : Therm) : (s.setTherm d v).can = s.can := rfl
@[simp] theorem State.setTherm_rtc (s : State) (d : Nat) (v : Therm) : (s.setTherm d v).rtc = s.rtc := rfl
@[simp] theorem State.setTherm_tmb (s : State) (d : Nat) (v : Therm) : (s.setTherm d v).tmb = s.tmb := rfl
@[simp] theorem State.setTherm_field (s : State) (d : Nat) (v : Therm) : (s.setTherm d v).field = s.field := rfl
@[simp] theorem State.setTherm_pwr (s : State) (d : Nat) (v : Therm) : (s.setTherm d v).pwr = s.pwr := rfl
@[simp] theorem State.setTherm_hsb (s : State) (d : Nat) (v : Therm) : (s.setTherm d v).hsb = s.hsb := rfl
@[simp] theorem State.setTherm_upd (s : State) (d : Nat) (v : Therm) : (s.setTherm d v).upd = s.upd := rfl
@[simp] theorem State.setTherm_cry (s : State) (d : Nat) (v : Therm) : (s.setTherm d v).cry = s.cry := rfl
@[simp] theorem State.setTherm_cores (s : State) (d : Nat) (v : Therm) : (s.setTherm d v).cores = s.cores := rfl
@[simp] theorem State.setTherm_job (s : State) (d : Nat) (v : Therm) : (s.setTherm d v).job = s.job := rfl
@[simp] theorem State.setTherm_ings (s : State) (d : Nat) (v : Therm) : (s.setTherm d v).ings = s.ings := rfl
@[simp] theorem State.setTherm_lines (s : State) (d : Nat) (v : Therm) : (s.setTherm d v).lines = s.lines := rfl
@[simp] theorem State.setTherm_lanes (s : State) (d : Nat) (v : Therm) : (s.setTherm d v).lanes = s.lanes := rfl
@[simp] theorem State.setTherm_links (s : State) (d : Nat) (v : Therm) : (s.setTherm d v).links = s.links := rfl
@[simp] theorem State.setTherm_arbs (s : State) (d : Nat) (v : Therm) : (s.setTherm d v).arbs = s.arbs := rfl
@[simp] theorem State.setTherm_hot (s : State) (d : Nat) (v : Therm) : (s.setTherm d v).hot = s.hot := rfl
@[simp] theorem State.setTherm_hotCool (s : State) (d : Nat) (v : Therm) : (s.setTherm d v).hotCool = s.hotCool := rfl
@[simp] theorem State.setTherm_rfx (s : State) (d : Nat) (v : Therm) : (s.setTherm d v).rfx = s.rfx := rfl
@[simp] theorem State.setTherm_held (s : State) (d : Nat) (v : Therm) : (s.setTherm d v).held = s.held := rfl
@[simp] theorem State.setTherm_seqQ (s : State) (d : Nat) (v : Therm) : (s.setTherm d v).seqQ = s.seqQ := rfl
@[simp] theorem State.setTherm_img (s : State) (d : Nat) (v : Therm) : (s.setTherm d v).img = s.img := rfl
@[simp] theorem State.setTherm_queues (s : State) (d : Nat) (v : Therm) : (s.setTherm d v).queues = s.queues := rfl
@[simp] theorem State.setTherm_cmdEng (s : State) (d : Nat) (v : Therm) : (s.setTherm d v).cmdEng = s.cmdEng := rfl
@[simp] theorem State.setTherm_pcie (s : State) (d : Nat) (v : Therm) : (s.setTherm d v).pcie = s.pcie := rfl
@[simp] theorem State.setTherm_ctxCry (s : State) (d : Nat) (v : Therm) : (s.setTherm d v).ctxCry = s.ctxCry := rfl
@[simp] theorem State.setTherm_ctxCrc (s : State) (d : Nat) (v : Therm) : (s.setTherm d v).ctxCrc = s.ctxCrc := rfl
@[simp] theorem State.setTherm_ring (s : State) (d : Nat) (v : Therm) : (s.setTherm d v).ring = s.ring := rfl
@[simp] theorem State.setTherm_out (s : State) (d : Nat) (v : Therm) : (s.setTherm d v).out = s.out := rfl

/-! ### State.setCan -/

@[simp] theorem State.setCan_pending (s : State) (c : Nat) (x : Can) : (s.setCan c x).pending = s.pending := rfl
@[simp] theorem State.setCan_now (s : State) (c : Nat) (x : Can) : (s.setCan c x).now = s.now := rfl
@[simp] theorem State.setCan_free (s : State) (c : Nat) (x : Can) : (s.setCan c x).free = s.free := rfl
@[simp] theorem State.setCan_straps (s : State) (c : Nat) (x : Can) : (s.setCan c x).straps = s.straps := rfl
@[simp] theorem State.setCan_regs (s : State) (c : Nat) (x : Can) : (s.setCan c x).regs = s.regs := rfl
@[simp] theorem State.setCan_mems (s : State) (c : Nat) (x : Can) : (s.setCan c x).mems = s.mems := rfl
@[simp] theorem State.setCan_ecc (s : State) (c : Nat) (x : Can) : (s.setCan c x).ecc = s.ecc := rfl
@[simp] theorem State.setCan_recorder (s : State) (c : Nat) (x : Can) : (s.setCan c x).recorder = s.recorder := rfl
@[simp] theorem State.setCan_nvs (s : State) (c : Nat) (x : Can) : (s.setCan c x).nvs = s.nvs := rfl
@[simp] theorem State.setCan_rest (s : State) (c : Nat) (x : Can) : (s.setCan c x).rest = s.rest := rfl
@[simp] theorem State.setCan_wdt (s : State) (c : Nat) (x : Can) : (s.setCan c x).wdt = s.wdt := rfl
@[simp] theorem State.setCan_rtc (s : State) (c : Nat) (x : Can) : (s.setCan c x).rtc = s.rtc := rfl
@[simp] theorem State.setCan_tmb (s : State) (c : Nat) (x : Can) : (s.setCan c x).tmb = s.tmb := rfl
@[simp] theorem State.setCan_field (s : State) (c : Nat) (x : Can) : (s.setCan c x).field = s.field := rfl
@[simp] theorem State.setCan_pwr (s : State) (c : Nat) (x : Can) : (s.setCan c x).pwr = s.pwr := rfl
@[simp] theorem State.setCan_hsb (s : State) (c : Nat) (x : Can) : (s.setCan c x).hsb = s.hsb := rfl
@[simp] theorem State.setCan_upd (s : State) (c : Nat) (x : Can) : (s.setCan c x).upd = s.upd := rfl
@[simp] theorem State.setCan_cry (s : State) (c : Nat) (x : Can) : (s.setCan c x).cry = s.cry := rfl
@[simp] theorem State.setCan_cores (s : State) (c : Nat) (x : Can) : (s.setCan c x).cores = s.cores := rfl
@[simp] theorem State.setCan_job (s : State) (c : Nat) (x : Can) : (s.setCan c x).job = s.job := rfl
@[simp] theorem State.setCan_ings (s : State) (c : Nat) (x : Can) : (s.setCan c x).ings = s.ings := rfl
@[simp] theorem State.setCan_lines (s : State) (c : Nat) (x : Can) : (s.setCan c x).lines = s.lines := rfl
@[simp] theorem State.setCan_lanes (s : State) (c : Nat) (x : Can) : (s.setCan c x).lanes = s.lanes := rfl
@[simp] theorem State.setCan_links (s : State) (c : Nat) (x : Can) : (s.setCan c x).links = s.links := rfl
@[simp] theorem State.setCan_arbs (s : State) (c : Nat) (x : Can) : (s.setCan c x).arbs = s.arbs := rfl
@[simp] theorem State.setCan_therm (s : State) (c : Nat) (x : Can) : (s.setCan c x).therm = s.therm := rfl
@[simp] theorem State.setCan_hot (s : State) (c : Nat) (x : Can) : (s.setCan c x).hot = s.hot := rfl
@[simp] theorem State.setCan_hotCool (s : State) (c : Nat) (x : Can) : (s.setCan c x).hotCool = s.hotCool := rfl
@[simp] theorem State.setCan_rfx (s : State) (c : Nat) (x : Can) : (s.setCan c x).rfx = s.rfx := rfl
@[simp] theorem State.setCan_held (s : State) (c : Nat) (x : Can) : (s.setCan c x).held = s.held := rfl
@[simp] theorem State.setCan_seqQ (s : State) (c : Nat) (x : Can) : (s.setCan c x).seqQ = s.seqQ := rfl
@[simp] theorem State.setCan_img (s : State) (c : Nat) (x : Can) : (s.setCan c x).img = s.img := rfl
@[simp] theorem State.setCan_queues (s : State) (c : Nat) (x : Can) : (s.setCan c x).queues = s.queues := rfl
@[simp] theorem State.setCan_cmdEng (s : State) (c : Nat) (x : Can) : (s.setCan c x).cmdEng = s.cmdEng := rfl
@[simp] theorem State.setCan_pcie (s : State) (c : Nat) (x : Can) : (s.setCan c x).pcie = s.pcie := rfl
@[simp] theorem State.setCan_ctxCry (s : State) (c : Nat) (x : Can) : (s.setCan c x).ctxCry = s.ctxCry := rfl
@[simp] theorem State.setCan_ctxCrc (s : State) (c : Nat) (x : Can) : (s.setCan c x).ctxCrc = s.ctxCrc := rfl
@[simp] theorem State.setCan_ring (s : State) (c : Nat) (x : Can) : (s.setCan c x).ring = s.ring := rfl
@[simp] theorem State.setCan_out (s : State) (c : Nat) (x : Can) : (s.setCan c x).out = s.out := rfl

/-! ### State.setQueue -/

@[simp] theorem State.setQueue_pending (s : State) (q : Nat) (x : Queue) : (s.setQueue q x).pending = s.pending := rfl
@[simp] theorem State.setQueue_now (s : State) (q : Nat) (x : Queue) : (s.setQueue q x).now = s.now := rfl
@[simp] theorem State.setQueue_free (s : State) (q : Nat) (x : Queue) : (s.setQueue q x).free = s.free := rfl
@[simp] theorem State.setQueue_straps (s : State) (q : Nat) (x : Queue) : (s.setQueue q x).straps = s.straps := rfl
@[simp] theorem State.setQueue_regs (s : State) (q : Nat) (x : Queue) : (s.setQueue q x).regs = s.regs := rfl
@[simp] theorem State.setQueue_mems (s : State) (q : Nat) (x : Queue) : (s.setQueue q x).mems = s.mems := rfl
@[simp] theorem State.setQueue_ecc (s : State) (q : Nat) (x : Queue) : (s.setQueue q x).ecc = s.ecc := rfl
@[simp] theorem State.setQueue_recorder (s : State) (q : Nat) (x : Queue) : (s.setQueue q x).recorder = s.recorder := rfl
@[simp] theorem State.setQueue_nvs (s : State) (q : Nat) (x : Queue) : (s.setQueue q x).nvs = s.nvs := rfl
@[simp] theorem State.setQueue_rest (s : State) (q : Nat) (x : Queue) : (s.setQueue q x).rest = s.rest := rfl
@[simp] theorem State.setQueue_wdt (s : State) (q : Nat) (x : Queue) : (s.setQueue q x).wdt = s.wdt := rfl
@[simp] theorem State.setQueue_can (s : State) (q : Nat) (x : Queue) : (s.setQueue q x).can = s.can := rfl
@[simp] theorem State.setQueue_rtc (s : State) (q : Nat) (x : Queue) : (s.setQueue q x).rtc = s.rtc := rfl
@[simp] theorem State.setQueue_tmb (s : State) (q : Nat) (x : Queue) : (s.setQueue q x).tmb = s.tmb := rfl
@[simp] theorem State.setQueue_field (s : State) (q : Nat) (x : Queue) : (s.setQueue q x).field = s.field := rfl
@[simp] theorem State.setQueue_pwr (s : State) (q : Nat) (x : Queue) : (s.setQueue q x).pwr = s.pwr := rfl
@[simp] theorem State.setQueue_hsb (s : State) (q : Nat) (x : Queue) : (s.setQueue q x).hsb = s.hsb := rfl
@[simp] theorem State.setQueue_upd (s : State) (q : Nat) (x : Queue) : (s.setQueue q x).upd = s.upd := rfl
@[simp] theorem State.setQueue_cry (s : State) (q : Nat) (x : Queue) : (s.setQueue q x).cry = s.cry := rfl
@[simp] theorem State.setQueue_cores (s : State) (q : Nat) (x : Queue) : (s.setQueue q x).cores = s.cores := rfl
@[simp] theorem State.setQueue_job (s : State) (q : Nat) (x : Queue) : (s.setQueue q x).job = s.job := rfl
@[simp] theorem State.setQueue_ings (s : State) (q : Nat) (x : Queue) : (s.setQueue q x).ings = s.ings := rfl
@[simp] theorem State.setQueue_lines (s : State) (q : Nat) (x : Queue) : (s.setQueue q x).lines = s.lines := rfl
@[simp] theorem State.setQueue_lanes (s : State) (q : Nat) (x : Queue) : (s.setQueue q x).lanes = s.lanes := rfl
@[simp] theorem State.setQueue_links (s : State) (q : Nat) (x : Queue) : (s.setQueue q x).links = s.links := rfl
@[simp] theorem State.setQueue_arbs (s : State) (q : Nat) (x : Queue) : (s.setQueue q x).arbs = s.arbs := rfl
@[simp] theorem State.setQueue_therm (s : State) (q : Nat) (x : Queue) : (s.setQueue q x).therm = s.therm := rfl
@[simp] theorem State.setQueue_hot (s : State) (q : Nat) (x : Queue) : (s.setQueue q x).hot = s.hot := rfl
@[simp] theorem State.setQueue_hotCool (s : State) (q : Nat) (x : Queue) : (s.setQueue q x).hotCool = s.hotCool := rfl
@[simp] theorem State.setQueue_rfx (s : State) (q : Nat) (x : Queue) : (s.setQueue q x).rfx = s.rfx := rfl
@[simp] theorem State.setQueue_held (s : State) (q : Nat) (x : Queue) : (s.setQueue q x).held = s.held := rfl
@[simp] theorem State.setQueue_seqQ (s : State) (q : Nat) (x : Queue) : (s.setQueue q x).seqQ = s.seqQ := rfl
@[simp] theorem State.setQueue_img (s : State) (q : Nat) (x : Queue) : (s.setQueue q x).img = s.img := rfl
@[simp] theorem State.setQueue_cmdEng (s : State) (q : Nat) (x : Queue) : (s.setQueue q x).cmdEng = s.cmdEng := rfl
@[simp] theorem State.setQueue_pcie (s : State) (q : Nat) (x : Queue) : (s.setQueue q x).pcie = s.pcie := rfl
@[simp] theorem State.setQueue_ctxCry (s : State) (q : Nat) (x : Queue) : (s.setQueue q x).ctxCry = s.ctxCry := rfl
@[simp] theorem State.setQueue_ctxCrc (s : State) (q : Nat) (x : Queue) : (s.setQueue q x).ctxCrc = s.ctxCrc := rfl
@[simp] theorem State.setQueue_ring (s : State) (q : Nat) (x : Queue) : (s.setQueue q x).ring = s.ring := rfl
@[simp] theorem State.setQueue_out (s : State) (q : Nat) (x : Queue) : (s.setQueue q x).out = s.out := rfl

/-! ### State.emit -/

@[simp] theorem State.emit_pending (s : State) (o : OutMsg) : (s.emit o).pending = s.pending := rfl
@[simp] theorem State.emit_now (s : State) (o : OutMsg) : (s.emit o).now = s.now := rfl
@[simp] theorem State.emit_free (s : State) (o : OutMsg) : (s.emit o).free = s.free := rfl
@[simp] theorem State.emit_straps (s : State) (o : OutMsg) : (s.emit o).straps = s.straps := rfl
@[simp] theorem State.emit_regs (s : State) (o : OutMsg) : (s.emit o).regs = s.regs := rfl
@[simp] theorem State.emit_mems (s : State) (o : OutMsg) : (s.emit o).mems = s.mems := rfl
@[simp] theorem State.emit_ecc (s : State) (o : OutMsg) : (s.emit o).ecc = s.ecc := rfl
@[simp] theorem State.emit_recorder (s : State) (o : OutMsg) : (s.emit o).recorder = s.recorder := rfl
@[simp] theorem State.emit_nvs (s : State) (o : OutMsg) : (s.emit o).nvs = s.nvs := rfl
@[simp] theorem State.emit_rest (s : State) (o : OutMsg) : (s.emit o).rest = s.rest := rfl
@[simp] theorem State.emit_wdt (s : State) (o : OutMsg) : (s.emit o).wdt = s.wdt := rfl
@[simp] theorem State.emit_can (s : State) (o : OutMsg) : (s.emit o).can = s.can := rfl
@[simp] theorem State.emit_rtc (s : State) (o : OutMsg) : (s.emit o).rtc = s.rtc := rfl
@[simp] theorem State.emit_tmb (s : State) (o : OutMsg) : (s.emit o).tmb = s.tmb := rfl
@[simp] theorem State.emit_field (s : State) (o : OutMsg) : (s.emit o).field = s.field := rfl
@[simp] theorem State.emit_pwr (s : State) (o : OutMsg) : (s.emit o).pwr = s.pwr := rfl
@[simp] theorem State.emit_hsb (s : State) (o : OutMsg) : (s.emit o).hsb = s.hsb := rfl
@[simp] theorem State.emit_upd (s : State) (o : OutMsg) : (s.emit o).upd = s.upd := rfl
@[simp] theorem State.emit_cry (s : State) (o : OutMsg) : (s.emit o).cry = s.cry := rfl
@[simp] theorem State.emit_cores (s : State) (o : OutMsg) : (s.emit o).cores = s.cores := rfl
@[simp] theorem State.emit_job (s : State) (o : OutMsg) : (s.emit o).job = s.job := rfl
@[simp] theorem State.emit_ings (s : State) (o : OutMsg) : (s.emit o).ings = s.ings := rfl
@[simp] theorem State.emit_lines (s : State) (o : OutMsg) : (s.emit o).lines = s.lines := rfl
@[simp] theorem State.emit_lanes (s : State) (o : OutMsg) : (s.emit o).lanes = s.lanes := rfl
@[simp] theorem State.emit_links (s : State) (o : OutMsg) : (s.emit o).links = s.links := rfl
@[simp] theorem State.emit_arbs (s : State) (o : OutMsg) : (s.emit o).arbs = s.arbs := rfl
@[simp] theorem State.emit_therm (s : State) (o : OutMsg) : (s.emit o).therm = s.therm := rfl
@[simp] theorem State.emit_hot (s : State) (o : OutMsg) : (s.emit o).hot = s.hot := rfl
@[simp] theorem State.emit_hotCool (s : State) (o : OutMsg) : (s.emit o).hotCool = s.hotCool := rfl
@[simp] theorem State.emit_rfx (s : State) (o : OutMsg) : (s.emit o).rfx = s.rfx := rfl
@[simp] theorem State.emit_held (s : State) (o : OutMsg) : (s.emit o).held = s.held := rfl
@[simp] theorem State.emit_seqQ (s : State) (o : OutMsg) : (s.emit o).seqQ = s.seqQ := rfl
@[simp] theorem State.emit_img (s : State) (o : OutMsg) : (s.emit o).img = s.img := rfl
@[simp] theorem State.emit_queues (s : State) (o : OutMsg) : (s.emit o).queues = s.queues := rfl
@[simp] theorem State.emit_cmdEng (s : State) (o : OutMsg) : (s.emit o).cmdEng = s.cmdEng := rfl
@[simp] theorem State.emit_pcie (s : State) (o : OutMsg) : (s.emit o).pcie = s.pcie := rfl
@[simp] theorem State.emit_ctxCry (s : State) (o : OutMsg) : (s.emit o).ctxCry = s.ctxCry := rfl
@[simp] theorem State.emit_ctxCrc (s : State) (o : OutMsg) : (s.emit o).ctxCrc = s.ctxCrc := rfl
@[simp] theorem State.emit_ring (s : State) (o : OutMsg) : (s.emit o).ring = s.ring := rfl

/-! ### State.freeBit -/

@[simp] theorem State.freeBit_pending (s : State) : (s.freeBit.2).pending = s.pending := rfl
@[simp] theorem State.freeBit_now (s : State) : (s.freeBit.2).now = s.now := rfl
@[simp] theorem State.freeBit_straps (s : State) : (s.freeBit.2).straps = s.straps := rfl
@[simp] theorem State.freeBit_regs (s : State) : (s.freeBit.2).regs = s.regs := rfl
@[simp] theorem State.freeBit_mems (s : State) : (s.freeBit.2).mems = s.mems := rfl
@[simp] theorem State.freeBit_ecc (s : State) : (s.freeBit.2).ecc = s.ecc := rfl
@[simp] theorem State.freeBit_recorder (s : State) : (s.freeBit.2).recorder = s.recorder := rfl
@[simp] theorem State.freeBit_nvs (s : State) : (s.freeBit.2).nvs = s.nvs := rfl
@[simp] theorem State.freeBit_rest (s : State) : (s.freeBit.2).rest = s.rest := rfl
@[simp] theorem State.freeBit_wdt (s : State) : (s.freeBit.2).wdt = s.wdt := rfl
@[simp] theorem State.freeBit_can (s : State) : (s.freeBit.2).can = s.can := rfl
@[simp] theorem State.freeBit_rtc (s : State) : (s.freeBit.2).rtc = s.rtc := rfl
@[simp] theorem State.freeBit_tmb (s : State) : (s.freeBit.2).tmb = s.tmb := rfl
@[simp] theorem State.freeBit_field (s : State) : (s.freeBit.2).field = s.field := rfl
@[simp] theorem State.freeBit_pwr (s : State) : (s.freeBit.2).pwr = s.pwr := rfl
@[simp] theorem State.freeBit_hsb (s : State) : (s.freeBit.2).hsb = s.hsb := rfl
@[simp] theorem State.freeBit_upd (s : State) : (s.freeBit.2).upd = s.upd := rfl
@[simp] theorem State.freeBit_cry (s : State) : (s.freeBit.2).cry = s.cry := rfl
@[simp] theorem State.freeBit_cores (s : State) : (s.freeBit.2).cores = s.cores := rfl
@[simp] theorem State.freeBit_job (s : State) : (s.freeBit.2).job = s.job := rfl
@[simp] theorem State.freeBit_ings (s : State) : (s.freeBit.2).ings = s.ings := rfl
@[simp] theorem State.freeBit_lines (s : State) : (s.freeBit.2).lines = s.lines := rfl
@[simp] theorem State.freeBit_lanes (s : State) : (s.freeBit.2).lanes = s.lanes := rfl
@[simp] theorem State.freeBit_links (s : State) : (s.freeBit.2).links = s.links := rfl
@[simp] theorem State.freeBit_arbs (s : State) : (s.freeBit.2).arbs = s.arbs := rfl
@[simp] theorem State.freeBit_therm (s : State) : (s.freeBit.2).therm = s.therm := rfl
@[simp] theorem State.freeBit_hot (s : State) : (s.freeBit.2).hot = s.hot := rfl
@[simp] theorem State.freeBit_hotCool (s : State) : (s.freeBit.2).hotCool = s.hotCool := rfl
@[simp] theorem State.freeBit_rfx (s : State) : (s.freeBit.2).rfx = s.rfx := rfl
@[simp] theorem State.freeBit_held (s : State) : (s.freeBit.2).held = s.held := rfl
@[simp] theorem State.freeBit_seqQ (s : State) : (s.freeBit.2).seqQ = s.seqQ := rfl
@[simp] theorem State.freeBit_img (s : State) : (s.freeBit.2).img = s.img := rfl
@[simp] theorem State.freeBit_queues (s : State) : (s.freeBit.2).queues = s.queues := rfl
@[simp] theorem State.freeBit_cmdEng (s : State) : (s.freeBit.2).cmdEng = s.cmdEng := rfl
@[simp] theorem State.freeBit_pcie (s : State) : (s.freeBit.2).pcie = s.pcie := rfl
@[simp] theorem State.freeBit_ctxCry (s : State) : (s.freeBit.2).ctxCry = s.ctxCry := rfl
@[simp] theorem State.freeBit_ctxCrc (s : State) : (s.freeBit.2).ctxCrc = s.ctxCrc := rfl
@[simp] theorem State.freeBit_ring (s : State) : (s.freeBit.2).ring = s.ring := rfl
@[simp] theorem State.freeBit_out (s : State) : (s.freeBit.2).out = s.out := rfl

/-! ### State.freeWord -/

@[simp] theorem State.freeWord_pending (s : State) : (s.freeWord.2).pending = s.pending := rfl
@[simp] theorem State.freeWord_now (s : State) : (s.freeWord.2).now = s.now := rfl
@[simp] theorem State.freeWord_straps (s : State) : (s.freeWord.2).straps = s.straps := rfl
@[simp] theorem State.freeWord_regs (s : State) : (s.freeWord.2).regs = s.regs := rfl
@[simp] theorem State.freeWord_mems (s : State) : (s.freeWord.2).mems = s.mems := rfl
@[simp] theorem State.freeWord_ecc (s : State) : (s.freeWord.2).ecc = s.ecc := rfl
@[simp] theorem State.freeWord_recorder (s : State) : (s.freeWord.2).recorder = s.recorder := rfl
@[simp] theorem State.freeWord_nvs (s : State) : (s.freeWord.2).nvs = s.nvs := rfl
@[simp] theorem State.freeWord_rest (s : State) : (s.freeWord.2).rest = s.rest := rfl
@[simp] theorem State.freeWord_wdt (s : State) : (s.freeWord.2).wdt = s.wdt := rfl
@[simp] theorem State.freeWord_can (s : State) : (s.freeWord.2).can = s.can := rfl
@[simp] theorem State.freeWord_rtc (s : State) : (s.freeWord.2).rtc = s.rtc := rfl
@[simp] theorem State.freeWord_tmb (s : State) : (s.freeWord.2).tmb = s.tmb := rfl
@[simp] theorem State.freeWord_field (s : State) : (s.freeWord.2).field = s.field := rfl
@[simp] theorem State.freeWord_pwr (s : State) : (s.freeWord.2).pwr = s.pwr := rfl
@[simp] theorem State.freeWord_hsb (s : State) : (s.freeWord.2).hsb = s.hsb := rfl
@[simp] theorem State.freeWord_upd (s : State) : (s.freeWord.2).upd = s.upd := rfl
@[simp] theorem State.freeWord_cry (s : State) : (s.freeWord.2).cry = s.cry := rfl
@[simp] theorem State.freeWord_cores (s : State) : (s.freeWord.2).cores = s.cores := rfl
@[simp] theorem State.freeWord_job (s : State) : (s.freeWord.2).job = s.job := rfl
@[simp] theorem State.freeWord_ings (s : State) : (s.freeWord.2).ings = s.ings := rfl
@[simp] theorem State.freeWord_lines (s : State) : (s.freeWord.2).lines = s.lines := rfl
@[simp] theorem State.freeWord_lanes (s : State) : (s.freeWord.2).lanes = s.lanes := rfl
@[simp] theorem State.freeWord_links (s : State) : (s.freeWord.2).links = s.links := rfl
@[simp] theorem State.freeWord_arbs (s : State) : (s.freeWord.2).arbs = s.arbs := rfl
@[simp] theorem State.freeWord_therm (s : State) : (s.freeWord.2).therm = s.therm := rfl
@[simp] theorem State.freeWord_hot (s : State) : (s.freeWord.2).hot = s.hot := rfl
@[simp] theorem State.freeWord_hotCool (s : State) : (s.freeWord.2).hotCool = s.hotCool := rfl
@[simp] theorem State.freeWord_rfx (s : State) : (s.freeWord.2).rfx = s.rfx := rfl
@[simp] theorem State.freeWord_held (s : State) : (s.freeWord.2).held = s.held := rfl
@[simp] theorem State.freeWord_seqQ (s : State) : (s.freeWord.2).seqQ = s.seqQ := rfl
@[simp] theorem State.freeWord_img (s : State) : (s.freeWord.2).img = s.img := rfl
@[simp] theorem State.freeWord_queues (s : State) : (s.freeWord.2).queues = s.queues := rfl
@[simp] theorem State.freeWord_cmdEng (s : State) : (s.freeWord.2).cmdEng = s.cmdEng := rfl
@[simp] theorem State.freeWord_pcie (s : State) : (s.freeWord.2).pcie = s.pcie := rfl
@[simp] theorem State.freeWord_ctxCry (s : State) : (s.freeWord.2).ctxCry = s.ctxCry := rfl
@[simp] theorem State.freeWord_ctxCrc (s : State) : (s.freeWord.2).ctxCrc = s.ctxCrc := rfl
@[simp] theorem State.freeWord_ring (s : State) : (s.freeWord.2).ring = s.ring := rfl
@[simp] theorem State.freeWord_out (s : State) : (s.freeWord.2).out = s.out := rfl

/-! ### State.freeNat -/

@[simp] theorem State.freeNat_pending (s : State) : (s.freeNat.2).pending = s.pending := rfl
@[simp] theorem State.freeNat_now (s : State) : (s.freeNat.2).now = s.now := rfl
@[simp] theorem State.freeNat_straps (s : State) : (s.freeNat.2).straps = s.straps := rfl
@[simp] theorem State.freeNat_regs (s : State) : (s.freeNat.2).regs = s.regs := rfl
@[simp] theorem State.freeNat_mems (s : State) : (s.freeNat.2).mems = s.mems := rfl
@[simp] theorem State.freeNat_ecc (s : State) : (s.freeNat.2).ecc = s.ecc := rfl
@[simp] theorem State.freeNat_recorder (s : State) : (s.freeNat.2).recorder = s.recorder := rfl
@[simp] theorem State.freeNat_nvs (s : State) : (s.freeNat.2).nvs = s.nvs := rfl
@[simp] theorem State.freeNat_rest (s : State) : (s.freeNat.2).rest = s.rest := rfl
@[simp] theorem State.freeNat_wdt (s : State) : (s.freeNat.2).wdt = s.wdt := rfl
@[simp] theorem State.freeNat_can (s : State) : (s.freeNat.2).can = s.can := rfl
@[simp] theorem State.freeNat_rtc (s : State) : (s.freeNat.2).rtc = s.rtc := rfl
@[simp] theorem State.freeNat_tmb (s : State) : (s.freeNat.2).tmb = s.tmb := rfl
@[simp] theorem State.freeNat_field (s : State) : (s.freeNat.2).field = s.field := rfl
@[simp] theorem State.freeNat_pwr (s : State) : (s.freeNat.2).pwr = s.pwr := rfl
@[simp] theorem State.freeNat_hsb (s : State) : (s.freeNat.2).hsb = s.hsb := rfl
@[simp] theorem State.freeNat_upd (s : State) : (s.freeNat.2).upd = s.upd := rfl
@[simp] theorem State.freeNat_cry (s : State) : (s.freeNat.2).cry = s.cry := rfl
@[simp] theorem State.freeNat_cores (s : State) : (s.freeNat.2).cores = s.cores := rfl
@[simp] theorem State.freeNat_job (s : State) : (s.freeNat.2).job = s.job := rfl
@[simp] theorem State.freeNat_ings (s : State) : (s.freeNat.2).ings = s.ings := rfl
@[simp] theorem State.freeNat_lines (s : State) : (s.freeNat.2).lines = s.lines := rfl
@[simp] theorem State.freeNat_lanes (s : State) : (s.freeNat.2).lanes = s.lanes := rfl
@[simp] theorem State.freeNat_links (s : State) : (s.freeNat.2).links = s.links := rfl
@[simp] theorem State.freeNat_arbs (s : State) : (s.freeNat.2).arbs = s.arbs := rfl
@[simp] theorem State.freeNat_therm (s : State) : (s.freeNat.2).therm = s.therm := rfl
@[simp] theorem State.freeNat_hot (s : State) : (s.freeNat.2).hot = s.hot := rfl
@[simp] theorem State.freeNat_hotCool (s : State) : (s.freeNat.2).hotCool = s.hotCool := rfl
@[simp] theorem State.freeNat_rfx (s : State) : (s.freeNat.2).rfx = s.rfx := rfl
@[simp] theorem State.freeNat_held (s : State) : (s.freeNat.2).held = s.held := rfl
@[simp] theorem State.freeNat_seqQ (s : State) : (s.freeNat.2).seqQ = s.seqQ := rfl
@[simp] theorem State.freeNat_img (s : State) : (s.freeNat.2).img = s.img := rfl
@[simp] theorem State.freeNat_queues (s : State) : (s.freeNat.2).queues = s.queues := rfl
@[simp] theorem State.freeNat_cmdEng (s : State) : (s.freeNat.2).cmdEng = s.cmdEng := rfl
@[simp] theorem State.freeNat_pcie (s : State) : (s.freeNat.2).pcie = s.pcie := rfl
@[simp] theorem State.freeNat_ctxCry (s : State) : (s.freeNat.2).ctxCry = s.ctxCry := rfl
@[simp] theorem State.freeNat_ctxCrc (s : State) : (s.freeNat.2).ctxCrc = s.ctxCrc := rfl
@[simp] theorem State.freeNat_ring (s : State) : (s.freeNat.2).ring = s.ring := rfl
@[simp] theorem State.freeNat_out (s : State) : (s.freeNat.2).out = s.out := rfl

end Sys2Proof.Machine
end

