-- ==== Sys2Proof/Laws/Tab.lean ====
section
/-! SUPPORT. What reading a sparse table gives after writing it, and that writing keeps the canonical form. -/

namespace Sys2Proof.Machine.Tab
variable {κ α : Type}

theorem find_erase [DecidableEq κ] (t : Tab κ α) (k k' : κ) : find (erase t k) k' = if k' = k then none else find t k' := by
  induction t with
  | nil => simp [erase, find]
  | cons e t ih =>
    obtain ⟨a, v⟩ := e
    by_cases h : a = k
    · simp only [erase, h, if_true, ih]
      by_cases h' : k' = k
      · simp [h']
      · simp [h', find, Ne.symm h']
    · simp only [erase, h, if_false, find, ih]
      by_cases h' : k' = k
      · subst h'
        simp [h]
      · simp [h']

theorem find_insert [DecidableEq κ] (code : κ → Nat) (t : Tab κ α) (k : κ) (v : α) (k' : κ) (h : find t k = none) :
    find (insert code t k v) k' = if k' = k then some v else find t k' := by
  induction t with
  | nil =>
    by_cases e : k' = k
    · simp [insert, find, e]
    · simp [insert, find, e, Ne.symm e]
  | cons e t ih =>
    obtain ⟨a, w⟩ := e
    have ha : a ≠ k := by
      intro x
      simp [find, x] at h
    have ht : find t k = none := by simpa [find, ha] using h
    by_cases c : code a < code k
    · simp only [insert, c, if_true, find, ih ht]
      by_cases e : k' = k
      · subst e
        simp [ha]
      · simp [e]
    · simp only [insert, c, if_false, find]
      by_cases e : k' = k
      · simp [e]
      · simp [e, Ne.symm e]

/-- A key reads as what was last written at it. -/
@[simp] theorem get_set_same [DecidableEq κ] [DecidableEq α] (code : κ → Nat) (t : Tab κ α) (k : κ) (d v : α) : get (set code t k d v) k d = v := by
  unfold set get
  split
  · next h => simp [find_erase, h]
  · simp [find_insert code (erase t k) k v k (by simp [find_erase])]

/-- Writing one key leaves what every other key reads as. -/
theorem get_set_ne [DecidableEq κ] [DecidableEq α] (code : κ → Nat) (t : Tab κ α) {k k' : κ} (d v d' : α) (h : k' ≠ k) :
    get (set code t k d v) k' d' = get t k' d' := by
  unfold set get
  split
  · simp [find_erase, h]
  · simp [find_insert code (erase t k) k v k' (by simp [find_erase]), find_erase, h]

theorem erase_idem [DecidableEq κ] (t : Tab κ α) (k : κ) : erase (erase t k) k = erase t k := by
  induction t with
  | nil => rfl
  | cons e t ih =>
    obtain ⟨a, v⟩ := e
    by_cases c : a = k <;> simp [erase, c, ih]

theorem erase_insert [DecidableEq κ] (code : κ → Nat) (t : Tab κ α) (k : κ) (v : α) : erase (insert code t k v) k = erase t k := by
  induction t with
  | nil => simp [insert, erase]
  | cons e t ih =>
    obtain ⟨a, w⟩ := e
    unfold insert
    split <;> by_cases e : a = k <;> simp [erase, e, ih]

/-- Of two writings of one key the second counts. -/
theorem set_set [DecidableEq κ] [DecidableEq α] (code : κ → Nat) (t : Tab κ α) (k : κ) (d v w : α) :
    set code (set code t k d v) k d w = set code t k d w := by
  by_cases hv : v = d <;> simp [set, hv, erase_idem, erase_insert]

theorem mem_erase [DecidableEq κ] (t : Tab κ α) (k : κ) (e : κ × α) (h : e ∈ erase t k) : e ∈ t ∧ e.1 ≠ k := by
  induction t with
  | nil => simp [erase] at h
  | cons x t ih =>
    obtain ⟨a, v⟩ := x
    by_cases c : a = k
    · simp only [erase, c, if_true] at h
      exact ⟨List.mem_cons_of_mem _ (ih h).1, (ih h).2⟩
    · simp only [erase, c, if_false, List.mem_cons] at h
      rcases h with h | h
      · subst h
        exact ⟨List.mem_cons_self, c⟩
      · exact ⟨List.mem_cons_of_mem _ (ih h).1, (ih h).2⟩

theorem mem_insert (code : κ → Nat) (t : Tab κ α) (k : κ) (v : α) (e : κ × α) (h : e ∈ insert code t k v) :
    e = (k, v) ∨ e ∈ t := by
  induction t with
  | nil => simpa [insert] using h
  | cons x t ih =>
    obtain ⟨a, w⟩ := x
    by_cases c : code a < code k
    · simp only [insert, c, if_true, List.mem_cons] at h
      rcases h with h | h
      · exact .inr (by simp [h])
      · rcases ih h with h | h
        · exact .inl h
        · exact .inr (List.mem_cons_of_mem _ h)
    · simp only [insert, c, if_false, List.mem_cons] at h
      rcases h with h | h | h
      · exact .inl h
      · exact .inr (by simp [h])
      · exact .inr (List.mem_cons_of_mem _ h)

theorem wf_cons [DecidableEq α] (code : κ → Nat) (d : κ → α) (k : κ) (v : α) (t : Tab κ α) :
    wf code d ((k, v) :: t) = true ↔ v ≠ d k ∧ (∀ e ∈ t, code k < code e.1) ∧ wf code d t = true := by
  simp [wf, and_assoc]

/-- A sublist of a canonical table is canonical. -/
theorem wf_filter [DecidableEq α] (code : κ → Nat) (d : κ → α) (p : κ × α → Bool) (t : Tab κ α) (h : wf code d t = true) :
    wf code d (t.filter p) = true := by
  induction t with
  | nil => simpa using h
  | cons x t ih =>
    obtain ⟨a, v⟩ := x
    obtain ⟨h1, h2, h3⟩ := (wf_cons code d a v t).1 h
    by_cases c : p (a, v)
    · rw [List.filter_cons_of_pos c]
      exact (wf_cons ..).2 ⟨h1, fun e he => h2 e (List.mem_filter.1 he).1, ih h3⟩
    · rw [List.filter_cons_of_neg c]
      exact ih h3

theorem wf_erase [DecidableEq κ] [DecidableEq α] (code : κ → Nat) (d : κ → α) (k : κ) (t : Tab κ α) (h : wf code d t = true) :
    wf code d (erase t k) = true := by
  induction t with
  | nil => simpa [erase] using h
  | cons x t ih =>
    obtain ⟨a, v⟩ := x
    obtain ⟨h1, h2, h3⟩ := (wf_cons code d a v t).1 h
    by_cases c : a = k
    · simpa [erase, c] using ih h3
    · simp only [erase, c, if_false]
      exact (wf_cons ..).2 ⟨h1, fun e he => h2 e (mem_erase t k e he).1, ih h3⟩

theorem wf_insert [DecidableEq α] (code : κ → Nat) (inj : ∀ a b, code a = code b → a = b) (d : κ → α) (k : κ) (v : α) (t : Tab κ α)
    (hv : v ≠ d k) (hk : ∀ e ∈ t, e.1 ≠ k) (h : wf code d t = true) : wf code d (insert code t k v) = true := by
  induction t with
  | nil => simpa [insert, wf] using hv
  | cons x t ih =>
    obtain ⟨a, w⟩ := x
    obtain ⟨h1, h2, h3⟩ := (wf_cons code d a w t).1 h
    by_cases c : code a < code k
    · simp only [insert, c, if_true]
      refine (wf_cons ..).2 ⟨h1, fun e he => ?_, ih (fun e he => hk e (List.mem_cons_of_mem _ he)) h3⟩
      rcases mem_insert code t k v e he with rfl | he
      · exact c
      · exact h2 e he
    · simp only [insert, c, if_false]
      have ne : code a ≠ code k := fun x => hk _ List.mem_cons_self (inj a k x)
      have lt : code k < code a := by omega
      refine (wf_cons ..).2 ⟨hv, fun e he => ?_, h⟩
      rcases List.mem_cons.1 he with rfl | he
      · exact lt
      · exact lt.trans (h2 e he)

/-- Two canonical tables make one where every key of the first comes before every key of the second. -/
theorem wf_append [DecidableEq α] (code : κ → Nat) (d : κ → α) (t u : Tab κ α) (ht : wf code d t = true) (hu : wf code d u = true)
    (h : ∀ e ∈ t, ∀ e' ∈ u, code e.1 < code e'.1) : wf code d (t ++ u) = true := by
  induction t with
  | nil => simpa using hu
  | cons x t ih =>
    obtain ⟨a, v⟩ := x
    obtain ⟨h1, h2, h3⟩ := (wf_cons code d a v t).1 ht
    refine (wf_cons ..).2 ⟨h1, fun e he => ?_, ih h3 fun e he => h e (List.mem_cons_of_mem _ he)⟩
    rcases List.mem_append.1 he with he | he
    · exact h2 e he
    · exact h (a, v) List.mem_cons_self e he

/-- Writing a key keeps the canonical form. -/
theorem wf_set [DecidableEq κ] [DecidableEq α] (code : κ → Nat) (inj : ∀ a b, code a = code b → a = b) (d : κ → α) (k : κ) (v : α) (t : Tab κ α)
    (h : wf code d t = true) : wf code d (set code t k (d k) v) = true := by
  unfold set
  split
  · exact wf_erase code d k t h
  · next hv =>
    exact wf_insert code inj d k v _ hv (fun e he => (mem_erase t k e he).2) (wf_erase code d k t h)

theorem mem_set [DecidableEq κ] [DecidableEq α] (code : κ → Nat) (t : Tab κ α) (k : κ) (d v : α) (e : κ × α) (h : e ∈ set code t k d v) :
    e = (k, v) ∨ e ∈ t := by
  unfold set at h
  split at h
  · exact .inr (mem_erase t k e h).1
  · rcases mem_insert code _ k v e h with h | h
    · exact .inl h
    · exact .inr (mem_erase t k e h).1

theorem find_mem [DecidableEq κ] (t : Tab κ α) (k : κ) (v : α) (h : find t k = some v) : (k, v) ∈ t := by
  induction t with
  | nil => simp [find] at h
  | cons x t ih =>
    obtain ⟨a, w⟩ := x
    by_cases c : a = k
    · simp [find, c] at h
      simp [c, h]
    · simp only [find, c, if_false] at h
      exact List.mem_cons_of_mem _ (ih h)

end Sys2Proof.Machine.Tab
end

