-- ==== Sys2Proof/Laws/Regs.lean ====
section
/-! SUPPORT. What registers, memories and units read as after an update of the state. -/

namespace Sys2Proof.Machine

/-! ### Register fields -/

/-- A field reads as what was written, cut to its width. -/
@[simp] theorem State.rd_wr_same (s : State) (b : Blk) (f : Field) (v : Nat) : (s.wr b f v).rd b f = v % 2 ^ f.width := by
  simp [State.rd, State.wr]

/-- Writing one field leaves every field with another key. -/
theorem State.rd_wr_ne (s : State) {b b' : Blk} {f f' : Field} (v : Nat) (h : f'.key b' ≠ f.key b) : (s.wr b f v).rd b' f' = s.rd b' f' := by
  simp [State.rd, State.wr, Tab.get_set_ne _ _ _ _ _ h]

/-- Writing a field of one block leaves every field of another. -/
theorem State.rd_wr_blk (s : State) {b b' : Blk} (f f' : Field) (v : Nat) (h : b' ≠ b) : (s.wr b f v).rd b' f' = s.rd b' f' :=
  s.rd_wr_ne v (by simp [Field.key, h])

/-- Writing a field leaves every field at another offset. -/
theorem State.rd_wr_off (s : State) {b b' : Blk} {f f' : Field} (v : Nat) (h : f'.off ≠ f.off) : (s.wr b f v).rd b' f' = s.rd b' f' :=
  s.rd_wr_ne v (by simp [Field.key, h])

/-- Writing a field leaves every field at another bit. -/
theorem State.rd_wr_lo (s : State) {b b' : Blk} {f f' : Field} (v : Nat) (h : f'.lo ≠ f.lo) : (s.wr b f v).rd b' f' = s.rd b' f' :=
  s.rd_wr_ne v (by simp [Field.key, h])

@[simp] theorem State.rd_setMem (s : State) (m : MemId) (c : Cells) (b' : Blk) (g : Field) : (s.setMem m c).rd b' g = s.rd b' g := rfl
@[simp] theorem State.is_setMem (s : State) (m : MemId) (c : Cells) (b' : Blk) (g : Field) : (s.setMem m c).is b' g = s.is b' g := rfl
@[simp] theorem State.rd_store (s : State) (m : MemId) (a n v : Nat) (b' : Blk) (g : Field) : (s.store m a n v).rd b' g = s.rd b' g := rfl
@[simp] theorem State.is_store (s : State) (m : MemId) (a n v : Nat) (b' : Blk) (g : Field) : (s.store m a n v).is b' g = s.is b' g := rfl
@[simp] theorem State.rd_storeBytes (s : State) (m : MemId) (a : Nat) (l : List Byte) (b' : Blk) (g : Field) : (s.storeBytes m a l).rd b' g = s.rd b' g := rfl
@[simp] theorem State.is_storeBytes (s : State) (m : MemId) (a : Nat) (l : List Byte) (b' : Blk) (g : Field) : (s.storeBytes m a l).is b' g = s.is b' g := rfl
@[simp] theorem State.rd_zeroMem (s : State) (m : MemId) (a n : Nat) (b' : Blk) (g : Field) : (s.zeroMem m a n).rd b' g = s.rd b' g := rfl
@[simp] theorem State.is_zeroMem (s : State) (m : MemId) (a n : Nat) (b' : Blk) (g : Field) : (s.zeroMem m a n).is b' g = s.is b' g := rfl
@[simp] theorem State.rd_setEcc (s : State) (m : MemId) (w : Nat) (e : Ecc) (b' : Blk) (g : Field) : (s.setEcc m w e).rd b' g = s.rd b' g := rfl
@[simp] theorem State.is_setEcc (s : State) (m : MemId) (w : Nat) (e : Ecc) (b' : Blk) (g : Field) : (s.setEcc m w e).is b' g = s.is b' g := rfl
@[simp] theorem State.rd_setCore (s : State) (d k : Nat) (c : Core) (b' : Blk) (g : Field) : (s.setCore d k c).rd b' g = s.rd b' g := rfl
@[simp] theorem State.is_setCore (s : State) (d k : Nat) (c : Core) (b' : Blk) (g : Field) : (s.setCore d k c).is b' g = s.is b' g := rfl
@[simp] theorem State.rd_setLane (s : State) (d j : Nat) (v : Lane) (b' : Blk) (g : Field) : (s.setLane d j v).rd b' g = s.rd b' g := rfl
@[simp] theorem State.is_setLane (s : State) (d j : Nat) (v : Lane) (b' : Blk) (g : Field) : (s.setLane d j v).is b' g = s.is b' g := rfl
@[simp] theorem State.rd_setLink (s : State) (d m : Nat) (v : Link) (b' : Blk) (g : Field) : (s.setLink d m v).rd b' g = s.rd b' g := rfl
@[simp] theorem State.is_setLink (s : State) (d m : Nat) (v : Link) (b' : Blk) (g : Field) : (s.setLink d m v).is b' g = s.is b' g := rfl
@[simp] theorem State.rd_setIng (s : State) (d : Nat) (v : Ing) (b' : Blk) (g : Field) : (s.setIng d v).rd b' g = s.rd b' g := rfl
@[simp] theorem State.is_setIng (s : State) (d : Nat) (v : Ing) (b' : Blk) (g : Field) : (s.setIng d v).is b' g = s.is b' g := rfl
@[simp] theorem State.rd_setTherm (s : State) (d : Nat) (v : Therm) (b' : Blk) (g : Field) : (s.setTherm d v).rd b' g = s.rd b' g := rfl
@[simp] theorem State.is_setTherm (s : State) (d : Nat) (v : Therm) (b' : Blk) (g : Field) : (s.setTherm d v).is b' g = s.is b' g := rfl
@[simp] theorem State.rd_setCan (s : State) (c : Nat) (x : Can) (b' : Blk) (g : Field) : (s.setCan c x).rd b' g = s.rd b' g := rfl
@[simp] theorem State.is_setCan (s : State) (c : Nat) (x : Can) (b' : Blk) (g : Field) : (s.setCan c x).is b' g = s.is b' g := rfl
@[simp] theorem State.rd_setQueue (s : State) (q : Nat) (x : Queue) (b' : Blk) (g : Field) : (s.setQueue q x).rd b' g = s.rd b' g := rfl
@[simp] theorem State.is_setQueue (s : State) (q : Nat) (x : Queue) (b' : Blk) (g : Field) : (s.setQueue q x).is b' g = s.is b' g := rfl
@[simp] theorem State.rd_emit (s : State) (o : OutMsg) (b' : Blk) (g : Field) : (s.emit o).rd b' g = s.rd b' g := rfl
@[simp] theorem State.is_emit (s : State) (o : OutMsg) (b' : Blk) (g : Field) : (s.emit o).is b' g = s.is b' g := rfl
@[simp] theorem State.rd_freeBit (s : State) (b' : Blk) (g : Field) : (s.freeBit.2).rd b' g = s.rd b' g := rfl
@[simp] theorem State.is_freeBit (s : State) (b' : Blk) (g : Field) : (s.freeBit.2).is b' g = s.is b' g := rfl
@[simp] theorem State.rd_freeWord (s : State) (b' : Blk) (g : Field) : (s.freeWord.2).rd b' g = s.rd b' g := rfl
@[simp] theorem State.is_freeWord (s : State) (b' : Blk) (g : Field) : (s.freeWord.2).is b' g = s.is b' g := rfl
@[simp] theorem State.rd_freeNat (s : State) (b' : Blk) (g : Field) : (s.freeNat.2).rd b' g = s.rd b' g := rfl
@[simp] theorem State.is_freeNat (s : State) (b' : Blk) (g : Field) : (s.freeNat.2).is b' g = s.is b' g := rfl

/-! ### core -/

@[simp] theorem State.core_wr (s : State) (b : Blk) (f : Field) (v : Nat) (d' k' : Nat) : (s.wr b f v).core d' k' = s.core d' k' := rfl
@[simp] theorem State.core_setMem (s : State) (m : MemId) (c : Cells) (d' k' : Nat) : (s.setMem m c).core d' k' = s.core d' k' := rfl
@[simp] theorem State.core_store (s : State) (m : MemId) (a n v : Nat) (d' k' : Nat) : (s.store m a n v).core d' k' = s.core d' k' := rfl
@[simp] theorem State.core_storeBytes (s : State) (m : MemId) (a : Nat) (l : List Byte) (d' k' : Nat) : (s.storeBytes m a l).core d' k' = s.core d' k' := rfl
@[simp] theorem State.core_zeroMem (s : State) (m : MemId) (a n : Nat) (d' k' : Nat) : (s.zeroMem m a n).core d' k' = s.core d' k' := rfl
@[simp] theorem State.core_setEcc (s : State) (m : MemId) (w : Nat) (e : Ecc) (d' k' : Nat) : (s.setEcc m w e).core d' k' = s.core d' k' := rfl
@[simp] theorem State.core_setLane (s : State) (d j : Nat) (v : Lane) (d' k' : Nat) : (s.setLane d j v).core d' k' = s.core d' k' := rfl
@[simp] theorem State.core_setLink (s : State) (d m : Nat) (v : Link) (d' k' : Nat) : (s.setLink d m v).core d' k' = s.core d' k' := rfl
@[simp] theorem State.core_setIng (s : State) (d : Nat) (v : Ing) (d' k' : Nat) : (s.setIng d v).core d' k' = s.core d' k' := rfl
@[simp] theorem State.core_setTherm (s : State) (d : Nat) (v : Therm) (d' k' : Nat) : (s.setTherm d v).core d' k' = s.core d' k' := rfl
@[simp] theorem State.core_setCan (s : State) (c : Nat) (x : Can) (d' k' : Nat) : (s.setCan c x).core d' k' = s.core d' k' := rfl
@[simp] theorem State.core_setQueue (s : State) (q : Nat) (x : Queue) (d' k' : Nat) : (s.setQueue q x).core d' k' = s.core d' k' := rfl
@[simp] theorem State.core_emit (s : State) (o : OutMsg) (d' k' : Nat) : (s.emit o).core d' k' = s.core d' k' := rfl
@[simp] theorem State.core_freeBit (s : State) (d' k' : Nat) : (s.freeBit.2).core d' k' = s.core d' k' := rfl
@[simp] theorem State.core_freeWord (s : State) (d' k' : Nat) : (s.freeWord.2).core d' k' = s.core d' k' := rfl
@[simp] theorem State.core_freeNat (s : State) (d' k' : Nat) : (s.freeNat.2).core d' k' = s.core d' k' := rfl

/-! ### lane -/

@[simp] theorem State.lane_wr (s : State) (b : Blk) (f : Field) (v : Nat) (d' j' : Nat) : (s.wr b f v).lane d' j' = s.lane d' j' := rfl
@[simp] theorem State.lane_setMem (s : State) (m : MemId) (c : Cells) (d' j' : Nat) : (s.setMem m c).lane d' j' = s.lane d' j' := rfl
@[simp] theorem State.lane_store (s : State) (m : MemId) (a n v : Nat) (d' j' : Nat) : (s.store m a n v).lane d' j' = s.lane d' j' := rfl
@[simp] theorem State.lane_storeBytes (s : State) (m : MemId) (a : Nat) (l : List Byte) (d' j' : Nat) : (s.storeBytes m a l).lane d' j' = s.lane d' j' := rfl
@[simp] theorem State.lane_zeroMem (s : State) (m : MemId) (a n : Nat) (d' j' : Nat) : (s.zeroMem m a n).lane d' j' = s.lane d' j' := rfl
@[simp] theorem State.lane_setEcc (s : State) (m : MemId) (w : Nat) (e : Ecc) (d' j' : Nat) : (s.setEcc m w e).lane d' j' = s.lane d' j' := rfl
@[simp] theorem State.lane_setCore (s : State) (d k : Nat) (c : Core) (d' j' : Nat) : (s.setCore d k c).lane d' j' = s.lane d' j' := rfl
@[simp] theorem State.lane_setLink (s : State) (d m : Nat) (v : Link) (d' j' : Nat) : (s.setLink d m v).lane d' j' = s.lane d' j' := rfl
@[simp] theorem State.lane_setIng (s : State) (d : Nat) (v : Ing) (d' j' : Nat) : (s.setIng d v).lane d' j' = s.lane d' j' := rfl
@[simp] theorem State.lane_setTherm (s : State) (d : Nat) (v : Therm) (d' j' : Nat) : (s.setTherm d v).lane d' j' = s.lane d' j' := rfl
@[simp] theorem State.lane_setCan (s : State) (c : Nat) (x : Can) (d' j' : Nat) : (s.setCan c x).lane d' j' = s.lane d' j' := rfl
@[simp] theorem State.lane_setQueue (s : State) (q : Nat) (x : Queue) (d' j' : Nat) : (s.setQueue q x).lane d' j' = s.lane d' j' := rfl
@[simp] theorem State.lane_emit (s : State) (o : OutMsg) (d' j' : Nat) : (s.emit o).lane d' j' = s.lane d' j' := rfl
@[simp] theorem State.lane_freeBit (s : State) (d' j' : Nat) : (s.freeBit.2).lane d' j' = s.lane d' j' := rfl
@[simp] theorem State.lane_freeWord (s : State) (d' j' : Nat) : (s.freeWord.2).lane d' j' = s.lane d' j' := rfl
@[simp] theorem State.lane_freeNat (s : State) (d' j' : Nat) : (s.freeNat.2).lane d' j' = s.lane d' j' := rfl

/-! ### link -/

@[simp] theorem State.link_wr (s : State) (b : Blk) (f : Field) (v : Nat) (d' m' : Nat) : (s.wr b f v).link d' m' = s.link d' m' := rfl
@[simp] theorem State.link_setMem (s : State) (m : MemId) (c : Cells) (d' m' : Nat) : (s.setMem m c).link d' m' = s.link d' m' := rfl
@[simp] theorem State.link_store (s : State) (m : MemId) (a n v : Nat) (d' m' : Nat) : (s.store m a n v).link d' m' = s.link d' m' := rfl
@[simp] theorem State.link_storeBytes (s : State) (m : MemId) (a : Nat) (l : List Byte) (d' m' : Nat) : (s.storeBytes m a l).link d' m' = s.link d' m' := rfl
@[simp] theorem State.link_zeroMem (s : State) (m : MemId) (a n : Nat) (d' m' : Nat) : (s.zeroMem m a n).link d' m' = s.link d' m' := rfl
@[simp] theorem State.link_setEcc (s : State) (m : MemId) (w : Nat) (e : Ecc) (d' m' : Nat) : (s.setEcc m w e).link d' m' = s.link d' m' := rfl
@[simp] theorem State.link_setCore (s : State) (d k : Nat) (c : Core) (d' m' : Nat) : (s.setCore d k c).link d' m' = s.link d' m' := rfl
@[simp] theorem State.link_setLane (s : State) (d j : Nat) (v : Lane) (d' m' : Nat) : (s.setLane d j v).link d' m' = s.link d' m' := rfl
@[simp] theorem State.link_setIng (s : State) (d : Nat) (v : Ing) (d' m' : Nat) : (s.setIng d v).link d' m' = s.link d' m' := rfl
@[simp] theorem State.link_setTherm (s : State) (d : Nat) (v : Therm) (d' m' : Nat) : (s.setTherm d v).link d' m' = s.link d' m' := rfl
@[simp] theorem State.link_setCan (s : State) (c : Nat) (x : Can) (d' m' : Nat) : (s.setCan c x).link d' m' = s.link d' m' := rfl
@[simp] theorem State.link_setQueue (s : State) (q : Nat) (x : Queue) (d' m' : Nat) : (s.setQueue q x).link d' m' = s.link d' m' := rfl
@[simp] theorem State.link_emit (s : State) (o : OutMsg) (d' m' : Nat) : (s.emit o).link d' m' = s.link d' m' := rfl
@[simp] theorem State.link_freeBit (s : State) (d' m' : Nat) : (s.freeBit.2).link d' m' = s.link d' m' := rfl
@[simp] theorem State.link_freeWord (s : State) (d' m' : Nat) : (s.freeWord.2).link d' m' = s.link d' m' := rfl
@[simp] theorem State.link_freeNat (s : State) (d' m' : Nat) : (s.freeNat.2).link d' m' = s.link d' m' := rfl

/-! ### ing -/

@[simp] theorem State.ing_wr (s : State) (b : Blk) (f : Field) (v : Nat) (d' : Nat) : (s.wr b f v).ing d' = s.ing d' := rfl
@[simp] theorem State.ing_setMem (s : State) (m : MemId) (c : Cells) (d' : Nat) : (s.setMem m c).ing d' = s.ing d' := rfl
@[simp] theorem State.ing_store (s : State) (m : MemId) (a n v : Nat) (d' : Nat) : (s.store m a n v).ing d' = s.ing d' := rfl
@[simp] theorem State.ing_storeBytes (s : State) (m : MemId) (a : Nat) (l : List Byte) (d' : Nat) : (s.storeBytes m a l).ing d' = s.ing d' := rfl
@[simp] theorem State.ing_zeroMem (s : State) (m : MemId) (a n : Nat) (d' : Nat) : (s.zeroMem m a n).ing d' = s.ing d' := rfl
@[simp] theorem State.ing_setEcc (s : State) (m : MemId) (w : Nat) (e : Ecc) (d' : Nat) : (s.setEcc m w e).ing d' = s.ing d' := rfl
@[simp] theorem State.ing_setCore (s : State) (d k : Nat) (c : Core) (d' : Nat) : (s.setCore d k c).ing d' = s.ing d' := rfl
@[simp] theorem State.ing_setLane (s : State) (d j : Nat) (v : Lane) (d' : Nat) : (s.setLane d j v).ing d' = s.ing d' := rfl
@[simp] theorem State.ing_setLink (s : State) (d m : Nat) (v : Link) (d' : Nat) : (s.setLink d m v).ing d' = s.ing d' := rfl
@[simp] theorem State.ing_setTherm (s : State) (d : Nat) (v : Therm) (d' : Nat) : (s.setTherm d v).ing d' = s.ing d' := rfl
@[simp] theorem State.ing_setCan (s : State) (c : Nat) (x : Can) (d' : Nat) : (s.setCan c x).ing d' = s.ing d' := rfl
@[simp] theorem State.ing_setQueue (s : State) (q : Nat) (x : Queue) (d' : Nat) : (s.setQueue q x).ing d' = s.ing d' := rfl
@[simp] theorem State.ing_emit (s : State) (o : OutMsg) (d' : Nat) : (s.emit o).ing d' = s.ing d' := rfl
@[simp] theorem State.ing_freeBit (s : State) (d' : Nat) : (s.freeBit.2).ing d' = s.ing d' := rfl
@[simp] theorem State.ing_freeWord (s : State) (d' : Nat) : (s.freeWord.2).ing d' = s.ing d' := rfl
@[simp] theorem State.ing_freeNat (s : State) (d' : Nat) : (s.freeNat.2).ing d' = s.ing d' := rfl

/-! ### thermOf -/

@[simp] theorem State.thermOf_wr (s : State) (b : Blk) (f : Field) (v : Nat) (d' : Nat) : (s.wr b f v).thermOf d' = s.thermOf d' := rfl
@[simp] theorem State.thermOf_setMem (s : State) (m : MemId) (c : Cells) (d' : Nat) : (s.setMem m c).thermOf d' = s.thermOf d' := rfl
@[simp] theorem State.thermOf_store (s : State) (m : MemId) (a n v : Nat) (d' : Nat) : (s.store m a n v).thermOf d' = s.thermOf d' := rfl
@[simp] theorem State.thermOf_storeBytes (s : State) (m : MemId) (a : Nat) (l : List Byte) (d' : Nat) : (s.storeBytes m a l).thermOf d' = s.thermOf d' := rfl
@[simp] theorem State.thermOf_zeroMem (s : State) (m : MemId) (a n : Nat) (d' : Nat) : (s.zeroMem m a n).thermOf d' = s.thermOf d' := rfl
@[simp] theorem State.thermOf_setEcc (s : State) (m : MemId) (w : Nat) (e : Ecc) (d' : Nat) : (s.setEcc m w e).thermOf d' = s.thermOf d' := rfl
@[simp] theorem State.thermOf_setCore (s : State) (d k : Nat) (c : Core) (d' : Nat) : (s.setCore d k c).thermOf d' = s.thermOf d' := rfl
@[simp] theorem State.thermOf_setLane (s : State) (d j : Nat) (v : Lane) (d' : Nat) : (s.setLane d j v).thermOf d' = s.thermOf d' := rfl
@[simp] theorem State.thermOf_setLink (s : State) (d m : Nat) (v : Link) (d' : Nat) : (s.setLink d m v).thermOf d' = s.thermOf d' := rfl
@[simp] theorem State.thermOf_setIng (s : State) (d : Nat) (v : Ing) (d' : Nat) : (s.setIng d v).thermOf d' = s.thermOf d' := rfl
@[simp] theorem State.thermOf_setCan (s : State) (c : Nat) (x : Can) (d' : Nat) : (s.setCan c x).thermOf d' = s.thermOf d' := rfl
@[simp] theorem State.thermOf_setQueue (s : State) (q : Nat) (x : Queue) (d' : Nat) : (s.setQueue q x).thermOf d' = s.thermOf d' := rfl
@[simp] theorem State.thermOf_emit (s : State) (o : OutMsg) (d' : Nat) : (s.emit o).thermOf d' = s.thermOf d' := rfl
@[simp] theorem State.thermOf_freeBit (s : State) (d' : Nat) : (s.freeBit.2).thermOf d' = s.thermOf d' := rfl
@[simp] theorem State.thermOf_freeWord (s : State) (d' : Nat) : (s.freeWord.2).thermOf d' = s.thermOf d' := rfl
@[simp] theorem State.thermOf_freeNat (s : State) (d' : Nat) : (s.freeNat.2).thermOf d' = s.thermOf d' := rfl

/-! ### canOf -/

@[simp] theorem State.canOf_wr (s : State) (b : Blk) (f : Field) (v : Nat) (c' : Nat) : (s.wr b f v).canOf c' = s.canOf c' := rfl
@[simp] theorem State.canOf_setMem (s : State) (m : MemId) (c : Cells) (c' : Nat) : (s.setMem m c).canOf c' = s.canOf c' := rfl
@[simp] theorem State.canOf_store (s : State) (m : MemId) (a n v : Nat) (c' : Nat) : (s.store m a n v).canOf c' = s.canOf c' := rfl
@[simp] theorem State.canOf_storeBytes (s : State) (m : MemId) (a : Nat) (l : List Byte) (c' : Nat) : (s.storeBytes m a l).canOf c' = s.canOf c' := rfl
@[simp] theorem State.canOf_zeroMem (s : State) (m : MemId) (a n : Nat) (c' : Nat) : (s.zeroMem m a n).canOf c' = s.canOf c' := rfl
@[simp] theorem State.canOf_setEcc (s : State) (m : MemId) (w : Nat) (e : Ecc) (c' : Nat) : (s.setEcc m w e).canOf c' = s.canOf c' := rfl
@[simp] theorem State.canOf_setCore (s : State) (d k : Nat) (c : Core) (c' : Nat) : (s.setCore d k c).canOf c' = s.canOf c' := rfl
@[simp] theorem State.canOf_setLane (s : State) (d j : Nat) (v : Lane) (c' : Nat) : (s.setLane d j v).canOf c' = s.canOf c' := rfl
@[simp] theorem State.canOf_setLink (s : State) (d m : Nat) (v : Link) (c' : Nat) : (s.setLink d m v).canOf c' = s.canOf c' := rfl
@[simp] theorem State.canOf_setIng (s : State) (d : Nat) (v : Ing) (c' : Nat) : (s.setIng d v).canOf c' = s.canOf c' := rfl
@[simp] theorem State.canOf_setTherm (s : State) (d : Nat) (v : Therm) (c' : Nat) : (s.setTherm d v).canOf c' = s.canOf c' := rfl
@[simp] theorem State.canOf_setQueue (s : State) (q : Nat) (x : Queue) (c' : Nat) : (s.setQueue q x).canOf c' = s.canOf c' := rfl
@[simp] theorem State.canOf_emit (s : State) (o : OutMsg) (c' : Nat) : (s.emit o).canOf c' = s.canOf c' := rfl
@[simp] theorem State.canOf_freeBit (s : State) (c' : Nat) : (s.freeBit.2).canOf c' = s.canOf c' := rfl
@[simp] theorem State.canOf_freeWord (s : State) (c' : Nat) : (s.freeWord.2).canOf c' = s.canOf c' := rfl
@[simp] theorem State.canOf_freeNat (s : State) (c' : Nat) : (s.freeNat.2).canOf c' = s.canOf c' := rfl

/-! ### queue -/

@[simp] theorem State.queue_wr (s : State) (b : Blk) (f : Field) (v : Nat) (q' : Nat) : (s.wr b f v).queue q' = s.queue q' := rfl
@[simp] theorem State.queue_setMem (s : State) (m : MemId) (c : Cells) (q' : Nat) : (s.setMem m c).queue q' = s.queue q' := rfl
@[simp] theorem State.queue_store (s : State) (m : MemId) (a n v : Nat) (q' : Nat) : (s.store m a n v).queue q' = s.queue q' := rfl
@[simp] theorem State.queue_storeBytes (s : State) (m : MemId) (a : Nat) (l : List Byte) (q' : Nat) : (s.storeBytes m a l).queue q' = s.queue q' := rfl
@[simp] theorem State.queue_zeroMem (s : State) (m : MemId) (a n : Nat) (q' : Nat) : (s.zeroMem m a n).queue q' = s.queue q' := rfl
@[simp] theorem State.queue_setEcc (s : State) (m : MemId) (w : Nat) (e : Ecc) (q' : Nat) : (s.setEcc m w e).queue q' = s.queue q' := rfl
@[simp] theorem State.queue_setCore (s : State) (d k : Nat) (c : Core) (q' : Nat) : (s.setCore d k c).queue q' = s.queue q' := rfl
@[simp] theorem State.queue_setLane (s : State) (d j : Nat) (v : Lane) (q' : Nat) : (s.setLane d j v).queue q' = s.queue q' := rfl
@[simp] theorem State.queue_setLink (s : State) (d m : Nat) (v : Link) (q' : Nat) : (s.setLink d m v).queue q' = s.queue q' := rfl
@[simp] theorem State.queue_setIng (s : State) (d : Nat) (v : Ing) (q' : Nat) : (s.setIng d v).queue q' = s.queue q' := rfl
@[simp] theorem State.queue_setTherm (s : State) (d : Nat) (v : Therm) (q' : Nat) : (s.setTherm d v).queue q' = s.queue q' := rfl
@[simp] theorem State.queue_setCan (s : State) (c : Nat) (x : Can) (q' : Nat) : (s.setCan c x).queue q' = s.queue q' := rfl
@[simp] theorem State.queue_emit (s : State) (o : OutMsg) (q' : Nat) : (s.emit o).queue q' = s.queue q' := rfl
@[simp] theorem State.queue_freeBit (s : State) (q' : Nat) : (s.freeBit.2).queue q' = s.queue q' := rfl
@[simp] theorem State.queue_freeWord (s : State) (q' : Nat) : (s.freeWord.2).queue q' = s.queue q' := rfl
@[simp] theorem State.queue_freeNat (s : State) (q' : Nat) : (s.freeNat.2).queue q' = s.queue q' := rfl

/-! ### mem -/

@[simp] theorem State.mem_wr (s : State) (b : Blk) (f : Field) (v : Nat) (m' : MemId) : (s.wr b f v).mem m' = s.mem m' := rfl
@[simp] theorem State.mem_setEcc (s : State) (m : MemId) (w : Nat) (e : Ecc) (m' : MemId) : (s.setEcc m w e).mem m' = s.mem m' := rfl
@[simp] theorem State.mem_setCore (s : State) (d k : Nat) (c : Core) (m' : MemId) : (s.setCore d k c).mem m' = s.mem m' := rfl
@[simp] theorem State.mem_setLane (s : State) (d j : Nat) (v : Lane) (m' : MemId) : (s.setLane d j v).mem m' = s.mem m' := rfl
@[simp] theorem State.mem_setLink (s : State) (d m : Nat) (v : Link) (m' : MemId) : (s.setLink d m v).mem m' = s.mem m' := rfl
@[simp] theorem State.mem_setIng (s : State) (d : Nat) (v : Ing) (m' : MemId) : (s.setIng d v).mem m' = s.mem m' := rfl
@[simp] theorem State.mem_setTherm (s : State) (d : Nat) (v : Therm) (m' : MemId) : (s.setTherm d v).mem m' = s.mem m' := rfl
@[simp] theorem State.mem_setCan (s : State) (c : Nat) (x : Can) (m' : MemId) : (s.setCan c x).mem m' = s.mem m' := rfl
@[simp] theorem State.mem_setQueue (s : State) (q : Nat) (x : Queue) (m' : MemId) : (s.setQueue q x).mem m' = s.mem m' := rfl
@[simp] theorem State.mem_emit (s : State) (o : OutMsg) (m' : MemId) : (s.emit o).mem m' = s.mem m' := rfl
@[simp] theorem State.mem_freeBit (s : State) (m' : MemId) : (s.freeBit.2).mem m' = s.mem m' := rfl
@[simp] theorem State.mem_freeWord (s : State) (m' : MemId) : (s.freeWord.2).mem m' = s.mem m' := rfl
@[simp] theorem State.mem_freeNat (s : State) (m' : MemId) : (s.freeNat.2).mem m' = s.mem m' := rfl

/-! ### eccOf -/

@[simp] theorem State.eccOf_wr (s : State) (b : Blk) (f : Field) (v : Nat) (m' : MemId) (w' : Nat) : (s.wr b f v).eccOf m' w' = s.eccOf m' w' := rfl
@[simp] theorem State.eccOf_setMem (s : State) (m : MemId) (c : Cells) (m' : MemId) (w' : Nat) : (s.setMem m c).eccOf m' w' = s.eccOf m' w' := rfl
@[simp] theorem State.eccOf_store (s : State) (m : MemId) (a n v : Nat) (m' : MemId) (w' : Nat) : (s.store m a n v).eccOf m' w' = s.eccOf m' w' := rfl
@[simp] theorem State.eccOf_storeBytes (s : State) (m : MemId) (a : Nat) (l : List Byte) (m' : MemId) (w' : Nat) : (s.storeBytes m a l).eccOf m' w' = s.eccOf m' w' := rfl
@[simp] theorem State.eccOf_zeroMem (s : State) (m : MemId) (a n : Nat) (m' : MemId) (w' : Nat) : (s.zeroMem m a n).eccOf m' w' = s.eccOf m' w' := rfl
@[simp] theorem State.eccOf_setCore (s : State) (d k : Nat) (c : Core) (m' : MemId) (w' : Nat) : (s.setCore d k c).eccOf m' w' = s.eccOf m' w' := rfl
@[simp] theorem State.eccOf_setLane (s : State) (d j : Nat) (v : Lane) (m' : MemId) (w' : Nat) : (s.setLane d j v).eccOf m' w' = s.eccOf m' w' := rfl
@[simp] theorem State.eccOf_setLink (s : State) (d m : Nat) (v : Link) (m' : MemId) (w' : Nat) : (s.setLink d m v).eccOf m' w' = s.eccOf m' w' := rfl
@[simp] theorem State.eccOf_setIng (s : State) (d : Nat) (v : Ing) (m' : MemId) (w' : Nat) : (s.setIng d v).eccOf m' w' = s.eccOf m' w' := rfl
@[simp] theorem State.eccOf_setTherm (s : State) (d : Nat) (v : Therm) (m' : MemId) (w' : Nat) : (s.setTherm d v).eccOf m' w' = s.eccOf m' w' := rfl
@[simp] theorem State.eccOf_setCan (s : State) (c : Nat) (x : Can) (m' : MemId) (w' : Nat) : (s.setCan c x).eccOf m' w' = s.eccOf m' w' := rfl
@[simp] theorem State.eccOf_setQueue (s : State) (q : Nat) (x : Queue) (m' : MemId) (w' : Nat) : (s.setQueue q x).eccOf m' w' = s.eccOf m' w' := rfl
@[simp] theorem State.eccOf_emit (s : State) (o : OutMsg) (m' : MemId) (w' : Nat) : (s.emit o).eccOf m' w' = s.eccOf m' w' := rfl
@[simp] theorem State.eccOf_freeBit (s : State) (m' : MemId) (w' : Nat) : (s.freeBit.2).eccOf m' w' = s.eccOf m' w' := rfl
@[simp] theorem State.eccOf_freeWord (s : State) (m' : MemId) (w' : Nat) : (s.freeWord.2).eccOf m' w' = s.eccOf m' w' := rfl
@[simp] theorem State.eccOf_freeNat (s : State) (m' : MemId) (w' : Nat) : (s.freeNat.2).eccOf m' w' = s.eccOf m' w' := rfl

@[simp] theorem State.core_setCore_same (s : State) (d k : Nat) (v : Core) : (s.setCore d k v).core d k = v := Tab.get_set_same ..
theorem State.core_setCore_ne (s : State) (d k : Nat) (v : Core) (d' x' : Nat) (h : (d', x') ≠ (d, k)) : (s.setCore d k v).core d' x' = s.core d' x' := Tab.get_set_ne _ _ _ _ _ h
@[simp] theorem State.setCore_setCore (s : State) (d k : Nat) (v w : Core) : (s.setCore d k v).setCore d k w = s.setCore d k w := by simp [State.setCore, Tab.set_set]
@[simp] theorem State.lane_setLane_same (s : State) (d j : Nat) (v : Lane) : (s.setLane d j v).lane d j = v := Tab.get_set_same ..
theorem State.lane_setLane_ne (s : State) (d j : Nat) (v : Lane) (d' x' : Nat) (h : (d', x') ≠ (d, j)) : (s.setLane d j v).lane d' x' = s.lane d' x' := Tab.get_set_ne _ _ _ _ _ h
@[simp] theorem State.setLane_setLane (s : State) (d j : Nat) (v w : Lane) : (s.setLane d j v).setLane d j w = s.setLane d j w := by simp [State.setLane, Tab.set_set]
@[simp] theorem State.link_setLink_same (s : State) (d m : Nat) (v : Link) : (s.setLink d m v).link d m = v := Tab.get_set_same ..
theorem State.link_setLink_ne (s : State) (d m : Nat) (v : Link) (d' x' : Nat) (h : (d', x') ≠ (d, m)) : (s.setLink d m v).link d' x' = s.link d' x' := Tab.get_set_ne _ _ _ _ _ h
@[simp] theorem State.setLink_setLink (s : State) (d m : Nat) (v w : Link) : (s.setLink d m v).setLink d m w = s.setLink d m w := by simp [State.setLink, Tab.set_set]
@[simp] theorem State.ing_setIng_same (s : State) (d : Nat) (v : Ing) : (s.setIng d v).ing d = v := Tab.get_set_same ..
theorem State.ing_setIng_ne (s : State) (d : Nat) (v : Ing) (x' : Nat) (h : x' ≠ d) : (s.setIng d v).ing x' = s.ing x' := Tab.get_set_ne _ _ _ _ _ h
@[simp] theorem State.setIng_setIng (s : State) (d : Nat) (v w : Ing) : (s.setIng d v).setIng d w = s.setIng d w := by simp [State.setIng, Tab.set_set]
@[simp] theorem State.thermOf_setTherm_same (s : State) (d : Nat) (v : Therm) : (s.setTherm d v).thermOf d = v := Tab.get_set_same ..
theorem State.thermOf_setTherm_ne (s : State) (d : Nat) (v : Therm) (x' : Nat) (h : x' ≠ d) : (s.setTherm d v).thermOf x' = s.thermOf x' := Tab.get_set_ne _ _ _ _ _ h
@[simp] theorem State.setTherm_setTherm (s : State) (d : Nat) (v w : Therm) : (s.setTherm d v).setTherm d w = s.setTherm d w := by simp [State.setTherm, Tab.set_set]
@[simp] theorem State.canOf_setCan_same (s : State) (c : Nat) (v : Can) : (s.setCan c v).canOf c = v := Tab.get_set_same ..
theorem State.canOf_setCan_ne (s : State) (c : Nat) (v : Can) (x' : Nat) (h : x' ≠ c) : (s.setCan c v).canOf x' = s.canOf x' := Tab.get_set_ne _ _ _ _ _ h
@[simp] theorem State.setCan_setCan (s : State) (c : Nat) (v w : Can) : (s.setCan c v).setCan c w = s.setCan c w := by simp [State.setCan, Tab.set_set]
@[simp] theorem State.queue_setQueue_same (s : State) (q : Nat) (v : Queue) : (s.setQueue q v).queue q = v := Tab.get_set_same ..
theorem State.queue_setQueue_ne (s : State) (q : Nat) (v : Queue) (x' : Nat) (h : x' ≠ q) : (s.setQueue q v).queue x' = s.queue x' := Tab.get_set_ne _ _ _ _ _ h
@[simp] theorem State.setQueue_setQueue (s : State) (q : Nat) (v w : Queue) : (s.setQueue q v).setQueue q w = s.setQueue q w := by simp [State.setQueue, Tab.set_set]
@[simp] theorem State.mem_setMem_same (s : State) (m : MemId) (c : Cells) : (s.setMem m c).mem m = c := Tab.get_set_same ..
theorem State.mem_setMem_ne (s : State) (m m' : MemId) (c : Cells) (h : m' ≠ m) : (s.setMem m c).mem m' = s.mem m' := Tab.get_set_ne _ _ _ _ _ h
@[simp] theorem State.setMem_setMem (s : State) (m : MemId) (c c' : Cells) : (s.setMem m c).setMem m c' = s.setMem m c' := by simp [State.setMem, Tab.set_set]

end Sys2Proof.Machine
end

