-- ==== Sys2Proof/Laws/Cores.lean ====
section
/-! SUPPORT. What fetching, spending cycles and going on do to a scan core (R57, R63, R77, R83, R84). -/

namespace Sys2Proof.Machine

@[simp] theorem State.eccGood_setCore (s : State) (d k : Nat) (c : Core) (m : MemId) (a n : Nat) :
    (s.setCore d k c).eccGood m a n = s.eccGood m a n := rfl
@[simp] theorem State.load_setCore (s : State) (d k : Nat) (c : Core) (m : MemId) (a n : Nat) :
    (s.setCore d k c).load m a n = s.load m a n := rfl

/-- Bytes without ECC errors are read, and nothing changes (R540). -/
theorem State.readBytes_good (s : State) (m : MemId) (a n : Nat) (h : s.eccGood m a n = true) :
    s.readBytes m a n = (some ((s.mem m).getList a n), s) := by
  have hb : ∀ e, e ≠ Ecc.good → (eccUnits m a n).filter (fun w => decide (s.eccOf m w = e)) = [] := by
    intro e he
    rw [List.filter_eq_nil_iff]
    intro w hw
    have := List.all_eq_true.1 h w hw
    simp only [decide_eq_true_eq] at this
    simp [this, he.symm]
  simp [State.readBytes, State.eccRead, hb, State.each]

theorem State.codeGood_succ (s : State) (d k a n : Nat) (h : s.codeGood d k a (n + 1) = true) :
    fetchable a = true ∧ (∃ m o, s.iLoc d k a = some (m, o) ∧ s.eccGood m o 2 = true) ∧ s.codeGood d k (a + 1) n = true := by
  simp only [State.codeGood, List.range_succ_eq_map, List.all_cons, List.all_map, Bool.and_eq_true] at h
  obtain ⟨⟨h1, h2⟩, h3⟩ := h
  refine ⟨by simpa using h1, ?_, ?_⟩
  · simp only [Nat.add_zero] at h2
    cases e : s.iLoc d k a with
    | none => simp [e] at h2
    | some x => exact ⟨x.1, x.2, rfl, by simpa [e] using h2⟩
  · simp only [State.codeGood]
    rw [List.all_eq_true] at h3 ⊢
    intro i hi
    have := h3 i hi
    simpa [Nat.add_assoc, Nat.add_comm 1 i, Nat.succ_eq_add_one] using this

/-- Code without ECC errors is fetched, and nothing changes. -/
theorem State.fetch_good (s : State) (d k a n : Nat) (h : s.codeGood d k a n = true) : s.fetch d k a n = .ok s := by
  induction n generalizing a with
  | zero => rfl
  | succ n ih =>
    obtain ⟨h1, ⟨m, o, h2, h3⟩, h4⟩ := s.codeGood_succ d k a n h
    simp [State.fetch, h1, State.iBytes, h2, s.readBytes_good m o 2 h3, ih _ h4]

theorem State.codeGood_le (s : State) (d k a n m : Nat) (h : s.codeGood d k a n = true) (l : m ≤ n) : s.codeGood d k a m = true := by
  simp only [State.codeGood, List.all_eq_true, List.mem_range] at h ⊢
  exact fun i hi => h i (by omega)

/-- Nothing is entered at a boundary where no bus error is pending and no entry waits (R114). -/
theorem State.boundary_quiet (s : State) (d k : Nat) (h : (s.core d k).busErr = false) (w : (s.core d k).wait = none) :
    s.boundary d k = s := by
  simp [State.boundary, h, w]

/-- A core that runs waits for no entry. -/
theorem State.coreRuns_wait (s : State) (d k : Nat) (h : s.coreRuns d k = true) : (s.core d k).wait = none := by
  simp only [State.coreRuns, State.coreLive, Bool.and_eq_true, Option.isNone_iff_eq_none] at h
  exact h.1.2

end Sys2Proof.Machine
end

