-- ==== Sys2Proof/Laws/Memory.lean ====
section
/-! SUPPORT. Memories: what bytes read as after a write, that every memory operation keeps the canonical form, and how
accesses of a scan core to memory end that nothing refuses (R7, R45, R48, R66, R73 to R77, R540). -/

namespace Sys2Proof.Machine

/-! ### Bytes -/

theorem Cells.get_set (m : Cells) (a a' : Nat) (b : Byte) : (m.set a b).get a' = if a' = a then b else m.get a' := by
  by_cases h : a' = a
  · subst h
    simp [Cells.get, Cells.set]
  · simp [Cells.get, Cells.set, h, Tab.get_set_ne _ _ _ _ _ h]

/-- Writing a list of bytes writes byte i at address a + i, and nothing else. -/
theorem Cells.get_setList (m : Cells) (a a' : Nat) (bs : List Byte) :
    (m.setList a bs).get a' = if a ≤ a' ∧ a' < a + bs.length then bs.getD (a' - a) 0 else m.get a' := by
  induction bs generalizing m a with
  | nil => simp [Cells.setList]
  | cons b bs ih =>
    rw [Cells.setList, ih, Cells.get_set]
    by_cases h : a' = a
    · subst h
      simp
    · by_cases c : a + 1 ≤ a' ∧ a' < a + 1 + bs.length
      · have e : a' - a = (a' - (a + 1)) + 1 := by omega
        rw [if_pos c, if_pos (by simp; omega), e]
        simp
      · rw [if_neg c, if_neg h, if_neg (by simp; omega)]

/-- Bytes read back as they were written. -/
theorem Cells.getList_setList (m : Cells) (a : Nat) (bs : List Byte) : (m.setList a bs).getList a bs.length = bs := by
  have h : ∀ (n i : Nat), i + n = bs.length → (m.setList a bs).getList (a + i) n = bs.drop i := by
    intro n
    induction n with
    | zero => intro i hi; simp [Cells.getList, List.drop_of_length_le (show bs.length ≤ i by omega)]
    | succ n ih =>
      intro i hi
      have hi' : i < bs.length := by omega
      rw [Cells.getList, Cells.get_setList, show a + i + 1 = a + (i + 1) by omega, ih (i + 1) (by omega)]
      rw [List.drop_eq_getElem_cons hi']
      simp [hi']
  simpa using h bs.length 0 (by omega)

@[simp] theorem leBytes_length (n v : Nat) : (leBytes n v).length = n := by
  induction n generalizing v with
  | zero => rfl
  | succ n ih => simp [leBytes, ih]

theorem leNat_leBytes (n v : Nat) : leNat (leBytes n v) = v % 256 ^ n := by
  induction n generalizing v with
  | zero => simp [leBytes, leNat, Nat.mod_one]
  | succ n ih =>
    simp only [leBytes, leNat, ih, BitVec.toNat_ofNat]
    rw [show 256 ^ (n + 1) = 256 * 256 ^ n by rw [Nat.pow_succ, Nat.mul_comm], Nat.mod_mul]

theorem Cells.wf_set (m : Cells) (a : Nat) (b : Byte) (h : m.wf = true) : (m.set a b).wf = true :=
  Tab.wf_set (fun k => k) (fun _ _ e => e) (fun _ => Cells.dflt) a b m h

/-- Writing bytes keeps the canonical form of a memory. -/
theorem Cells.wf_setList (m : Cells) (a : Nat) (bs : List Byte) (h : m.wf = true) : (m.setList a bs).wf = true := by
  induction bs generalizing m a with
  | nil => exact h
  | cons b bs ih => exact ih _ _ (m.wf_set a b h)

theorem Cells.wf_filter (m : Cells) (p : Nat × Byte → Bool) (h : m.wf = true) : Cells.wf (m.filter p) = true :=
  Tab.wf_filter _ _ p m h

/-- Addresses moved in order keep the canonical form of a memory. -/
theorem Cells.wf_map (m : Cells) (g : Nat → Nat) (h : m.wf = true) (mono : ∀ e ∈ m, ∀ e' ∈ m, e.1 < e'.1 → g e.1 < g e'.1) :
    Cells.wf (m.map fun e => (g e.1, e.2)) = true := by
  induction m with
  | nil => rfl
  | cons x m ih =>
    obtain ⟨a, v⟩ := x
    obtain ⟨h1, h2, h3⟩ := (Tab.wf_cons _ _ a v m).1 h
    refine (Tab.wf_cons ..).2 ⟨h1, fun e he => ?_, ih h3 fun e he e' he' => mono e (List.mem_cons_of_mem _ he) e' (List.mem_cons_of_mem _ he')⟩
    obtain ⟨y, hy, rfl⟩ := List.mem_map.1 he
    exact mono (a, v) List.mem_cons_self y (List.mem_cons_of_mem _ hy) (h2 y hy)

theorem Cells.wf_slice (m : Cells) (lo n : Nat) (h : m.wf = true) : (m.slice lo n).wf = true := by
  refine Cells.wf_map _ (fun a => a - lo) (m.wf_filter _ h) fun e he e' _ lt => ?_
  have := List.of_mem_filter he
  simp only [decide_eq_true_eq] at this
  show e.1 - lo < e'.1 - lo
  omega

/-- A range of a memory replaced by cells in canonical form keeps the canonical form. -/
theorem Cells.wf_splice (m c : Cells) (lo n : Nat) (h : m.wf = true) (hc : c.wf = true) :
    Cells.wf ((m.filter fun e => decide (e.1 < lo)) ++ (c.slice 0 n).map (fun e => (e.1 + lo, e.2)) ++
      m.filter fun e => decide (lo + n ≤ e.1)) = true := by
  have mid : ∀ e ∈ (c.slice 0 n).map (fun e => (e.1 + lo, e.2)), lo ≤ e.1 ∧ e.1 < lo + n := by
    intro e he
    obtain ⟨y, hy, rfl⟩ := List.mem_map.1 he
    obtain ⟨z, hz, rfl⟩ := List.mem_map.1 hy
    have := List.of_mem_filter hz
    simp only [decide_eq_true_eq] at this
    dsimp only
    omega
  refine Tab.wf_append _ _ _ _ (Tab.wf_append _ _ _ _ (m.wf_filter _ h) ?_ fun e he e' he' => ?_) (m.wf_filter _ h) fun e he e' he' => ?_
  · exact Cells.wf_map _ (fun a => a + lo) (c.wf_slice 0 n hc) fun _ _ _ _ lt => Nat.add_lt_add_right lt lo
  · have a := List.of_mem_filter he
    have b := mid e' he'
    simp only [decide_eq_true_eq] at a
    show e.1 < e'.1
    omega
  · have b := List.of_mem_filter he'
    simp only [decide_eq_true_eq] at b
    show e.1 < e'.1
    rcases List.mem_append.1 he with he | he
    · have a := List.of_mem_filter he
      simp only [decide_eq_true_eq] at a
      omega
    · have a := mid e he
      omega

theorem Memory.wf_get (ms : Tab MemId Cells) (m : MemId) (h : Memory.wf ms = true) : (Tab.get ms m []).wf = true := by
  simp only [Memory.wf, Bool.and_eq_true, List.all_eq_true] at h
  unfold Tab.get
  cases e : Tab.find ms m with
  | none => rfl
  | some c => exact h.2 _ (Tab.find_mem ms m c e)

/-- Replacing a memory by one in canonical form keeps the canonical form. -/
theorem Memory.wf_set (ms : Tab MemId Cells) (m : MemId) (c : Cells) (h : Memory.wf ms = true) (hc : c.wf = true) :
    Memory.wf (Tab.set MemId.code ms m [] c) = true := by
  simp only [Memory.wf, Bool.and_eq_true, List.all_eq_true] at h ⊢
  refine ⟨Tab.wf_set MemId.code memId_code_inj (fun _ => []) m c ms h.1, fun e he => ?_⟩
  rcases Tab.mem_set MemId.code ms m [] c e he with rfl | he
  · exact hc
  · exact h.2 e he

/-! ### The canonical form of the state -/

theorem State.wf_mem (s : State) (m : MemId) (h : s.wf = true) : (s.mem m).wf = true := by
  simp only [State.wf, Bool.and_eq_true] at h
  exact Memory.wf_get _ _ h.1

/-- A memory replaced by one in canonical form. -/
theorem State.wf_setMem (s : State) (m : MemId) (c : Cells) (h : s.wf = true) (hc : c.wf = true) : (s.setMem m c).wf = true := by
  simp only [State.wf, Bool.and_eq_true] at h ⊢
  exact ⟨Memory.wf_set _ _ _ h.1 hc, h.2⟩

/-- Bytes stored, zeroed or moved keep the canonical form. -/
theorem State.wf_storeBytes (s : State) (m : MemId) (a : Nat) (l : List Byte) (h : s.wf = true) : (s.storeBytes m a l).wf = true :=
  s.wf_setMem m _ h (Cells.wf_setList _ a l (s.wf_mem m h))

theorem State.wf_zeroMem (s : State) (m : MemId) (a n : Nat) (h : s.wf = true) : (s.zeroMem m a n).wf = true :=
  s.wf_setMem m _ h (Cells.wf_filter _ _ (s.wf_mem m h))

theorem State.wf_putSlice (s : State) (m : MemId) (lo n : Nat) (c : Cells) (h : s.wf = true) (hc : c.wf = true) :
    (s.putSlice m lo n c).wf = true :=
  s.wf_setMem m _ h (Cells.wf_splice _ c lo n (s.wf_mem m h) hc)

/-- A register written keeps the canonical form. -/
theorem State.wf_wr (s : State) (b : Blk) (f : Field) (v : Nat) (h : s.wf = true) : (s.wr b f v).wf = true := by
  simp only [State.wf, Bool.and_eq_true] at h ⊢
  exact ⟨h.1, Tab.wf_set RegKey.code regKey_code_inj RegKey.reset (f.key b) _ _ h.2⟩

/-- What every step of a list keeps, the list keeps. -/
theorem State.wf_each {α : Type} (l : List α) (f : State → α → State) (h : ∀ t a, t.wf = true → (f t a).wf = true) (s : State)
    (hs : s.wf = true) : (s.each l f).wf = true := by
  induction l generalizing s with
  | nil => exact hs
  | cons a l ih => exact ih _ (h s a hs)

/-! ### Accesses of a scan core -/

theorem State.dBehind_none (s : State) (d k a : Nat) (h : s.heldOf (.core d k) = []) : s.dBehind d k a = false := by
  simp [State.dBehind, h]

/-- A load that nothing refuses gives the bytes of memory, and nothing changes (R73). -/
theorem State.coreLoad_ok (s : State) (d k a n : Nat) (m : MemId) (o : Nat) (h : s.canLoad d k a n m o = true) :
    s.coreLoad d k a n = .ok (s.load m o n) s := by
  simp only [State.canLoad, Bool.and_eq_true, decide_eq_true_eq] at h
  obtain ⟨⟨⟨h1, h2⟩, h3⟩, h4⟩ := h
  have h3' : s.dLoc (.core d k) a = .ok (m, o) := by
    simp only [State.lies] at h3
    split at h3 <;> simp_all
  simp [State.coreLoad, s.dBehind_none d k a h1, State.dRead, h2, h3', s.readBytes_good m o n h4, State.load]

/-! ### What a store leaves of the scan cores and of the writes that are held -/

/-- The scan cores and the writes held in the requesters' paths, which memory and registers do not touch. -/
def State.side (s : State) : Tab (Nat × Nat) Core × Tab Nat (List Posted) := (s.cores, s.held)

theorem State.heldOf_of_side (s t : State) (r : Req) (h : t.side = s.side) : t.heldOf r = s.heldOf r := by
  simp only [State.heldOf, show t.held = s.held from congrArg Prod.snd h]

theorem State.overfull_of_side (s t : State) (d k : Nat) (h : t.side = s.side) : t.overfull d k = s.overfull d k := by
  simp only [State.overfull, State.heldOf_of_side s t _ h]

theorem State.each_side {α : Type} (l : List α) (f : State → α → State) (h : ∀ t a, (f t a).side = t.side) (s : State) :
    (s.each l f).side = s.side := by
  induction l generalizing s with
  | nil => rfl
  | cons a l ih => rw [State.each, ih, h]

@[simp] theorem State.wr_side (s : State) (b : Blk) (f : Field) (v : Nat) : (s.wr b f v).side = s.side := rfl
@[simp] theorem State.setEcc_side (s : State) (m : MemId) (w : Nat) (e : Ecc) : (s.setEcc m w e).side = s.side := rfl
@[simp] theorem State.storeBytes_side (s : State) (m : MemId) (a : Nat) (l : List Byte) : (s.storeBytes m a l).side = s.side := rfl
@[simp] theorem State.bump_side (s : State) (b : Blk) (f : Field) (n : Nat) : (s.bump b f n).side = s.side := rfl
@[simp] theorem State.orBits_side (s : State) (b : Blk) (f : Field) (m : Nat) : (s.orBits b f m).side = s.side := rfl
@[simp] theorem State.clrBits_side (s : State) (b : Blk) (f : Field) (m : Nat) : (s.clrBits b f m).side = s.side := rfl
@[simp] theorem State.setBit_side (s : State) (b : Blk) (f : Field) (i : Nat) (v : Bool) : (s.setBit b f i v).side = s.side := by
  unfold State.setBit
  split <;> rfl
@[simp] theorem State.dirty_side (s : State) (n : Nat) : (s.dirty n).side = s.side := State.setBit_side ..
@[simp] theorem State.raiseAt_side (s : State) (b : Blk) (n : Nat) : (s.raiseAt b n).side = s.side := by
  simp only [State.raiseAt]
  split <;> simp
@[simp] theorem State.raiseDie_side (s : State) (d n : Nat) : (s.raiseDie d n).side = s.side := State.raiseAt_side ..
@[simp] theorem State.offerRec_side (s : State) (r : Offered) : (s.offerRec r).side = s.side := by
  simp only [State.offerRec]
  split <;> rfl
@[simp] theorem State.offer_side (s : State) (c : Nat) (n : Node) (l : List Nat) : (s.offer c n l).side = s.side :=
  State.offerRec_side ..
@[simp] theorem State.wrs_side (s : State) (b : Blk) (l : List (Field × Nat)) : (s.wrs b l).side = s.side :=
  State.each_side l (fun t p => t.wr b p.1 p.2) (fun _ _ => rfl) s
@[simp] theorem State.wrOf_side (s : State) (b : Blk) (l : List Field) (w : Nat) : (s.wrOf b l w).side = s.side :=
  State.each_side l (fun t f => t.wr b f (f.of w)) (fun _ _ => rfl) s

@[simp] theorem State.eccCorrect_side (s : State) (m : MemId) (w : Nat) : (s.eccCorrect m w).side = s.side := by
  cases m <;> simp [State.eccCorrect]
@[simp] theorem State.eccReport_side (s : State) (m : MemId) (w : Nat) : (s.eccReport m w).side = s.side := by
  cases m <;> simp [State.eccReport]
@[simp] theorem State.eccRead_side (s : State) (m : MemId) (a n : Nat) : (s.eccRead m a n).2.side = s.side := by
  simp only [State.eccRead]
  rw [State.each_side _ _ (by simp), State.each_side _ _ (by simp)]
@[simp] theorem State.readBytes_side (s : State) (m : MemId) (a n : Nat) : (s.readBytes m a n).2.side = s.side :=
  State.eccRead_side ..
@[simp] theorem State.eccWrite_side (s : State) (m : MemId) (a n : Nat) : (s.eccWrite m a n).2.side = s.side := by
  simp only [State.eccWrite]
  split
  · exact State.each_side _ _ (fun t w => by split <;> simp) _
  · exact State.each_side _ _ (by simp) _
@[simp] theorem State.writeBytes_side (s : State) (m : MemId) (a : Nat) (l : List Byte) : (s.writeBytes m a l).2.side = s.side := by
  simp only [State.writeBytes]
  split <;> simp
@[simp] theorem State.imgPart_side (s : State) (r : Req) (o : Nat) (l : List Byte) : (s.imgPart r o l).2.side = s.side := by
  simp only [State.imgPart]
  split
  · split <;> simp
  · simp
@[simp] theorem State.imgParts_side (s : State) (r : Req) (o : Nat) (l : List Byte) (cs : List Nat) :
    (s.imgParts r o l cs).2.side = s.side := by
  induction cs generalizing s o l with
  | nil => rfl
  | cons c cs ih =>
    simp only [State.imgParts]
    split
    · exact ih ..
    · have h := s.imgPart_side r o (l.take (c - o))
      split
      · simp_all
      · simp_all
@[simp] theorem State.touchPages_side (s : State) (o n : Nat) : (s.touchPages o n).side = s.side := rfl
@[simp] theorem State.memWrite_side (s : State) (r : Req) (m : MemId) (o : Nat) (l : List Byte) : (s.memWrite r m o l).2.side = s.side := by
  cases m <;> simp only [State.memWrite, State.writeBytes_side]
  · split <;> split <;> simp
  · split <;> simp

theorem State.core_of_side (s t : State) (d k : Nat) (h : t.side = s.side) : t.core d k = s.core d k := by
  simp only [State.core, show t.cores = s.cores from congrArg Prod.fst h]

/-- A store that completes (R45, R73). -/
theorem State.coreStore_ok (s : State) (d k a n v : Nat) (m : MemId) (o : Nat) (h : s.canStore d k a (leBytes n v) m o = true) :
    s.coreStore d k a n v = .ok () (s.memWrite (.core d k) m o (leBytes n v)).2 := by
  simp only [State.canStore, Bool.and_eq_true, decide_eq_true_eq] at h
  obtain ⟨⟨⟨h1, h2⟩, h3⟩, h4⟩ := h
  have h3' : s.dLoc (.core d k) a = .ok (m, o) := by
    simp only [State.lies] at h3
    split at h3 <;> simp_all
  simp only [State.coreStore, State.postBytes, h1, if_true, State.dWrite, h2, h3']
  generalize hw : s.memWrite (.core d k) m o (leBytes n v) = w at h4
  obtain ⟨b, t⟩ := w
  simp_all [State.postAcc, Post.got]

theorem putBit_mask (b i : Nat) (v : Bool) : clearBits b (2 ^ i) ||| (v.toNat * 2 ^ i &&& 2 ^ i) = putBit b i v := by
  cases v
  · simp [putBit, clearBits]
  · simp only [putBit, clearBits, Bool.toNat_true, Nat.one_mul, Nat.and_self, if_true]
    apply Nat.eq_of_testBit_eq
    intro j
    by_cases h : i = j <;> simp [h]

theorem withBit_eq (b i : Nat) (v : Bool) : withBit b i v = putBit b i v := by
  rw [← putBit_mask]
  cases v <;> simp [withBit]

/-- A bit store that completes: a masked write of its byte (R66). -/
theorem State.coreBit_ok (s : State) (d k a i : Nat) (v : Bool) (m : MemId) (o : Nat) (h : s.canLoad d k a 1 m o = true)
    (h' : s.canStore d k a (leBytes 1 (putBit (s.load m o 1) i v)) m o = true) :
    s.coreBit d k a i v = .ok () (s.memWrite (.core d k) m o (leBytes 1 (putBit (s.load m o 1) i v))).2 := by
  simp only [State.canLoad, State.canStore, Bool.and_eq_true, decide_eq_true_eq, leBytes_length] at h h'
  obtain ⟨⟨⟨h1, _⟩, h3⟩, h4⟩ := h
  obtain ⟨⟨⟨_, h2⟩, _⟩, h5⟩ := h'
  have h3' : s.dLoc (.core d k) a = .ok (m, o) := by
    simp only [State.lies] at h3
    split at h3 <;> simp_all
  simp only [State.coreBit, State.postBits, h1, if_true, State.dBits, h2, h3', s.readBytes_good m o 1 h4, putBit_mask]
  simp only [State.load] at h5 ⊢
  generalize hw : s.memWrite (.core d k) m o _ = w at h5
  obtain ⟨b, t⟩ := w
  simp_all [State.postAcc, Post.got]

/-- An indivisible read-modify-write that completes (R66, R75). -/
theorem State.coreRmw_ok (s : State) (d k a n : Nat) (f : Nat → Nat) (m : MemId) (o : Nat) (h : s.canLoad d k a n m o = true)
    (h' : s.canStore d k a (leBytes n (f (s.load m o n))) m o = true) :
    s.coreRmw d k a n f = .ok (s.load m o n) (s.memWrite (.core d k) m o (leBytes n (f (s.load m o n)))).2 := by
  simp only [State.canLoad, State.canStore, Bool.and_eq_true, decide_eq_true_eq, leBytes_length] at h h'
  obtain ⟨⟨⟨h1, h0⟩, h3⟩, h4⟩ := h
  obtain ⟨⟨⟨_, h2⟩, _⟩, h5⟩ := h'
  have h3' : s.dLoc (.core d k) a = .ok (m, o) := by
    simp only [State.lies] at h3
    split at h3 <;> simp_all
  simp only [State.coreRmw, s.dBehind_none d k a h1, Bool.false_eq_true, if_false, State.dRmw, h2, State.dRead, h0, h3',
    s.readBytes_good m o n h4, State.dWrite, leBytes_length]
  simp only [State.load] at h5 ⊢
  generalize hw : s.memWrite (.core d k) m o _ = w at h5
  obtain ⟨b, t⟩ := w
  simp_all

end Sys2Proof.Machine
end

