-- ==== Sys2Proof/Laws/Stack.lean ====
section
/-! SUPPORT. What a stack-form instruction does whose code is good and whose stacks hold what it takes and have room for
what it puts (R53 to R58, R63, R84). -/

namespace Sys2Proof.Machine

/-- The stacks hold what an instruction takes, and have room in hardware for what it puts onto them (R57, R58). -/
def Use.fits (u : Use) (h : Hot) : Prop :=
  u.dn ≤ h.ds.length ∧ h.ds.length - u.dn + u.dp ≤ 32 ∧ u.rn ≤ h.rs.length ∧
    (u.rn < u.rp → h.rs.length - u.rn + u.rp ≤ 64) ∧ u.tn ≤ h.ts.length ∧ (u.tn < u.tp → h.ts.length - u.tn + u.tp ≤ 32)

theorem Use.fits_fills (u : Use) (h : Hot) (f : u.fits h) : u.fills h = 0 := by
  obtain ⟨_, _⟩ := f
  simp [Use.fills]
  omega

theorem Use.fits_spills (u : Use) (h : Hot) (f : u.fits h) : u.spills h = 0 := by
  have := u.fits_fills h f
  obtain ⟨_, _⟩ := f
  simp only [Use.spills, this]
  omega

theorem Use.fits_exhausted (u : Use) (h : Hot) (f : u.fits h) : u.exhausted h = none := by
  have h1 := u.fits_fills h f
  have h2 := u.fits_spills h f
  obtain ⟨_, _, _, _, _, _⟩ := f
  simp only [Use.exhausted, h1, h2]
  repeat' split
  all_goals first | rfl | omega

theorem Use.fits_unaligned (u : Use) (h : Hot) (f : u.fits h) : u.unaligned h = false := by
  simp [Use.unaligned, u.fits_fills h f, u.fits_spills h f]

/-- Setting a core's record anew commutes with updates elsewhere: the last one counts. -/
theorem State.core_ready (s : State) (d k len : Nat) (f : Bool) (h : s.ready d k len f = true) :
    s.coreRuns d k = true ∧ (s.core d k).form = f ∧ (s.core d k).busErr = false ∧ s.codeGood d k (s.core d k).pc len = true ∧
      (∀ b, (s.core d k).br = some b → b.toMem = false) ∧ (s.core d k).wait = none ∧ s.overfull d k = false := by
  simp only [State.ready, Bool.and_eq_true, decide_eq_true_eq, Bool.not_eq_true'] at h
  obtain ⟨⟨⟨⟨⟨h1, h2⟩, h3⟩, h4⟩, h6⟩, h5⟩ := h
  refine ⟨h1, h2, h3, h4, fun b hb => ?_, s.coreRuns_wait d k h1, h6⟩
  simpa [hb] using h5

/-- What an instruction takes. -/
def Use.ins (u : Use) (h : Hot) : Ins := { d := h.ds.take u.dn, r := h.rs.take u.rn, t := h.ts.take u.tn }

/-- A stack-form instruction that runs hands its body what it takes. -/
theorem State.runS_ready (s : State) (d k opc len : Nat) (u : Use) (cost : Nat) (body : Ins → State → Body) (inSlot : Bool)
    (after : State → State) (h : s.ready d k len true = true) (l : 1 ≤ len) (sl : inSlot = true ∨ (s.core d k).br = none)
    (f : u.fits (s.core d k).hot) :
    s.runS d k opc len u cost body inSlot after =
      match body (u.ins (s.core d k).hot) s with
      | .trap c t => (t.unstack d k (s.core d k).hot).trap d k opc len c
      | .stall t => (t.unstack d k (s.core d k).hot).stalled d k
      | .done ds rs ts t =>
        if (t.results d k u ds rs ts).overfull d k then s.stalled d k
        else (after (((t.results d k u ds rs ts).spend d k cost).advance d k len (s.core d k).br)).boundary d k := by
  obtain ⟨h1, h2, h3, h4, h5, _, _⟩ := s.core_ready d k len true h
  have e1 := s.fetch_good d k _ 1 (s.codeGood_le d k _ len 1 h4 l)
  have e2 : s.codeGood d k ((s.core d k).pc + 1) (len - 1) = true := by
    obtain ⟨n, rfl⟩ : ∃ n, len = n + 1 := ⟨len - 1, by omega⟩
    simpa using (s.codeGood_succ d k _ n h4).2.2
  have e3 := s.fetch_good d k _ _ e2
  have sl' : (!inSlot && (s.core d k).br.isSome) = false := by
    rcases sl with h | h <;> simp [h]
  have fl : s.putFilled d k [] = s := by simp [State.putFilled]
  simp only [State.runS, h1, h2, Bool.and_self, if_true, e1, e3, sl', Bool.false_eq_true, if_false, u.fits_exhausted _ f,
    u.fits_unaligned _ f, State.stackBody, u.fits_fills _ f, State.fillWords, fl, u.fits_spills _ f,
    State.spillRefused, Use.ins]
  rfl

/-- A core goes on from an instruction outside a delay slot, or after the slot of a branch (R63, R84). -/
def Core.goOn (c : Core) (slot : Option Br) (len cost : Nat) : Core :=
  match slot with
  | none => { c with pc := (c.pc + len) % 2 ^ 32, busy := false, cyc := c.cyc + cost + enterCost c.pc ((c.pc + len) % 2 ^ 32) false }
  | some b =>
    { c with pc := b.tgt % 2 ^ 32, br := none, busy := false, cyc := c.cyc + cost + enterCost c.pc (b.tgt % 2 ^ 32) (b.tgt ≠ c.pc + len) }

theorem Core.goOn_br (c : Core) (len cost : Nat) : c.goOn c.br len cost = c.after len cost := by
  cases h : c.br <;> simp [Core.goOn, Core.after, h]

/-- Spending cycles and going on. -/
theorem State.spend_advance (t : State) (d k len cost : Nat) (slot : Option Br)
    (hb : (t.core d k).busErr = false) (hw : (t.core d k).wait = none) (hm : ∀ b, slot = some b → b.toMem = false) :
    ((t.spend d k cost).advance d k len slot).boundary d k = t.setCore d k ((t.core d k).goOn slot len cost) := by
  cases slot with
  | none =>
    rw [State.boundary_quiet]
    · simp [State.spend, State.advance, Core.goTo, Core.goOn]
    · simp [State.spend, State.advance, Core.goTo, hb]
    · simp [State.spend, State.advance, Core.goTo, hw]
  | some b =>
    have := hm b rfl
    rw [State.boundary_quiet]
    · simp [State.spend, State.advance, Core.goTo, Core.goOn, this, Core.clearBr]
    · simp [State.spend, State.advance, Core.goTo, this, Core.clearBr, hb]
    · simp [State.spend, State.advance, Core.goTo, this, Core.clearBr, hw]

/-- Results put onto stacks with room for them. -/
theorem State.results_room (t : State) (d k : Nat) (u : Use) (ds : List Word) (rs : List Bool) (ts : List Word)
    (n : ds.length + ((t.core d k).hot.ds.length - u.dn) ≤ 32) :
    t.results d k u ds rs ts = t.setCore d k { t.core d k with hot :=
        { (t.core d k).hot with
          ds := ds ++ (t.core d k).hot.ds.drop u.dn
          rs := rs ++ (t.core d k).hot.rs.drop u.rn
          ts := ts ++ (t.core d k).hot.ts.drop u.tn } } := by
  have n' : (ds ++ (t.core d k).hot.ds.drop u.dn).length ≤ 32 := by simpa using n
  have n1 : List.drop 32 (ds ++ (t.core d k).hot.ds.drop u.dn) = [] := by simp only [List.drop_eq_nil_iff]; exact n'
  have n2 : List.take 32 (ds ++ (t.core d k).hot.ds.drop u.dn) = ds ++ (t.core d k).hot.ds.drop u.dn := List.take_of_length_le n'
  simp only [State.results, n1, List.reverse_nil, State.spillWords, Core.restack, n2, List.length_nil, Nat.mul_zero, Nat.sub_zero]

/-- Results with room for them leave the core's queue as it stood. -/
theorem State.overfull_results (t : State) (d k : Nat) (u : Use) (ds : List Word) (rs : List Bool) (ts : List Word)
    (n : ds.length + ((t.core d k).hot.ds.length - u.dn) ≤ 32) :
    (t.results d k u ds rs ts).overfull d k = t.overfull d k := by
  rw [State.results_room t d k u ds rs ts n]
  rfl

/-- Going on with results. -/
theorem State.done_goOn (t : State) (d k len cost : Nat) (u : Use) (ds : List Word) (rs : List Bool) (ts : List Word) (slot : Option Br)
    (hb : (t.core d k).busErr = false) (hw : (t.core d k).wait = none) (hm : ∀ b, slot = some b → b.toMem = false)
    (n : ds.length + ((t.core d k).hot.ds.length - u.dn) ≤ 32) :
    (((t.results d k u ds rs ts).spend d k cost).advance d k len slot).boundary d k =
      t.setCore d k { (t.core d k).goOn slot len cost with hot :=
        { (t.core d k).hot with
          ds := ds ++ (t.core d k).hot.ds.drop u.dn
          rs := rs ++ (t.core d k).hot.rs.drop u.rn
          ts := ts ++ (t.core d k).hot.ts.drop u.tn } } := by
  rw [State.results_room t d k u ds rs ts n, State.spend_advance _ d k len cost slot (by simpa using hb) (by simpa using hw) hm]
  cases slot <;> simp [Core.goOn]

/-- Going on, from a state in which the core stands as it did. -/
theorem State.done_wentOn (s t : State) (d k len cost : Nat) (u : Use) (ds : List Word) (rs : List Bool) (ts : List Word)
    (h : s.ready d k len true = true) (c : t.core d k = s.core d k) (n : ds.length + ((s.core d k).hot.ds.length - u.dn) ≤ 32) :
    (((t.results d k u ds rs ts).spend d k cost).advance d k len (s.core d k).br).boundary d k =
      t.setCore d k { (s.core d k).after len cost with hot :=
        { (s.core d k).hot with
          ds := ds ++ (s.core d k).hot.ds.drop u.dn
          rs := rs ++ (s.core d k).hot.rs.drop u.rn
          ts := ts ++ (s.core d k).hot.ts.drop u.tn } } := by
  obtain ⟨_, _, h3, _, h5, h6, _⟩ := s.core_ready d k len true h
  rw [State.done_goOn t d k len cost u ds rs ts _ (by rw [c]; exact h3) (by rw [c]; exact h6) h5 (by rw [c]; exact n), c, Core.goOn_br]

/-- A stack-form instruction that only computes takes its operands and puts its results. -/
theorem State.pureS_ready (s : State) (d k opc len : Nat) (u : Use) (cost : Nat) (f : Ins → List Word × List Bool × List Word)
    (h : s.ready d k len true = true) (l : 1 ≤ len) (g : u.fits (s.core d k).hot)
    (n : (f (u.ins (s.core d k).hot)).1.length + ((s.core d k).hot.ds.length - u.dn) ≤ 32) :
    s.pureS d k opc len u cost f = s.wentOn d k len cost
      { (s.core d k).hot with
        ds := (f (u.ins (s.core d k).hot)).1 ++ (s.core d k).hot.ds.drop u.dn
        rs := (f (u.ins (s.core d k).hot)).2.1 ++ (s.core d k).hot.rs.drop u.rn
        ts := (f (u.ins (s.core d k).hot)).2.2 ++ (s.core d k).hot.ts.drop u.tn } := by
  rw [State.pureS, State.runS_ready s d k opc len u cost _ true id h l (.inl rfl) g]
  have hv : (s.results d k u (f (u.ins (s.core d k).hot)).1 (f (u.ins (s.core d k).hot)).2.1 (f (u.ins (s.core d k).hot)).2.2).overfull d k =
      false := by rw [State.overfull_results _ _ _ _ _ _ _ n]; exact (s.core_ready d k len true h).2.2.2.2.2.2
  simp only [id, hv, Bool.false_eq_true, if_false]
  rw [State.done_wentOn s _ d k len cost u _ _ _ h rfl n]
  simp [State.wentOn]

end Sys2Proof.Machine
end

