-- ==== Sys2Proof/Laws/Words.lean ====
section
/-! SUPPORT. Stack-form instructions by what they take from the tops of the stacks and put there (R53 to R58). -/

namespace Sys2Proof.Machine

/-- A stack-form instruction that runs hands its body the tops of the stacks. -/
theorem State.runS_take (s : State) (d k opc len : Nat) (u : Use) (cost : Nat) (body : Ins → State → Body) (inSlot : Bool)
    (after : State → State) (ds dr : List Word) (rs rr : List Bool) (ts tr : List Word)
    (h : s.ready d k len true = true) (sl : inSlot = true ∨ (s.core d k).br = none)
    (hd : (s.core d k).hot.ds = ds ++ dr) (hr : (s.core d k).hot.rs = rs ++ rr) (ht : (s.core d k).hot.ts = ts ++ tr)
    (ud : u.dn = ds.length) (ur : u.rn = rs.length) (ut : u.tn = ts.length)
    (ld : dr.length + u.dp ≤ 32) (lr : u.rn < u.rp → rr.length + u.rp ≤ 64) (lt : u.tn < u.tp → tr.length + u.tp ≤ 32)
    (l : 1 ≤ len) :
    s.runS d k opc len u cost body inSlot after =
      match body { d := ds, r := rs, t := ts } s with
      | .trap c t => (t.unstack d k (s.core d k).hot).trap d k opc len c
      | .stall t => (t.unstack d k (s.core d k).hot).stalled d k
      | .done ds rs ts t =>
        if (t.results d k u ds rs ts).overfull d k then s.stalled d k
        else (after (((t.results d k u ds rs ts).spend d k cost).advance d k len (s.core d k).br)).boundary d k := by
  have f : u.fits (s.core d k).hot := by
    simp only [Use.fits, hd, hr, ht, ud, ur, ut, List.length_append]
    refine ⟨by omega, by omega, by omega, fun x => ?_, by omega, fun x => ?_⟩
    · have := lr (by omega)
      omega
    · have := lt (by omega)
      omega
  rw [State.runS_ready s d k opc len u cost body inSlot after h l sl f]
  simp only [Use.ins, hd, hr, ht, ud, ur, ut, List.take_left]
  all_goals rfl

/-- Going on with results on the stacks, from a state in which the core stands as it did. -/
theorem State.done_take (s t : State) (d k len cost : Nat) (u : Use) (ds dr ds' : List Word) (rs rr rs' : List Bool)
    (ts tr ts' : List Word) (h : s.ready d k len true = true) (c : t.core d k = s.core d k)
    (hd : (s.core d k).hot.ds = ds ++ dr) (hr : (s.core d k).hot.rs = rs ++ rr) (ht : (s.core d k).hot.ts = ts ++ tr)
    (ud : u.dn = ds.length) (ur : u.rn = rs.length) (ut : u.tn = ts.length) (ld : dr.length + ds'.length ≤ 32) :
    (((t.results d k u ds' rs' ts').spend d k cost).advance d k len (s.core d k).br).boundary d k =
      t.setCore d k { (s.core d k).after len cost with hot :=
        { (s.core d k).hot with ds := ds' ++ dr, rs := rs' ++ rr, ts := ts' ++ tr } } := by
  rw [State.done_wentOn s t d k len cost u ds' rs' ts' h c (by simp [hd, ud]; omega)]
  simp [hd, hr, ht, ud, ur, ut]

/-- A stack-form instruction that only computes. -/
theorem State.pureS_take (s : State) (d k opc len : Nat) (u : Use) (cost : Nat) (f : Ins → List Word × List Bool × List Word)
    (ds dr ds' : List Word) (rs rr rs' : List Bool) (ts tr ts' : List Word)
    (h : s.ready d k len true = true) (l : 1 ≤ len)
    (hd : (s.core d k).hot.ds = ds ++ dr) (hr : (s.core d k).hot.rs = rs ++ rr) (ht : (s.core d k).hot.ts = ts ++ tr)
    (hf : f { d := ds, r := rs, t := ts } = (ds', rs', ts'))
    (ud : u.dn = ds.length) (ur : u.rn = rs.length) (ut : u.tn = ts.length) (vd : u.dp = ds'.length)
    (ld : dr.length + u.dp ≤ 32) (lr : u.rn < u.rp → rr.length + u.rp ≤ 64) (lt : u.tn < u.tp → tr.length + u.tp ≤ 32) :
    s.pureS d k opc len u cost f =
      s.wentOn d k len cost { (s.core d k).hot with ds := ds' ++ dr, rs := rs' ++ rr, ts := ts' ++ tr } := by
  rw [State.pureS, State.runS_take s d k opc len u cost _ true id ds dr rs rr ts tr h (.inl rfl) hd hr ht ud ur ut ld lr lt l]
  have hv : (s.results d k u ds' rs' ts').overfull d k = false := by
    rw [State.overfull_results _ _ _ _ _ _ _ (by simp [hd, ud]; omega)]; exact (s.core_ready d k len true h).2.2.2.2.2.2
  simp only [hf, id, hv, Bool.false_eq_true, if_false]
  rw [State.done_take s _ d k len cost u ds dr ds' rs rr rs' ts tr ts' h rfl hd hr ht ud ur ut (by omega)]
  simp [State.wentOn]

/-- A stack-form instruction whose body ends with results and leaves the core as it stood. -/
theorem State.runS_done (s t : State) (d k opc len : Nat) (u : Use) (cost : Nat) (body : Ins → State → Body) (inSlot : Bool)
    (ds dr ds' : List Word) (rs rr rs' : List Bool) (ts tr ts' : List Word)
    (h : s.ready d k len true = true) (sl : inSlot = true ∨ (s.core d k).br = none)
    (hd : (s.core d k).hot.ds = ds ++ dr) (hr : (s.core d k).hot.rs = rs ++ rr) (ht : (s.core d k).hot.ts = ts ++ tr)
    (hb : body { d := ds, r := rs, t := ts } s = .done ds' rs' ts' t) (c : t.core d k = s.core d k) (o : t.overfull d k = false)
    (ud : u.dn = ds.length) (ur : u.rn = rs.length) (ut : u.tn = ts.length) (vd : u.dp = ds'.length)
    (ld : dr.length + u.dp ≤ 32) (lr : u.rn < u.rp → rr.length + u.rp ≤ 64) (lt : u.tn < u.tp → tr.length + u.tp ≤ 32)
    (l : 1 ≤ len) :
    s.runS d k opc len u cost body inSlot =
      t.wentOn d k len cost { (s.core d k).hot with ds := ds' ++ dr, rs := rs' ++ rr, ts := ts' ++ tr } := by
  rw [State.runS_take s d k opc len u cost body inSlot id ds dr rs rr ts tr h sl hd hr ht ud ur ut ld lr lt l, hb]
  have hv : (t.results d k u ds' rs' ts').overfull d k = false := by
    rw [State.overfull_results _ _ _ _ _ _ _ (by rw [c]; simp [hd, ud]; omega), o]
  simp only [id, hv, Bool.false_eq_true, if_false]
  rw [State.done_take s t d k len cost u ds dr ds' rs rr rs' ts tr ts' h c hd hr ht ud ur ut (by omega), State.wentOn, c]

/-- A stack-form instruction whose body ends with results and leaves the stacks of the core as they stood. -/
theorem State.runS_goOn (s t : State) (d k opc len : Nat) (u : Use) (cost : Nat) (body : Ins → State → Body) (inSlot : Bool)
    (after : State → State) (ds dr ds' : List Word) (rs rr rs' : List Bool) (ts tr ts' : List Word)
    (h : s.ready d k len true = true) (sl : inSlot = true ∨ (s.core d k).br = none)
    (hd : (s.core d k).hot.ds = ds ++ dr) (hr : (s.core d k).hot.rs = rs ++ rr) (ht : (s.core d k).hot.ts = ts ++ tr)
    (hb : body { d := ds, r := rs, t := ts } s = .done ds' rs' ts' t) (c : (t.core d k).hot = (s.core d k).hot) (o : t.overfull d k = false)
    (ud : u.dn = ds.length) (ur : u.rn = rs.length) (ut : u.tn = ts.length) (vd : u.dp = ds'.length)
    (ld : dr.length + u.dp ≤ 32) (lr : u.rn < u.rp → rr.length + u.rp ≤ 64) (lt : u.tn < u.tp → tr.length + u.tp ≤ 32)
    (l : 1 ≤ len) :
    s.runS d k opc len u cost body inSlot after =
      (after (((t.setCore d k { t.core d k with hot :=
        { (s.core d k).hot with ds := ds' ++ dr, rs := rs' ++ rr, ts := ts' ++ tr } }).spend d k cost).advance d k len (s.core d k).br)).boundary d k := by
  rw [State.runS_take s d k opc len u cost body inSlot after ds dr rs rr ts tr h sl hd hr ht ud ur ut ld lr lt l, hb]
  have hv : (t.results d k u ds' rs' ts').overfull d k = false := by
    rw [State.overfull_results _ _ _ _ _ _ _ (by rw [c]; simp [hd, ud]; omega), o]
  simp only [hv, Bool.false_eq_true, if_false]
  rw [State.results_room t d k u ds' rs' ts' (by rw [c, hd, ud]; simp; omega), c]
  simp [hd, hr, ht, ud, ur, ut]

/-- A class 0x1 instruction on the data stack. -/
theorem State.dataOp_take (s : State) (d k n dn dp cost : Nat) (f : Ins → List Word) (ds dr ds' : List Word)
    (h : s.ready d k 1 true = true) (hd : (s.core d k).hot.ds = ds ++ dr) (hf : f { d := ds, r := [], t := [] } = ds')
    (ud : dn = ds.length) (vd : dp = ds'.length) (ld : dr.length + dp ≤ 32) :
    s.dataOp d k n dn dp cost f = s.wentOn d k 1 cost { (s.core d k).hot with ds := ds' ++ dr } := by
  have := s.pureS_take d k (0x1000 + n) 1 { dn := dn, dp := dp } cost (fun x => (f x, [], [])) ds dr ds' [] _ [] [] _ [] h (by omega)
    hd rfl rfl (by simp [hf]) ud rfl rfl vd ld (by simp) (by simp)
  simpa [State.dataOp] using this

/-- A rung-stack instruction. -/
theorem State.rungOp_take (s : State) (d k n rn rp : Nat) (f : Bool → Bool → List Bool) (rs rr rs' : List Bool)
    (h : s.ready d k 1 true = true) (l : (s.core d k).hot.ds.length ≤ 32) (hr : (s.core d k).hot.rs = rs ++ rr)
    (hf : f (rs.getD 0 false) (rs.getD 1 false) = rs') (ur : rn = rs.length) (lr : rn < rp → rr.length + rp ≤ 64) :
    s.rungOp d k n rn rp f = s.wentOn d k 1 1 { (s.core d k).hot with rs := rs' ++ rr } := by
  have := s.pureS_take d k (0x0F00 + n) 1 { rn := rn, rp := rp } 1 (fun x => ([], f (x.rung 0) (x.rung 1), [])) [] _ [] rs rr rs' [] _ []
    h (by omega) rfl hr rfl (by simp [Ins.rung, ← hf]) rfl ur rfl rfl (by simpa using l) lr (by simp)
  simpa [State.rungOp] using this

/-- A division or remainder: 20 cycles, and DZ where the divisor is zero (R69). -/
theorem State.divide_take (s : State) (d k n : Nat) (f : Word → Word → Word) (a b : Word) (ds : List Word)
    (h : s.ready d k 1 true = true) (hd : (s.core d k).hot.ds = b :: a :: ds) (ld : ds.length ≤ 31) :
    s.divide d k n f = s.setCore d k { (s.core d k).after 1 20 with
      hot := { (s.core d k).hot with ds := f a b :: ds }, dz := (s.core d k).dz || b == 0 } := by
  obtain ⟨_, _, h3, _, h5, h6, h7⟩ := s.core_ready d k 1 true h
  rw [State.divide, State.runS_take s d k _ 1 _ _ _ _ _ [b, a] ds [] _ [] _ h (.inl rfl) hd rfl rfl rfl rfl rfl
    (by simpa using by omega) (by simp) (by simp) (by omega)]
  simp only [id, Ins.a, List.getD_cons_zero, List.getD_cons_succ]
  have q : (s.noteDiv d k b).core d k = { s.core d k with dz := (s.core d k).dz || b == 0 } := by
    by_cases hb : b = 0
    · simp [State.noteDiv, hb]
    · have : (b == 0) = false := by simpa using hb
      simp only [State.noteDiv, if_neg hb, this, Bool.or_false]
  have q' : ∀ c : Core, (s.noteDiv d k b).setCore d k c = s.setCore d k c := by
    intro c
    by_cases hb : b = 0
    · simp [State.noteDiv, hb]
    · simp only [State.noteDiv, if_neg hb]
  have hv : ((s.noteDiv d k b).results d k { dn := 2, dp := 1 } [f a b] [] []).overfull d k = false := by
    rw [State.overfull_results _ _ _ _ _ _ _ (by rw [q]; simp [hd]; omega)]
    have : (s.noteDiv d k b).overfull d k = s.overfull d k := by simp only [State.noteDiv]; split <;> rfl
    rw [this, h7]
  simp only [hv, Bool.false_eq_true, if_false]
  rw [State.done_goOn _ d k 1 20 _ _ _ _ _ (by rw [q]; exact h3) (by rw [q]; exact h6) h5 (by rw [q]; simp [hd]; omega), q', q]
  cases e : (s.core d k).br <;> simp [Core.goOn, Core.after, e, hd]

end Sys2Proof.Machine
end

