-- ==== Sys2Proof/Laws/Access.lean ====
section
/-! SUPPORT. Bit instructions, loads, stores and I/O instructions that complete (R64 to R79). -/

namespace Sys2Proof.Machine

/-- A memory bit instruction whose body completes (R65). -/
theorem State.bitRun_done (s t : State) (d k op w : Nat) (off : Option Nat) (p : Word) (rn rp cost : Nat)
    (f : Nat → Nat → Bool → State → Body) (ds : List Word) (rs rr rs' : List Bool)
    (h : s.ready d k (1 + off.isSome.toNat) true = true) (hw : w < 4) (ho : ∀ v, off = some v → v < 2 ^ 21)
    (hd : (s.core d k).hot.ds = (if off.isSome then ds else p :: ds)) (ld : ds.length ≤ 32)
    (hr : (s.core d k).hot.rs = rs ++ rr) (un : rn = rs.length) (lr : rr.length + rp ≤ 64)
    (hf : f ((s.core d k).hot.dwin.getD w 0 * 2 ^ 32 + off.getD p.toNat / 8) (off.getD p.toNat % 8) (rs.getD 0 false) s = .done [] rs' [] t)
    (hc : t.core d k = s.core d k) (ho' : t.overfull d k = false) :
    s.bitRun d k op w off rn rp cost f =
      t.wentOn d k (1 + off.isSome.toNat) (cost + off.isSome.toNat) { (s.core d k).hot with ds := ds, rs := rs' ++ rr } := by
  rw [State.bitRun]
  cases off with
  | none =>
    refine s.runS_done t d k _ _ _ _ _ true [p] ds [] rs rr rs' [] _ [] h (.inl rfl) (by simpa using hd) hr rfl ?_ hc ho' rfl un rfl rfl ?_ (fun _ => lr) ?_ ?_
    · simpa [Core.bitAddr, Nat.mod_eq_of_lt hw, Ins.a, Ins.rung] using hf
    · simpa using ld
    · simp
    · simp
  | some v =>
    have hv : v % 2097152 = v := Nat.mod_eq_of_lt (ho v rfl)
    refine s.runS_done t d k _ _ _ _ _ true [] ds [] rs rr rs' [] _ [] h (.inl rfl) (by simpa using hd) hr rfl ?_ hc ho' rfl un rfl rfl ?_ (fun _ => lr) ?_ ?_
    · simpa [Core.bitAddr, Nat.mod_eq_of_lt hw, Ins.rung, hv] using hf
    · simpa using ld
    · simp
    · simp

/-- A class 0x2 instruction whose body completes (R72). -/
theorem State.dRun_done (s t : State) (d k n w : Nat) (disp : Option Nat) (u : Use) (cost : Nat) (f : Nat → Word → State → Body)
    (o : Word) (pre ds ds' : List Word) (h : s.ready d k (1 + disp.isSome.toNat) true = true)
    (hd : (s.core d k).hot.ds = o :: (pre ++ ds))
    (u1 : u = { dn := 1 + pre.length, dp := ds'.length }) (ld : ds.length + ds'.length ≤ 32)
    (hf : f (o + sext16 (disp.getD 0)).toNat (pre.getD 0 0) s = .done ds' [] [] t) (hc : t.core d k = s.core d k)
    (hv : t.overfull d k = false) :
    s.dRun d k n w disp u cost f =
      t.wentOn d k (1 + disp.isSome.toNat) (cost + disp.isSome.toNat) { (s.core d k).hot with ds := ds' ++ ds } := by
  subst u1
  rw [State.dRun]
  refine s.runS_done t d k _ _ _ _ _ true (o :: pre) ds ds' [] _ [] [] _ [] h (.inl rfl) hd rfl rfl ?_ hc hv ?_ rfl rfl rfl ld ?_ ?_ ?_
  · simpa [Ins.a] using hf
  · simp [Nat.add_comm]
  · simp
  · simp
  · simp

/-- An instruction outside classes 0x0 and 0x2 that takes words of the data stack and puts words there. -/
theorem State.runS_words (s t : State) (d k opc len cost : Nat) (u : Use) (body : Ins → State → Body) (pre ds ds' : List Word)
    (h : s.ready d k len true = true) (l : 1 ≤ len) (hd : (s.core d k).hot.ds = pre ++ ds)
    (u1 : u = { dn := pre.length, dp := ds'.length }) (ld : ds.length + ds'.length ≤ 32)
    (hf : body { d := pre, r := [], t := [] } s = .done ds' [] [] t) (hc : t.core d k = s.core d k)
    (hv : t.overfull d k = false) :
    s.runS d k opc len u cost body = t.wentOn d k len cost { (s.core d k).hot with ds := ds' ++ ds } := by
  subst u1
  exact s.runS_done t d k _ _ _ _ _ true pre ds ds' [] _ [] [] _ [] h (.inl rfl) hd rfl rfl hf hc hv rfl rfl rfl rfl ld (by simp) (by simp) l

theorem State.memWrite_core (s : State) (d k : Nat) (r : Req) (m : MemId) (o : Nat) (l : List Byte) :
    (s.memWrite r m o l).2.core d k = s.core d k := State.core_of_side _ _ _ _ (s.memWrite_side r m o l)

/-- An IN of a word (R77, R79). -/
theorem State.inBody_ok (s t : State) (d k a x : Nat) (ha : a % 4 = 0) (hi : s.islandDown a = false)
    (h : s.ioRead (.core d k) a = .word x t) : s.inBody d k a = .done [w32 x] [] [] t := by
  simp [State.inBody, misaligned, ha, State.coreIn, hi, h, Got.body]

/-- An OUT of a word (R76, R79). -/
theorem State.outBody_ok (s t : State) (d k a : Nat) (v : Word) (ha : a % 4 = 0) (ho : s.ownDone d k a = false)
    (h : s.ioWrite (.core d k) a v.toNat = .done t) : s.outBody d k a v = .done [] [] [] t := by
  simp [State.outBody, misaligned, ha, State.coreOut, ho, h, Got.body, Post.got]

end Sys2Proof.Machine
end

