-- ==== Sys2Proof/Laws/MemForm.lean ====
section
/-! SUPPORT. What a memory-form instruction does whose code is good and whose operands can be reached (R96 to R102). -/

namespace Sys2Proof.Machine

/-- What `memReady` says, part by part. -/
theorem State.memReady_parts (s : State) (d k op sz : Nat) (l : List Arg) (xs : List Loc) (u : BaseWords) (vs : List Nat)
    (h : s.memReady d k op sz l xs u vs = true) :
    s.ready d k (argsLen l) false = true ∧ ((memRow op).any fun r => r.1.contains sz) = true ∧
      reservedArg (2 ^ sz) (fun _ _ => none) 1 l = none ∧ s.resolveArgs d k (2 ^ sz) [] l = some (xs, u, s) ∧
      s.readArgs d k 1 (l.zip xs) = .ok vs s ∧ misalignedArg 1 (l.zip xs) = none ∧
      s.refusedArg d k 1 (l.zip xs) = none ∧ s.stopArgs d k 1 (l.zip xs) = none ∧ (s.putBase d k u).overfull d k = false := by
  simp only [State.memReady, State.operands, Bool.and_eq_true, Option.isNone_iff_eq_none, decide_eq_true_eq, Bool.not_eq_true'] at h
  obtain ⟨⟨⟨⟨⟨⟨⟨h1, h2⟩, h3⟩, h4, h4'⟩, h5⟩, h6⟩, h7⟩, h8⟩ := h
  refine ⟨h1, h2, h3, h4, ?_, h5, h6, h7, h8⟩
  · revert h4'
    split
    · next ws t e => intro h; rw [e]; simp only [decide_eq_true_eq] at h; rw [h.1, h.2]
    · simp

/-- A memory-form instruction that runs reaches its body's state of affairs. -/
theorem State.opM_ready (s : State) (d k op sz : Nat) (l : List Arg) (cost : Nat) (body : List Nat → State → MBody)
    (slotCause : Option Nat) (after : List Nat → State → State) (early : Early)
    (xs : List Loc) (u : BaseWords) (vs : List Nat) (h : s.memReady d k op sz l xs u vs = true)
    (sl : (s.core d k).br = none ∨ slotCause = none) (hm : early.mis xs s = none) (he : early.ref xs s = none) :
    s.opM d k op sz l cost body slotCause after early =
      match body vs s with
      | .trap c i t => t.trap d k (memOpc op sz) (argsLen l) c i
      | .stall _ => s.stalled d k
      | .done ws t =>
        match t.writeArgs d k 1 (l.zip xs) ws with
        | .trap c i t => (t.setCore d k (s.core d k)).trap d k (memOpc op sz) (argsLen l) c i
        | .stall _ => s.stalled d k
        | .ok _ t =>
          if (t.putBase d k u).overfull d k then s.stalled d k
          else
            (after vs (((t.putBase d k u).spend d k (argsLen l + ((l.zip xs).map fun x => x.2.cost).sum + cost)).advance d k
              (argsLen l) (s.core d k).br)).boundary d k := by
  obtain ⟨h1, h2, h3, h4, h5, h6, h7, h8, _⟩ := s.memReady_parts d k op sz l xs u vs h
  obtain ⟨r1, r2, r3, r4, r5, _, _⟩ := s.core_ready d k _ false h1
  have e1 := s.fetch_good d k _ 1 (s.codeGood_le d k _ _ 1 r4 (by simp [argsLen]))
  have e2 : s.codeGood d k ((s.core d k).pc + 1) (argsLen l - 1) = true := by
    have : argsLen l = (l.map fun a => a.o.len).sum + 1 := by simp [argsLen, Nat.add_comm]
    rw [this] at r4 ⊢
    simpa using (s.codeGood_succ d k _ _ r4).2.2
  have e3 := s.fetch_good d k _ _ e2
  have sl' : (if (s.core d k).br.isSome then slotCause else none) = none := by
    rcases sl with h | h <;> simp [h]
  simp only [State.opM, State.runM, r1, r2, Bool.not_false, Bool.and_self, if_true, e1, h2, Bool.not_true, Bool.false_eq_true, if_false,
    h3, sl', e3, State.memArgs, h4, h6, hm, he, h7, Option.map_none, lowerSpec, Option.or_none, State.memBody, h8, h5]
  all_goals rfl

/-- The costs of operands that were zipped with their arguments. -/
theorem zip_costs (l : List Arg) (xs : List Loc) (h : xs.length = l.length) :
    ((l.zip xs).map fun x => x.2.cost) = xs.map Loc.cost := by
  induction l generalizing xs with
  | nil => cases xs <;> simp_all
  | cons a l ih =>
    cases xs with
    | nil => simp at h
    | cons x xs => simpa using ih xs (by simpa using h)

theorem State.resolveArgs_length (s t : State) (d k sz : Nat) (u v : BaseWords) (l : List Arg) (xs : List Loc)
    (h : s.resolveArgs d k sz u l = some (xs, v, t)) : xs.length = l.length := by
  induction l generalizing s u xs with
  | nil => simp [State.resolveArgs] at h; simp [h.1]
  | cons a l ih =>
    rw [State.resolveArgs] at h
    split at h
    · simp at h
    · simp at h
    · split at h
      · next e =>
        simp at h
        have := ih _ _ _ (by rw [e, ← h.2.1, ← h.2.2])
        simp [← h.1, this]
      · simp at h

/-- Words of a core's RAM, written or queued, leave the scan cores' records as they stand. -/
theorem State.ramPut_cores (s : State) (d k a : Nat) (bs : List Byte) : (s.ramPut d k a bs).cores = s.cores := by
  rw [State.ramPut]
  split
  · exact congrArg Prod.fst (State.writeBytes_side s (.lram d k) a bs)
  · rfl

theorem State.each_cores {α : Type} (l : List α) (f : State → α → State) (h : ∀ t a, (f t a).cores = t.cores) (s : State) :
    (s.each l f).cores = s.cores := by
  induction l generalizing s with
  | nil => rfl
  | cons a l ih => rw [State.each, ih, h]

theorem State.putBase_core (s : State) (d k : Nat) (u : BaseWords) : (s.putBase d k u).core d k = s.core d k :=
  by simp only [State.core, State.putBase, State.each_cores _ _ (fun t e => t.ramPut_cores d k _ _) s]

/-- What base words leave in the core's queue: nothing where it is empty, since they are then written at once; else they
wait in it, in order (R99, R541). -/
theorem State.putBase_held (s : State) (d k : Nat) (u : BaseWords) :
    (s.putBase d k u).heldOf (.core d k) =
      if s.heldOf (.core d k) = [] then [] else s.heldOf (.core d k) ++ u.reverse.map fun e => .ram (4 * e.1) (leBytes 4 e.2) := by
  unfold State.putBase
  generalize u.reverse = l
  induction l generalizing s with
  | nil => by_cases h : s.heldOf (.core d k) = [] <;> simp [State.each, h]
  | cons e l ih =>
    rw [State.each, ih]
    by_cases h : s.heldOf (.core d k) = []
    · have : (s.ramPut d k (4 * e.1) (leBytes 4 e.2)).heldOf (.core d k) = [] := by
        rw [State.ramPut, if_pos h, State.heldOf_of_side _ _ _ (State.writeBytes_side ..), h]
      simp [h, this]
    · have : (s.ramPut d k (4 * e.1) (leBytes 4 e.2)).heldOf (.core d k) = s.heldOf (.core d k) ++ [.ram (4 * e.1) (leBytes 4 e.2)] := by
        rw [State.ramPut, if_neg h]
        exact Tab.get_set_same _ _ _ _ _
      simp [h, this]

/-- Whether base words fit does not depend on the core's record. -/
theorem State.putBase_overfull_setCore (s : State) (d k d' k' : Nat) (c : Core) (u : BaseWords) :
    ((s.setCore d' k' c).putBase d k u).overfull d k = (s.putBase d k u).overfull d k := by
  simp only [State.overfull, State.putBase_held]
  rfl

/-- A memory-form instruction whose body and writes complete. -/
theorem State.opM_done (s t t' : State) (d k op sz : Nat) (l : List Arg) (cost : Nat) (body : List Nat → State → MBody)
    (slotCause : Option Nat) (after : List Nat → State → State) (early : Early)
    (xs : List Loc) (u : BaseWords) (vs ws : List Nat) (h : s.memReady d k op sz l xs u vs = true)
    (sl : (s.core d k).br = none ∨ slotCause = none) (hm : early.mis xs s = none)
    (he : early.ref xs s = none) (hb : body vs s = .done ws t) (hw : t.writeArgs d k 1 (l.zip xs) ws = .ok () t')
    (ho : (t'.putBase d k u).overfull d k = false) :
    s.opM d k op sz l cost body slotCause after early =
      (after vs (((t'.putBase d k u).spend d k (argsLen l + (xs.map Loc.cost).sum + cost)).advance d k (argsLen l)
        (s.core d k).br)).boundary d k := by
  obtain ⟨_, _, _, h4, _⟩ := s.memReady_parts d k op sz l xs u vs h
  rw [s.opM_ready d k op sz l cost body slotCause after early xs u vs h sl hm he, hb]
  simp only [hw, ho, Bool.false_eq_true, if_false]
  rw [zip_costs l xs (s.resolveArgs_length s d k _ [] u l xs h4)]

/-- Going on after a memory-form instruction. -/
theorem State.advance_after (s t : State) (d k len cost : Nat) (u : BaseWords) (h : s.ready d k len false = true)
    (hb : (t.core d k).br = (s.core d k).br) (he : (t.core d k).busErr = false)
    (hw : (t.core d k).wait = none) :
    (((t.putBase d k u).spend d k cost).advance d k len (s.core d k).br).boundary d k = (t.putBase d k u).after d k len cost := by
  obtain ⟨_, _, _, _, h5, _, _⟩ := s.core_ready d k len false h
  rw [State.spend_advance _ d k len cost _ (by rw [t.putBase_core]; exact he) (by rw [t.putBase_core]; exact hw) h5, State.after, ← hb,
    show (t.core d k).br = ((t.putBase d k u).core d k).br by rw [t.putBase_core], Core.goOn_br]

/-- Going on into a delay slot. -/
theorem State.advance_slot (t : State) (d k len cost : Nat) (u : BaseWords) (he : (t.core d k).busErr = false)
    (hw : (t.core d k).wait = none) :
    (((t.putBase d k u).spend d k cost).advance d k len none).boundary d k = (t.putBase d k u).intoSlot d k len cost := by
  rw [State.spend_advance _ d k len cost _ (by rw [t.putBase_core]; exact he) (by rw [t.putBase_core]; exact hw) (by simp)]
  rfl

/-- Results that can be written have been (R99). -/
theorem State.writes_ok (s : State) (d k i : Nat) (l : List (Arg × Loc)) (vs : List Nat) (h : s.writes d k i l vs = true) :
    s.writeArgs d k i l vs = .ok () (s.written d k i l vs) := by
  simp only [State.writes] at h
  split at h
  · next e => rw [State.written, e]
  · simp at h

end Sys2Proof.Machine
end

