-- ==== Sys2Proof/Laws/Blocks.lean ====
section
/-! SUPPORT. Block instructions that find their count 0, and that carry out their last element (R105, R106). -/

namespace Sys2Proof.Machine

theorem State.localWord_good (s : State) (d k a : Nat) (hb : s.ramBehind d k = false) (h : s.eccGood (.lram d k) a 4 = true) :
    s.localWord d k a = .ok (s.load (.lram d k) a 4) s := by
  simp [State.localWord, hb, s.readBytes_good _ _ _ h, State.load]

@[simp] theorem State.ramBehind_setCore (s : State) (d k d' k' : Nat) (c : Core) :
    (s.setCore d k c).ramBehind d' k' = s.ramBehind d' k' := rfl

/-- A block instruction that starts. -/
theorem State.blockM_ready (s : State) (d k op sz : Nat) (l : List Arg) (cost : Nat)
    (run : Nat → State → Except (Nat × State) (State × (Nat → State → Elem))) (lc n : Nat)
    (h : s.blockReady d k op sz l lc n = true) :
    s.blockM d k op sz l cost none run =
      if n = 0 then ((s.blockBegun d k (argsLen l)).advance d k (argsLen l) none).boundary d k
      else match run lc (s.blockBegun d k (argsLen l)) with
        | .error (c, t) => t.trap d k (memOpc op sz) (argsLen l) c 1
        | .ok (t, elem) => (t.elements d k lc cost elem n).finish d k (memOpc op sz) (argsLen l) := by
  simp only [State.blockReady, Bool.and_eq_true, decide_eq_true_eq, Option.isNone_iff_eq_none, Bool.not_eq_true'] at h
  obtain ⟨⟨⟨⟨⟨⟨⟨⟨⟨⟨h1, h2⟩, h3⟩, h4⟩, h5⟩, h6⟩, h7⟩, h8⟩, h9⟩, h10⟩, h11⟩ := h
  obtain ⟨r1, r2, _, r4, _, _, _⟩ := s.core_ready d k _ false h1
  have e1 := s.fetch_good d k _ 1 (s.codeGood_le d k _ _ 1 r4 (by simp [argsLen]))
  have e2 : s.codeGood d k ((s.core d k).pc + 1) (argsLen l - 1) = true := by
    have : argsLen l = (l.map fun a => a.o.len).sum + 1 := by simp [argsLen, Nat.add_comm]
    rw [this] at r4 ⊢
    simpa using (s.codeGood_succ d k _ _ r4).2.2
  have e3 := s.fetch_good d k _ _ e2
  have e4 : (s.blockStart d k (argsLen l)).localWord d k lc = .ok n (s.blockStart d k (argsLen l)) := by
    rw [State.localWord_good _ d k lc (by simpa [State.blockStart] using h5) (by simpa [State.blockStart] using h10)]
    simp only [State.blockStart, State.load_setCore, h11]
  simp only [State.blockM, State.runM, r1, r2, Bool.not_false, Bool.and_self, if_true, e1, h3, Bool.not_true, Bool.false_eq_true,
    if_false, h4, h2, Option.isSome_none, e3, h5, h6, h7, h8, h9, Option.getD_some, Option.getD_none, Nat.min_self, e4]
  by_cases hn : n = 0
  · subst hn
    simp [State.blockBegun, State.blockStart]
  · simp only [hn, if_false]
    rfl

/-- A block instruction that starts with a count of 1. -/
theorem State.blockM_one (s : State) (d k op sz : Nat) (l : List Arg) (cost : Nat)
    (run : Nat → State → Except (Nat × State) (State × (Nat → State → Elem))) (lc : Nat) (y : State) (elem : Nat → State → Elem)
    (h : s.blockReady d k op sz l lc 1 = true) (hr : run lc (s.blockBegun d k (argsLen l)) = .ok (y, elem)) :
    s.blockM d k op sz l cost none run = (y.elements d k lc cost elem 1).finish d k (memOpc op sz) (argsLen l) := by
  rw [s.blockM_ready d k op sz l cost run lc 1 h, if_neg (by simp), hr]

/-- The last element: the count then reads 0, and the instruction completes. -/
theorem State.elements_one (s t : State) (d k lc cost opc len : Nat) (elem : Nat → State → Elem)
    (hc : s.localWord d k lc = .ok 1 s) (he : elem 1 s = .next t) (hb : (t.core d k).br = none) (hq : (t.core d k).busErr = false)
    (hw : (t.core d k).wait = none) (hr : t.ramBehind d k = false) (hz : t.eccGood (.lram d k) lc 4 = true)
    (h0 : t.load (.lram d k) lc 4 = 0) :
    (s.elements d k lc cost elem 1).finish d k opc len = t.after d k len cost := by
  have e : (t.spend d k cost).localWord d k lc = .ok 0 (t.spend d k cost) := by
    rw [State.localWord_good _ d k lc (by simpa [State.spend] using hr) (by simpa [State.spend] using hz)]
    simp only [State.spend, State.load_setCore, h0]
  simp only [State.elements, hc, he, e, Elem.finish]
  rw [State.spend_advance t d k len cost none hq hw (by simp), State.after]
  congr 1
  rw [← hb, Core.goOn_br]

/-- An element that completes the instruction. -/
theorem State.elements_found (s t : State) (d k lc cost : Nat) (elem : Nat → State → Elem)
    (hc : s.localWord d k lc = .ok 1 s) (he : elem 1 s = .found t) : s.elements d k lc cost elem 1 = .found t := by
  simp only [State.elements, hc, he]

/-- What `elementReady` says, part by part. -/
theorem State.elementReady_parts (s : State) (d k sz i : Nat) (ptrs : List Arg) (xs : List Loc) (u : BaseWords) (vs : List Nat)
    (h : s.elementReady d k sz i ptrs xs u vs = true) :
    s.resolveArgs d k (2 ^ sz) [] ptrs = some (xs, u, s) ∧ s.readArgs d k i (ptrs.zip xs) = .ok vs s ∧
      s.pointerTrap d k (numbered i (ptrs.zip xs)) = none ∧ s.stopArgs d k i (ptrs.zip xs) = none := by
  simp only [State.elementReady, Bool.and_eq_true, Option.isNone_iff_eq_none, decide_eq_true_eq] at h
  obtain ⟨⟨⟨h4, h4'⟩, h5⟩, h6⟩ := h
  refine ⟨h4, ?_, h5, h6⟩
  revert h4'
  split
  · next ws t e => intro h; rw [e]; simp only [decide_eq_true_eq] at h; rw [h.1, h.2]
  · simp

/-- One element that completes the instruction. -/
theorem State.element_found (s : State) (d k sz i : Nat) (ptrs : List Arg) (lc count : Nat) (vals : List Nat → List Nat)
    (found : List Nat → Bool) (upd : List Nat → State → Got (List (Nat × Nat))) (xs : List Loc) (u : BaseWords) (vs : List Nat)
    (h : s.elementReady d k sz i ptrs xs u vs = true) (hf : found vs = true) :
    s.element d k (2 ^ sz) i ptrs lc count vals found upd = .found s := by
  obtain ⟨h1, h2, h3, h4⟩ := s.elementReady_parts d k sz i ptrs xs u vs h
  simp only [State.element, h1, h3, h4, h2, hf, if_true]

/-- One element that is carried out. -/
theorem State.element_next (s t : State) (d k sz i : Nat) (ptrs : List Arg) (lc count : Nat) (vals : List Nat → List Nat)
    (found : List Nat → Bool) (upd : List Nat → State → Got (List (Nat × Nat))) (xs : List Loc) (u : BaseWords)
    (vs : List Nat) (ws : List (Nat × Nat))
    (h : s.elementReady d k sz i ptrs xs u vs = true) (hf : found vs = false) (hu : upd vs s = .ok ws s)
    (hw : s.writeArgs d k i (ptrs.zip xs) (vals vs) = .ok () t)
    (ho : ((t.putBase d k u).inPlace d k ((lc, count - 1) :: ws)).overfull d k = false) :
    s.element d k (2 ^ sz) i ptrs lc count vals found upd = .next ((t.putBase d k u).inPlace d k ((lc, count - 1) :: ws)) := by
  obtain ⟨h1, h2, h3, h4⟩ := s.elementReady_parts d k sz i ptrs xs u vs h
  simp only [State.element, h1, h3, h4, h2, hf, Bool.false_eq_true, if_false, hu, hw, ho]

end Sys2Proof.Machine
end

