-- ==== Sys2Proof/Laws/Offer.lean ====
section
/-! SUPPORT. What recording an event leaves alone (R466). -/

namespace Sys2Proof.Machine

variable (s : State) (r : Offered) (c : Nat) (n : Node) (l : List Nat) (b : Blk) (f : Field)

theorem State.offerRec_cases : s.offerRec r = { s with recorder := { s.recorder with hold := holdPut r s.recorder.hold } } ∨
    s.offerRec r = { s with recorder := { s.recorder with lost := s.recorder.lost + 1 } }.bump .evr EVR_LOSTCNT_COUNT := by
  simp only [State.offerRec]; split <;> simp

theorem State.rd_offerRec (h : b ≠ .evr) : (s.offerRec r).rd b f = s.rd b f := by
  rcases s.offerRec_cases r with e | e <;> rw [e]
  · rfl
  · rw [State.bump, State.rd_wr_blk _ _ _ _ h]; rfl

theorem State.rd_offer (h : b ≠ .evr) : (s.offer c n l).rd b f = s.rd b f := s.rd_offerRec _ _ _ h

theorem State.is_offer (h : b ≠ .evr) : (s.offer c n l).is b f = s.is b f := by simp only [State.is, s.rd_offer _ _ _ _ _ h]

@[simp] theorem State.offerRec_pwr : (s.offerRec r).pwr = s.pwr := by
  rcases s.offerRec_cases r with e | e <;> rw [e]
  rfl
@[simp] theorem State.offerRec_straps : (s.offerRec r).straps = s.straps := by
  rcases s.offerRec_cases r with e | e <;> rw [e]
  rfl
@[simp] theorem State.offerRec_mems : (s.offerRec r).mems = s.mems := by
  rcases s.offerRec_cases r with e | e <;> rw [e]
  rfl
@[simp] theorem State.offerRec_ecc : (s.offerRec r).ecc = s.ecc := by
  rcases s.offerRec_cases r with e | e <;> rw [e]
  rfl
@[simp] theorem State.offer_pwr : (s.offer c n l).pwr = s.pwr := s.offerRec_pwr _
@[simp] theorem State.offer_straps : (s.offer c n l).straps = s.straps := s.offerRec_straps _
@[simp] theorem State.offer_mems : (s.offer c n l).mems = s.mems := s.offerRec_mems _
@[simp] theorem State.offer_ecc : (s.offer c n l).ecc = s.ecc := s.offerRec_ecc _
@[simp] theorem State.core_offer (d k : Nat) : (s.offer c n l).core d k = s.core d k := State.core_of_side _ _ _ _ (s.offer_side c n l)

/-- A core is live by its registers, the package's power, whether it has left reset, and what it has still to complete. -/
theorem State.coreLive_congr (s t : State) (d k : Nat) (h : ∀ b f, b ≠ .evr → t.rd b f = s.rd b f) (hp : t.pwr = s.pwr)
    (hs : t.straps = s.straps) (hc : (t.core d k).started = (s.core d k).started)
    (hy : (t.core d k).busy = (s.core d k).busy) (hw : (t.core d k).wait = (s.core d k).wait) : t.coreLive d k = s.coreLive d k := by
  simp only [State.coreLive, State.coreUp, State.is, State.hasNode, State.hasDie, hp, hs, hc, hy, hw, h _ _ (by decide : Blk.upd ≠ .evr),
    h (.core d k) _ (by simp), h (.dieNode d) _ (by simp)]

@[simp] theorem State.refuse_side (q : Req) (sp x y : Nat) (w : Bool) : (s.refuse q sp x y w c).side = s.side := by
  rw [State.refuse]
  split
  · rfl
  · simp only []
    split
    · rw [State.wr_side, State.offer_side]
    · rw [State.wrs_side, State.offer_side]

theorem State.core_refuse (q : Req) (sp x y : Nat) (w : Bool) (d k : Nat) : (s.refuse q sp x y w c).core d k = s.core d k :=
  State.core_of_side _ _ _ _ (s.refuse_side c q sp x y w)

end Sys2Proof.Machine
end

