-- ==== Sys2Proof/Laws/Exceptions.lean ====
section
/-! SUPPORT. What a write of whole words to memory does, and what taking an exception writes (R110, R111, R540). -/

namespace Sys2Proof.Machine

/-- Marking units of a memory as good changes nothing but their ECC states. -/
theorem State.each_setEcc (s : State) (m : MemId) (us : List Nat) (f : State → Nat → State)
    (hf : ∀ t w, w ∈ us → f t w = t.setEcc m w .good) :
    ∃ e, s.each us f = { s with ecc := e } ∧
      ∀ m' w, s.eccOf m' w = .good → Tab.get e (m', w) .good = .good := by
  induction us generalizing s with
  | nil => exact ⟨s.ecc, rfl, fun _ _ h => h⟩
  | cons u us ih =>
    obtain ⟨e, h1, h2⟩ := ih (s.setEcc m u .good) (fun t w h => hf t w (List.mem_cons_of_mem _ h))
    refine ⟨e, ?_, fun m' w h => h2 m' w ?_⟩
    · rw [State.each, hf _ _ (List.mem_cons_self ..), h1]
      rfl
    · by_cases hp : (m', w) = (m, u)
      · have : m' = m ∧ w = u := by simpa using hp
        rw [this.1, this.2]
        exact Tab.get_set_same (fun p : MemId × Nat => Nat.pair p.1.code p.2) s.ecc (m, u) .good .good
      · rw [State.eccOf, State.setEcc]
        exact (Tab.get_set_ne (fun p : MemId × Nat => Nat.pair p.1.code p.2) s.ecc .good .good .good hp).trans h

/-- Whole words of SRAM are written without a read, and their units become good (R540). -/
theorem State.writeBytes_words (s : State) (m : MemId) (a : Nat) (bs : List Byte) (hu : m.eccUnit = 4) (ha : a % 4 = 0)
    (hn : bs.length % 4 = 0) :
    ∃ e, s.writeBytes m a bs = (true, { s with ecc := e }.storeBytes m a bs) ∧
      ∀ m' w, s.eccOf m' w = .good → Tab.get e (m', w) .good = .good := by
  have hp : (eccUnits m a bs.length).filter (fun w => decide (w * 4 < a ∨ a + bs.length < w * 4 + 4)) = [] := by
    rw [List.filter_eq_nil_iff]
    intro w hw
    simp only [eccUnits, hu] at hw
    split at hw
    · simp at hw
    · simp only [List.mem_map, List.mem_range] at hw
      obtain ⟨i, hi, rfl⟩ := hw
      simp only [decide_eq_true_eq]
      omega
  obtain ⟨e, h1, h2⟩ := s.each_setEcc m (eccUnits m a bs.length)
    (fun t w => if w ∈ ([] : List Nat) ∧ t.eccOf m w = .correctable then t.eccCorrect m w else t.setEcc m w .good) (by simp)
  refine ⟨e, ?_, h2⟩
  simp only [State.writeBytes, State.eccWrite, hu, hp, List.filter_nil, if_true, h1]

/-- Bytes that hold no ECC error still hold none. -/
theorem State.eccGood_keep (s t : State) (m : MemId) (a n : Nat) (h : s.eccGood m a n = true)
    (hk : ∀ w, s.eccOf m w = .good → t.eccOf m w = .good) : t.eccGood m a n = true := by
  simp only [State.eccGood, List.all_eq_true, decide_eq_true_eq] at h ⊢
  exact fun w hw => hk w (h w hw)

theorem leNat_lt (bs : List Byte) : leNat bs < 256 ^ bs.length := by
  induction bs with
  | nil => simp [leNat]
  | cons b bs ih =>
    have := b.isLt
    simp only [leNat, List.length_cons, Nat.pow_succ]; omega

@[simp] theorem Cells.getList_length (m : Cells) (a n : Nat) : (m.getList a n).length = n := by
  induction n generalizing a with
  | zero => rfl
  | succ n ih => simp [Cells.getList, ih]

theorem Cells.getList_eq (m m' : Cells) (a a' n : Nat) (h : ∀ i, i < n → m.get (a + i) = m'.get (a' + i)) :
    m.getList a n = m'.getList a' n := by
  induction n generalizing a a' with
  | zero => rfl
  | succ n ih =>
    simp only [Cells.getList]
    rw [show m.get a = m'.get a' from h 0 (by omega), ih (a + 1) (a' + 1) (fun i hi => by
      have := h (i + 1) (by omega); rwa [show a + (i + 1) = a + 1 + i by omega, show a' + (i + 1) = a' + 1 + i by omega] at this)]

/-- Bytes outside those written read as before. -/
theorem Cells.getList_setList_apart (m : Cells) (a a' n : Nat) (bs : List Byte) (h : a' + n ≤ a ∨ a + bs.length ≤ a') :
    (m.setList a bs).getList a' n = m.getList a' n :=
  Cells.getList_eq _ _ _ _ _ fun i hi => by rw [Cells.get_setList, if_neg (by omega)]

/-- Word `i` of words written one after another. -/
theorem Cells.word_setList (m : Cells) (a : Nat) (ws : List Nat) (i : Nat) (h : i < ws.length) :
    leNat ((m.setList a (ws.flatMap fun w => leBytes 4 w)).getList (a + 4 * i) 4) = ws.getD i 0 % 2 ^ 32 := by
  induction ws generalizing m a i with
  | nil => simp at h
  | cons w ws ih =>
    have hs : ∀ (l l' : List Byte) (m : Cells) (a : Nat), m.setList a (l ++ l') = (m.setList a l).setList (a + l.length) l' := by
      intro l
      induction l with
      | nil => intro l' m a; simp [Cells.setList]
      | cons b l ih =>
        intro l' m a
        simp only [List.cons_append, Cells.setList, ih, List.length_cons]
        rw [show a + 1 + l.length = a + (l.length + 1) by omega]
    simp only [List.flatMap_cons, hs, leBytes_length]
    cases i with
    | zero =>
      rw [Cells.getList_setList_apart _ _ _ _ _ (by left; omega)]
      have := Cells.getList_setList m a (leBytes 4 w)
      rw [leBytes_length] at this
      simp only [Nat.mul_zero, Nat.add_zero, this, leNat_leBytes, List.getD_cons_zero]
      rfl
    | succ i =>
      have := ih (m.setList a (leBytes 4 w)) (a + 4) i (by simpa using h)
      rw [show a + 4 * (i + 1) = a + 4 + 4 * i by omega, this, List.getD_cons_succ]

end Sys2Proof.Machine
end

