-- ==== Sys2Proof/Laws/Io.lean ====
section
/-! SUPPORT. A requester's access to one register, end to end (R11, R48), and the registers that data ports have. -/

namespace Sys2Proof.Machine

theorem State.ioRead_reg (s t : State) (r : Req) (a v : Nat) (b : Blk) (o : Nat) (hc : s.ioCheck r a false = none) (hh : s.heldOf r = [])
    (hw : s.readWaits a = false) (ht : s.ioTarget a = .ok (.reg b o)) (hr : s.regRead b o = .word v t) : s.ioRead r a = .word v t := by
  simp only [State.ioRead, hc, State.behindHeld, hh, List.any_nil, hw, Bool.or_self, Bool.false_eq_true, if_false, ht, hr]

theorem State.ioWrite_reg (s t : State) (r : Req) (a w : Nat) (b : Blk) (o : Nat) (hc : s.ioCheck r a true = none) (hh : s.heldOf r = [])
    (ht : s.ioTarget a = .ok (.reg b o)) (hr : s.regWrite r b o w = .taken t) : s.ioWrite r a w = .done t := by
  simp only [State.ioWrite, hc, hh, if_true, State.settle, State.ioNow, ht, hr]

/-- A write that its register takes (R48, R49). -/
theorem State.accessWrite_reg (s t : State) (r : Req) (a w : Nat) (b : Blk) (o : Nat) (h : s.reaches r a true = true)
    (ht : s.ioTarget a = .ok (.reg b o)) (hr : s.regWrite r b o w = .taken t) : s.accessWrite r a w = t := by
  simp only [State.reaches, Bool.and_eq_true, decide_eq_true_eq] at h
  obtain ⟨⟨⟨⟨⟨h1, h2⟩, h3⟩, h4⟩, _⟩, h5⟩ := h
  have hw := s.ioWrite_reg t r a w b o h3 h4 ht hr
  cases r with
  | core d k =>
    simp only [if_true, Bool.and_eq_true, Bool.not_eq_true'] at h5
    simp [State.accessWrite, h1, h5.1, h2, State.coreOut, h5.2, hw, Post.got, State.coreAccess]
  | host => simp_all [State.accessWrite, State.hostPath, State.hostWrite]
  | crown => simp [State.accessWrite, h1, h2, hw]
  | engine => simp [State.accessWrite, h1, h2, hw]

/-- A read that its register answers (R48, R49). -/
theorem State.accessRead_reg (s t : State) (r : Req) (a v : Nat) (b : Blk) (o : Nat) (h : s.reaches r a false = true)
    (ht : s.ioTarget a = .ok (.reg b o)) (hr : s.regRead b o = .word v t) : s.accessRead r a = t.readBy r v := by
  simp only [State.reaches, Bool.and_eq_true, decide_eq_true_eq, Bool.false_or, Bool.not_eq_true'] at h
  obtain ⟨⟨⟨⟨⟨h1, h2⟩, h3⟩, h4⟩, h6⟩, h5⟩ := h
  have hw := s.ioRead_reg t r a v b o h3 h4 h6 ht hr
  cases r with
  | core d k =>
    simp only [Bool.false_eq_true, if_false, Bool.and_eq_true, Bool.not_eq_true'] at h5
    simp [State.accessRead, h1, h5.1, h2, State.coreIn, h5.2, hw, State.coreAccess, State.readBy]
  | host => simp_all [State.accessRead, State.hostPath, State.hostRead, State.hostReads, State.readBy]
  | crown => simp [State.accessRead, h1, h2, hw, State.readBy]
  | engine => simp [State.accessRead, h1, h2, hw, State.readBy]

/-- The window of a scan core (R46). -/
theorem State.target_core (s : State) (d k o : Nat) (h : s.hasNode (.core d k) = true) (hd : d < 8) (ho : o < 0x10000) :
    s.ioTarget ((Blk.core d k).base + o) = .ok (.reg (.core d k) o) := by
  simp only [State.hasNode, Bool.and_eq_true, decide_eq_true_eq] at h
  have e : (Blk.core d k).base + o = 0x1100000 + 0x1000000 * d + 0x10000 * k + o := rfl
  rw [e]
  simp only [State.ioTarget]
  rw [if_neg (by omega), if_neg (by omega), if_neg (by omega), if_neg (by omega)]
  have h1 : (0x1100000 + 0x1000000 * d + 0x10000 * k + o - 0x1000000) / 0x1000000 = d := by omega
  have h2 : (0x1100000 + 0x1000000 * d + 0x10000 * k + o) % 0x1000000 = 0x100000 + 0x10000 * k + o := by omega
  simp only [h1, h2, h.1, if_true]
  rw [if_neg (by omega)]
  simp only [dieTarget]
  have h3 : (0x100000 + 0x10000 * k + o) / 0x10000 = 0x10 + k := by omega
  have h4 : (0x100000 + 0x10000 * k + o) % 0x10000 = o := by omega
  simp only [h3, h4]
  rw [if_neg (by omega), if_pos (by omega), show 0x10 + k - 0x10 = k by omega]

/-- The window of a lane (R46). -/
theorem State.target_lane (s : State) (d j o : Nat) (h : s.hasNode (.lane d j) = true) (hd : d < 8) (ho : o < 0x10000) :
    s.ioTarget ((Blk.lane d j).base + o) = .ok (.reg (.lane d j) o) := by
  simp only [State.hasNode, Bool.and_eq_true, decide_eq_true_eq] at h
  have e : (Blk.lane d j).base + o = 0x1200000 + 0x1000000 * d + 0x10000 * j + o := rfl
  rw [e]
  simp only [State.ioTarget]
  rw [if_neg (by omega), if_neg (by omega), if_neg (by omega), if_neg (by omega)]
  have h1 : (0x1200000 + 0x1000000 * d + 0x10000 * j + o - 0x1000000) / 0x1000000 = d := by omega
  have h2 : (0x1200000 + 0x1000000 * d + 0x10000 * j + o) % 0x1000000 = 0x200000 + 0x10000 * j + o := by omega
  simp only [h1, h2, h.1, if_true]
  rw [if_neg (by omega)]
  simp only [dieTarget]
  have h3 : (0x200000 + 0x10000 * j + o) / 0x10000 = 0x20 + j := by omega
  have h4 : (0x200000 + 0x10000 * j + o) % 0x10000 = o := by omega
  simp only [h3, h4]
  rw [if_neg (by omega), if_neg (by omega), if_pos (by omega), show 0x20 + j - 0x20 = j by omega]

/-- The interrupt controller of a compute die (R46). -/
theorem State.target_irqDie (s : State) (d o : Nat) (h : s.hasDie d = true) (hd : d < 8) (ho : o < 0x10000) :
    s.ioTarget ((Blk.irqDie d).base + o) = .ok (.reg (.irqDie d) o) := by
  have e : (Blk.irqDie d).base + o = 0x1700000 + 0x1000000 * d + o := rfl
  rw [e]
  simp only [State.ioTarget]
  rw [if_neg (by omega), if_neg (by omega), if_neg (by omega), if_neg (by omega)]
  have h1 : (0x1700000 + 0x1000000 * d + o - 0x1000000) / 0x1000000 = d := by omega
  have h2 : (0x1700000 + 0x1000000 * d + o) % 0x1000000 = 0x700000 + o := by omega
  simp only [h1, h2, h, if_true]
  rw [if_neg (by omega)]
  simp only [dieTarget]
  have h3 : (0x700000 + o) / 0x10000 = 0x70 := by omega
  have h4 : (0x700000 + o) % 0x10000 = o := by omega
  simp [h3, h4]

theorem State.rd_each {α : Type} (l : List α) (f : State → α → State) (b : Blk) (g : Field) (h : ∀ t a, (f t a).rd b g = t.rd b g)
    (s : State) : (s.each l f).rd b g = s.rd b g := by
  induction l generalizing s with
  | nil => rfl
  | cons a l ih => rw [State.each, ih, h]

theorem State.rd_bump_blk (s : State) (b b' : Blk) (f g : Field) (n : Nat) (h : b' ≠ b) : (s.bump b f n).rd b' g = s.rd b' g :=
  s.rd_wr_blk _ _ _ h

theorem State.rd_setBit_blk (s : State) (b b' : Blk) (f g : Field) (i : Nat) (v : Bool) (h : b' ≠ b) :
    (s.setBit b f i v).rd b' g = s.rd b' g := by
  simp only [State.setBit, State.orBits, State.clrBits]
  split <;> exact s.rd_wr_blk _ _ _ h

theorem State.rd_raiseAt_blk (s : State) (b b' : Blk) (g : Field) (n : Nat) (h : b' ≠ b) : (s.raiseAt b n).rd b' g = s.rd b' g := by
  simp only [State.raiseAt]
  split
  · rw [State.rd_setBit_blk _ _ _ _ _ _ _ h, State.rd_setBit_blk _ _ _ _ _ _ _ h]
  · rw [State.rd_setBit_blk _ _ _ _ _ _ _ h]

/-- A write of memory leaves a lane's registers but for the count of corrected errors (R184, R540). -/
theorem State.rd_writeBytes_lane (s : State) (m : MemId) (a : Nat) (bs : List Byte) (d j : Nat) (g : Field) (h : g.off ≠ LANE_ECCCNT_COUNT.off) :
    ((s.writeBytes m a bs).2).rd (.lane d j) g = s.rd (.lane d j) g := by
  have c : ∀ (t : State) w, (t.eccCorrect m w).rd (.lane d j) g = t.rd (.lane d j) g := by
    intro t w
    cases m <;> simp only [State.eccCorrect] <;>
      first
      | rfl
      | exact (State.rd_wr_off _ _ h).trans rfl
      | (rw [State.raiseDie, State.rd_raiseAt_blk _ _ _ _ _ (by simp), State.rd_bump_blk _ _ _ _ _ _ (by simp)]; rfl)
  have r : ∀ (t : State) w, (t.eccReport m w).rd (.lane d j) g = t.rd (.lane d j) g := by
    intro t w
    cases m <;> simp only [State.eccReport] <;>
      first
      | rfl
      | (rw [State.rd_offer _ _ _ _ _ _ (by simp), State.raiseDie, State.rd_raiseAt_blk _ _ _ _ _ (by simp)]
         exact State.rd_bump_blk _ _ _ _ _ _ (by simp))
  have e : ((s.eccWrite m a bs.length).2).rd (.lane d j) g = s.rd (.lane d j) g := by
    simp only [State.eccWrite]
    split
    · refine State.rd_each _ _ _ _ (fun t w => ?_) s
      split
      · exact c t w
      · rfl
    · exact State.rd_each _ _ _ _ (fun t w => r t w) s
  simp only [State.writeBytes]
  split
  · exact e
  · exact e

/-- A read that gives a word (R47). -/
theorem State.gives_word (s : State) (r : Req) (a : Nat) (h : s.gives r a = true) :
    s.ioRead r a = .word (s.given r a).1 (s.given r a).2 := by
  simp only [State.gives] at h
  split at h
  · next e => rw [State.given, e]
  · simp at h

/-- A write that is made (R47). -/
theorem State.posts_done (s : State) (r : Req) (a w : Nat) (h : s.posts r a w = true) : s.ioWrite r a w = .done (s.posted r a w) := by
  simp only [State.posts] at h
  split at h
  · next e => rw [State.posted, e]
  · simp at h

/-- A block whose registers only hold their fields takes a write field by field and answers a read with them (R11). -/
theorem State.regWrite_plain (s : State) (r : Req) (b : Blk) (o w : Nat) (h : b.plain = true) :
    s.regWrite r b o w = .taken (s.putReg b o w) := by
  cases b <;> simp [Blk.plain] at h <;> rfl
theorem State.regRead_plain (s : State) (b : Blk) (o : Nat) (h : b.plain = true) :
    s.regRead b o = .word (s.regWord b o) (s.rcTaken b o) := by
  cases b <;> simp [Blk.plain] at h <;> rfl

/-- Fields taken change registers alone. -/
theorem State.putField_side (s : State) (b : Blk) (w : Nat) (f : Field) : (s.putField b w f).side = s.side := by
  simp only [State.putField]
  cases f.acc <;> simp
  split
  · simp only [State.keyDirty]; split <;> simp
  · rfl
theorem State.putReg_side (s : State) (b : Blk) (o w : Nat) : (s.putReg b o w).side = s.side :=
  State.each_side _ _ (fun t g => t.putField_side b w g) s
theorem State.rcTaken_side (s : State) (b : Blk) (o : Nat) : (s.rcTaken b o).side = s.side :=
  State.each_side _ _ (fun t f => t.wr_side b f f.reset) s

end Sys2Proof.Machine
end

