-- ==== Sys2Proof/Laws/Effects.lean ====
section
/-! SUPPORT. What raising a source, recording an event and sending a standby message leave alone (R310, R340, R341, R466). -/

namespace Sys2Proof.Machine

/-- Only registers change. -/
theorem State.raiseAt_only (s : State) (b : Blk) (n : Nat) : s.raiseAt b n = { s with regs := (s.raiseAt b n).regs } := by
  simp only [State.raiseAt]; split <;> rfl

theorem State.raiseDie_only (s : State) (d n : Nat) : s.raiseDie d n = { s with regs := (s.raiseDie d n).regs } := s.raiseAt_only ..

theorem State.sendMsix_only (s : State) (v : Nat) :
    s.sendMsix v = { s with regs := (s.sendMsix v).regs, out := (s.sendMsix v).out } := by
  simp only [State.sendMsix]; repeat' split
  all_goals rfl

/-- Registers change, and an interrupt of the host may be sent. -/
theorem State.raiseCrown_only (s : State) (n : Nat) :
    s.raiseCrown n = { s with regs := (s.raiseCrown n).regs, out := (s.raiseCrown n).out } := by
  simp only [State.raiseCrown]
  split
  · rw [State.sendMsix_only, State.raiseAt_only]
  · rw [State.raiseAt_only]

/-- The recorder and its loss count change. -/
theorem State.offer_only (s : State) (c : Nat) (n : Node) (l : List Nat) :
    s.offer c n l = { s with regs := (s.offer c n l).regs, recorder := (s.offer c n l).recorder } := by
  simp only [State.offer, State.offerRec]; split <;> rfl

theorem State.rd_raiseCrown (s : State) (b : Blk) (g : Field) (n : Nat) (h : b ≠ .irqCrown) (h' : b ≠ .host) :
    (s.raiseCrown n).rd b g = s.rd b g := by
  simp only [State.raiseCrown, State.sendMsix]
  split
  · split
    · exact State.rd_raiseAt_blk _ _ _ _ _ h
    · split
      · rw [State.rd_setBit_blk _ _ _ _ _ _ _ h', State.rd_raiseAt_blk _ _ _ _ _ h]
      · rw [State.rd_emit, State.rd_raiseAt_blk _ _ _ _ _ h]
  · exact State.rd_raiseAt_blk _ _ _ _ _ h

theorem State.rd_raiseDie (s : State) (b : Blk) (g : Field) (d n : Nat) (h : b ≠ .irqDie d) : (s.raiseDie d n).rd b g = s.rd b g :=
  State.rd_raiseAt_blk _ _ _ _ _ h

/-- The transmitters of the standby links and what leaves the package change. -/
theorem State.sbPump_only (s : State) (p : Nat) : s.sbPump p = { s with hsb := (s.sbPump p).hsb, out := (s.sbPump p).out } := by
  simp only [State.sbPump]
  split
  · split <;> rfl
  · rfl

theorem State.sbPumps_only (s : State) : s.sbPumps = { s with hsb := s.sbPumps.hsb, out := s.sbPumps.out } := by
  rw [State.sbPumps, State.sbPump_only (s.sbPump 0) 1, State.sbPump_only s 0]

theorem State.hsbSend_only (s : State) (k : SbKind) (pre body : List Nat) :
    s.hsbSend k pre body = { s with hsb := (s.hsbSend k pre body).hsb, out := (s.hsbSend k pre body).out } := by
  have h : ∀ (l : List (List Nat)) (t : State), t.each l (fun t p => t.sbQueue k (pre ++ p)) =
      { t with hsb := (t.each l fun t p => t.sbQueue k (pre ++ p)).hsb } := by
    intro l
    induction l with
    | nil => intro t; rfl
    | cons a l ih => intro t; rw [State.each, ih]; rfl
  simp only [State.hsbSend]
  rw [State.sbPumps_only, h]

theorem State.rd_hsbSend (s : State) (b : Blk) (f : Field) (k : SbKind) (pre body : List Nat) :
    (s.hsbSend k pre body).rd b f = s.rd b f := by rw [State.hsbSend_only]; rfl

end Sys2Proof.Machine
end

