-- ==== Sys2Proof/Laws/Flags.lean ====
section
/-! SUPPORT. What the word functions compute, in the terms of bit vectors (R68 to R70). -/

namespace Sys2Proof.Machine

theorem divS_eq (a b : Word) : divS a b = a.sdiv b := by
  unfold divS
  split
  · next h => subst h; simp
  · rw [← BitVec.toInt_inj, BitVec.toInt_ofInt, BitVec.toInt_sdiv]

theorem remS_eq (a b : Word) : remS a b = a.srem b := by
  unfold remS
  split
  · next h => subst h; simp
  · rw [← BitVec.toInt_inj, BitVec.toInt_ofInt, ← BitVec.toInt_srem, BitVec.toInt_bmod_cancel]

theorem divU_eq (a b : Word) : divU a b = a.udiv b := by
  unfold divU w32
  split
  · next h => subst h; simp
  · rw [← BitVec.toNat_inj]
    have := Nat.div_le_self a.toNat b.toNat
    have := a.isLt
    simp
    omega

theorem remU_eq (a b : Word) : remU a b = a.umod b := by
  unfold remU w32
  split
  · next h => subst h; simp
  · rw [← BitVec.toNat_inj]
    have := Nat.mod_le a.toNat b.toNat
    have := a.isLt
    simp
    omega

theorem mulHighU_eq (a b : Word) : mulHighU a b = (a.zeroExtend 64 * b.zeroExtend 64).extractLsb' 32 32 := by
  rw [← BitVec.toNat_inj]
  have ha := a.isLt
  have hb := b.isLt
  have : a.toNat * b.toNat < 2 ^ 64 := by nlinarith
  simp [mulHighU, w32, BitVec.extractLsb'_toNat, BitVec.toNat_mul, Nat.shiftRight_eq_div_pow]
  omega

theorem mulHigh_eq (a b : Word) : mulHigh a b = (a.signExtend 64 * b.signExtend 64).extractLsb' 32 32 := by
  have e : a.signExtend 64 * b.signExtend 64 = BitVec.ofInt 64 (a.toInt * b.toInt) := by
    simp [BitVec.ofInt_mul, BitVec.signExtend]
  rw [e, ← BitVec.toNat_inj]
  simp [mulHigh, BitVec.extractLsb'_toNat, Nat.shiftRight_eq_div_pow]
  omega

theorem clzAuxRec_eq (a : Word) (n : Nat) (h : n ≤ 31) : a.clzAuxRec n = w32 (31 - n + leadZeros a (n + 1)) := by
  induction n with
  | zero =>
    simp only [BitVec.clzAuxRec, leadZeros, w32]
    split <;> simp
  | succ n ih =>
    simp only [BitVec.clzAuxRec]
    rw [leadZeros]
    split
    · simp [w32]
    · rw [ih (by omega)]
      congr 1
      omega

theorem clz_eq (a : Word) : clz a = a.clz := by
  rw [BitVec.clz, clzAuxRec_eq a 31 (by omega)]
  simp [clz]

theorem cpopNatRec_eq (a : Word) (n acc : Nat) : a.cpopNatRec n acc = acc + oneBits a n := by
  induction n generalizing acc with
  | zero => simp [BitVec.cpopNatRec, oneBits]
  | succ n ih =>
    simp only [BitVec.cpopNatRec, ih, oneBits]
    omega

theorem popc_eq (a : Word) : popc a = a.cpop := by
  rw [BitVec.cpop, cpopNatRec_eq, popc, w32, Nat.zero_add]

theorem low5_eq (n : Word) : n.toNat % 32 = (n &&& 31).toNat := by
  simpa using (Nat.and_two_pow_sub_one_eq_mod n.toNat 5).symm

theorem shiftCount_eq (n : Word) : shiftCount n = (n &&& 31).toNat := low5_eq n

theorem bfx_eq (a p n : Word) : bfx a p n = (a >>> (p &&& 31).toNat) &&& BitVec.ofNat 32 (2 ^ (n.toNat % 64) - 1) := by
  rw [← low5_eq]
  apply BitVec.eq_of_getLsbD_eq
  intro q hq
  simp only [bfx, w32, BitVec.getLsbD_ofNat, hq, decide_true, Bool.true_and, BitVec.getLsbD_and, BitVec.getLsbD_ushiftRight,
    Nat.testBit_mod_two_pow, Nat.testBit_div_two_pow, Nat.testBit_two_pow_sub_one, BitVec.testBit_toNat]
  rw [Nat.add_comm, Bool.and_comm]

theorem rol_eq (a n : Word) : rol a n = a <<< (n &&& 31).toNat ||| a >>> (32 - (n &&& 31).toNat) := by
  simp only [← low5_eq, rol, shiftCount, BitVec.rotateLeft, BitVec.rotateLeftAux, Nat.mod_mod]

theorem ror_eq (a n : Word) : ror a n = a >>> (n &&& 31).toNat ||| a <<< (32 - (n &&& 31).toNat) := by
  simp only [← low5_eq, ror, shiftCount, BitVec.rotateRight, BitVec.rotateRightAux, Nat.mod_mod]

theorem zext8_eq (a : Word) : zext 8 a = a &&& 0xFF := by
  apply BitVec.eq_of_toNat_eq
  have := Nat.and_two_pow_sub_one_eq_mod a.toNat 8
  simp [zext] at this ⊢
  omega

theorem zext16_eq (a : Word) : zext 16 a = a &&& 0xFFFF := by
  apply BitVec.eq_of_toNat_eq
  have := Nat.and_two_pow_sub_one_eq_mod a.toNat 16
  simp [zext] at this ⊢
  omega

theorem minS_eq (a b : Word) : minS a b = if a.toInt ≤ b.toInt then a else b := by
  simp only [minS, BitVec.slt_iff_toInt_lt]
  split <;> split <;> first | rfl | omega | (apply BitVec.eq_of_toInt_eq; omega)

theorem maxS_eq (a b : Word) : maxS a b = if a.toInt ≤ b.toInt then b else a := by
  simp only [maxS, BitVec.slt_iff_toInt_lt]
  split <;> split <;> first | rfl | omega | (apply BitVec.eq_of_toInt_eq; omega)

theorem minU_eq (a b : Word) : minU a b = if a.toNat ≤ b.toNat then a else b := by
  simp only [minU, BitVec.ult_iff_toNat_lt]
  split <;> split <;> first | rfl | omega | (apply BitVec.eq_of_toNat_eq; omega)

theorem maxU_eq (a b : Word) : maxU a b = if a.toNat ≤ b.toNat then b else a := by
  simp only [maxU, BitVec.ult_iff_toNat_lt]
  split <;> split <;> first | rfl | omega | (apply BitVec.eq_of_toNat_eq; omega)

theorem sat32_eq (i : Int) : sat32 i = BitVec.ofInt 32 (if i < -0x80000000 then -0x80000000 else if 0x7FFFFFFF < i then 0x7FFFFFFF else i) := by
  unfold sat32
  congr 1
  split
  · omega
  · split <;> omega

theorem absSat_eq (a : Word) : absSat a = sat32 |a.toInt| := by
  simp only [absSat, abs, max_def]
  congr 1
  split <;> split <;> omega

/-- The six conditions at full width (R81). -/
theorem condition_eq (a b : Word) : condition 0 32 a b = (a == b) ∧ condition 1 32 a b = (a != b) ∧ condition 2 32 a b = a.slt b ∧
    condition 3 32 a b = b.sle a ∧ condition 4 32 a b = a.ult b ∧ condition 5 32 a b = b.ule a := by
  refine ⟨?_, ?_, ?_, ?_, ?_, ?_⟩
  · simp [condition, zext, BEq.beq]
  · simp [condition, zext, bne, BEq.beq]
  · simp [condition, sext]
  · simp [condition, sext, BitVec.sle_eq_not_slt]
  · simp [condition, zext]
  · simp [condition, zext, BitVec.ule_eq_not_ult]

end Sys2Proof.Machine
end

