-- ==== Sys2Proof/Laws/Standby.lean ====
section
/-! SUPPORT. A message of the standby links that is acted on (R310). -/

namespace Sys2Proof.Machine

/-- A message that a unit hears has its own effect in the state in which it is heard. -/
theorem State.sbRx_heard (s : State) (h : SbHdr) (act : State → State) (hh : s.hears h = true) : s.sbRx h act = act (s.heard h) := by
  simp only [State.hears, Bool.and_eq_true, decide_eq_true_eq] at hh
  obtain ⟨⟨⟨⟨h1, h2⟩, h3⟩, h4⟩, h5⟩ := hh
  have h4' : (if (s.pathSilent 0 && s.pathSilent 1) = true then { s.hsb with rxHigh := none, rxTaken := [] } else s.hsb).fresh (h.seq % 2 ^ 32) = true := h4
  simp only [State.sbRx, if_pos (And.intro h1 (And.intro h2 h3)), h4', if_true]
  exact if_neg h5

end Sys2Proof.Machine
end

