-- ==== Sys2Proof/Tests/Slice0.lean ====
section
/-! SUPPORT. Tests: for each statement a state and operands that meet its hypotheses, clause by clause (`meets_…`); ill-formed
terms, each refused by a check of WellFormed (`wf_…`); and results of single steps worked out by hand from the rules
(`test_…`). -/

namespace Sys2Proof.Tests
open Machine

/-! ### Small states -/

/-- A package that is on, with the clocks of the crown die and of compute die 0 locked. -/
def on : State := (({ pwr := { phase := .on } } : State).wr .crownNode CLK_LOCK_LOCK 3).wr (.dieNode 0) CLK_DLOCK_SCAN 1

/-- Core 0 of die 0 as given, started and released. -/
def run (c : Core) : State := (on.wr (.core 0 0) NODE_CTRL_FRZ 0).setCore 0 0 { c with started := true }

/-- A core in stack form with the stacks given. -/
def stack (h : Hot) : State := run { form := true, hot := h }

/-- A core in memory form. -/
def mem : State := run {}

/-- An access that completes, in a state of which `p` holds. -/
def gotOk {α : Type} (g : Got α) (p : α → State → Bool) : Bool := match g with | .ok a t => p a t | _ => false

/-- A state that leaves the core as it is, with room in its queue. -/
def calm (s t : State) : Bool := decide (t.core 0 0 = s.core 0 0) && !t.overfull 0 0

/-- A read of I/O space by the core gives a word, a write to it is made, and both leave the core as it is. -/
def ioWord (s : State) (a : Nat) : Bool := s.gives (.core 0 0) a && calm s (s.given (.core 0 0) a).2
def ioDone (s : State) (a w : Nat) : Bool := s.posts (.core 0 0) a w && calm s (s.posted (.core 0 0) a w)

/-- The results are written, and the core goes on with room for the base words. -/
def fits (s : State) (l : List Arg) (xs : List Loc) (vs : List Nat) (u : BaseWords) : Bool :=
  let t := s.written 0 0 1 (l.zip xs) vs
  s.writes 0 0 1 (l.zip xs) vs && decide ((t.core 0 0).br = (s.core 0 0).br) && !(t.core 0 0).busErr &&
    decide ((t.core 0 0).wait = none) && !(t.putBase 0 0 u).overfull 0 0

/-! ### The whole machine -/

theorem test_reset_wf : State.reset.wf = true := by decide

theorem meets_stepKeepsCanonicalForm : mem.wf = true ∧ (∃ t, step mem = .next t) := ⟨by decide, _, rfl⟩

/-! ### Stack form -/

theorem meets_arithmeticWords :
    (stack { ds := [0, 0x80000000] }).ready 0 0 1 true = true ∧ ((stack { ds := [0, 0x80000000] }).core 0 0).hot.ds = [0, 0x80000000] ++ [] ∧
    ((stack { ds := [7] }).core 0 0).hot.ds = [7] ++ [] := by decide

theorem meets_logicAndShiftWords :
    (stack { ds := [32, 31, 0xFF, 1] }).ready 0 0 1 true = true ∧
    ((stack { ds := [32, 31, 0xFF, 1] }).core 0 0).hot.ds = [32, 31, 0xFF, 1] ++ [] := by decide

theorem meets_stackWordsAndLiterals :
    (let s := stack { ds := [3, 2, 1], ts := [9] };
      s.ready 0 0 1 true = true ∧ s.ready 0 0 3 true = true ∧ (s.core 0 0).hot.ds = [3] ++ [2, 1] ∧ (s.core 0 0).hot.ds = [] ++ 3 :: [2, 1] ∧
      (s.core 0 0).hot.ts = 9 :: []) ∧
    (let s := stack { ds := List.replicate 15 1 ++ [5] };
      s.ready 0 0 2 true = true ∧ (s.core 0 0).hot.ds = List.replicate 15 1 ++ 5 :: []) := by decide

theorem meets_rungWords :
    (let s := stack { rs := [true, false], ds := [2, 1] };
      s.ready 0 0 1 true = true ∧ (s.core 0 0).hot.rs = [true, false] ++ [] ∧ (s.core 0 0).hot.ds = 2 :: 1 :: []) ∧
    (stack { rs := List.replicate 64 true }).ready 0 0 1 true = true := by decide

theorem meets_bitWords :
    (let s := stack { ds := [0x1FFFFF], rs := [true] };
      s.ready 0 0 1 true = true ∧ s.canLoad 0 0 0x3FFFF 1 (.lram 0 0) 0x3FFFF = true ∧
      s.canStore 0 0 0x3FFFF (leBytes 1 (putBit 0 7 true)) (.lram 0 0) 0x3FFFF = true) ∧
    (let s := stack { rs := [false] };
      s.ready 0 0 2 true = true ∧ (0x1FFFFF : Nat) < 2 ^ 21 ∧ s.canLoad 0 0 0x3FFFF 1 (.lram 0 0) 0x3FFFF = true ∧
      s.dCheck (.core 0 0) 0x3FFFF 1 true = none) := by decide

theorem meets_loadAndStoreWords :
    (let s := stack { ds := [0x3FFFC, 0x12345678] };
      s.ready 0 0 1 true = true ∧ s.ready 0 0 2 true = true ∧ s.canLoad 0 0 0x3FFFC 4 (.lram 0 0) 0x3FFFC = true ∧
      s.canLoad 0 0 0x3FFFC 2 (.lram 0 0) 0x3FFFC = true ∧ s.canLoad 0 0 0x3FFFC 1 (.lram 0 0) 0x3FFFC = true ∧
      s.canLoad 0 0 (0x3FFFC / 8) 1 (.lram 0 0) (0x3FFFC / 8) = true ∧
      s.canStore 0 0 0x3FFFC (leBytes 4 0x12345678) (.lram 0 0) 0x3FFFC = true ∧
      s.canStore 0 0 0x3FFFC (leBytes 2 0x5678) (.lram 0 0) 0x3FFFC = true ∧
      s.canStore 0 0 (0x3FFFC / 8) (leBytes 1 (putBit 0 4 false)) (.lram 0 0) (0x3FFFC / 8) = true) ∧
    (let s := stack { ds := [0x10000], dwin := [0x10, 1, 2, 0x10] };
      s.canLoad 0 0 (0x10 * 2 ^ 32 + 0x10000) 4 (.dram 0) 0x10000 = true) := by decide

/-- The address of SUP_WARNCFG's neighbourhood in the field die, and of the core's own IRQ_DONE. -/
def done0 : Nat := (Blk.irqDie 0).base + 0x204

theorem meets_ioWords :
    (let s := stack { ds := [BitVec.ofNat 32 Blk.evr.base, 5] }; let a := Blk.evr.base;
      s.ready 0 0 1 true = true ∧ a < 2 ^ 32 ∧ a % 4 = 0 ∧ s.islandDown a = false ∧ ioWord s a = true ∧
      s.ownDone 0 0 a = false ∧ ioDone s a 5 = true) ∧
    (let s := stack { ds := [5], iob := [Blk.evr.base - 4 * 0xFFFF, 0, 0, 0] }; let a := (Blk.evr.base - 4 * 0xFFFF) + 4 * 0xFFFF;
      s.ready 0 0 2 true = true ∧ a % 2 ^ 32 = a ∧ a % 4 = 0 ∧ s.islandDown a = false ∧ ioWord s a = true ∧
      s.ownDone 0 0 a = false ∧ ioDone s a 5 = true) ∧
    (let s := run { form := true, hot := { ds := [BitVec.ofNat 32 done0, 0x13] }, prio := [3, 1] };
      s.ready 0 0 1 true = true ∧ done0 < 2 ^ 32 ∧ s.ownDone 0 0 done0 = true ∧ s.ioCheck (.core 0 0) done0 true = none ∧
      s.heldOf (.core 0 0) = [] ∧ (s.core 0 0).prio = 3 :: [1] ∧ (0x13 : Nat) % 16 = 3) ∧
    (let s := stack { ds := [BitVec.ofNat 32 (Blk.drc 0).base, 5] }; let a := (Blk.drc 0).base;
      s.ready 0 0 1 true = true ∧ s.reaches (.core 0 0) a false = true ∧ s.reaches (.core 0 0) a true = true ∧
      s.ioTarget a = .ok (IoTarget.reg (Blk.drc 0) 0) ∧ (Blk.drc 0).plain = true) ∧
    (let s := stack { ds := [5], iob := [(Blk.drc 0).base, 0, 0, 0] }; let a := (Blk.drc 0).base;
      s.ready 0 0 2 true = true ∧ (s.core 0 0).hot.iob.getD 0 0 = a ∧ s.reaches (.core 0 0) a false = true ∧
      s.reaches (.core 0 0) a true = true) := by decide

theorem meets_branchAndCallWords :
    (let s := stack { ds := [2, 1], rs := [true], ts := [0xFFFFFFF0, 4] };
      (s.core 0 0).br = none ∧ s.ready 0 0 1 true = true ∧ s.ready 0 0 2 true = true ∧ s.ready 0 0 3 true = true ∧
      (s.core 0 0).hot.ds = 2 :: 1 :: [] ∧ (s.core 0 0).hot.rs = true :: [] ∧ (s.core 0 0).hot.ts = 0xFFFFFFF0 :: 4 :: []) ∧
    (let s := stack { ts := [4] }; (s.core 0 0).hot.ts = 4 :: [] ∧ (4 : Word) ≠ 0xFFFFFFF0) := by decide

theorem meets_systemWords :
    (let s := stack { ds := [1] };
      s.ready 0 0 1 true = true ∧ s.heldOf (.core 0 0) = [] ∧ (s.core 0 0).reg 0x10 = some 0 ∧ (s.core 0 0).br = none ∧
      s.rd (.core 0 0) CORE_TRAP_DEPTH = 0 ∧ (∀ u < 16, s.rd (.core 0 0) (TASK_STAT_STATE u) ≠ 2) ∧ (s.core 0 0).ctx = .background) ∧
    (let s := (run { form := true, ctx := .task 15 }).wr (.core 0 0) (TASK_STAT_STATE 15) 3;
      s.ready 0 0 1 true = true ∧ (s.core 0 0).ctx = .task 15 ∧ s.rd (.core 0 0) (TASK_IMG_COUNT 15) = 0) := by decide

/-! ### Memory form -/

/-- A short immediate, a direct operand, and an operand whose base word 8 steps after the access. -/
def imm (x : Nat) : Opd := { mode := 0, x := x }
def direct (a : Nat) : Opd := { mode := 1, ext := [a % 2 ^ 16, a / 2 ^ 16] }
def stepped (n : Nat) : Opd := { mode := 5, n := n }

theorem meets_memoryFormArithmetic :
    (let s := mem; let l := [inArg 2 (imm 6), inArg 2 (imm 0xFF), outArg 2 (direct 0x100)];
      let xs : List Loc := [.imm 6, .imm 0xFFFFFFFF, .mem 0x100];
      (∀ op ∈ [2, 3, 4, 5, 6, 7, 8, 9, 0xA, 0xB, 0xC, 0xD], s.memReady 0 0 op 2 l xs [] [6, 0xFFFFFFFF] = true) ∧
      (∀ v ∈ [5, 7, 0, 0xFFFFFFFF, 6], fits s l xs [v] [] = true)) ∧
    (let s := mem; let l := [inArg 0 (stepped 0), outArg 0 (direct 0x101)];
      s.memReady 0 0 1 0 l [.mem 0, .mem 0x101] [(0, 1)] [0] = true ∧
      fits s l [.mem 0, .mem 0x101] [0] [(0, 1)] = true) := by decide

theorem meets_memoryFormTransfers :
    (let s := mem; let w (o : Opd) (r : Role) : Arg := { o := o, role := r, n := 4 };
      (s.core 0 0).br = none ∧
      (∀ n < 8, s.memReady 0 0 (0x10 + n) 2 [inArg 2 (imm 1), inArg 2 (imm 0xFF), w (imm 8) rd] [.imm 1, .imm 0xFFFFFFFF, .imm 8] []
        [1, 0xFFFFFFFF, 8] = true) ∧
      s.memReady 0 0 0x18 2 [w (imm 8) rd, w (direct 0x100) wr] [.imm 8, .mem 0x100] [] [8] = true ∧
      (let y : State := s.setCore 0 0 { s.core 0 0 with br := some { tgt := 8 } };
        let l := [w (imm 8) rd, w (direct 0x100) wr];
        fits y l [.imm 8, .mem 0x100] [s.slotEnd 0 0 ((s.core 0 0).pc + argsLen l)] [] = true) ∧
      s.memReady 0 0 0xF0 2 [w (imm 8) rdX] [.imm 8] [] [8] = true ∧ s.memReady 0 0 0xF1 2 [w (imm 8) rdX] [.imm 8] [] [8] = true) := by
  decide

theorem meets_codeAccesses :
    (let s := mem; let w (o : Opd) : Arg := { o := o, role := rdX, n := 4 };
      (let l := [w (imm 8), { outArg 2 (direct 0x100) with role := wrX }];
        s.memReady 0 0 0x20 2 l [.imm 8, .mem 0x100] [] [8] = true ∧ s.iBytes 0 0 8 4 = (some 0, s) ∧
        (let n := s.setCore 0 0 { s.core 0 0 with cyc := (s.core 0 0).cyc + if 0x80000 ≤ 8 then 6 else 0 };
          fits n l [.imm 8, .mem 0x100] [0] [] = true)) ∧
      (let l := [{ inArg 2 (imm 7) with role := rdX }, w { mode := 0, n := 2, ext := [0, 4] }];
        s.memReady 0 0 0x21 2 l [.imm 7, .imm 0x40000] [] [7, 0x40000] = true ∧ gotOk (s.readLoc 0 0 4 (.imm 0x40000)) (fun v t => decide (v = 0x40000 ∧ t = s)) = true ∧
        s.iWriteCheck 0 0 0x40000 = none ∧ (s.iStore 0 0 0x40000 4 7).1 = true ∧
        calm s (s.iStore 0 0 0x40000 4 7).2 = true)) := by decide

/-- A core at DEPTH 1 whose frame says stack form, at address 0x20, with a DI mask, and a pending branch where asked. -/
def inHandler (c : Core) (info reta iaddr btgt : Nat) : State :=
  (((((run c).wr (.core 0 0) CORE_TRAP_DEPTH 1).store (.lram 0 0) 0x100 4 info).store (.lram 0 0) 0x108 4 reta).store (.lram 0 0) 0x10C 4
    iaddr).store (.lram 0 0) 0x110 4 btgt

theorem meets_memoryFormSystem :
    (∀ op ∈ [0xF2, 0xF3, 0xF4, 0xF5, 0xF6, 0xF7], mem.memReady 0 0 op 0 [] [] [] [] = true) ∧ mem.heldOf (.core 0 0) = [] ∧
    (let s := inHandler {} 0x50028 0x20 0x20 0;
      s.memReady 0 0 0xF2 0 [] [] [] [] = true ∧ (s.core 0 0).br = none ∧ s.rd (.core 0 0) CORE_TRAP_DEPTH = 1 ∧
      s.ramBehind 0 0 = false ∧ s.eccGood (.lram 0 0) 0x100 32 = true ∧ s.load (.lram 0 0) 0x100 4 = 0x50028 ∧ (0x50028 : Nat).testBit 16 = true ∧
      (0x50028 : Nat).testBit 17 = false) ∧
    (let s := inHandler {} 0x20028 0x20 0x20 0x40;
      s.memReady 0 0 0xF3 0 [] [] [] [] = true ∧ s.load (.lram 0 0) 0x100 4 = 0x20028 ∧ (0x20028 : Nat).testBit 16 = false ∧
      (0x20028 : Nat).testBit 17 = true ∧ s.load (.lram 0 0) 0x108 4 = s.load (.lram 0 0) 0x10C 4) ∧
    (let s := inHandler {} 0x20028 0x21 0x20 0x40;
      s.memReady 0 0 0xF3 0 [] [] [] [] = true ∧ s.load (.lram 0 0) 0x108 4 ≠ s.load (.lram 0 0) 0x10C 4 ∧
      s.load (.lram 0 0) 0x110 4 ≠ 0xFFFFFFF0) := by decide

/-- The word at 0x100 of core-local RAM holds a block count. -/
def counted (n : Nat) : State := mem.store (.lram 0 0) 0x100 4 n

/-- Pointers, read and written, the words in place, and the value of a block instruction. -/
def pin (o : Opd) : Arg := { o := o, role := rdP, n := 4 }
def pout (o : Opd) : Arg := { o := o, role := wrP, n := 4 }
def place (o : Opd) : Arg := { o := o, role := wdP, n := 4 }
def filler (o : Opd) : Arg := { o := o, role := rdX, n := 4 }

/-- The register after four bytes of zeros that begin from zero. -/
theorem crc_zeros : crc32cRaw 0 (leBytes 4 0) = 0 := by decide

/-- After its one element a block instruction has written its base words `u` and the words `ws` in place, the count among
them. -/
def zeroed (y t : State) (u : BaseWords) (ws : List (Nat × Nat)) : Bool :=
  let z := (t.putBase 0 0 u).inPlace 0 0 ((0x100, 0) :: ws)
  calm y z && !z.ramBehind 0 0 && z.eccGood (.lram 0 0) 0x100 4 && decide (z.load (.lram 0 0) 0x100 4 = 0)

theorem meets_blockInstructions :
    (∀ n < 2, (counted n).blockReady 0 0 0x30 2 [pin (stepped 0), pout (stepped 1), place (direct 0x100)] 0x100 n = true ∧
      (counted n).blockReady 0 0 0x31 2 [filler (imm 7), pout (stepped 1), place (direct 0x100)] 0x100 n = true ∧
      (counted n).blockReady 0 0 0x32 2 [pin (stepped 0), place (direct 0x104), place (direct 0x100)] 0x100 n = true ∧
      (counted n).blockReady 0 0 0x33 2 [pin (stepped 0), pin (stepped 1), place (direct 0x100)] 0x100 n = true) ∧
    (let y := (counted 1).blockBegun 0 0 5; let u : BaseWords := [(1, 4), (0, 4)]; let l := [pin (stepped 0), pout (stepped 1)];
      let xs : List Loc := [.mem 0, .mem 0];
      y.elementReady 0 0 2 1 l xs u [0] = true ∧ y.writes 0 0 1 (l.zip xs) [0] = true ∧
      zeroed y (y.written 0 0 1 (l.zip xs) [0]) u [] = true) ∧
    (let y := (counted 1).blockBegun 0 0 5; let u : BaseWords := [(1, 4)]; let l := [pout (stepped 1)]; let xs : List Loc := [.mem 0];
      gotOk (y.fillValue 0 0 2 (imm 7)) (fun v t => decide (v = 7 ∧ t = y)) = true ∧ y.elementReady 0 0 2 2 l xs u [] = true ∧
      y.writes 0 0 2 (l.zip xs) [7] = true ∧ zeroed y (y.written 0 0 2 (l.zip xs) [7]) u [] = true) ∧
    (let y := (counted 1).blockBegun 0 0 5; let u : BaseWords := [(1, 4), (0, 4)];
      y.elementReady 0 0 2 1 [pin (stepped 0), pin (stepped 1)] [.mem 0, .mem 0] u [0, 0] = true ∧ zeroed y y u [] = true) ∧
    (let y := ((counted 1).store (.lram 0 0) 0x10 4 5).store (.lram 0 0) 4 4 0x10;
      y.elementReady 0 0 2 1 [pin (stepped 0), pin (stepped 1)] [.mem 0, .mem 0x10] [(1, 0x14), (0, 4)] [0, 5] = true ∧ (0 : Nat) ≠ 5) := by
  decide

theorem meets_blockInstructions_crc :
    (let y := (counted 1).blockBegun 0 0 7; let u : BaseWords := [(0, 4)];
      y.wordAt 0 0 (direct 0x104) = some 0x104 ∧ y.elementReady 0 0 2 1 [pin (stepped 0)] [.mem 0] u [0] = true ∧
      gotOk (y.localWord 0 0 0x104) (fun e t => decide (e = 0 ∧ t = y)) = true ∧
      zeroed y y u [(0x104, crc32cRaw 0 (leBytes 4 0))] = true) := by
  rw [crc_zeros]
  decide

/-! ### Exceptions -/

theorem meets_exceptionEntry :
    (mem.wr (.core 0 0) CORE_TRAP_DEPTH 8).rd (.core 0 0) CORE_TRAP_DEPTH = 8 ∧
    (let s := mem.wr (.core 0 0) CORE_TRAP_DEPTH 7;
      s.rd (.core 0 0) CORE_TRAP_DEPTH < 8 ∧ s.ramBehind 0 0 = false ∧ (4 : Nat) < 0x80 ∧ s.eccGood (.lram 0 0) (0x40 + 0x7C) 4 = true ∧
      s.codeGood 0 0 (s.load (.lram 0 0) (0x40 + 0x7C) 4) 1 = true) ∧
    (let s := mem.setHeld (.core 0 0) [.ram 0 [1]]; s.rd (.core 0 0) CORE_TRAP_DEPTH ≠ 8 ∧ s.ramBehind 0 0 = true) := by decide

/-- Source 0 of die 0's controller, pending and enabled at core 0 with PRIO 5. -/
def interrupted : State :=
  (((mem.wr (.irqDie 0) (IRQ_PEND_PEND 0) 1).wr (.irqDie 0) (IRQ_EN_EN 0) 1).wr (.irqDie 0) (IRQ_SRC_PRIO 0) 5).wr (.irqDie 0)
    (IRQ_SRC_TGT 0) 0x40

theorem meets_coreBoundaryEvents :
    (let s := interrupted;
      s.coreLive 0 0 = true ∧ (s.core 0 0).br = none ∧ (s.core 0 0).busy = false ∧ (s.core 0 0).busErr = false ∧ (s.core 0 0).nmi = false ∧ s.planePending 0 0 = none ∧
      (s.core 0 0).di = none ∧ (s.core 0 0).prio.headD 0 < s.presented 0 0 ∧ s.rd (.irqDie 0) (IRQ_THRESH_THRESH 0) < s.presented 0 0 ∧
      (s.core 0 0).prio.length < 8 ∧ s.rd (.core 0 0) CORE_TRAP_DEPTH < 7) ∧
    (let s := run { nmi := true }; s.coreLive 0 0 = true ∧ (s.core 0 0).br = none ∧ (s.core 0 0).busy = false ∧ (s.core 0 0).busErr = false ∧ (s.core 0 0).nmi = true) ∧
    (let s := mem.setLane 0 2 { xfault := some 3 }; s.coreLive 0 0 = true ∧ (s.core 0 0).br = none ∧ (s.core 0 0).busy = false ∧ s.planePending 0 0 = some (2, 3)) ∧
    (let s := run { br := some { tgt := 0 } }; s.coreUp 0 0 = true ∧ (s.core 0 0).wait = none ∧
      ¬ (s.coreLive 0 0 = true ∧ (s.core 0 0).br = none ∧ (s.core 0 0).busy = false)) ∧
    (let s := run { di := some 2048 }; s.coreUp 0 0 = true ∧ (s.core 0 0).di = some 2048) ∧
    (mem.coreRuns 0 0 = true ∧ mem.codeGood 0 0 0 1 = true ∧ reservedOpcode (mem.core 0 0).form (0xFFFF % 2 ^ 16) = some 0x11) ∧
    (let s := run { pc := 0x480000 }; s.coreRuns 0 0 = true ∧ fetchable (s.core 0 0).pc = false) := by decide

theorem meets_presentedLevel :
    (0 : Nat) < 512 ∧ (interrupted.rd (.irqDie 0) (IRQ_PEND_PEND 0)).testBit 0 = true ∧
    (interrupted.rd (.irqDie 0) (IRQ_EN_EN 0)).testBit 0 = true ∧ interrupted.presented 0 0 = 5 := by decide

/-! ### Registers -/

theorem meets_registerAccess :
    (let s := on; let a := Blk.evr.base + EVR_CFG_MINSEV.off;
      s.reaches .host a true = true ∧ s.ioTarget a = .ok (IoTarget.reg Blk.evr EVR_CFG_MINSEV.off) ∧ s.takes .host .evr EVR_CFG_MINSEV.off 2 = true ∧
      s.reaches .host a false = true ∧ s.answers .evr EVR_CFG_MINSEV.off = true) ∧
    (let s := mem.setHeld (.core 0 0) [.io (Blk.evr.base + EVR_CFG_MINSEV.off) 1]; let r := Req.core 0 0;
      s.heldOf r = .io (Blk.evr.base + EVR_CFG_MINSEV.off) 1 :: [] ∧ s.ioTarget (Blk.evr.base + EVR_CFG_MINSEV.off) = .ok (IoTarget.reg Blk.evr EVR_CFG_MINSEV.off) ∧
      (s.setHeld r []).takes r .evr EVR_CFG_MINSEV.off 1 = true) ∧
    (let a := (Blk.drc 7).base;
      (Blk.drc 7).plain = true ∧ on.reaches .host a true = true ∧ on.reaches .host a false = true ∧
      on.ioTarget a = .ok (IoTarget.reg (Blk.drc 7) 0) ∧ (on.setHeld .host [.io a 1]).heldOf .host = [.io a 1]) := by decide

theorem meets_dataPorts :
    (let s := on; let r := Req.host;
      s.hasNode (.core 0 0) = true ∧ s.reaches r ((Blk.core 0 0).base + 0x214) true = true ∧
      s.reaches r ((Blk.core 0 0).base + 0x214) false = true ∧ s.eccGood (.lram 0 0) 0 4 = true ∧
      s.reaches r ((Blk.core 0 0).base + 0x21C) false = true ∧ s.iLoc 0 0 0 = some (.bank 0 0 0, 0) ∧ s.eccGood (.bank 0 0 0) 0 4 = true) ∧
    (let s := on.wr (.core 0 0) CORE_ISP_ADDR_ADDR 0x20000;
      s.reaches .host ((Blk.core 0 0).base + 0x21C) true = true ∧ s.iWriteCheck 0 0 (2 * s.rd (.core 0 0) CORE_ISP_ADDR_ADDR) = none ∧
      s.iWriteCheck 0 0 (2 * s.rd (.core 0 0) CORE_ISP_ADDR_ADDR + 1) = none) ∧
    (let s := run { form := true, prio := [3] };
      s.crownRuns = true ∧ s.coreRuns 0 0 = true ∧ s.heldOf (.core 0 0) = [] ∧
      s.ioCheck (.core 0 0) ((Blk.irqDie 0).base + 0x204) true = none ∧ (s.core 0 0).prio = 3 :: [] ∧ (0x13 : Nat) % 16 = 3) ∧
    (let s := on; let r := Req.host; let l := Blk.lane 7 11;
      s.hasNode (.lane 7 11) = true ∧ s.reaches r (l.base + 0x1C4) true = true ∧ 4 * s.rd l LANE_SRAM_ADDR_ADDR < 0x100000 ∧
      s.holdRoom 7 11 1 = true ∧ s.reaches r (l.base + 0x1C4) false = true ∧ s.eccGood (.lsram 7 11) (s.laneAddr 7 11 0) 4 = true ∧
      (s.lane 7 11).held = [] ∧ s.reaches r (l.base + 0x1CC) true = true ∧ s.is l LANE_KS_ADDR_RUNSLOT = false ∧
      s.rd l LANE_KHOOD_STAT_STATE ≠ 2 ∧ s.reaches r (l.base + 0x1CC) false = true ∧ s.eccGood (.ks 7 11 (s.ksSlot 7 11)) 0 4 = true) ∧
    (∀ a ∈ [0x40000, 0xDFFFF, 0xE0080], let s := on.wr (.lane 7 11) LANE_SRAM_ADDR_ADDR a;
      0x100000 ≤ 4 * s.rd (.lane 7 11) LANE_SRAM_ADDR_ADDR ∧ (4 * s.rd (.lane 7 11) LANE_SRAM_ADDR_ADDR < 0x380000 ∨
        0x380200 ≤ 4 * s.rd (.lane 7 11) LANE_SRAM_ADDR_ADDR)) := by decide

theorem meets_capturesAndLocks :
    on.hasNode (.lane 7 11) = true ∧ on.hasReq (.core 7 3) = true ∧ (Req.core 7 3).blk = some (.core 7 3) ∧
    (0x17F : Nat) < 0x110 + 0x10 * 7 ∧ (Blk.core 7 3).node? = some (.core 7 3) ∧
    (on.wr (.core 7 3) (PROT_ATTR_LOCK 7) 1).is (.core 7 3) (PROT_ATTR_LOCK 7) = true ∧ (Req.engine).blk = none := by decide

theorem meets_interruptRegisters : on.hasCtl (some 7) = true ∧ on.hasCtl none = true := by decide

/-- The watchdog runs, its period over, task 3 required. -/
def watched : State :=
  { ((on.wr .wdt WDT_CTRL_EN 1).wr .wdt WDT_STAT_RUN 1).wr .wdt WDT_TASKEN_EN 8 with now := 20000000, wdt := { required := 8 } }

theorem meets_watchdog :
    on.is .wdt WDT_CTRL_EN = false ∧ watched.is .wdt WDT_CTRL_EN = true ∧
    (let w := 3 + 0x5A * 2 ^ 8; let watched := watched.wr .wdt (WDT_OWNER_ANY 3) 0;
      watched.is .wdt WDT_STAT_EXPIRED = false ∧ WDT_KICK_KEY.of w = 0x5A ∧ (watched.rd .wdt WDT_TASKEN_EN).testBit (WDT_KICK_TASK.of w) = true ∧
      watched.wdtOwner .host (WDT_KICK_TASK.of w) = false ∧
      (watched.wr .wdt WDT_STAT_EXPIRED 1).is .wdt WDT_STAT_EXPIRED = true ∧ (watched.wr .wdt (WDT_OWNER_ANY 3) 1).wdtOwner .host (WDT_KICK_TASK.of w) = true) ∧
    (WDT_KICK_KEY.of 0 ≠ 0x5A) ∧
    (watched.crownRuns = true ∧ watched.is .wdt WDT_STAT_RUN = true ∧ watched.wdt.start + watched.rd .wdt WDT_PERIOD_US * 1000 ≤ watched.now ∧
      clearBits (watched.wdt.required &&& watched.rd .wdt WDT_TASKEN_EN) (watched.rd .wdt WDT_DONE_DONE) ≠ 0 ∧ watched.wdt.halfDone = false ∧
      watched.wdt.start + watched.rd .wdt WDT_PERIOD_US * 500 ≤ watched.now) ∧
    (let s := watched.wr .wdt WDT_DONE_DONE 8;
      clearBits (s.wdt.required &&& s.rd .wdt WDT_TASKEN_EN) (s.rd .wdt WDT_DONE_DONE) = 0) ∧
    (let s := { watched.wr .wdt WDT_STAT_EXPIRED 1 with now := 10000000000 };
      s.crownRuns = true ∧ s.is .wdt WDT_STAT_EXPIRED = true ∧ s.wdt.expiredAt + s.rd .wdt WDT_GRACE_US * 1000 ≤ s.now) := by decide

/-- Recorder with one record of class 0x04 and severity 2 in the hold. -/
def offered (code : Nat) : State := { on with recorder := { hold := [{ code := code, path := 0, opsec := 0, payload := [] }] } }

theorem meets_eventRecorder :
    (let s := offered 0x1004;
      s.recorder.hold = { code := 0x1004, path := 0, opsec := 0, payload := [] } :: [] ∧ s.recorder.lost = 0) ∧
    (on.wr .evr EVR_CFG_MINSEV 3).rd .evr EVR_CFG_MINSEV = 3 ∧
    (let s := (on.wr .evr (EVR_RATE_EN 4) 1).wr .evr (EVR_RATE_TOKENS 4) 0;
      s.rd .evr EVR_CFG_MINSEV ≤ 0x1004 / 2 ^ 12 ∧ s.is .evr (EVR_RATE_EN (0x1004 % 256)) = true ∧ s.rd .evr (EVR_RATE_TOKENS (0x1004 % 256)) = 0) ∧
    (let s := ((on.wr .evr (EVR_RATE_RATE 255) 1).wr .evr (EVR_RATE_BURST 255) 2).wr .evr (EVR_RATE_TOKENS 255) 1;
      s.rd .evr (EVR_RATE_RATE 255) ≠ 0 ∧ s.rd .evr (EVR_RATE_TOKENS 255) < s.rd .evr (EVR_RATE_BURST 255)) ∧
    (let s := { on.wr .evr EVR_CURSOR_SEQ 1 with recorder := { next := 3, slots := [(1, [1]), (2, [2])] } };
      s.evrCursor ≠ s.recorder.next ∧ (s.slot (s.evrCursor % 16384)).getD 0 0 = s.evrCursor ∧
      s.eccGood .evr (32 * (s.evrCursor % 16384) + 28) 4 = true) ∧
    (let s := { on.wr .evr EVR_CURSOR_SEQ 2 with recorder := { next := 3, slots := [(1, [1])] } };
      s.evrCursor ≠ s.recorder.next ∧ (s.slot (s.evrCursor % 16384)).getD 0 0 ≠ s.evrCursor) ∧
    (let s := { on with recorder := { oldest := 2, next := 5 } };
      0 ≤ seqDiff 2 s.recorder.oldest ∧ 0 ≤ seqDiff s.recorder.next 5 ∧ seqDiff 1 s.recorder.oldest < 0 ∧ seqDiff s.recorder.next 6 < 0) := by decide

/-! ### Nodes, tasks and hoods -/

/-- Task 15 of core 0 of die 0 in a state, with a period of 25 µs; the scheduler runs. -/
def tasked (st : Nat) (event : Bool) : State :=
  (((((mem.wr (.core 0 0) CORE_SCHED_RUN 1).wr (.core 0 0) (TASK_CFG_EN 15) 1).wr (.core 0 0) (TASK_CFG_KIND 15) event.toNat).wr (.core 0 0)
    (TASK_PERIOD_PERIOD 15) 25).wr (.core 0 0) (TASK_STAT_STATE 15) st)

/-- A NODE_CTRL write in the command sequencer. -/
def commanded (n : Node) (w : Nat) : State := { on with seqQ := [{ node := n, word := w }] }

theorem meets_nodeCommands :
    (let s := commanded (.core 0 0) 0x40000;
      s.seqQ = { node := .core 0 0, word := 0x40000 } :: [] ∧ s.seqFree = true ∧ s.heldByGrant { node := .core 0 0, word := 0x40000 } = false ∧
      ctlKind 0x40000 = 0 ∧ ctlKind 0x10001 = 1 ∧ ctlKind 0x20002 = 2 ∧ ctlKind 0x80008 = 3 ∧ (Node.core 0 0).resetsPackage = false ∧ on.cmdRefused (.core 0 0) 0x40000 = none ∧
      Node.core 0 0 ≠ .ring ∧ Node.core 0 0 ≠ .pkg) ∧
    ((tasked 1 true).cmdRefused (.core 0 0) 0x20002).isSome = true ∧
    (on.cmdRefused .pkg 0x20002 = none ∧ ctlNAP 0x20002 = true ∧ (0x20002 : Nat).testBit 1 = true ∧ (commanded .pkg 0x20002).seqFree = true ∧
      (commanded .pkg 0x20002).heldByGrant { node := .pkg, word := 0x20002 } = false) ∧
    (Node.die 0 ≠ .ring ∧ Node.pkg.resetsPackage = true ∧ on.cmdRefused .pkg 0x80008 = none) ∧
    (ctlKind 0x80008 = 3 ∧ ctlNAP 0x80008 = false ∧ ctlEN 0x80008 = false ∧ ctlFRZ 0x80008 = false) ∧
    (ctlKind 0x40004 = 0 ∧ ctlFRZ 0x40004 = true) := by decide

theorem meets_taskDueTimes :
    (let s := mem.wr (.core 0 0) (TASK_PERIOD_PERIOD 15) 25; let b := Blk.core 0 0;
      s.hasNode (.core 0 0) = true ∧ s.rd b HOOD_STAT_STATE < 2 ∧ s.is b (TASK_CFG_EN 15) = false ∧ s.rd b (TASK_STAT_STATE 15) = 0 ∧
      25 ≤ s.rd b (TASK_PERIOD_PERIOD 15) ∧ s.rd b (TASK_PHASE_PHASE 15) < s.rd b (TASK_PERIOD_PERIOD 15) ∧
      (mem.wr b (TASK_PERIOD_PERIOD 15) 24).rd b (TASK_PERIOD_PERIOD 15) < 25) ∧
    (let s := tasked 1 true; let b := Blk.core 0 0;
      s.is b (TASK_CFG_EN 15) = true ∧ s.is b (TASK_CFG_KIND 15) = true ∧ s.is b CORE_SCHED_RUN = true ∧ s.is b NODE_CTRL_FRZ = false ∧
      (s.core 0 0).hood.hold = none ∧ (s.core 0 0).eqHold = none ∧ s.rd b (TASK_STAT_STATE 15) = 1) ∧
    (∀ st ∈ [1, 3], let s := { tasked st false with tmb := { count := 25000 } }; let s := s.setTask 0 0 15 { seen := 1 }; let b := Blk.core 0 0;
      s.is b (TASK_CFG_EN 15) = true ∧ s.is b (TASK_CFG_KIND 15) = false ∧ s.newDues 0 0 15 = [25000] ∧ s.tmb.stepTo ≤ 25000 ∧
      s.is b CORE_SCHED_RUN = true ∧ s.is b NODE_CTRL_FRZ = false ∧ (s.core 0 0).hood.hold = none ∧ (s.core 0 0).eqHold = none) ∧
    (let s := (((tasked 1 true).wr (.core 0 0) (TASK_CFG_SRC 15) 511).wr (.core 0 0) (TASK_CFG_SRCEN 15) 1).wr (.irqDie 0) (IRQ_PEND_PEND 15) (2 ^ 31);
      s.hasDie 0 = true ∧ s.bit (.irqDie 0) (IRQ_PEND_PEND (511 / 32)) (511 % 32) = true ∧ s.consumers 0 511 ≠ []) := by decide

theorem meets_schedulerChoice :
    [3, 15].Nodup ∧ ((tasked 2 false).wr (.core 0 0) (TASK_CFG_PRIO 15) 1).firstTask 0 0 [3, 15] = some 15 := by decide

theorem meets_taskSwitches :
    (let s := (tasked 2 false).setCore 0 0 { (tasked 2 false).core 0 0 with ctx := .idle, form := true };
      s.maySwitch 0 0 = true ∧ (s.core 0 0).ctx = .idle ∧ s.rd (.core 0 0) HOOD_STAT_STATE ≠ 4 ∧ (s.core 0 0).eqTill ≤ s.tb ∧ s.firstTask 0 0 (s.tasksIn 0 0 [2, 4]) = some 15 ∧
      s.rd (.core 0 0) (TASK_STAT_STATE 15) = 2 ∧ s.rd (.core 0 0) (TASK_IMG_COUNT 15) = 0) ∧
    (let s := ((tasked 2 false).wr (.core 0 0) (TASK_CFG_PRIO 15) 1).wr (.core 0 0) (TASK_STAT_STATE 0) 3;
      let s := s.setCore 0 0 { s.core 0 0 with ctx := .task 0 };
      (s.core 0 0).ctx = .task 0 ∧ s.firstTask 0 0 (s.tasksIn 0 0 [2]) = some 15 ∧ s.maySwitch 0 0 = true ∧
      s.rd (.core 0 0) (TASK_CFG_PRIO 0) < s.rd (.core 0 0) (TASK_CFG_PRIO 15) ∧ s.rd (.core 0 0) (TASK_IMG_COUNT 0) ≤ (s.task 0 0 0).pos) ∧
    (let s := tasked 4 false; let s := s.setCore 0 0 { s.core 0 0 with ctx := .idle, saved := [(15, some { hot := {}, pc := 0, form := true })] };
      s.maySwitch 0 0 = true ∧ (s.core 0 0).ctx = .idle ∧ s.rd (.core 0 0) HOOD_STAT_STATE ≠ 4 ∧ (s.core 0 0).eqTill ≤ s.tb ∧ s.firstTask 0 0 (s.tasksIn 0 0 [2, 4]) = some 15 ∧ s.rd (.core 0 0) (TASK_STAT_STATE 15) = 4 ∧
      (s.core 0 0).saved.get 15 none = some { hot := {}, pc := 0, form := true }) ∧
    (let s := tasked 5 false; let s := s.setCore 0 0 { s.core 0 0 with ctx := .task 15 };
      (s.core 0 0).ctx = .task 15 ∧ s.coreUp 0 0 = true ∧ s.rd (.core 0 0) (TASK_STAT_STATE 15) = 5 ∧
      s.rd (.core 0 0) (TASK_IMG_COUNT 15) ≤ (s.task 0 0 15).pos) ∧
    (let s := tasked 2 false;
      (s.core 0 0).ctx = .background ∧ s.is (.core 0 0) CORE_SCHED_RUN = true ∧ s.maySwitch 0 0 = true ∧ s.tasksIn 0 0 [2] ≠ []) ∧
    (let s := tasked 1 false; let s := s.setCore 0 0 { s.core 0 0 with ctx := .idle, saved := [(16, some { hot := {}, pc := 0, form := true })] };
      s.maySwitch 0 0 = true ∧ s.tasksIn 0 0 [2, 3, 4, 5] = [] ∧ (s.core 0 0).saved.get 16 none = some { hot := {}, pc := 0, form := true }) := by decide

/-! ### Hoods -/

/-- A unit of a pair in a state of the hot-standby block. -/
def unit (st : Nat) : State := { mem with straps := { hsbPair := true } }.wr .hsb HSB_STAT_STATE st

/-- A message on path B with SEQ 0. -/
def hdr : SbHdr := { path := 1, state := 3, claim := 2, seq := 0, time := 0 }

/-- The core is idle, its hood holds an empty plan, and its state is `st`. -/
def hooded (s : State) (st : Nat) (x : Hood) : State :=
  (s.wr (.core 0 0) HOOD_STAT_STATE st).setCore 0 0 { s.core 0 0 with ctx := .idle, hood := x }

def emptyPlan : HoodPlan := { moves := [], inits := [], recs := [] }

theorem meets_controlHoods :
    (let b := Blk.core 0 0;
      mem.hasNode (.core 0 0) = true ∧ mem.rd b HOOD_STAT_STATE = 0 ∧ (hooded mem 1 {}).rd b HOOD_STAT_STATE = 1 ∧ (hooded mem 1 {}).inPair = false) ∧
    (let s := (hooded (unit 3) 1 {}).wr (.core 0 0) (TASK_CFG_EN 0) 1;
      s.inPair = true ∧ s.isActive = true ∧ s.refValidTask 0 0 = true ∧ s.rd (.core 0 0) HOOD_STAT_STATE = 1) ∧
    (let s := hooded mem 3 { plan := some emptyPlan };
      s.rd (.core 0 0) HOOD_STAT_STATE = 3 ∧ s.inPair = false ∧ s.gap 0 0 = true ∧ s.tb ≤ (s.core 0 0).hood.until_ ∧
      (s.core 0 0).hood.plan = some emptyPlan ∧ (s.core 0 0).hood.until_ < { s with tmb := { ran := 1 } }.tb ∧
      (hooded mem 4 { plan := some emptyPlan }).rd (.core 0 0) HOOD_STAT_STATE = 4) ∧
    (let s := hooded (unit 3) 3 { plan := some emptyPlan, look := some 7 };
      s.inPair = true ∧ s.isActive = true ∧ s.gap 0 0 = true ∧ (s.core 0 0).hood.look = some 7 ∧ s.refPast 0 0 7 = false) ∧
    (let s := hooded (unit 5) 3 { plan := some emptyPlan, look := some 7, atGot := some (7, 0), hold := some 0 };
      s.inPair = true ∧ s.isActive = false ∧ s.standbyReady 0 0 = true) := by decide

theorem meets_controlHoodMessages :
    (let u := (hooded (unit 5) 1 {}).heard hdr;
      (hooded (unit 5) 1 {}).hears hdr = true ∧ u.hasNode (.core 0 0) = true ∧ u.isStandby = true ∧ u.rd (.core 0 0) HOOD_STAT_STATE = 1 ∧
      u.rd (.core 0 0) HOOD_DIGEST_CRC = 0 ∧ u.rd (.core 0 0) HOOD_DIGEST_CRC ≠ 1) ∧
    (let u := (hooded (unit 5) 3 {}).heard hdr;
      (hooded (unit 5) 3 {}).hears hdr = true ∧ u.isStandby = true ∧ u.rd (.core 0 0) HOOD_STAT_STATE = 3 ∧ (u.core 0 0).hood.look ≠ some 7 ∧
      (((hooded (unit 5) 3 { look := some 7 }).heard hdr).core 0 0).hood.look = some 7) ∧
    (let u := (hooded (unit 3) 2 {}).heard hdr;
      (hooded (unit 3) 2 {}).hears hdr = true ∧ u.hasNode (.core 0 0) = true ∧ u.isActive = true ∧ u.rd (.core 0 0) HOOD_STAT_STATE = 2) ∧
    (let s := hooded ((({ unit 3 with tmb := { count := 200000 } }.wr (.core 0 0) (TASK_CFG_EN 0) 1).wr (.core 0 0) (TASK_PERIOD_PERIOD 0) 25)) 3
        { look := some 7 };
      (s.core 0 0).hood.look = some 7 ∧ s.inPair = true ∧ s.isActive = true ∧ s.rd (.core 0 0) HOOD_STAT_STATE = 3 ∧
      s.tb ≤ (s.core 0 0).hood.until_ ∧ s.refPast 0 0 7 = true) ∧
    (let s := { hooded (unit 5) 3 { hold := some 0 } with tmb := { ran := 30000 } };
      (s.core 0 0).hood.hold = some 0 ∧ s.isStandby = true ∧ (s.core 0 0).hood.atGot = none ∧ 0 + 30000 ≤ s.tb) ∧
    (let s := { hooded ((unit 5).wr (.core 0 0) (TASK_PERIOD_PERIOD 0) 25) 3 { atGot := some (7, 0) } with tmb := { ran := 25000 } };
      (s.core 0 0).hood.atGot = some (7, 0) ∧ s.isStandby = true ∧ s.rd (.core 0 0) HOOD_STAT_STATE = 3 ∧
      s.standbyReady 0 0 = false ∧ 0 + s.rd (.core 0 0) (TASK_PERIOD_PERIOD (s.rd (.core 0 0) HOOD_CTRL_REF)) * 1000 ≤ s.tb) := by decide

/-- A kernel that stores zero planes: ZEROP and STOREP q for each of the eight planes, then GEND. -/
def zeroKernel : List Byte :=
  [0x00, 0x61, 0x00, 0x65, 0x00, 0x61, 0x01, 0x65, 0x00, 0x61, 0x02, 0x65, 0x00, 0x61, 0x03, 0x65, 0x00, 0x61, 0x04, 0x65, 0x00, 0x61, 0x05, 0x65,
   0x00, 0x61, 0x06, 0x65, 0x00, 0x61, 0x07, 0x65, 0x00, 0x6F]

/-- Lane 11 of die 0 in a state, its hood in state `st`, with an arm. -/
def khooded (s : State) (st : Nat) (a : Option KArm) : State :=
  (s.wr (.lane 0 11) LANE_KHOOD_STAT_STATE st).setLane 0 11 { s.lane 0 11 with arm := a }

theorem meets_kernelHoodLoads :
    (let s := khooded mem 0 none; let m := s.mem (.ks 0 11 1);
      s.hasNode (.lane 0 11) = true ∧ s.rd (.lane 0 11) LANE_KHOOD_STAT_STATE ≠ 2 ∧
      loadWalk (fun p => leNat (m.getList (2 * p) 2)) 16384 0 [] 0 = .bad 0 1 ∧ s.eccGood (.ks 0 11 1) 0 2 = true) ∧
    (let s := (khooded mem 0 none).storeBytes (.ks 0 11 1) 0 zeroKernel; let m := s.mem (.ks 0 11 1);
      1 - s.rd (.lane 0 11) LANE_STAT_SLOT = 1 ∧ loadWalk (fun p => leNat (m.getList (2 * p) 2)) 16384 0 [] 0 = .ok 17 ∧
      s.eccGood (.ks 0 11 1) 0 34 = true ∧ s.eccGood (.lsram 0 11) 0x380100 256 = true ∧ s.rd (.lane 0 11) LANE_BUDGET_CYCLES = 0) := by decide

theorem meets_kernelHoods :
    ((khooded (unit 5) 1 none).isStandby = true) ∧
    (let w := (khooded mem 1 none).wr (.lane 0 11) LANE_KHOOD_CTRL_AT 0; let b := Blk.lane 0 11;
      w.isStandby = false ∧ w.rd b LANE_KHOOD_STAT_STATE = 1 ∧ w.hsbState ≠ 3 ∧ (w.wr b LANE_CTRL_RUN 1).is b LANE_CTRL_RUN = true ∧
      w.is b LANE_KHOOD_CTRL_AT = false ∧ w.is b LANE_CTRL_RUN = false ∧ (khooded mem 0 none).rd b LANE_KHOOD_STAT_STATE ≠ 1 ∧
      (khooded mem 2 none).rd b LANE_KHOOD_STAT_STATE = 2) ∧
    (let s := { khooded mem 2 (some { line := some 9 }) with lines := [{ n := 9, f := 0, at_ := 0 }] };
      (s.lane 0 11).arm = some { line := some 9 } ∧ s.switchS 0 11 9 = some 0 ∧ 0 ≤ s.ps) ∧
    (let u := (khooded (unit 5) 1 none).heard hdr; let b := Blk.lane 0 11;
      (khooded (unit 5) 1 none).hears hdr = true ∧ u.hasNode (.lane 0 11) = true ∧ u.isStandby = true ∧ u.rd b LANE_KHOOD_STAT_STATE = 1 ∧
      u.rd b LANE_KHOOD_DIGEST_CRC = 0 ∧ u.rd b LANE_KHOOD_COST_PERGROUP = 0 ∧ u.rd b LANE_LEAD_NS = (unit 5).rd b LANE_LEAD_NS ∧
      ((khooded (unit 5) 2 none).heard hdr).rd b LANE_KHOOD_STAT_STATE ≠ 1) ∧
    (let a : KArm := { line := some 9, paired := true }; let u := (khooded (unit 3) 2 (some a)).heard hdr;
      (khooded (unit 3) 2 (some a)).hears hdr = true ∧ (u.lane 0 11).arm = some a ∧ a.paired = true ∧ a.line = some 9 ∧ u.isActive = true ∧
      a.agreed = false ∧ u.aheadBy 0 11 9 4000000 = true) ∧
    (let a : KArm := { line := some 9, paired := true }; let u := (khooded (unit 5) 2 (some a)).heard hdr;
      (khooded (unit 5) 2 (some a)).hears hdr = true ∧ (u.lane 0 11).arm = some a ∧ u.isStandby = true ∧ u.aheadBy 0 11 9 1 = true) ∧
    (let a : KArm := { line := some 9, paired := true }; let l : List Line := [{ n := 9, f := 0, at_ := 0 }];
      ({ khooded (unit 3) 2 (some a) with lines := l }.isActive = true ∧ { khooded (unit 3) 2 (some a) with lines := l }.aheadBy 0 11 9 4000000 = false) ∧
      ({ khooded (unit 5) 2 (some a) with lines := l }.isStandby = true ∧ { khooded (unit 5) 2 (some a) with lines := l }.aheadBy 0 11 9 1 = false)) := by
  decide

/-! ### CAN FD -/

/-- Controller 3 has joined the bus, error active, with object 127 as given. -/
def onBus (x : CanObj) : State := ((on.wr (.can 3) CAN_CTRL_EN 1).wr (.can 3) CAN_STAT_ERRST 0).setCanObj 3 127 x

def frame : CanFrame := { ide := false, id := 5, fdf := false, brs := false, remote := false, dlc := 1, data := [7], sofUs := 0 }

theorem meets_canReception :
    (on.wr (.can 3) CAN_CTRL_EN 1).is (.can 3) CAN_CTRL_EN = true ∧
    (let s := (on.wr (.can 3) CAN_CTRL_EN 1).wr (.can 3) CAN_STAT_ERRST 3;
      s.is (.can 3) CAN_CTRL_EN = true ∧ s.rd (.can 3) CAN_STAT_ERRST = 3 ∧ (s.wr (.can 3) CAN_STAT_ERRST 2).rd (.can 3) CAN_STAT_ERRST = 2) ∧
    (let s := onBus { en := true, id := 5 };
      s.canLive 3 = true ∧ frame.fdf = false ∧ frame.remote = false ∧ s.isPeerHeartbeat 3 frame = false ∧ s.canMatch 3 frame = some 127 ∧
      (onBus {}).canMatch 3 frame = none ∧ (onBus {}).isPeerHeartbeat 3 frame = false) := by decide

theorem meets_canTransmission :
    (let s := onBus { en := true, dir := true, txreq := true, id := 5 };
      s.canLive 3 = true ∧ s.portsUp = true ∧ s.is (.can 3) CAN_CTRL_LISTEN = false ∧ s.canBegun 3 = none ∧ s.canChoice 3 = some 127) ∧
    (let s := onBus { en := true, dir := true, txreq := true, begun := true, id := 5 };
      s.canBegun 3 = some 127 ∧ (s.canObj 3 127).begun = true ∧ (s.canObj 3 127).heldWrite = none) ∧
    (let s := (onBus {}).wr (.can 3) CAN_OBJSEL_OBJ 127;
      s.canSel 3 = 127 ∧ s.canClash 3 127 (s.canOf 3).buf = false ∧ (s.canObj 3 127).begun = false) ∧
    (let s := (onBus { begun := true }).wr (.can 3) CAN_OBJSEL_OBJ 127;
      s.canClash 3 (s.canSel 3) (s.canOf 3).buf = false ∧ (s.canObj 3 (s.canSel 3)).begun = true) ∧
    (let s := onBus { en := true, id := 5 }; let s := s.setCan 3 { s.canOf 3 with buf := { en := true, id := 5 } };
      s.canSel 3 = 0 ∧ s.canClash 3 0 (s.canOf 3).buf = true ∧ (s.canObj 3 0).begun = false) := by decide

theorem meets_canArbitration :
    ((onBus { en := true, dir := true, txreq := true, id := 5 }).setCanObj 3 0 { en := true, dir := true, txreq := true, id := 6 }).canChoice 3 =
      some 127 ∧
    ((onBus { en := true, dir := true, txreq := true, id := 5 }).setCanObj 3 0 { en := true, dir := true, txreq := true, id := 5 }).canChoice 3 =
      some 0 := by decide

/-! ### Real-time clock, package time and lines -/

theorem meets_realTimeClock :
    ((on.wr .rtc RTC_CTRL_SET 1).rd .rtc RTC_CTRL_SET ≠ 0 ∧ on.is .rtc RTC_STAT_SHBUSY = false ∧ 0xFFFF % 2 ^ 16 ≠ 0) ∧
    (let s := (on.wr .rtc RTC_STAT_SHBUSY 1).wr .rtc RTC_SHIFT_UNITS 0xFFFF;
      s.is .rtc RTC_STAT_SHBUSY = true ∧ s.rd .rtc RTC_SHIFT_UNITS = 0xFFFF) ∧
    (let s := { on.wr .rtc (ALM_CTRL_EN 1) 1 with rtc := { time := 2 ^ 48 } };
      s.rd .rtc (ALM_CTRL_EN 1) ≠ 0 ∧ s.rtc.fresh 1 = false ∧ s.almMask 1 = 0 ∧ s.almVal 1 ≤ s.rtc.time) ∧
    (let s := (on.wr .rtc (ALM_CTRL_EN 0) 1).wr .rtc (ALM_MASK_HI_MASK 0) 1;
      s.rd .rtc (ALM_CTRL_EN 0) ≠ 0 ∧ s.rtc.fresh 0 = false ∧ s.almMask 0 ≠ 0 ∧ s.almMatch 0 s.rtc.time = true ∧ s.rtc.prev 0 = false) := by decide

theorem meets_packageTime :
    ((on.wr .pkgNode JOB_STAT_STATE 1).jobAdmitted = true ∧ on.jobAdmitted = false) ∧
    (let s := on.wr .tmb TMB_CTRL_PTPEN 1;
      s.is .tmb TMB_CTRL_PTPEN = true ∧ s.jobAdmitted = false ∧ 1000000 < (-1000001 : Int).natAbs ∧ ¬ 1000000 < (1000000 : Int).natAbs) ∧
    (let s := (on.wr .tmb TMB_STAT_PTPVAL 1).wr .tmb TMB_STAT_REF 1;
      s.refValid 1 = true ∧ s.refBroken 1 = true ∧ s.is .tmb TMB_STAT_FOLLOW = false ∧ s.is .tmb TMB_STAT_SWITCHING = false ∧
      s.is .tmb TMB_CTRL_LINEEN = false ∧ s.rd .tmb TMB_STAT_REF = 1) ∧
    (let s := on.wr .tmb TMB_STAT_ENCVAL 1; s.refValid 2 = true ∧ s.refBroken 2 = true) ∧
    (let s := { on.wr .tmb TMB_STAT_PTPVAL 1 with tmb := { ran := 64000000 } };
      s.refValid 1 = true ∧ s.refQual 1 = false ∧ s.refSince 1 + 64000000 ≤ s.tb) := by decide

/-- The line generator is enabled, and its next line is due. -/
def lining : State := { on.wr .tmb TMB_CTRL_LINEEN 1 with tmb := { nextF := some 0, nextN := 2 ^ 32 - 1 } }

theorem meets_lineGenerator :
    (on.rd .tmb TMB_CTRL_LINEEN = 0 ∧ on.rd .tmb TMB_STAT_REF = 0) ∧
    (let s := on.wr .tmb TMB_STAT_REF 2; s.rd .tmb TMB_STAT_REF = 2 ∧ s.encStopped = true) ∧
    (let s := on.wr .tmb TMB_STAT_REF 1; s.grid (s.rd .tmb TMB_STAT_REF) = some (0, s.rd .tmb TMB_PNOM_PS)) ∧
    lining.rd .tmb TMB_CTRL_LINEEN ≠ 0 ∧ lining.generate.1 = some (2 ^ 32 - 1, 0) ∧ on.generate.1 = none := by decide

/-! ### Field interfaces -/

theorem meets_loadSwitches :
    ((on.wr .lsw LSW_STAT_FAILSAFE 1).is .lsw LSW_STAT_FAILSAFE = true ∧ (on.wr .lsw LSW_STAT_FAILSAFE 0).is .lsw LSW_STAT_FAILSAFE = false) ∧
    ((on.wr .lsw (LSW_CH_STAT_PHASE 15) phTURNON).rd .lsw (LSW_CH_STAT_PHASE 15) = phTURNON) ∧
    (let s := (on.wr .lsw (LSW_CH_STAT_PHASE 15) phTURNOFF).wr .lsw (LSW_CH_CFG_SHORTEN 15) 1;
      s.rd .lsw (LSW_CH_STAT_PHASE 15) = phTURNOFF ∧ s.is .lsw (LSW_CH_CFG_SHORTEN 15) = true ∧ s.heldOff = false) ∧
    (let s := ((on.wr .lsw (LSW_CH_STAT_PHASE 15) phON).wr .lsw LSW_CMD_CMD (2 ^ 15)).wr .sup FSUP_STAT_G1 0;
      s.chanDrives 15 = true ∧ s.rd .lsw (LSW_CH_STAT_PHASE 15) = phON ∧ s.missing (chanGroup 15) = false ∧ s.rd .lsw (LSW_CH_CFG_OCBLANK 15) ≤ 10) ∧
    (let s := ((on.wr .lsw (LSW_CH_STAT_PHASE 0) phON).wr .sup FSUP_STAT_G0 0).wr .lsw (LSW_CH_CFG_OPENEN 0) 1;
      s.rd .lsw (LSW_CH_STAT_PHASE 0) = phON ∧ s.missing (chanGroup 0) = false ∧ s.is .lsw (LSW_CH_CFG_OPENEN 0) = true) ∧
    (let s := ((on.wr .lsw (LSW_CH_STAT_PHASE 0) phOFF).wr .sup FSUP_STAT_G0 0).wr .lsw (LSW_CH_CFG_SHORTEN 0) 1;
      s.rd .lsw (LSW_CH_STAT_PHASE 0) = phOFF ∧ s.missing (chanGroup 0) = false ∧ s.is .lsw (LSW_CH_CFG_SHORTEN 0) = true ∧ s.heldOff = false) := by
  decide

theorem meets_fieldWatch :
    (unit 3).strapped = true ∧ (unit 3).rd .sup CLX_OWN_CLAIM < 1 ∧ (0 : Nat) ≤ (unit 3).rd .sup CLX_OWN_CLAIM ∧
    (let s := { on.wr .lsw LSW_STAT_KEEPOK 1 with now := on.rd .lsw LSW_KEEP_TMO_MS * 1000000 };
      s.rd .lsw LSW_STAT_KEEPOK ≠ 0 ∧ s.field.lastKeep + s.rd .lsw LSW_KEEP_TMO_MS * 1000000 ≤ s.now) ∧
    (on.wr .lsw LSW_STAT_KEEPOK 0).rd .lsw LSW_STAT_KEEPOK = 0 := by decide

theorem meets_digitalInputs :
    (let s := (on.wr .sup FSUP_STAT_G0 0).wr .sup FSUP_STAT_G1 0;
      s.fieldRuns = true ∧ s.field.nextSample ≤ s.now ∧ s.isFast 31 = false ∧ s.missing (inputGroup 31) = false ∧ (s.wr .din DIN_CFG_FAST 8).isFast 3 = true ∧
      s.missing (inputGroup 3) = false ∧ s.bit .din DIN_STATE_STATE 3 ≠ true) ∧
    (let s := on.wr .sup FSUP_STAT_G1 2;
      s.fieldRuns = true ∧ s.field.nextSample ≤ s.now ∧ s.isFast 31 = false ∧ s.missing (inputGroup 31) = true) ∧
    0xFFF % 2 ^ 12 ≠ 0 ∧ 0x1000 % 2 ^ 12 = 0 := by decide

/-! ### Retained stores, updates and keys -/

/-- The retained store has been recalled. -/
def recalled : State := { on with nvs := { recalled := true } }

theorem meets_retainedStores :
    (let s := (recalled.wr .nvs NVS_PEND_PEND (2 ^ 31 + 1)).wr .nvs NVS_DIRTY_DIRTY (2 ^ 31);
      s.nvs.run = none ∧ s.nvs.recalled = true ∧ s.pwr.phase = .on ∧ s.nvs.pfPhase = .idle ∧ s.pwr.resetWaits = none ∧
      s.splitDirty (State.storeNext.onesOf32 (s.rd .nvs NVS_PEND_PEND)) = ([0], some 31)) ∧
    (let s := (recalled.setCopy 0 30 { valid := true, gen := 1 }).setCopy 1 30 { valid := true, gen := 2 };
      (s.copyOf 0 30).valid = true ∧ (s.copyOf 1 30).valid = true) ∧
    (let s := recalled.setCopy 1 30 { valid := true }; (s.copyOf 0 30).valid = false ∧ (s.copyOf 1 30).valid = true) ∧
    (recalled.copyOf 1 30).valid = false ∧
    (let r : StoreRun := { seg := 31, bank := 1, gen := 1, why := .commanded }; let s := { recalled with nvs := { run := some r } };
      s.nvs.run = some r ∧ r.why ≠ .pounce ∧ r.why = .commanded ∧ r.second = false ∧ { r with second := true }.second = true ∧ { r with why := .pounce }.why = .pounce ∧
      s.nvs.pfPhase = .idle) ∧
    (let r : StoreRun := { seg := 0, bank := 1, gen := 1, why := .powerFail };
      let s := { recalled with nvs := { run := some r, pfPhase := .storing } };
      s.nvs.run = some r ∧ r.why ≠ .pounce ∧ r.second = false ∧ s.nvs.pfPhase ≠ .idle) ∧
    (let s := (recalled.wr .nvs NVS_POUNCE_EN 1).wr .nvs NVS_POUNCE_HOURS 0;
      s.rd .nvs NVS_POUNCE_EN ≠ 0 ∧ s.nvs.recalled = true ∧ s.pwr.phase = .on ∧ s.rd .nvs NVS_PEND_PEND = 0 ∧ s.rd .nvs NVS_STAT_POUNCE = 0 ∧
      s.nvs.pounceAt + s.rd .nvs NVS_POUNCE_HOURS * 3600000000000 ≤ s.recorder.opNs ∧
      ((List.range 32).flatMap fun g => List.replicate (s.pounceStores [] g) g) ≠ []) := by decide

/-- With 1,000 µF the energy held allows a segment, or does not, whichever way the reading is rounded. -/
def stocked : State := recalled.wr .nvs NVS_PF_CAP_UF 1000

theorem meets_retainedStores_energy : (stocked.readVhold 24000).energyOk = true ∧ (stocked.readVhold 0).energyOk = false := by
  have e : stocked.calEff 4 = 0 := by decide
  simp only [State.readVhold, State.calibrate, State.freeBit, e, Int.add_zero, Int.mul_emod_left, ne_eq, not_true, decide_false, Bool.and_false]
  decide

/-- A package of two dies, which takes its updates from the crown die, with the update engine in a state. -/
def updating (st : Nat) (u : Upd) : State := { on.wr .upd UPD_STAT_STATE st with straps := { dies := 2 }, upd := u }

theorem meets_firmwareTransfers :
    (let s := (updating 0 {}).wr .upd UPD_FRAGS_COUNT 16384;
      s.svcPath = false ∧ s.rd .upd UPD_STAT_STATE ≠ 1 ∧ s.rd .upd UPD_STAT_STATE ≠ 3 ∧ s.rd .upd UPD_STAT_TRIAL = 0 ∧
      s.rd .upd UPD_FRAGS_COUNT = 16384 ∧ s.upd.xfer ≠ some (s.rd .upd UPD_XFER_XID, s.rd .upd UPD_FRAGS_COUNT)) ∧
    (let s := (updating 2 { xfer := some (0, 1) }).wr .upd UPD_FRAGS_COUNT 1;
      s.upd.xfer = some (s.rd .upd UPD_XFER_XID, s.rd .upd UPD_FRAGS_COUNT) ∧ s.mapFull = false ∧ s.rd .upd UPD_STAT_STATE = 2 ∧
      s.rd .upd UPD_FRAG_IDX_INDEX < s.xferFrags ∧ s.upd.writing = none ∧ s.mapBit (s.rd .upd UPD_FRAG_IDX_INDEX) = false ∧
      s.sectorBlank (s.rd .upd UPD_FRAG_IDX_INDEX) = true ∧ (s.wr .upd (UPD_MAP_MAP 0) 1).mapBit 0 = true) ∧
    ((updating 1 {}).rd .upd UPD_STAT_STATE = 1 ∧ (updating 3 {}).ctxCry.waits updUser = false) ∧
    (let put (s : State) := ((({ s with upd := { s.upd with writing := none } }.programSector 1 []).setBit .upd (UPD_MAP_MAP 0) 1 true).bump .upd
      UPD_HAVE_COUNT).dirty 30;
      (put (updating 2 { xfer := some (0, 2), writing := some (1, []) })).mapFull = false ∧
      (put ((updating 2 { xfer := some (0, 2), writing := some (1, []) }).wr .upd UPD_HAVE_COUNT 1)).mapFull = true) ∧
    (let s := (updating 4 {}).wr .lsw LSW_STAT_KEEPOK 1;
      s.rd .upd UPD_STAT_STATE = 4 ∧ s.rd .upd UPD_STAT_TRIAL = 0 ∧ s.gateCode = none ∧ (updating 4 {}).gateCode = some 0x21) ∧
    (let s := (updating 4 { act := some { boot := 0, trial := 0, svc := false } }).wr .lsw LSW_STAT_KEEPOK 1;
      s.upd.act = some { boot := 0, trial := 0, svc := false } ∧ s.bit .nvs NVS_PEND_PEND 30 = false ∧
      (s.nvs.run.map fun r => r.seg) ≠ some 30 ∧ s.gateCode = none) := by decide

theorem meets_firmwareTrials :
    (let s := { on with upd := { xfer := some (9, 1) } };
      s.pwr.phase = .on ∧ s.upd.xfer.map Prod.fst = some 9 ∧ s.svcPath = true ∧ s.upd.xfer.map Prod.fst ≠ some 8) ∧
    on.rd .upd UPD_GATE_KEYEN = 0 ∧ 0xA5 % 256 = 0xA5 ∧
    (let s := ((on.wr .upd UPD_STAT_TRIAL 1).wr .upd UPD_TRIALSTAT_RUNSEC (on.rd .upd UPD_TRIAL_SECONDS)).wr .lsw LSW_STAT_KEEPOK 1;
      s.rd .upd UPD_STAT_TRIAL ≠ 0 ∧ s.upd.act = none ∧ s.rd .upd UPD_TRIALSTAT_HELD = 0 ∧
      s.rd .upd UPD_TRIAL_SECONDS ≤ s.rd .upd UPD_TRIALSTAT_RUNSEC ∧ s.gateWeb = false ∧
      (s.wr .lsw LSW_STAT_KEEPOK 0).gateWeb = true ∧ (s.wr .upd UPD_TRIALSTAT_HELD 1).rd .upd UPD_TRIALSTAT_HELD ≠ 0) := by decide

theorem meets_keysAndRandomNumbers :
    keyAllowed (.core 0 0) = false ∧ keyAllowed .crown = true ∧
    (let s := on.wr .cry CRY_KSEL_SLOT 4;
      s.rd .cry CRY_KSEL_SLOT = 4 ∧ s.slotTaken 4 = false ∧ (s.setBit .cry CRY_KSTAT_PROG 4 true).slotTaken 4 = true) ∧
    (on.bit .cry CRY_KSTAT_REVOKED 3 = false ∧ 3 ≠ on.rd .cry CRY_KSTAT_RUNSLOT) ∧
    (let s := ((on.wr .cry (TRNG_SLOT_STAT_OWNED 0) 1).wr .cry (TRNG_SLOT_STAT_OWNED 1) 1).wr .cry (TRNG_SLOT_STAT_OWNED 2) 1;
      s.rd .cry (TRNG_SLOT_STAT_OWNED 3) = 0 ∧ ∀ j < 3, s.rd .cry (TRNG_SLOT_STAT_OWNED j) ≠ 0) ∧
    (let s := { (on.wr .cry TRNG_STAT_STATE trngRUN).wr .cry (TRNG_SLOT_STAT_PEND 3) 1 with tmb := { ran := 86400000000000 } };
      s.rd .cry TRNG_STAT_STATE = trngRUN ∧ trngRUN ≠ trngLATCHED ∧ s.rd .cry (TRNG_SLOT_STAT_PEND 3) ≠ 0 ∧ s.cry.runSince + 86400000000000 ≤ s.tb) ∧
    (on.wr .cry TRNG_STAT_STATE trngLATCHED).rd .cry TRNG_STAT_STATE = trngLATCHED ∧
    (on.wr .cry TRNG_STAT_STATE trngSTART).rd .cry TRNG_STAT_STATE = trngSTART := by decide

/-! ### Power -/

/-- The power phase is as given, with an instant. -/
def inPhase (p : Pwr) (now : Nat) : State := { on with pwr := p, now := now }

theorem meets_powerFailure :
    (let s := on.wr .sup SUP_STAT_WARNNOW 1;
      s.supervised = true ∧ 0 < s.rd .sup SUP_WARNCFG_MV ∧ s.is .sup SUP_STAT_WARNNOW = true ∧ ¬ on.is .sup SUP_STAT_WARNNOW = true) ∧
    (let s := inPhase { phase := .on, warnStart := some 0 } 49999; s.pwr.warnStart = some 0 ∧ s.now < 0 + 50000) ∧
    (let s := inPhase { phase := .on, warnStart := some 0 } 50000; ∀ t, s.pwr.warnStart = some t → t + 50000 ≤ s.now) ∧
    (let s := (inPhase { phase := .on, warnStart := some 0 } 50000).wr .sup SUP_STAT_WARNNOW 1;
      s.pwr.warnStart = some 0 ∧ s.supervised = true ∧ s.is .sup SUP_STAT_WARNNOW = true ∧
      s.rd .sup SUP_WARNCFG_MV + 20 ≤ s.rd .sup SUP_WARNCFG_MV + 20 ∧ 0 + 50000 ≤ s.now ∧ s.pwr.phase ≠ .store ∧ s.warnDue = true) ∧
    (let s := { inPhase { phase := .store } 0 with nvs := { pfPhase := .copying } }; s.pwr.phase = .store ∧ s.nvs.pfPhase = .copying) ∧
    (let s := { inPhase { phase := .store } 0 with nvs := { pfPhase := .stopped } };
      s.pwr.phase = .store ∧ s.nvs.pfPhase = .stopped ∧ s.nvs.run = none) ∧
    0x100 % 256 = 0 ∧ 0x41 % 256 ≠ 0 ∧ (0x80 : Nat).testBit 7 = true ∧ (0x42 : Nat).testBit 7 = false ∧ (0x42 : Nat).testBit 1 = true ∧
    (0x3D : Nat).testBit 7 = false ∧ (0x3D : Nat).testBit 1 = false ∧ (0x3D : Nat).testBit 6 = false := by
  refine ⟨by decide, by decide, ?_, by decide⟩
  intro s t h
  cases h
  decide

theorem meets_resetsAndBoots :
    (on.nvs.run = none ∧ on.nvs.mustStore = 0 ∧ on.pwr.phase = .on) ∧
    (let s := { on with nvs := { run := some { seg := 0, bank := 0, gen := 1, why := .commanded } } };
      s.pwr.phase = .on ∧ s.nvs.run ≠ none ∧ s.pwr.resetWaits = none) ∧
    (on.warnDue = false ∧ 0x17F % 256 ≠ 0 ∧ (0x17F % 256 : Nat).testBit 7 = false ∧ State.reset.pwr.phase = .reset ∧ State.reset.warnDue = false) ∧
    (let s := on.wr .crownNode CLK_LOCK_LOCK 8; s.bit .crownNode CLK_LOCK_LOCK 3 = true) ∧
    (let s := on.wr (.dieNode 7) CLK_DLOCK_LINK 8;
      s.hasDie 7 = true ∧ s.bit (.dieNode 7) (lockField 7).1 (lockField 7).2 = true ∧
      (on.wr (.dieNode 7) CLK_DLOCK_COMMON 1).bit (.dieNode 7) (lockField 9).1 (lockField 9).2 = true) ∧
    (let s := { on with hot := [hotKey .crown], hotCool := some 0, tmb := { ran := 1000000000 } };
      s.hot ≠ [] ∧ s.hotCool = some 0 ∧ 0 + 1000000000 ≤ s.tb) := by decide

theorem meets_napAndWake :
    (let s := inPhase { phase := .napEntry } 0; s.pwr.phase = .napEntry ∧ s.rd .nvs NVS_PEND_PEND = 0 ∧ s.rd .nvs NVS_DIRTY_DIRTY = 0 ∧ s.nvs.run = none) ∧
    (let s := inPhase { phase := .nap } 19999999; s.pwr.phase = .nap ∧ s.now < s.pwr.napAt + 20000000) ∧
    (let s := inPhase { phase := .nap, latchedWake := 8 } 20000000;
      s.pwr.phase = .nap ∧ s.pwr.napAt + 20000000 ≤ s.now ∧ s.pwr.latchedWake ≠ 0) ∧
    on.pwr.phase = .on ∧ (on.wr .wake WAKE_CFG_PINEN 1).rd .wake WAKE_CFG_PINEN ≠ 0 ∧ (on.wr .wake WAKE_CFG_PINEN 0).rd .wake WAKE_CFG_PINEN = 0 ∧
    (on.wr .wake WAKE_CFG_SVCEN 1).rd .wake WAKE_CFG_SVCEN ≠ 0 ∧ (on.wr .wake WAKE_CFG_SVCEN 0).rd .wake WAKE_CFG_SVCEN = 0 ∧
    (let s := (inPhase { phase := .nap } 0).wr .wake WAKE_CFG_DINEN 1; s.pwr.phase = .nap ∧ s.rd .wake WAKE_CFG_DINEN ≠ 0) := by decide

/-! ### Ring -/

/-- A member of a ring, or its head, with the ring in a state and both ports up. -/
def ringed (head : Bool) (st : Nat) (r : Ring) : State :=
  { ((on.wr .ring RING_STAT_STATE st).wr .ring RING_STAT_PORT0 1).wr .ring RING_STAT_PORT1 1 with
    straps := { ringEn := true, ringHead := head }, ring := r }

theorem meets_ringEnumeration :
    (let s := ringed true 1 {};
      s.isHead = true ∧ s.ringOn = true ∧ s.rd .ring RING_STAT_STATE = 1 ∧ s.ring.enumAt = none ∧ s.ring.dup = false) ∧
    (let s := { ringed true 1 { enumAt := some 0 } with tmb := { ran := 10000000 } };
      s.sinceAtLeast s.ring.enumAt 10000000 = true ∧ s.ring.enumAt ≠ none ∧ s.ring.dup = false) ∧
    (16 ≤ 15 + 1 ∧ 63 + 1 ≤ 64 ∧ 64 < 64 + 1 ∧ 14 + 1 < 16) ∧
    (let s := ringed false 1 {}; s.ringOn = true ∧ s.straps.ringHead = false) ∧
    (let s := ringed true 2 {}; s.ringOn = true ∧ s.rd .ring (ringPort 1) ≠ 0 ∧ s.rd .ring RING_STAT_STATE = 2) ∧
    (let s := ringed true 3 {}; s.ringOn = true ∧ s.rd .ring (ringPort 0) ≠ 0 ∧ s.rd .ring RING_STAT_STATE = 3) ∧
    (let s := (ringed true 4 {}).wr .ring RING_STAT_PORT0 0;
      s.ringOn = true ∧ s.rd .ring (ringPort 0) = 0 ∧ s.is .ring (ringPort (1 - 0)) = true ∧ s.rd .ring RING_STAT_STATE = 4 ∧
      (s.wr .ring RING_STAT_PORT1 0).is .ring (ringPort (1 - 0)) = false) ∧
    (let s := ringed true 2 {}; bits ([2 ^ 16 + 2 ^ 8].getD 0 0) 16 8 ≠ s.rd .ring RING_POS_POS ∧ bits ([2 ^ 16 + 2 ^ 8].getD 0 0) 8 8 ≠ s.rd .ring RING_POS_POS) := by
  decide

/-- A ring frame of a kind that awaits its answer from member 2 with tag 7. -/
def asked (kind q : Nat) : RingReq := { tag := 7, member := 2, kind := kind, at_ := 0, q := q }

theorem meets_ringTransactions :
    (let s := ringed false 2 {};
      s.ringOn = true ∧ s.straps.ringHead = false ∧ 0x3FFFFFC % 4 = 0 ∧ s.freeInput = some 16 ∧ (s.cmdRefused .pkg 0x40004 true).getD 0 = 0) ∧
    (let s := ringed false 2 { check := some 0x40004 }; s.ring.check = some 0x40004) ∧
    (let s := (ringed false 2 {}).wr .hsb HSB_STAT_ROLE 1; (s.cmdRefused .pkg 0x20002 true).getD 0 ≠ 0) ∧
    (∀ k ∈ [1, 4, 8], (ringed true 2 { reqs := [asked k 0] }).hasRing = true ∧
      (ringed true 2 { reqs := [asked k 0] }).ringReq 2 7 k = some (asked k 0)) ∧
    ((asked 1 0).q = 0 ∧ (asked 1 0).words ≤ (asked 1 0).got.length + 1 ∧ (asked 1 0).got.length + 1 < { asked 1 0 with words := 2 }.words) ∧
    (ringed true 2 { reqs := [asked 8 0] }).ringReq 2 7 4 = none ∧
    (∀ k ∈ [1, 4], let s := { ringed true 2 { reqs := [asked k 0] } with tmb := { ran := 10 ^ 12 } };
      (s.ring.reqs.find? fun r => decide (r.member = 2 ∧ r.tag = 7)) = some (asked k 0) ∧ (asked k 0).at_ + 1000 * s.rd .ring RING_TMO_US ≤ s.tb) ∧
    (let s := { ringed true 2 { reqs := [asked 8 0], ctl := some (0x40004, false) } with tmb := { ran := 10 ^ 12 } };
      (s.ring.reqs.find? fun r => decide (r.member = 2 ∧ r.tag = 7)) = some (asked 8 0) ∧ (asked 8 0).at_ + 1000 * s.rd .ring RING_TMO_US ≤ s.tb ∧
      s.ring.ctl = some (0x40004, false)) := by decide

/-- The results of an access that RING_READ_RX and RING_WRITE_RX meet: a word, a refusal, a write that is done. -/
theorem meets_ringAccesses :
    let s := (ringed false 2 {}).ringHeard;
    (match s.ioRead .host (Blk.evr.base + EVR_CFG_MINSEV.off) with | .word _ _ => true | _ => false) = true ∧
    (match s.ioRead .host 0x3FFFFFC with | .refused _ => true | _ => false) = true ∧ s.heldOf .host = [] ∧
    s.posts .host (Blk.evr.base + EVR_CFG_MINSEV.off) 2 = true ∧ (s.setHeld .host [.io 0 0]).heldOf .host ≠ [] := by decide

/-- A member that has its POS hears the ring come up; sixteen CRC failures lie within, or not within, 1 ms. -/
theorem meets_ringPorts :
    (let s := (ringed false 1 {}).wr .ring RING_POS_POS 3; s.straps.ringHead = false ∧ s.rd .ring RING_STAT_STATE = 1 ∧ s.rd .ring RING_POS_POS ≠ 0) ∧
    (let s := { ringed true 2 {} with tmb := { ran := 5 } }; ((s.tb :: s.ring.crcs 0).take 16)[15]? = none) ∧
    (let s := { ringed true 2 (({} : Ring).setCrcs 0 (List.replicate 15 0)) with tmb := { ran := 5 } };
      ((s.tb :: s.ring.crcs 0).take 16)[15]? = some 0 ∧ s.tb < 0 + 1000000) := by decide

/-! ### Host -/

/-- Queue 15 is in a state, with 16 entries, its head and tail as given. -/
def queued (st head tail : Nat) (q : Queue) : State :=
  { (((on.wr .host (Q_CFG_SIZE 15) 16).wr .host (Q_STAT_STATE 15) st).wr .host (Q_SQHEAD_HEAD 15) head).wr .host (Q_SQTAIL_TAIL 15) tail with
    queues := [(15, q)] }

/-- A command as an engine holds it. -/
def cmd (op target : Nat) (params : List Nat) (started : Bool) : QCmd := { op := op, cid := 1, target := target, params := params, dl := 0, started := started }

theorem meets_hostPortAndQueues :
    (on.crownRuns = true ∧ on.pcie.d3hot = false ∧ on.heldOf .host = [] ∧ (on.setHeld .host [.io 0 0]).heldOf .host ≠ [] ∧
      ¬ { on with pcie := { d3hot := true } }.pcie.d3hot = false ∧ 512 ∈ [128, 256, 512] ∧ (0x3FFFFFC : Nat) < 0x4000000 ∧ bar0Takes 0x3FFFFFC [some 0, some 0, some 0, some 0] = true ∧
      bar0Takes 0x3FFFFFC [some 0, none, some 0, some 0] = false) ∧
    (0xFFFFFFFFF + [some 0].length ≤ 0x1000000000 ∧ 0xFFFFFFFFF % 2 ^ 30 + [some 0].length ≤ 2 ^ 30) ∧ 16 ∈ [1, 2, 4, 8, 16] ∧
    (let s := on.wr .host (Q_CFG_SIZE 15) 16;
      s.rd .host (Q_CTRL_EN 15) = 0 ∧ s.qState 15 ≠ qERROR ∧ s.rd .host (Q_CFG_SIZE 15) = 16 ∧ (on.wr .host (Q_CFG_SIZE 15) 4097).rd .host (Q_CFG_SIZE 15) = 4097 ∧
      (s.wr .host (Q_CTRL_EN 15) 1).rd .host (Q_CTRL_EN 15) ≠ 0) ∧
    (let s := queued qRUN 15 0 {};
      s.qState 15 = qRUN ∧ 15 % 2 ^ 13 < s.rd .host (Q_CFG_SIZE 15) ∧ s.rd .host (Q_CFG_SIZE 15) ≤ 16 % 2 ^ 13 ∧ (s.queue 15).cmd = none ∧
      s.rd .host (Q_SQHEAD_HEAD 15) ≠ s.rd .host (Q_SQTAIL_TAIL 15) ∧
      ¬ (queued qERROR 0 0 {}).qState 15 ≠ qERROR ∧ (0 : Nat) < s.rd .host (Q_CFG_SIZE 15) ∧
      (0 + s.rd .host (Q_CFG_SIZE 15) - s.rd .host (Q_CQHEAD_HEAD 15)) % s.rd .host (Q_CFG_SIZE 15) ≤
        (s.rd .host (Q_CQTAIL_TAIL 15) + s.rd .host (Q_CFG_SIZE 15) - s.rd .host (Q_CQHEAD_HEAD 15)) % s.rd .host (Q_CFG_SIZE 15)) ∧
    (let c := cmd 0 0 [] false; (queued qRUN 0 0 { cmd := some c }).chooseQueue = some (15, c)) ∧
    (let c := cmd 0 0 [] true; (queued qRUN 0 0 { cmd := some c }).chooseQueue = some (15, c)) ∧ on.chooseQueue = none := by decide

/-- Die 0 of a job, with no lanes. -/
def dieJob : DieJob :=
  { die := 0, ringBase := dramBase 0, ringPages := 1, tileCount := 0, tileBase := 0, segtab := 0, segs := 0, srcBpl := 0, hostMbs := 0, rsvMbs := 0,
    runsMax := 0, stored := 0, laneN := [] }

def theJob : Job := { rate := 0, length := 1, crc := 0, dies := [dieJob] }

/-- Queue 15 runs a command. -/
def running (op target : Nat) (params : List Nat) : State :=
  { queued qRUN 0 0 { cmd := some (cmd op target params true) } with
    cmdEng := { step := some 15 }, ctxCrc := { slots := [(0, 16)] }, ctxCry := { slots := [(0, 16)] } }

def admitted (s : State) (st : Nat) : State := { s.wr .pkgNode JOB_STAT_STATE st with job := { job := some theJob } }

theorem meets_hostCommands :
    (∀ op ∈ [0, 0x10, 0x11, 0x12, 0x20, 0x30, 0x31, 0x40, 0x50, 0xF0], (running op 0 []).running 15 op = some (cmd op 0 [] true)) ∧
    (admitted on 1).job.job = some theJob ∧ (running 0x11 0 []).job.job = none ∧ (admitted on 2).jobState ≠ 1 ∧
    ((admitted (running 0x11 0 []) 1).jobState = 1 ∧ (admitted (running 0x11 0 []) 1).running 15 0x11 = some (cmd 0x11 0 [] true) ∧
      (admitted (running 0x11 0 []) 1).fillBegun 0 = false) ∧
    (let s := { admitted (running 0x11 0 []) 1 with
        lines := [{ n := 0, f := 0, at_ := 0 }]
        tmb := { nextN := 1 }
        job := { job := some { theJob with dies := [{ dieJob with laneN := [1] }] } }
        ings := [(0, { done := [(0, 1)] })] };
      s.fillBegun 0 = true ∧ s.lateAllowed theJob 0 = false ∧
      ({ s.wr .hsb HSB_STAT_STATE 5 with hsb := { peerJob := some { state := 2, crc := 0, s0 := 0, dies := [] } } }.lateAllowed theJob 0) = true) ∧
    (let p := on.path (.core 0 3); (running 0x20 p []).targetCore (cmd 0x20 p [] true) = some (0, 3)) ∧
    (let p := on.path (.die 0);
      (running 0x30 p []).targetDie (cmd 0x30 p [] true) = some 0 ∧ (running 0x30 p []).clearBusy 0 (dramBase 0) 64 = false ∧
      (admitted (running 0x30 p []) 1).clearBusy 0 (dramBase 0) 64 = true) ∧
    (let s := (running 0x40 0 [1]).wr .nvs NVS_PEND_PEND 1;
      (running 0x40 0 [1]).commitDone 1 = true ∧ s.commitDone 1 = false ∧ { s with nvs := { pfPhase := .storing } }.nvs.pfPhase ≠ .idle ∧
      { s with nvs := { pfPhase := .storing } }.commitDone 1 = false) := by decide

/-- A descriptor that cannot be read. -/
theorem meets_unreadableDescriptor : ((running 0x10 0 []).engineRead (2 ^ 64) descSize).1 = none := rfl

/-! ### Standby -/

theorem meets_pairStates :
    (unit 0).strapped = true ∧ (unit 0).hsbState = hsbOFF ∧ ¬ (unit 1).hsbState = hsbOFF ∧ (unit 1).portsUp = true ∧
    (let s := { unit 1 with tmb := { ran := (unit 1).rd .hsb HSB_CFG_SEEKWAIT * 1000000 } };
      s.hsbState = hsbSEEK ∧ s.ringHoldsRole = false ∧ max s.hsb.seekAt s.hsb.lastMsg + s.rd .hsb HSB_CFG_SEEKWAIT * 1000000 ≤ s.tb ∧
      s.nextClaim < 2 ^ 32 ∧ 2 ^ 32 ≤ (s.wr .hsb HSB_HC_CLAIM (2 ^ 32 - 1)).nextClaim ∧ s.hsb.hbSentAt + 10000 ≤ s.tb) ∧
    (let s := unit 5; s.hears hdr = true ∧ (s.heard hdr).hsbState = hsbSTANDBY) ∧
    (let s := unit 3; s.hears hdr = true ∧ (s.heard hdr).isActive = true) ∧
    (let s := { unit 3 with tmb := { ran := 30000 } };
      s.strapped = true ∧ s.hsb.failed 1 = false ∧ s.pathSilent 1 = true ∧ s.pathSilent 0 = true ∧ s.portsUp = true) ∧
    (unit 3).rd .hsb HSB_STAT_PEER_READY = 0 ∧
    (let s := (unit 3).wr .hsb HSB_STAT_PEER_READY 1; s.hsbState = hsbACTIVE ∧ s.hsb.handover = none ∧ s.rd .hsb HSB_STAT_PEER_READY ≠ 0) ∧
    (let s := { unit 3 with hsb := { handover := some (7, false) } };
      s.hears hdr = true ∧ (s.heard hdr).hsbState = hsbACTIVE ∧ (s.heard hdr).hsb.handover = some (7, false) ∧ (s.heard hdr).handoverOpen 7 = true ∧
      { s with lines := [{ n := 7, f := 0, at_ := 0 }] }.handoverOpen 7 = false) ∧
    (∀ st ∈ [3, 5], let s := { unit st with hsb := { handover := some (8, true) }, lines := [{ n := 7, f := 0, at_ := 0 }], tmb := { count := 500 } };
      s.hsbState = st ∧ s.hsb.handover = some (8, true) ∧ s.placeOf (8 + 2 ^ 32 - 1) = some 0 ∧ ((s.lineAt 0).f : Int) + 500000 ≤ s.ps) := by decide

theorem meets_joinOutcomes :
    (let s := unit 4;
      s.hears hdr = true ∧ (s.heard hdr).hsbState = hsbJOINING ∧ (s.heard hdr).joinDiffers 0 0 [] [] ≠ 0) := by decide

/-- Settings like those of the unit itself. -/
theorem meets_joinAlike (u : State) : u.joinDiffers u.nodeRev (u.rd .pkgNode IMG_CTRL_PERIOD) u.joinMaps u.joinLanes = 0 := by
  simp [State.joinDiffers]

theorem meets_shadowing :
    (let s := (unit 5).setCore 7 3 { Core.fresh 7 3 with eqHold := some 4 };
      s.hears hdr = true ∧ (s.heard hdr).isStandby = true ∧ (s.heard hdr).hasNode (.core 7 (3 % 4)) = true ∧
      ((s.heard hdr).core 7 (3 % 4)).eqHold = some 4 ∧ ((s.heard hdr).core 7 (3 % 4)).eqHold ≠ some 5) ∧
    (let s := { (unit 3).wr .hsb HSB_CTRL_CANHB 1 with tmb := { ran := 1000000 }, hsb := { jobSent := [1, 2, 3] } };
      s.hsbState ≠ hsbOFF ∧ s.portsUp = true ∧ s.job.job = none ∧ s.hsb.jobSent ≠ s.jobKey ∧ s.rd .hsb HSB_CTRL_CANHB ≠ 0 ∧ s.crownRuns = true ∧
      s.hsb.canHbAt + 1000000 ≤ s.tb ∧ s.strapped = true ∧ s.fieldPowered = true ∧ s.field.clxNext + 4800 ≤ { s with now := 4800 }.now ∧
      s.now < { s with field := { clxNext := 800 } }.field.clxNext) ∧
    (let s := { unit 3 with now := 100000, tmb := { ran := 100000 }, hsb := { pages := [(0, { writtenAt := 1 })], clxAt := some 0 } };
      s.hsbState ≠ hsbOFF ∧ (s.page 0).own = none ∧ (s.page 0).writtenAt ≠ 0 ∧ (s.page 0).writtenAt + 99999 ≤ s.tb ∧
      s.hsb.clxAt = some 0 ∧ 0 + 100000 ≤ s.now ∧ s.rd .sup CLX_STAT_PEERLOST = 0) ∧
    (let p := dramBase 0 / 65536;
      (match (unit 3).dLoc .engine (65536 * p) with | .ok r => decide (r = (.dram 0, 0)) | .error _ => false) = true) ∧
    on.crownRuns = true ∧ on.pwr.phase = .on ∧ on.keepStopped = false ∧ on.img.keepAt + 1000000 ≤ { on with now := 1000000 }.now := by decide

/-! ### Image service, rates, lanes and ingest -/

theorem meets_imageAndRates :
    (let s := { on.wr .pkgNode IMG_CTRL_RUN 1 with tmb := { ran := 10 ^ 12 }, img := { begun := true } };
      s.crownRuns = true ∧ s.rd .pkgNode IMG_CTRL_RUN ≠ 0 ∧ s.img.lastAt + s.rd .pkgNode IMG_CTRL_PERIOD * 1000 ≤ s.tb ∧
      s.img.restarting = false ∧ s.img.begun = true ∧ s.img.mirrorAt + s.rd .pkgNode RST_MIRROR_PERIOD * 1000000 ≤ s.tb) ∧
    on.img.begun = false ∧ on.hasDie 7 = true ∧
    ((on.wr (.drc 7) DRC_DERATE_HOT 0).rd (.drc 7) DRC_DERATE_HOT = 0 ∧ (85 * 16 : Int) < 1361 + on.calEff (8 + 7) ∧
      (1360 : Int) + on.calEff (8 + 7) ≤ 85 * 16 ∧ on.job.job = none) ∧
    (let s := { (on.wr (.drc 7) DRC_DERATE_HOT 1).setTherm 7 { dramCool := some 0 } with tmb := { ran := 1000000000 } };
      s.rd (.drc 7) DRC_DERATE_HOT ≠ 0 ∧ (1280 : Int) + s.calEff (8 + 7) ≤ 80 * 16 ∧ (s.thermOf 7).dramCool = some 0 ∧ 0 + 1000000000 ≤ s.tb ∧
      s.job.job = none) ∧
    (on.heldHot 7 = false ∧ (119 : Int) < 120 ∧ (on.thermOf 7).step < caseStep 86) ∧
    (let s := on.setTherm 7 { step := 5 }; s.heldHot 7 = false ∧ caseStep 102 < (s.thermOf 7).step ∧ (102 : Int) ≤ caseLimit (s.thermOf 7).step - 3) ∧
    (let s := { on.setTherm 7 { coolSince := some 0, leads := [(3, some 0)] } with tmb := { ran := 10 ^ 12 } };
      (s.thermOf 7).coolSince = some 0 ∧ 0 + 1000000000 ≤ s.tb ∧ (s.thermOf 7).leads = (3, some 0) :: [] ∧
      0 + s.rd .pkgNode CAP_CFG_LEAD * 1000000 ≤ s.tb) ∧
    (let s := { on.wr .pkgNode LINE_RATE_CAP_HZ 6 with tmb := { ran := 1000000000 }, job := { job := some theJob, evals := [(0, 7)], owed := true } };
      s.job.job = some theJob ∧ evalFloor s.tb s.job.evals = some 7 ∧ s.cap < 7 ∧ s.mayDrive = true ∧ s.job.owed = true) := by decide

theorem meets_restartRunning : { on with img := { begun := true, restarting := true } }.img.restarting = true := rfl

/-- Lane 11 of die 0 in a state, its clock locked, one line announced that fires at 1 ms. -/
def laned (l : Lane) (count : Nat) : State :=
  { ((((on.wr (.dieNode 0) CLK_DLOCK_LANE 7).wr (.lane 0 11) LANE_LEAD_NS 20000).wr (.lane 0 11) LANE_FIN_NS 1000).wr (.lane 0 11) NODE_CTRL_FRZ
      0).setLane 0 11 l with
    lines := [{ n := 0, f := 1000000000, at_ := 0 }], tmb := { count := count } }

/-- A job of which lane 11 of die 0 is part. -/
def laneJob (s : State) : State :=
  { s with job := { job := some { theJob with dies := [{ dieJob with laneN := List.replicate 11 0 ++ [1] }] } } }

theorem meets_lanesAndIngest :
    (let s := ((laned {} 0).wr (.lane 0 11) LANE_KCOST_PERGROUP 17).wr (.lane 0 11) LANE_GROUPS_N 1; let s := s.wr (.lane 0 11) LANE_LINKBUD_NS 0;
      s.hasNode (.lane 0 11) = true ∧ s.rd (.lane 0 11) LANE_CTRL_RUN = 0 ∧ s.runRefused 0 11 = false ∧
      (s.wr (.lane 0 11) LANE_LEAD_NS 999).runRefused 0 11 = true ∧ s.rd (.lane 0 11) LANE_BUDGET_CYCLES = 0 ∧
      (s.wr (.lane 0 11) LANE_BUDGET_CYCLES 1).rd (.lane 0 11) LANE_BUDGET_CYCLES ≠ 0 ∧
      (s.wr (.lane 0 11) LANE_CTRL_RUN 1).rd (.lane 0 11) LANE_CTRL_RUN ≠ 0 ∧ (s.lane 0 11).kern = none ∧
      (s.wr (.lane 0 11) LANE_STAT_STATE 3).rd (.lane 0 11) LANE_STAT_STATE = 3) ∧
    (let s := laned { runAt := some 0 } 980000; s.laneNext 0 11 = some 0 ∧ s.mayStart 0 11 0 = true) ∧
    (let s := laned { runAt := some 0, kern := some { line := 0 } } 999000;
      s.laneGated 0 11 = false ∧ (s.lane 0 11).kern = some { line := 0 } ∧ s.lineE 0 11 0 ≤ s.ps) ∧
    (let s := laned { runAt := some 0 } 999000;
      s.laneGated 0 11 = false ∧ (s.lane 0 11).kern = none ∧ s.blankNext 0 11 = some 0 ∧ s.lineE 0 11 0 ≤ s.ps) ∧
    (let b := { dieJob with laneN := List.replicate 11 0 ++ [1] }; let s := laneJob (laned {} 0);
      s.dieJob 0 = some b ∧ 16 * ING_WPTR_OFFSET.of 255 < b.ring ∧ s.job.job = some { theJob with dies := [b] } ∧ b.lanes = [11] ∧
      s.fillChoice 0 b.lanes = some 11) ∧
    (let s := laneJob (laned {} 999000); s.laneInJob 0 11 = true ∧ s.fillPlace 0 11 < s.lines.length ∧ s.lineE 0 11 (s.fillPlace 0 11) ≤ s.ps) ∧
    (let c : CalRun := { lane := 11, mode := 1, recs := [(0, 0)], ecc := false }; let s := on.setIng 0 { cal := some c };
      (s.ing 0).cal.isSome = true ∧ (s.ing 0).cal = some c ∧ s.holdRoom 0 c.lane c.recs.length = true ∧ ¬ (on.ing 0).cal.isSome = true) ∧
    (let s := (on.wr (.ing 0) ING_CAL_CTRL_MODE 1).wr (.ing 0) ING_CAL_COUNT_COUNT 65;
      s.rd (.ing 0) ING_CAL_CTRL_MODE = 1 ∧ 64 < s.rd (.ing 0) ING_CAL_COUNT_COUNT) := by decide

/-! ### Plane words -/

/-- Lane 11 of die 0 meets the parcel `p` (its bytes low first) with the plane stack `st`. -/
def kerned (p : Nat) (st : List Plane) : State :=
  (laned { runAt := some 0, kern := some { line := 0, stack := st } } 0).storeBytes (.ks 0 11 0) 0 (leBytes 2 p)

/-- The kernel is met at the instruction, and its parcel is free of an ECC error. -/
def meets (s : State) (op : LaneOp) (bad : Bool) : Bool :=
  match (s.lane 0 11).kern with
  | some k => decide (s.ps < s.lineE 0 11 k.line ∧ s.laneGated 0 11 = false ∧ s.laneClocked 0 11 = true ∧
      laneDecode (s.load (.ks 0 11 k.slot) (2 * k.pos) 2) = some op ∧ (s.eccRead (.ks 0 11 k.slot) (2 * k.pos) 2).1 = bad)
  | none => false

/-- A plane of ones in the body. -/
def onesPlane : Plane := { bits := (2 ^ 2048 - 1) * 2 ^ 64, lo := 64, hi := 64 }

theorem meets_planeWords :
    meets (kerned 0x6001 []) .andp false = true ∧ meets (kerned 0x6002 []) .orp false = true ∧ meets (kerned 0x6003 []) .xorp false = true ∧
    meets (kerned 0x6004 []) .andnp false = true ∧ meets (kerned 0x6005 []) .notp false = true ∧ meets (kerned 0x6006 []) .selp false = true ∧
    meets (kerned 0x6100 []) .zerop false = true ∧ meets (kerned 0x6101 []) .onesp false = true ∧ meets (kerned 0x6102 []) .dupp false = true ∧
    meets (kerned 0x6103 []) .dropp false = true ∧ meets (kerned 0x6104 []) .swapp false = true ∧ meets (kerned 0x6105 []) .overp false = true ∧
    meets (kerned 0x6106 []) .rotp false = true ∧ meets (kerned 0x6107 []) .nipp false = true ∧ meets (kerned 0x6108 []) .tuckp false = true ∧
    meets (kerned 0x611F []) (.pickp 15) false = true ∧ meets (kerned 0x6200 []) (.shlp 1) false = true ∧
    meets (kerned 0x633F []) (.shrp 64) false = true ∧ meets (kerned 0x6401 []) (.loadp 1) false = true ∧
    meets (kerned 0x6507 []) (.storep 7) false = true ∧ meets (kerned 0x660F []) (.calp 15) false = true ∧
    meets (kerned 0x67F7 []) (.lutp 15 8) false = true ∧ meets (kerned 0x6807 []) (.popcp 7) false = true ∧
    meets (kerned 0x6903 []) (.flagp 3) false = true ∧ meets (kerned 0x6F00 []) .gend false = true := by decide

theorem meets_planeStacks :
    (∃ k, ((kerned 0x611F (List.replicate 16 onesPlane)).lane 0 11).kern = some k ∧ k.stack[15]? = some onesPlane ∧
      k.stack = onesPlane :: onesPlane :: onesPlane :: onesPlane :: List.replicate 12 onesPlane) ∧
    { onesPlane with bits := 0 }.body = 0 ∧ onesPlane.body ≠ 0 := 
  ⟨⟨_, rfl, rfl, rfl⟩, by decide +kernel, by decide +kernel⟩

/-- The lane's SRAM or the kernel store holds an uncorrectable error in the first unit that is read. -/
theorem meets_planeErrors :
    (let s := kerned 0x6F00 []; meets ((s.setEcc (.ks 0 11 0) 0 .uncorrectable)) .gend true = true) ∧
    (let s := kerned 0x6400 [];
      (s.eccRead (.lsram 0 11) (srcBuf 0) 256).1 = false ∧
      ((s.setEcc (.lsram 0 11) (srcBuf 0 / MemId.eccUnit (.lsram 0 11)) .uncorrectable).eccRead (.lsram 0 11) (srcBuf 0) 256).1 = true) ∧
    (let s := (kerned 0x6F00 []).wr (.lane 0 11) LANE_GROUPS_N 2;
      0 + 1 < s.rd (.lane 0 11) LANE_GROUPS_N ∧ (s.wr (.lane 0 11) LANE_GROUPS_N 1).rd (.lane 0 11) LANE_GROUPS_N ≤ 0 + 1) := by decide

/-! ### Links and arbiters -/

/-- Link 31 of die 7 in a state, its clock locked. -/
def linked (st : Nat) (l : Link) : State := ((on.wr (.dieNode 7) CLK_DLOCK_LINK 8).wr (.link 7 31) LINK_STAT_STATE st).setLink 7 31 l

theorem meets_linkStates :
    ((linked 0 {}).hasLink 7 31 = true ∧ (linked 0 {}).linkState 7 31 = 0 ∧ (linked 0 {}).bit (.dieNode 7) CLK_DLOCK_LINK (31 / 8) = true ∧
      ¬ on.bit (.dieNode 7) CLK_DLOCK_LINK (31 / 8) = true) ∧
    (let s := (linked 2 {}).wr (.link 7 31) LINK_CTRL_EN 1;
      s.rd (.link 7 31) LINK_CTRL_EN ≠ 0 ∧ s.job.job = none ∧ s.linkState 7 31 = 2 ∧ (s.link 7 31).resyncAt = none ∧ (s.link 7 31).full = false ∧
      ¬ s.rd (.link 7 31) LINK_CFG_FECTHR ≤ (((s.codewords 7 31 0 0).link 7 31).fec.map Prod.snd).sum ∧
      s.rd (.link 7 31) LINK_CFG_FECTHR ≤ (((s.codewords 7 31 0 0xFFFF).link 7 31).fec.map Prod.snd).sum) ∧
    (((linked 2 { full := true, owe := true }).link 7 31).full = true ∧ ((linked 2 { full := true, owe := true }).link 7 31).owe = true) ∧
    (let s := { linked 2 {} with tmb := { ran := (linked 2 {}).rd (.link 7 31) LINK_CFG_HBTMO * 1000 + 10000 } };
      (s.link 7 31).lastRx + 1000 * s.rd (.link 7 31) LINK_CFG_HBTMO ≤ s.tb ∧ (s.link 7 31).lastTx + 1000 ≤ s.tb ∧
      (s.link 7 31).lastCredit + 10000 ≤ s.tb) ∧
    (let s := { linked 2 { resyncAt := some 0 } with tmb := { ran := 100000 } }; s.sinceAtLeast (s.link 7 31).resyncAt 100000 = true) ∧
    (let s := { (linked 3 {}).wr (.link 7 31) LINK_CTRL_EN 1 with tmb := { ran := 100000 } };
      s.linkState 7 31 = 3 ∧ s.rd (.link 7 31) LINK_CTRL_EN ≠ 0 ∧ (s.link 7 31).stateAt + 100000 ≤ s.tb) ∧
    (let s := { linked 1 {} with tmb := { ran := 500000000 } }; s.linkState 7 31 = 1 ∧ (s.link 7 31).stateAt + 500000000 ≤ s.tb) ∧
    (let s := ((linked 2 {}).wr (.link 7 31) LINK_TX_CFG_TYPE 5).wr (.link 7 31) LINK_TX_LEN_WORDS 16;
      s.rd (.link 7 31) LINK_TX_GO_GO = 0 ∧ s.linkState 7 31 = 2 ∧ s.rd (.link 7 31) LINK_TX_CFG_TYPE = 5 ∧
      4 * s.rd (.link 7 31) LINK_TX_LEN_WORDS ≤ 256 ∧
      lengthOk (s.rd (.link 7 31) LINK_TX_CFG_TYPE) (4 * s.rd (.link 7 31) LINK_TX_LEN_WORDS) false = true ∧
      lengthOk 5 68 false = false) ∧
    ((linked 2 { rx := [{ hdr := [4], words := [] }] }).link 7 31).rx = { hdr := [4], words := [] } :: [] := by decide

/-- A frame of a type, with octets of payload. -/
def kframe (type n : Nat) : KFrame :=
  { type := type, flags := 0, cls := 0, len := n, claim := 0, deadline := 0, seq := 0, source := 0, target := 0, payload := List.replicate n 0, crcOk := true }

theorem meets_linkFramesAndArbiters :
    (let s := linked 2 {};
      s.hasLink 7 31 = true ∧ s.rd (.link 7 31) LINK_CTRL_LOOP = 0 ∧ s.linkState 7 31 = 2 ∧ (kframe 10 0).type > 9 ∧ (kframe 4 4).len = (kframe 4 4).payload.length ∧
      { kframe 4 4 with crcOk := false }.crcOk = false ∧ lengthOk 4 256 false = true ∧ lengthOk 5 64 false = true ∧ lengthOk 6 8 false = true ∧
      lengthOk 6 8 true = true ∧ lengthOk 8 0 false = true ∧ lengthOk 9 32 false = true ∧
      (s.headerRx 7 31).link 7 31 = {}) ∧
    (let s := linked 2 { resyncAt := some 0 }; (((s.headerRx 7 31).claimRx 7 31 0).link 7 31).resyncAt.isSome = true) ∧
    (let f := kframe 4 4; let s := (linked 2 { loop := [f] }).wr (.link 7 31) LINK_CTRL_LOOP 1;
      s.hasLink 7 31 = true ∧ s.rd (.link 7 31) LINK_CTRL_LOOP ≠ 0 ∧ (s.link 7 31).loop = f :: [] ∧ f = { f with type := 4 } ∧
      (s.link 7 31).loop.head? ≠ some (kframe 4 8)) ∧
    (((linked 2 {}).headerRx 7 31).claimRx 7 31 0).linkState 7 31 = 2 ∧
    (let s := linked 1 {}; s.linkState 7 31 = 1 ∧ ((s.headerRx 7 31).claimRx 7 31 0).linkState 7 31 = 1) := by decide

/-- An empty receiver has room for a frame, and a full one has none. -/
theorem meets_linkRoom : ({} : Link).overrun 1 (creditCost 256) = false ∧ ¬ ({ used1 := ownPool 1 } : Link).overrun 1 (creditCost 256) = false := by
  have h : creditCost 256 = 1 := by decide
  have p : 32 ≤ ownPool 1 := Nat.le_max_left _ _
  simp only [Link.overrun, h]
  constructor <;> simp
  omega

/-- A transmitter with a frame in its mailbox decides for it, and one without any for none. -/
theorem meets_linkTransmits :
    (let s := linked 2 { mailbox := some { type := 5, flags := 0, cls := 0, target := 0, dl := 0, words := [0] }, base1 := 64 };
      ((s.txReady 7 31).linkDecide 7 31).1.isSome = true ∧ (s.link 7 31).wire ≤ 1000 * s.tb ∧ (s.link 7 31).reflex = [] ∧
      (s.link 7 31).routes = [] ∧ (((linked 2 {}).txReady 7 31).linkDecide 7 31).1 = none) ∧
    (let s := { on.wr (.rfx 7) RFX_CTRL_EN 1 with rfx := [(7, [{ levels := 1 }])] };
      s.hasDie 7 = true ∧ s.rd (.rfx 7) RFX_CTRL_EN ≠ 0 ∧ Tab.get s.rfx 7 [] = { levels := 1 } :: []) := by decide

/-- The state in which an arbiter decides on a first arrival. -/
def arriving (c : Option Nat) (a : Nat) (k : ReqKind) : State :=
  (on.arrivals c a [{ kind := k, bytes := 8, dest := none }]).foldl (fun t y => t.present c a y) (on.endTransfer c a)

/-- What it picks, and whether its input has a member to grant. -/
def pickOf (c : Option Nat) (a : Nat) (k : ReqKind) : Option Nat × Bool :=
  let t := arriving c a k
  let reqs := t.behind c a
  let ins := (List.range (arbInputs c a)).filterMap fun i => (presentReq i reqs).map fun r => (i, r)
  let pick := (t.arbPick (t.rd (arbBlk c) (ARB_LIMIT_LIMIT (arbIdx c a))) (t.rd (arbBlk c) (ARB_STAT_PTR (arbIdx c a))) (arbInputs c a) ins).1
  (pick.map Prod.fst, (pick.bind fun p => (t.memberPick c a p.1 (reqs.filter fun y => decide (y.input = p.1))).1).isSome)

theorem meets_arbiterDecisions :
    on.hasArb none 10 = true ∧ on.hasArb (some 7) 15 = true ∧ pickOf none 10 .crown = (some 8, true) ∧
    pickOf none 0 (.core 7 3) = (some 7, true) ∧ pickOf (some 7) 15 (.port 7 11) = (some 2, true) ∧
    pickOf (some 7) 15 .crown = (none, false) ∧ on.arbBusy (some 7) 15 false = false := by decide

/-- A port's transfer in progress: its last beat ends it while the port's clock runs, and not once that has stopped (R296). -/
def portHolds : State :=
  on.setArbiter (some 7) 15 { on.arbiter (some 7) 15 with grant := (on.arrive (some 7) 15 { kind := .port 7 11, bytes := 8, dest := none }).map fun r => (0, r) }

theorem meets_arbBusy :
    (portHolds.wr (.dieNode 7) CLK_DLOCK_LANE 7).arbBusy (some 7) 15 true = false ∧ portHolds.hasArb (some 7) 15 = true ∧
    (portHolds.wr (.dieNode 7) CLK_DLOCK_LANE 3).arbBusy (some 7) 15 true = true ∧
    (portHolds.wr (.dieNode 7) CLK_DLOCK_LANE 3).hasArb (some 7) 15 = true := by decide

/-! ### Ill-formed terms, each refused by a check -/

theorem wf_dieNumber : Instr.wf (.thetaRaise 8) = false ∧ Instr.wf (.thetaRaise 7) = true := by decide
theorem wf_coreNumber : Instr.wf (.add 0 4) = false ∧ Instr.wf (.add 8 0) = false ∧ Instr.wf (.add 7 3) = true := by decide
theorem wf_laneNumber : Instr.wf (.andp 0 12) = false ∧ Instr.wf (.andp 7 11) = true := by decide
theorem wf_linkNumber : Instr.wf (.linkEnable 0 32) = false ∧ Instr.wf (.linkEnable 7 31) = true := by decide
theorem wf_requester : Instr.wf (.rcRead (.core 0 4) 0) = false ∧ Instr.wf (.rcRead .host 0) = true := by decide
theorem wf_ioAddress : Instr.wf (.regWrite .host (2 ^ 32) 0) = false ∧ Instr.wf (.regWrite .host 0 (2 ^ 32)) = false := by decide
theorem wf_region : Instr.wf (.protLock .host 8) = false ∧ Instr.wf (.protLock .host 7) = true := by decide
theorem wf_window : Instr.wf (.lddW 0 0 4 none) = false ∧ Instr.wf (.lddW 0 0 3 none) = true := by decide
theorem wf_bitOffset : Instr.wf (.bld 0 0 0 (some (2 ^ 21))) = false ∧ Instr.wf (.bld 0 0 3 (some (2 ^ 21 - 1))) = true := by decide
theorem wf_displacement : Instr.wf (.lddW 0 0 0 (some (2 ^ 16))) = false ∧ Instr.wf (.inD 0 0 4 0) = false ∧ Instr.wf (.jmp 0 0 (2 ^ 16)) = false := by decide
theorem wf_shortBranch : Instr.wf (.bEq 0 0 true 256) = false ∧ Instr.wf (.bEq 0 0 false 256) = true ∧ Instr.wf (.bEq 0 0 false (2 ^ 16)) = false := by decide
theorem wf_absoluteTarget : Instr.wf (.jmpl 0 0 (2 ^ 32)) = false ∧ Instr.wf (.calll 0 0 (2 ^ 32)) = false := by decide
theorem wf_literal :
    Instr.wf (.lit11 0 0 (2 ^ 11)) = false ∧ Instr.wf (.lit16s 0 0 (2 ^ 16)) = false ∧ Instr.wf (.lit32 0 0 (2 ^ 32)) = false ∧
    Instr.wf (.pick 0 0 16) = false := by decide
theorem wf_controlRegister : Instr.wf (.rdcr 0 0 256) = false ∧ Instr.wf (.wrcr 0 0 255) = true := by decide
theorem wf_elementSize (o : Opd) : Instr.wf (.mov 0 0 3 o o) = false := by simp [Instr.wf]
theorem wf_specifier :
    Opd.wf { mode := 8, space := 0, n := 0, x := 0, ext := [] } = false ∧ Opd.wf { mode := 7, space := 4, n := 0, x := 0, ext := [] } = false ∧
    Opd.wf { mode := 7, space := 3, n := 7, x := 255, ext := [2 ^ 16] } = false ∧ Opd.wf { mode := 7, space := 3, n := 7, x := 255, ext := [0, 0, 0] } = false := by
  decide
theorem wf_condition (o : Opd) : Instr.wf (.bCc 0 0 8 2 o o o) = false := by simp [Instr.wf]
theorem wf_task : Instr.wf (.taskDue 0 0 16) = false ∧ Instr.wf (.taskEnable 0 0 15 (2 ^ 32)) = false := by decide
theorem wf_eventSource : Instr.wf (.eventTaskSource 0 512) = false ∧ Instr.wf (.eventTaskSource 7 511) = true := by decide
theorem wf_planeShift : Instr.wf (.shlp 0 0 0) = false ∧ Instr.wf (.shrp 0 0 65) = false ∧ Instr.wf (.shlp 0 0 64) = true := by decide
theorem wf_planeNumbers :
    Instr.wf (.loadp 0 0 2) = false ∧ Instr.wf (.storep 0 0 8) = false ∧ Instr.wf (.calp 0 0 16) = false ∧ Instr.wf (.lutp 0 0 16 1) = false ∧
    Instr.wf (.lutp 0 0 0 0) = false ∧ Instr.wf (.popcp 0 0 8) = false ∧ Instr.wf (.flagp 0 0 4) = false ∧ Instr.wf (.pickp 0 0 16) = false := by decide
theorem wf_queue : Instr.wf (.jobAdmit 32) = false ∧ Instr.wf (.sqDoorbell 31 (2 ^ 32)) = false ∧ Instr.wf (.queueFetch 0 [] false) = false := by decide
theorem wf_interruptWord (c : Option Nat) : Instr.wf (.irqPendSet c 16 0) = false := rfl
theorem wf_fieldChannels : Instr.wf (.ocTrip 16 255) = false ∧ Instr.wf (.fastEdge 32 true 0) = false ∧ Instr.wf (.fieldSupplyChange 2 0) = false := by decide
theorem wf_standbyHeader : SbHdr.wf { hdr with path := 2 } = false ∧ SbHdr.wf { hdr with claim := 2 ^ 32 } = false ∧ SbHdr.wf hdr = true := by decide
theorem wf_linkFrame : KFrame.wf { kframe 1 0 with type := 256 } = false ∧ KFrame.wf { kframe 1 0 with payload := [256] } = false := by decide
theorem wf_canFrame : CanFrame.wf { frame with id := 2 ^ 11 } = false ∧ CanFrame.wf { frame with id := 2 ^ 11, ide := true } = true ∧
    CanFrame.wf { frame with dlc := 16 } = false ∧ CanFrame.wf { frame with data := [256] } = false := by decide

/-! ### Results of single commands, worked out by hand from the rules -/

/-- The data stack, and the rung stack, of core 0 of die 0 after a command. -/
def dsOf (r : Host.Outcome State Fault Refusal) : Option (List Word) := match r with | .next t => some (t.core 0 0).hot.ds | _ => none
def rsOf (r : Host.Outcome State Fault Refusal) : Option (List Bool) := match r with | .next t => some (t.core 0 0).hot.rs | _ => none

/-- A register field after a command. -/
def fieldOf (b : Blk) (f : Field) (r : Host.Outcome State Fault Refusal) : Option Nat := match r with | .next t => some (t.rd b f) | _ => none

/-- R68: ADD wraps, SUB takes the top from the entry below, SUBS saturates. -/
theorem test_addWraps : dsOf (exec (.add 0 0) (stack { ds := [1, 0xFFFFFFFF, 9] })) = some [0, 9] := by decide
theorem test_subOrder : dsOf (exec (.sub 0 0) (stack { ds := [1, 3] })) = some [2] := by decide
theorem test_subsSaturates : dsOf (exec (.subs 0 0) (stack { ds := [1, 0x80000000] })) = some [0x80000000] := by decide

/-- R69: DIV of the least number by −1, and a remainder by zero, which sets DZ. -/
theorem test_divOverflow : dsOf (exec (.div 0 0) (stack { ds := [0xFFFFFFFF, 0x80000000] })) = some [0x80000000] := by decide
theorem test_remByZero :
    dsOf (exec (.rem 0 0) (stack { ds := [0, 0xFFFFFFFB] })) = some [0xFFFFFFFB] ∧
    (match exec (.rem 0 0) (stack { ds := [0, 0xFFFFFFFB] }) with | .next t => (t.core 0 0).dz | _ => false) = true := by decide

/-- R70: a count uses bits [4:0]; a field is cut off at bit 31; n = 0 gives 0. -/
theorem test_shlCount : dsOf (exec (.shl 0 0) (stack { ds := [33, 1] })) = some [2] := by decide
theorem test_bfxCut : dsOf (exec (.bfx 0 0) (stack { ds := [8, 28, 0xF1234567] })) = some [0xF] := by decide

/-- R71: LIT11 and LIT16S extend the sign; the low parcel of LIT32 comes first. -/
theorem test_lit11 : dsOf (exec (.lit11 0 0 0x400) (stack {})) = some [0xFFFFFC00] := by decide

/-- R73: a byte is read with its sign, and little-endian words put their low byte lowest. -/
theorem test_lddB :
    dsOf (exec (.lddB 0 0 0 none) ((stack { ds := [0x100], dwin := [0, 1, 2, 0x10] }).store (.lram 0 0) 0x100 4 0x80)) = some [0xFFFFFF80] := by decide

/-- R67: the rung stack's top is combined with the entry below it. -/
theorem test_rAndn : rsOf (exec (.rAndn 0 0) (stack { rs := [true, true, false] })) = some [false, false] := by decide

/-- R413: LSW_SET and LSW_CLR act on their ones only. -/
theorem test_lswClr : fieldOf .lsw LSW_CMD_CMD (exec (.lswClr 0x0003) ((on.wr .lsw LSW_STAT_FAILSAFE 0).wr .lsw LSW_CMD_CMD 0x8001)) = some 0x8000 := by decide

/-- R431: the last tick of a shift moves the clock by 3; here it makes the fraction even. -/
theorem test_rtcShift :
    (match exec .rtcShiftDone { (on.wr .rtc RTC_STAT_SHBUSY 1).wr .rtc RTC_SHIFT_UNITS 1 with rtc := { time := 11 } } with
      | .next t => t.rtc.time | _ => 0) = 14 := by decide

/-- R307: unit B's claims are odd, and the next one lies above both claims. -/
theorem test_nextClaim : ({ (on.wr .hsb HSB_HC_CLAIM 6) with straps := { hsbUnit := true } } : State).nextClaim = 7 := by decide

/-- A step takes the command in front, and an empty queue idles (the model's choice). -/
theorem test_stepTakesFront :
    (match step { stack { ds := [2, 1] } with pending := [.drop 0 0, .dup 0 0] } with
      | .next t => decide ((t.core 0 0).hot.ds = [1] ∧ t.pending = [.dup 0 0]) | _ => false) = true := by decide

end Sys2Proof.Tests
end

namespace Sys2Proof.Machine

/-! ### Registers that a requester reaches (R11, R48, R49, R541) -/

theorem State.regWrite_of_takes {s : State} {r : Req} {b : Blk} {o w : Nat} (h : s.takes r b o w = true) :
    s.regWrite r b o w = .taken (s.took r b o w) := by
  unfold State.takes at h
  unfold State.took
  split at h
  next e => rw [e]
  · cases h

theorem State.regRead_of_answers {s : State} {b : Blk} {o : Nat} (h : s.answers b o = true) :
    s.regRead b o = .word (s.answer b o).1 (s.answer b o).2 := by
  unfold State.answers at h
  unfold State.answer
  split at h
  next e => rw [e]
  · cases h

/-- A held register write at the head of its path is made, and the writes behind it follow (R541). -/
theorem State.drain_io {s t : State} {r : Req} {a w : Nat} {b : Blk} {o : Nat} {ps : List Posted} (ha : s.ioTarget a = .ok (.reg b o))
    (hw : (s.setHeld r ps).regWrite r b o w = .taken t) : s.drain r (.io a w :: ps) = t.drain r ps := by
  have hn : (s.setHeld r ps).ioNow r a w = .taken t := by
    have ht : (s.setHeld r ps).ioTarget a = .ok (.reg b o) := ha
    simp only [State.ioNow, ht, hw]
  simp only [State.drain, State.serve, State.drainOne, hn]

/-- HELD_WRITE_TAKEN with a register write at the head of the path; a core whose writes have left may then end its instruction. -/
theorem exec_heldWriteTaken_io (s t : State) (r : Req) (a w : Nat) (b : Blk) (o : Nat) (ps : List Posted) :
    s.heldOf r = .io a w :: ps → s.ioTarget a = .ok (.reg b o) → (s.setHeld r ps).regWrite r b o w = .taken t →
      exec (.heldWriteTaken r) s = .next (match r with
        | .core d k => (t.drain r ps).boundary d k
        | _ => t.drain r ps) := by
  intro hh ha hw
  show execHeldWriteTaken r s = _
  cases r <;> simp only [execHeldWriteTaken, hh, State.drain_io ha hw]

/-! ### Fields that a written word reaches -/

theorem State.each_eq_foldl {α : Type} (s : State) (l : List α) (f : State → α → State) : s.each l f = l.foldl f s := by
  induction l generalizing s with
  | nil => rfl
  | cons a l ih => exact ih (f s a)

/-- The mark of a changed segment is no field that a segment keeps. -/
theorem key_ne_nvsDirty {b : Blk} {f : Field} {g : Nat} (h : segOfKey (f.key b) = some g) : f.key b ≠ NVS_DIRTY_DIRTY.key .nvs := by
  intro e
  rw [e] at h
  cases h

theorem State.rd_dirty_of_key {s : State} {b : Blk} {f : Field} {g : Nat} (h : f.key b ≠ NVS_DIRTY_DIRTY.key .nvs) :
    (s.dirty g).rd b f = s.rd b f :=
  s.rd_wr_ne _ h

theorem State.rd_keyDirty (s : State) (b : Blk) (f : Field) : (s.keyDirty b f).rd b f = s.rd b f := by
  unfold State.keyDirty
  split
  next e => exact State.rd_dirty_of_key (key_ne_nvsDirty e)
  · rfl

/-- What a field reads as after a write of its word, by its access code (R11). -/
theorem State.rd_putField (s : State) (b : Blk) (w : Nat) (f : Field) :
    (s.putField b w f).rd b f = (match f.acc with
      | .rw => if f.vmax = 0 ∨ (f.vmin ≤ f.of w ∧ f.of w ≤ f.vmax) then f.of w % 2 ^ f.width else s.rd b f
      | .w1s => (s.rd b f ||| f.of w) % 2 ^ f.width
      | .w1c => clearBits (s.rd b f) (f.of w) % 2 ^ f.width
      | _ => s.rd b f) := by
  unfold State.putField
  cases f.acc with
  | rw =>
    simp only [Field.takes, decide_eq_true_eq]
    split
    · rw [State.rd_keyDirty, State.rd_wr_same]
    · rfl
  | w1s => exact s.rd_wr_same ..
  | w1c => exact s.rd_wr_same ..
  | ro | wo | rc => rfl

/-- Settles O18: an access that reaches a register goes through to it (`accessWrite_reg`, `accessRead_reg`, `drain_io`), and the
fields of the register take the word by their access codes (`rd_putField`). -/
theorem registerAccess : Obligations.RegisterAccess := by
  unfold Obligations.RegisterAccess
  intro s r b f a o w ps v z
  refine ⟨fun hr ha ht => ?_, fun hr ha hn => ?_, fun hh ha ht => ?_, fun hb => ⟨fun hr ha => ?_, fun hr ha => ?_, fun hr hh ha => ?_⟩,
    s.each_eq_foldl _ _, s.rd_putField b w f⟩
  · exact congrArg Host.Outcome.next (s.accessWrite_reg _ r a v b o hr ha (State.regWrite_of_takes ht))
  · exact congrArg Host.Outcome.next (s.accessRead_reg _ r a _ b o hr ha (State.regRead_of_answers hn))
  · exact exec_heldWriteTaken_io _ _ r a w b o ps hh ha (State.regWrite_of_takes ht)
  · exact congrArg Host.Outcome.next (s.accessWrite_reg _ r a v b o hr ha (s.regWrite_plain r b o v hb))
  · exact congrArg Host.Outcome.next (s.accessRead_reg _ r a _ b o hr ha (s.regRead_plain b o hb))
  · subst hr
    exact exec_heldWriteTaken_io _ _ _ a w b o [] hh ha (State.regWrite_plain _ _ b o w hb)

/-- Settles O58: after reset every table is empty. -/
theorem resetIsCanonical : Obligations.ResetIsCanonical := by
  unfold Obligations.ResetIsCanonical
  exact ⟨rfl, rfl, rfl, rfl⟩

end Sys2Proof.Machine

namespace Sys2Proof.Machine

/-! ### The canonical form, kept by every step (O59)

One lemma for each function of the model that changes the state, in the order of the model's text: it leaves a canonical state
canonical. Nearly all of them only pass the state through functions that stand before them, so a proof is the chain of those
functions' lemmas, split where the function branches (`State.Canon.ite` where it says `if`). Only a write of a field, a write of
memory bytes and a filter touch the tables: `State.wf_wr`, `State.wf_setMem`, `State.wf_storeBytes`, `State.wf_zeroMem` and
`Tab.wf_filter` carry those, and `State.Canon.same` says that no other part of the state matters. -/

/-- Memories and registers are in canonical form, as a proposition: the laws below chain by its name. -/
structure State.Canon (s : State) : Prop where
  wf : s.wf = true

/-- A state with the same memories and registers. -/
theorem State.Canon.same {s : State} (h : s.Canon)
    {pending now free straps ecc recorder nvs rest wdt can rtc tmb field pwr hsb upd cry cores job ings lines lanes links arbs therm
      hot hotCool rfx held seqQ img queues cmdEng pcie ctxCry ctxCrc ring out} :
    State.Canon ⟨pending, now, free, straps, s.regs, s.mems, ecc, recorder, nvs, rest, wdt, can, rtc, tmb, field, pwr, hsb, upd, cry,
      cores, job, ings, lines, lanes, links, arbs, therm, hot, hotCool, rfx, held, seqQ, img, queues, cmdEng, pcie, ctxCry, ctxCrc,
      ring, out⟩ :=
  ⟨h.wf⟩

theorem State.Canon.ite {c : Prop} [Decidable c] {s t : State} (hs : s.Canon) (ht : t.Canon) : State.Canon (if c then s else t) := by
  split
  · exact hs
  · exact ht

theorem State.Canon.foldl {α : Type} {s : State} (h : s.Canon) {f : State → α → State} (hf : ∀ t a, t.Canon → (f t a).Canon) {l : List α} :
    (l.foldl f s).Canon := by
  induction l generalizing s with
  | nil => exact h
  | cons a l ih => exact ih (hf _ _ h)

/-! ### Filters of the tables -/

theorem State.Canon.parts {s : State} (h : s.Canon) : Memory.wf s.mems = true ∧ Regs.wf s.regs = true := by
  simpa only [State.wf, Bool.and_eq_true] using h.wf

theorem State.Canon.of_parts {s : State} (hm : Memory.wf s.mems = true) (hr : Regs.wf s.regs = true) : s.Canon :=
  ⟨by simp only [State.wf, hm, hr, Bool.and_self]⟩

theorem Memory.wf_filter (ms : Tab MemId Cells) (p : MemId × Cells → Bool) (h : Memory.wf ms = true) : Memory.wf (ms.filter p) = true := by
  simp only [Memory.wf, Bool.and_eq_true, List.all_eq_true] at h ⊢
  exact ⟨Tab.wf_filter _ _ p ms h.1, fun e he => h.2 e (List.mem_filter.1 he).1⟩

theorem State.Canon.filterRegs {s : State} {p : RegKey × Nat → Bool} (h : s.Canon) : State.Canon { s with regs := s.regs.filter p } := by
  obtain ⟨hm, hr⟩ := h.parts
  exact .of_parts hm (Tab.wf_filter _ _ p _ hr)

theorem State.Canon.filterRegsPcie {s : State} {p : RegKey × Nat → Bool} {x : Pcie} (h : s.Canon) :
    State.Canon { s with regs := s.regs.filter p, pcie := x } :=
  h.filterRegs.same

theorem State.Canon.filterMems {s : State} {p : MemId × Cells → Bool} (h : s.Canon) : State.Canon { s with mems := s.mems.filter p } := by
  obtain ⟨hm, hr⟩ := h.parts
  exact .of_parts (Memory.wf_filter _ p hm) hr

/-- Register fields written by their keys keep the canonical form of the register file. -/
theorem Regs.wf_foldl_set (l : List (RegKey × Nat)) (rs : Tab RegKey Nat) (h : Regs.wf rs = true) :
    Regs.wf (l.foldl (fun r e => Tab.set RegKey.code r e.1 e.1.reset e.2) rs) = true := by
  induction l generalizing rs with
  | nil => exact h
  | cons e l ih => exact ih _ (Tab.wf_set RegKey.code regKey_code_inj RegKey.reset e.1 e.2 rs h)

/-! ### Results that carry a state

Each result is canonical where the state in it is. `of_eq` is how a proof goes on after a split on a result: the branch names the
result's state by an equation. -/

theorem State.Canon.of_eq {α : Type} {p q : α × State} (h : p.2.Canon) (e : p = q) : q.2.Canon := e ▸ h

theorem State.Canon.of_eq₂ {α β : Type} {p q : α × β × State} (h : p.2.2.Canon) (e : p = q) : q.2.2.Canon := e ▸ h

theorem State.Canon.of_mem {o : Option State} {t : State} (h : ∀ t ∈ o, t.Canon) (e : o = some t) : t.Canon := h t e

theorem forall_mem_none {α : Type} {P : α → Prop} : ∀ t ∈ (none : Option α), P t := nofun

theorem forall_mem_some {α : Type} {P : α → Prop} {a : α} (h : P a) : ∀ t ∈ some a, P t := by
  rintro _ ⟨⟩
  exact h

theorem forall_mem_map {α β : Type} {P : β → Prop} {f : α → β} {o : Option α} (h : ∀ a, P (f a)) : ∀ t ∈ o.map f, P t := by
  intro t ht
  obtain ⟨a, _, rfl⟩ := Option.mem_map.1 ht
  exact h a

def Acc.Canon {α : Type} : Acc α → Prop
  | .ok _ s | .refused s | .ecc s => s.Canon

theorem Acc.Canon.of_eq {α : Type} {p q : Acc α} (h : p.Canon) (e : p = q) : q.Canon := e ▸ h

def Got.Canon {α : Type} : Got α → Prop
  | .ok _ s | .trap _ s | .stall s => s.Canon

theorem Got.Canon.of_eq {α : Type} {p q : Got α} (h : p.Canon) (e : p = q) : q.Canon := e ▸ h

def Body.Canon : Body → Prop
  | .done _ _ _ s | .trap _ s | .stall s => s.Canon

theorem Body.Canon.of_eq {p q : Body} (h : p.Canon) (e : p = q) : q.Canon := e ▸ h

def Ran.Canon {α : Type} : Ran α → Prop
  | .ok _ s | .trap _ _ s | .stall s => s.Canon

theorem Ran.Canon.of_eq {α : Type} {p q : Ran α} (h : p.Canon) (e : p = q) : q.Canon := e ▸ h

def MBody.Canon : MBody → Prop
  | .done _ s | .trap _ _ s | .stall s => s.Canon

theorem MBody.Canon.of_eq {p q : MBody} (h : p.Canon) (e : p = q) : q.Canon := e ▸ h

def Elem.Canon : Elem → Prop
  | .next s | .found s | .trap _ _ s | .wait s | .flight s => s.Canon

theorem Elem.Canon.of_eq {p q : Elem} (h : p.Canon) (e : p = q) : q.Canon := e ▸ h

def Post.Canon : Post → Prop
  | .done s | .refused s => s.Canon
  | .stall => True

theorem Post.Canon.of_eq {p q : Post} (h : p.Canon) (e : p = q) : q.Canon := e ▸ h

def IoRes.Canon : IoRes → Prop
  | .word _ s | .refused s | .failed s | .wait s => s.Canon

theorem IoRes.Canon.of_eq {p q : IoRes} (h : p.Canon) (e : p = q) : q.Canon := e ▸ h

def RegRead.Canon : RegRead → Prop
  | .word _ s | .ecc s => s.Canon
  | .refused _ => True

theorem RegRead.Canon.of_eq {p q : RegRead} (h : p.Canon) (e : p = q) : q.Canon := e ▸ h

def WriteResult.Canon : WriteResult → Prop
  | .taken s => s.Canon
  | .refused _ | .held => True

theorem WriteResult.Canon.of_eq {p q : WriteResult} (h : p.Canon) (e : p = q) : q.Canon := e ▸ h

def ExceptCanon : Except (Nat × State) State → Prop
  | .ok s => s.Canon
  | .error e => e.2.Canon

theorem ExceptCanon.of_eq {p q : Except (Nat × State) State} (h : ExceptCanon p) (e : p = q) : ExceptCanon q := e ▸ h

/-- How the start of a block instruction ends: with a cause, or with its state and what one of its elements does. -/
def BlockCanon : Except (Nat × State) (State × (Nat → State → Elem)) → Prop
  | .ok p => p.1.Canon ∧ ∀ n t, t.Canon → (p.2 n t).Canon
  | .error e => e.2.Canon

theorem BlockCanon.of_error {r : Except (Nat × State) (State × (Nat → State → Elem))} {c : Nat} {t : State} (h : BlockCanon r)
    (e : r = .error (c, t)) : t.Canon := by
  subst e
  exact h

theorem BlockCanon.of_ok {r : Except (Nat × State) (State × (Nat → State → Elem))} {t : State} {elem : Nat → State → Elem}
    (h : BlockCanon r) (e : r = .ok (t, elem)) : t.Canon ∧ ∀ n u, u.Canon → (elem n u).Canon := by
  subst e
  exact h

/-- The early checks of a long instruction: their misses and refusals name a canonical state where they are given one. -/
def Early.Canon (e : Early) : Prop :=
  (∀ l t, t.Canon → ∀ x ∈ e.mis l t, x.2.2.Canon) ∧ ∀ l t, t.Canon → ∀ x ∈ e.ref l t, x.2.2.Canon

theorem Early.Canon.none : Early.Canon {} := ⟨fun _ _ _ => forall_mem_none, fun _ _ _ => forall_mem_none⟩

/-- A command's outcome leaves memories and registers in canonical form. -/
def CanonOutcome : Host.Outcome State Fault Refusal → Prop
  | .next s => s.Canon
  | .fault _ | .refused _ => True

section
variable {a c cause code cost d i j k len m n o op opc p q src sz t v w : Nat} {disp off : Option Nat} {s : State} {r : Req}
    {f : KFrame} {b : Blk} {x : Opd} {bs : List Byte}

/-! ### Fields, memory bytes, events and messages (`Machine/Ops.lean`) -/

theorem State.Canon.wr {f : Field} (h : s.Canon) : (s.wr b f v).Canon := ⟨s.wf_wr b f v h.wf⟩

theorem State.Canon.wrB {f : Field} {v : Bool} (h : s.Canon) : (s.wrB b f v).Canon := h.wr

theorem State.Canon.bump {f : Field} (h : s.Canon) : (s.bump b f n).Canon := h.wr

theorem State.Canon.orBits {f : Field} (h : s.Canon) : (s.orBits b f m).Canon := h.wr

theorem State.Canon.clrBits {f : Field} (h : s.Canon) : (s.clrBits b f m).Canon := h.wr

theorem State.Canon.setBit {f : Field} {v : Bool} (h : s.Canon) : (s.setBit b f i v).Canon := h.orBits.ite h.clrBits

theorem State.Canon.each {α : Type} (h : s.Canon) {l : List α} {f : State → α → State} (hf : ∀ t a, t.Canon → (f t a).Canon) :
    (s.each l f).Canon :=
  ⟨s.wf_each l f (fun t a ht => (hf t a ⟨ht⟩).wf) h.wf⟩

theorem State.Canon.wrs {l : List (Field × Nat)} (h : s.Canon) : (s.wrs b l).Canon := h.each fun _ _ ht => ht.wr

theorem State.Canon.wrOf {l : List Field} (h : s.Canon) : (s.wrOf b l w).Canon := h.each fun _ _ ht => ht.wr

theorem State.Canon.freeBit (h : s.Canon) : s.freeBit.2.Canon := h.same

theorem State.Canon.freeWord (h : s.Canon) : s.freeWord.2.Canon := h.same

theorem State.Canon.freeNat (h : s.Canon) : s.freeNat.2.Canon := h.same

theorem State.Canon.setMem {m : MemId} {c : Cells} (h : s.Canon) (hc : c.wf = true) : (s.setMem m c).Canon :=
  ⟨s.wf_setMem m c h.wf hc⟩

theorem State.Canon.storeBytes {m : MemId} (h : s.Canon) : (s.storeBytes m a bs).Canon := ⟨s.wf_storeBytes m a bs h.wf⟩

theorem State.Canon.zeroMem {m : MemId} (h : s.Canon) : (s.zeroMem m a n).Canon := ⟨s.wf_zeroMem m a n h.wf⟩

theorem State.Canon.setEcc {m : MemId} {e : Ecc} (h : s.Canon) : (s.setEcc m w e).Canon := h.same

theorem State.Canon.setCore {c : Core} (h : s.Canon) : (s.setCore d k c).Canon := h.same

theorem State.Canon.offerRec {r : Offered} (h : s.Canon) : (s.offerRec r).Canon := h.same.ite h.same.bump

theorem State.Canon.offer {n : Node} {payload : List Nat} (h : s.Canon) : (s.offer code n payload).Canon := h.offerRec

theorem State.Canon.bootMark (h : s.Canon) : s.bootMark.Canon := h.same.offer.ite h

theorem State.Canon.offerAtBoot {n : Node} {payload : List Nat} (h : s.Canon) : (s.offerAtBoot code n payload).Canon := h.same

theorem State.Canon.capture {n : Node} {via path : Nat} (h : s.Canon) : (s.capture n via code path).Canon := h.ite h.wr.wr.wr.wr

theorem State.Canon.nodeFault {n : Node} (h : s.Canon) : (s.nodeFault n code).Canon := h.wr.each fun _ _ ht => ht.capture

theorem State.Canon.emit {m : OutMsg} (h : s.Canon) : (s.emit m).Canon := h.same

theorem State.Canon.ringEmit {name : String} {words : List Nat} (h : s.Canon) : (s.ringEmit p name words).Canon := h.emit

theorem State.Canon.ringSend {name : String} {type dst count tag addr : Nat} {payload : List Nat} (h : s.Canon) :
    (s.ringSend name type dst count tag addr payload).Canon :=
  h.ringEmit

theorem State.Canon.raiseAt (h : s.Canon) : (s.raiseAt b src).Canon := by
  unfold State.raiseAt
  extract_lets t
  have ht : t.Canon := h.setBit
  exact ht.setBit.ite ht

theorem State.Canon.raiseDie (h : s.Canon) : (s.raiseDie d src).Canon := h.raiseAt

theorem State.Canon.hoodRes {r : Nat} (h : s.Canon) : (s.hoodRes d k r).Canon := h.wr.raiseDie

theorem State.Canon.sendMsix (h : s.Canon) : (s.sendMsix v).Canon := h.ite (h.setBit.ite h.emit)

theorem State.Canon.raiseCrown (h : s.Canon) : (s.raiseCrown src).Canon := by
  unfold State.raiseCrown
  extract_lets rose t
  have ht : t.Canon := h.raiseAt
  exact ht.sendMsix.ite ht

theorem State.Canon.setRing (h : s.Canon) : (s.setRing v).Canon := h.ite h.wr.wrs.raiseCrown

theorem State.Canon.calibrate {g raw : Nat} (h : s.Canon) : (s.calibrate g o raw).2.Canon := by
  unfold State.calibrate
  extract_lets p
  split
  next t e => exact h.freeBit.of_eq e

theorem State.Canon.dirty {seg : Nat} (h : s.Canon) : (s.dirty seg).Canon := h.setBit

/-! ### Claims and standby messages (`Machine/Claims.lean`) -/

theorem State.Canon.handoverFail (h : s.Canon) : s.handoverFail.Canon := h.same.wr.offer

theorem State.Canon.handoverEnd (h : s.Canon) : s.handoverEnd.Canon := h.ite (h.handoverFail.ite h.same)

theorem State.Canon.setHsbState {st : Nat} (h : s.Canon) : (s.setHsbState st).Canon := h.ite h.handoverEnd.wr.wr.wrB.raiseCrown

theorem State.Canon.sbEmit {m : SbMsg} (h : s.Canon) : (s.sbEmit p m).Canon := h.emit.same

theorem State.Canon.sbPump (h : s.Canon) : (s.sbPump p).Canon := by
  unfold State.sbPump
  extract_lets x
  split
  · split
    · exact h.same.sbEmit
    · exact h
  · exact h

theorem State.Canon.sbPumps (h : s.Canon) : s.sbPumps.Canon := h.sbPump.sbPump

theorem State.Canon.sbQueue {k : SbKind} {words : List Nat} (h : s.Canon) : (s.sbQueue k words).Canon := h.same

theorem State.Canon.hsbSend {k : SbKind} {pre body : List Nat} (h : s.Canon) : (s.hsbSend k pre body).Canon :=
  (h.each fun _ _ ht => ht.sbQueue).sbPumps

theorem State.Canon.resign (h : s.Canon) : (s.resign cause).Canon := h.sbEmit.sbEmit.same.ite h

theorem State.Canon.takeClaim (h : s.Canon) : ∀ t ∈ s.takeClaim, t.Canon := by
  unfold State.takeClaim
  split
  · exact forall_mem_some h.wr.wr.dirty.orBits
  · exact forall_mem_none

/-! ### CAN FD (`Machine/CanFd.lean`) -/

theorem State.Canon.setCan {x : Can} (h : s.Canon) : (s.setCan c x).Canon := h.same

theorem State.Canon.setCanObj {x : CanObj} (h : s.Canon) : (s.setCanObj c o x).Canon := h.setCan

theorem State.Canon.setErrst {e : Nat} (h : s.Canon) : (s.setErrst c e).Canon := by
  unfold State.setErrst
  extract_lets o t
  have ht : t.Canon := h.wr.raiseCrown
  exact h.ite (ht.offer.ite (ht.offer.ite ht))

theorem State.Canon.setCounts {tec rec : Nat} (h : s.Canon) : (s.setCounts c tec rec).Canon := h.wr.wr.setErrst

theorem State.Canon.canCtrl (h : s.Canon) : (s.canCtrl c w).Canon := by
  unfold State.canCtrl
  extract_lets t
  have ht : t.Canon := h.wr.wr.wr
  split
  · refine State.Canon.setErrst ?_
    refine ht.each fun _ _ ht₁ => ?_
    exact ht₁.setCanObj.ite ht₁
  · exact ht

theorem execCanEnable_canon (h : s.Canon) : CanonOutcome (execCanEnable c w s) := h.canCtrl.ite h

theorem execCanIntegrated_canon (h : s.Canon) : CanonOutcome (execCanIntegrated c s) := h.wr.wr.setErrst.ite h

theorem State.Canon.canFrameRx {f : CanFrame} (h : s.Canon) : (s.canFrameRx c f).Canon := by
  unfold State.canFrameRx
  extract_lets r
  split
  next t e =>
    have ht : t.Canon := h.freeNat.of_eq e
    extract_lets t₁
    have ht₁ : t₁.Canon := ht.setCounts.ite h.setCounts
    split
    · exact ht₁.bump
    · split
      · exact ht₁
      · split
        · exact ht₁.setCanObj.raiseCrown
        · exact ht₁.bump

theorem execCanFrameRx_canon {f : CanFrame} (h : s.Canon) : CanonOutcome (execCanFrameRx c f s) := h.canFrameRx.ite h

theorem execCanRxError_canon {kind : Nat} {eight : Bool} (h : s.Canon) : CanonOutcome (execCanRxError c kind eight s) :=
  h.wr.setCounts.ite h

theorem execCanTxStart_canon (h : s.Canon) : CanonOutcome (execCanTxStart c s) := by
  unfold execCanTxStart
  show State.Canon _
  split
  · split
    · exact h.setCanObj.emit
    · exact h
  · exact h

theorem execCanTxDone_canon (h : s.Canon) : CanonOutcome (execCanTxDone c s) := by
  unfold execCanTxDone
  show State.Canon _
  split
  · split
    · exact h.setCanObj.setCounts.raiseCrown
    · exact h
  · exact h

theorem execCanTxRetry_canon {kind : Nat} {noInc : Bool} (h : s.Canon) : CanonOutcome (execCanTxRetry c kind noInc s) := by
  unfold execCanTxRetry
  show State.Canon _
  split
  · split
    · extract_lets t
      have ht : t.Canon := h.setCanObj
      exact ht.ite ht.wr.setCounts
    · exact h
  · exact h

theorem execCanBusoffRecovery_canon (h : s.Canon) : CanonOutcome (execCanBusoffRecovery c s) := h.setCounts.ite h

theorem execCanBusStuck_canon (h : s.Canon) : CanonOutcome (execCanBusStuck c s) := h.wr.raiseCrown.offer.ite h

theorem State.Canon.canSelect (h : s.Canon) : (s.canSelect c o).Canon := h.wr.setCan.setCanObj

theorem execCanObjsel_canon (h : s.Canon) : CanonOutcome (execCanObjsel c o s) := h.canSelect.ite h

theorem State.Canon.canWrite (h : s.Canon) : (s.canWrite c).Canon := by
  unfold State.canWrite
  extract_lets o b clash b₁ t x
  have ht : t.Canon := h.wr.ite h
  exact ht.setCanObj.ite ht.setCanObj

theorem execCanObjWrite_canon (h : s.Canon) : CanonOutcome (execCanObjWrite c s) := h.canWrite.ite h

theorem State.Canon.canTxreq (h : s.Canon) : (s.canTxreq c).Canon := h.setCanObj.ite h

theorem execCanObjTxreq_canon (h : s.Canon) : CanonOutcome (execCanObjTxreq c s) := h.canTxreq.ite h

theorem State.Canon.canCancel (h : s.Canon) : (s.canCancel c).Canon := h.setCanObj.ite (h.setCanObj.ite h)

theorem execCanObjCancel_canon (h : s.Canon) : CanonOutcome (execCanObjCancel c s) := h.canCancel.ite h

theorem State.Canon.canCmd (h : s.Canon) : (s.canCmd c w).Canon := by
  unfold State.canCmd
  extract_lets t t₁
  have ht : t.Canon := h.canWrite.ite h
  have ht₁ : t₁.Canon := ht.canTxreq.ite ht
  exact ht₁.canCancel.ite ht₁

theorem State.Canon.canOwnerSend {data : List Nat} (h : s.Canon) : (s.canOwnerSend c o data).Canon :=
  h.setCanObj.ite h.setCanObj

/-! ### Memory with its ECC (`Machine/Space.lean`) -/

theorem State.Canon.eccCorrect {m : MemId} (h : s.Canon) : (s.eccCorrect m w).Canon := by
  unfold State.eccCorrect
  extract_lets t
  have ht : t.Canon := h.setEcc
  split
  · exact ht.bump.raiseDie
  · exact ht.bump
  · exact ht.bump
  · exact ht

theorem State.Canon.eccReport {m : MemId} (h : s.Canon) : (s.eccReport m w).Canon := by
  unfold State.eccReport
  split
  · exact h.bump.raiseDie.offer
  · exact h

theorem State.Canon.eccRead {m : MemId} (h : s.Canon) : (s.eccRead m a n).2.Canon :=
  (h.each fun _ _ ht => ht.eccCorrect).each fun _ _ ht => ht.eccReport

theorem State.Canon.eccWrite {m : MemId} (h : s.Canon) : (s.eccWrite m a n).2.Canon := by
  unfold State.eccWrite
  extract_lets u us part bad
  split
  · dsimp only
    refine h.each fun _ _ ht => ?_
    exact ht.eccCorrect.ite ht.setEcc
  · exact h.each fun _ _ ht => ht.eccReport

theorem State.Canon.readBytes {m : MemId} (h : s.Canon) : (s.readBytes m a n).2.Canon := by
  unfold State.readBytes
  split
  next t e => exact h.eccRead.of_eq e

theorem State.Canon.writeBytes {m : MemId} (h : s.Canon) : (s.writeBytes m a bs).2.Canon := by
  unfold State.writeBytes
  split
  next t e =>
    have ht : t.Canon := h.eccWrite.of_eq e
    dsimp only
    exact ht.storeBytes.ite ht

theorem State.Canon.wholeGood {m : MemId} (h : s.Canon) : (s.wholeGood m a n).Canon := h.same

theorem State.Canon.scan {m : MemId} (h : s.Canon) : (s.scan m a n).Canon :=
  (h.each fun _ _ ht => ht.eccCorrect).each fun _ _ ht => ht.eccReport

theorem State.Canon.scanBytes {m : MemId} (h : s.Canon) : (s.scanBytes m a n).2.Canon := by
  unfold State.scanBytes
  extract_lets bad bs u
  have hu : u.Canon := h.scan
  split
  · exact h.scan
  · exact hu.same

theorem State.Canon.putEach {m : MemId} (h : s.Canon) : (s.putEach m a bs).Canon := h.each fun _ _ ht => ht.writeBytes

theorem State.Canon.engineRead (h : s.Canon) : (s.engineRead a n).2.Canon := by
  unfold State.engineRead
  split
  · split
    · exact h.readBytes
    · exact h
  · exact h

/-! ### The units of the data path (`Machine/Lines.lean`) -/

theorem State.Canon.setIng {v : Ing} (h : s.Canon) : (s.setIng d v).Canon := h.same

theorem State.Canon.setLane {v : Lane} (h : s.Canon) : (s.setLane d j v).Canon := h.same

theorem State.Canon.setLink {v : Link} (h : s.Canon) : (s.setLink d m v).Canon := h.same

theorem State.Canon.setTherm {v : Therm} (h : s.Canon) : (s.setTherm d v).Canon := h.same

theorem State.Canon.renumber (h : s.Canon) : (s.renumber n).Canon := by
  unfold State.renumber
  split
  · exact h
  · extract_lets len u t s0 u₁
    have ht : t.Canon := h.same
    exact ht.same.ite ht

/-! ### Timebase (`Machine/Timebase.lean`) -/

theorem State.Canon.setQual {r : Nat} {v : Bool} (h : s.Canon) : (s.setQual r v).Canon := h.wrB.ite (h.wrB.ite h)

theorem State.Canon.setSince {r : Nat} (h : s.Canon) : (s.setSince r t).Canon := h.same.ite (h.same.ite h)

theorem State.Canon.makeValid {r : Nat} (h : s.Canon) : (s.makeValid r).Canon := by
  unfold State.makeValid
  split
  · exact h
  · refine State.Canon.setSince ?_
    exact h.wr.ite (h.wr.ite h)

theorem State.Canon.finishSwitch {target : Nat} (h : s.Canon) : (s.finishSwitch target).Canon := by
  unfold State.finishSwitch
  extract_lets t t₁
  have ht : t.Canon := h.wr.wr.wr.bump
  have ht₁ : t₁.Canon := by
    unfold t₁
    refine ht.each fun _ _ ht₁ => ?_
    exact ht₁.ite ht₁.setQual.setSince
  exact ht₁.offer

theorem State.Canon.startSwitch {target : Nat} (h : s.Canon) : (s.startSwitch target).Canon := by
  unfold State.startSwitch
  extract_lets u s₁ ps held t u₁
  have hs₁ : s₁.Canon := h.same
  have ht : t.Canon := hs₁.wr.wr.wr
  exact ht.same.raiseCrown.raiseCrown.ite hs₁.wr.finishSwitch.raiseCrown

theorem State.Canon.loseRef {r : Nat} (h : s.Canon) : (s.loseRef r).Canon := by
  unfold State.loseRef
  extract_lets t u t₁
  have ht : t.Canon := h.wr.wr.ite h.wr.wr
  have ht₁ : t₁.Canon := ht.same
  exact ht₁.ite ((ht₁.wr.wr.ite ht₁).ite (ht₁.startSwitch.ite ht₁))

theorem execRefInvalid_canon {r : Nat} (h : s.Canon) : CanonOutcome (execRefInvalid r s) := h.loseRef.ite h

theorem execRefQualified_canon {r : Nat} (h : s.Canon) : CanonOutcome (execRefQualified r s) := by
  unfold execRefQualified
  show State.Canon _
  split
  · extract_lets t
    have ht : t.Canon := h.setQual
    exact ht.startSwitch.ite ht
  · exact h

theorem State.Canon.tbStep (h : s.Canon) : (s.tbStep v).Canon := h.same.offer

theorem State.Canon.tmbSet (h : s.Canon) : s.tmbSet.Canon := h.wr.offer.ite h.tbStep

theorem execTmbSet_canon (h : s.Canon) : CanonOutcome (execTmbSet s) := h.tmbSet

theorem State.Canon.ptpMessage {ofs : Int} (h : s.Canon) : (s.ptpMessage ofs).Canon := by
  unfold State.ptpMessage
  extract_lets sat t far u b t₁
  have ht : t.Canon := h.wr
  have ht₁ : t₁.Canon := by
    unfold t₁
    split
    · exact ht.same.tbStep
    · split
      next t₂ e => exact (ht.freeNat.of_eq e).same
  exact ht₁.makeValid.ite (ht₁.loseRef.ite ht₁)

theorem State.Canon.macFrame (h : s.Canon) : s.macFrame.Canon := h.raiseCrown.raiseCrown

theorem execPtpMessage_canon {ofs : Int} (h : s.Canon) : CanonOutcome (execPtpMessage ofs s) :=
  h.macFrame.ptpMessage.ite h.macFrame

theorem State.Canon.tmbTimeLo (h : s.Canon) : s.tmbTimeLo.2.Canon := h.same

theorem execTmbTimeLoRead_canon (h : s.Canon) : CanonOutcome (execTmbTimeLoRead s) := h.tmbTimeLo

theorem State.Canon.tmbTimeHi (h : s.Canon) : s.tmbTimeHi.2.Canon := h.same

theorem State.Canon.encoderEdge {input : Nat} {level : Bool} {atPs : Nat} (h : s.Canon) :
    (s.encoderEdge input level atPs).Canon := by
  unfold State.encoderEdge
  extract_lets a b fwd fwd₁ cnt both g u t u₁ t₁
  have ht : t.Canon := h.same
  have ht₁ : t₁.Canon := ht.same.wr
  exact (ht₁.loseRef.ite ht₁).ite ht

theorem State.Canon.lineEvent {t32 per : Nat} (h : s.Canon) : (s.lineEvent t32 per).Canon := by
  unfold State.lineEvent
  extract_lets d u t
  have ht : t.Canon := h.same
  exact ht.makeValid.ite ht

theorem State.Canon.lineRun {on : Bool} (h : s.Canon) : (s.lineRun on).Canon := h.ite h.wrB.raiseCrown.offer

theorem State.Canon.lineEnable (h : s.Canon) : s.lineEnable.Canon := h.ite h.wr.renumber.same

theorem execLineEnable_canon (h : s.Canon) : CanonOutcome (execLineEnable s) := h.lineEnable

theorem State.Canon.lineDisable (h : s.Canon) : s.lineDisable.Canon := by
  unfold State.lineDisable
  split
  · extract_lets t u t₁
    have ht : t.Canon := h.wr
    have ht₁ : t₁.Canon := ht.same.lineRun
    exact ht₁.finishSwitch.raiseCrown.ite ht₁
  · exact h

theorem execLineDisable_canon (h : s.Canon) : CanonOutcome (execLineDisable s) := h.lineDisable

theorem State.Canon.refsCheck (h : s.Canon) : s.refsCheck.Canon := by
  unfold State.refsCheck
  refine h.each fun _ _ ht => ?_
  exact (ht.loseRef.ite ht).ite ht.makeValid

theorem State.Canon.tmbCtrl (h : s.Canon) : (s.tmbCtrl w).Canon := by
  unfold State.tmbCtrl
  extract_lets p e t u t₁ t₂ t₃
  have ht : t.Canon := h.wr.wr
  have ht₁ : t₁.Canon := ht.same.ite ht
  have ht₂ : t₂.Canon := ht₁.refsCheck
  have ht₃ : t₃.Canon := ht₂.lineEnable.ite ht₂.lineDisable
  exact ht₃.tmbSet.ite ht₃

theorem State.Canon.nextPeriod {f : Nat} (h : s.Canon) : (s.nextPeriod f).2.Canon := by
  unfold State.nextPeriod
  extract_lets pn tgt u last p t
  have ht : t.Canon := h.wr
  split
  · split
    · exact h.same
    · split
      · dsimp only
        exact ht.finishSwitch.ite ht
      · split
        · exact h
        · extract_lets e₂ good t₁
          have ht₁ : t₁.Canon := ht.same
          dsimp only
          exact ht₁.finishSwitch.ite ht₁
  · split <;> exact h

theorem State.Canon.showLine {f : Nat} (h : s.Canon) : (s.showLine n f).Canon := h.wr.wr.wr.lineRun

theorem State.Canon.generate (h : s.Canon) : s.generate.2.Canon := by
  unfold State.generate
  split
  · exact h
  · split
    · exact h.same.lineRun
    · extract_lets ann f u n
      split
      · exact h.same
      · split
        next t e => exact (h.showLine.nextPeriod.of_eq e).same

/-! ### Field I/O (`Machine/FieldIo.lean`) -/

theorem State.Canon.chanUpdate (h : s.Canon) : (s.chanUpdate c).Canon := by
  unfold State.chanUpdate
  extract_lets ph set
  split
  · exact h.wr.wr
  · exact (h.wr.wr.ite (h.wr.wr.ite h)).ite (h.wr.wr.ite (h.wr.wr.ite h.wr.wr))

theorem State.Canon.chanUpdateAll (h : s.Canon) : s.chanUpdateAll.Canon := h.each fun _ _ ht => ht.chanUpdate

theorem State.Canon.chanCommand {on : Bool} (h : s.Canon) : (s.chanCommand c on).Canon := h.setBit.chanUpdate

theorem State.Canon.lswCommand {on : Bool} (h : s.Canon) : (s.lswCommand c on).Canon := h.ite h.chanCommand

theorem execLswSet_canon (h : s.Canon) : CanonOutcome (execLswSet w s) := h.each fun _ _ ht => ht.lswCommand

theorem execLswClr_canon (h : s.Canon) : CanonOutcome (execLswClr w s) := h.each fun _ _ ht => ht.lswCommand

theorem State.Canon.lswResume (h : s.Canon) : s.lswResume.Canon := h.wr.same.ite h

theorem execLswResume_canon (h : s.Canon) : CanonOutcome (execLswResume s) := h.lswResume

theorem execTurnonDone_canon (h : s.Canon) : CanonOutcome (execTurnonDone c s) := h.wr.ite h

theorem State.Canon.turnedOff (h : s.Canon) : (s.turnedOff c).Canon := h.wr.wr.chanUpdate

theorem execTurnoffDone_canon (h : s.Canon) : CanonOutcome (execTurnoffDone c s) := h.turnedOff.ite h

theorem State.Canon.chanDiag {f : Field} (h : s.Canon) : (s.chanDiag c f).Canon := h.ite h.wr.raiseCrown.offer

theorem execTurnoffTimeout_canon (h : s.Canon) : CanonOutcome (execTurnoffTimeout c s) := by
  unfold execTurnoffTimeout
  show State.Canon _
  split
  · refine State.Canon.turnedOff ?_
    exact h.chanDiag.ite h
  · exact h

theorem execOcTrip_canon {ms : Nat} (h : s.Canon) : CanonOutcome (execOcTrip c ms s) := h.chanDiag.wr.chanUpdate.ite h

theorem execOtTrip_canon (h : s.Canon) : CanonOutcome (execOtTrip c s) := h.chanDiag.wr.chanUpdate.ite h

theorem execOpenDetect_canon {ma : Nat} (h : s.Canon) : CanonOutcome (execOpenDetect c ma s) := by
  unfold execOpenDetect
  show State.Canon _
  split
  · split
    next t e =>
      have ht : t.Canon := h.calibrate.of_eq e
      exact ht.chanDiag.ite ht
  · exact h

theorem execShortDetect_canon (h : s.Canon) : CanonOutcome (execShortDetect c s) := h.chanDiag.ite h

theorem State.Canon.diagClear {cool : Bool} (h : s.Canon) : (s.diagClear c w cool).Canon := by
  unfold State.diagClear
  extract_lets t t₁ t₂ t₃
  have ht : t.Canon := h.wr.ite h
  have ht₁ : t₁.Canon := ht.wr.ite ht
  have ht₂ : t₂.Canon := ht₁.wr.ite ht₁
  have ht₃ : t₃.Canon := ht₂.wr.ite ht₂
  exact ht₃.ite ht₃.wr.chanUpdate

theorem execLswDiagClear_canon {cool : Bool} (h : s.Canon) : CanonOutcome (execLswDiagClear c w cool s) := h.diagClear.ite h

theorem State.Canon.failSafe (h : s.Canon) : s.failSafe.Canon := by
  unfold State.failSafe
  refine h.wr.each fun _ _ ht => ?_
  split
  · exact ht.chanCommand
  · exact ht.chanUpdate
  · exact ht.chanCommand

theorem State.Canon.clxUpdate (h : s.Canon) : s.clxUpdate.Canon := h.wrB.chanUpdateAll

theorem State.Canon.keepFrame {active : Bool} {claim : Nat} {lineRun : Bool} (h : s.Canon) :
    (s.keepFrame active claim lineRun).Canon := by
  unfold State.keepFrame
  extract_lets claim₁ f next u t t₁
  have hu : u.Canon := h.wr
  have ht : t.Canon := hu.same
  have ht₁ : t₁.Canon := ht.wrs
  exact ht₁.clxUpdate.ite ht₁

theorem execKeepFrameRx_canon {active : Bool} {claim : Nat} {lineRun : Bool} (h : s.Canon) :
    CanonOutcome (execKeepFrameRx active claim lineRun s) :=
  h.keepFrame

theorem State.Canon.keepTimeout (h : s.Canon) : s.keepTimeout.Canon := by
  unfold State.keepTimeout
  split
  · extract_lets t
    have ht : t.Canon := h.wr.failSafe
    exact ht.offer.ite ht.offerAtBoot
  · exact h

theorem execKeepTimeout_canon (h : s.Canon) : CanonOutcome (execKeepTimeout s) := h.keepTimeout

theorem State.Canon.dinChange {v : Bool} (h : s.Canon) : (s.dinChange i v).Canon := by
  unfold State.dinChange
  split
  · exact h
  · extract_lets t u t₁
    have ht : t.Canon := h.setBit.setBit
    have ht₁ : t₁.Canon := ht.same
    exact ht₁.ite ht₁.raiseCrown

theorem State.Canon.dinStep {raw : Bool} (h : s.Canon) : (s.dinStep i raw).Canon := by
  unfold State.dinStep
  split
  · exact h
  · split
    · exact h.setBit
    · extract_lets mx n n' t
      have ht : t.Canon := h.wr.setBit
      exact ht.setBit.dinChange.ite (ht.setBit.dinChange.ite ht)

theorem State.Canon.dinSample {raw : Nat} (h : s.Canon) : (s.dinSample raw).Canon := h.same.each fun _ _ ht => ht.dinStep

theorem execDinSample_canon {raw : Nat} (h : s.Canon) : CanonOutcome (execDinSample raw s) := h.dinSample.ite h

theorem State.Canon.dinFilt (h : s.Canon) : (s.dinFilt i w).Canon := h.ite h.wr.wr

theorem execDinFiltWrite_canon (h : s.Canon) : CanonOutcome (execDinFiltWrite i w s) := h.dinFilt.ite h

theorem State.Canon.dinCfg (h : s.Canon) : (s.dinCfg w).Canon := h.wr.wr.each fun _ _ ht => ht.dinFilt

theorem State.Canon.rfxPush {g : Trigger} (h : s.Canon) : (s.rfxPush d g).Canon := by
  unfold State.rfxPush
  split
  · exact h
  · extract_lets q
    exact h.same.ite h.wr.bump.offer

theorem State.Canon.fastEdge {level : Bool} {atPs : Nat} (h : s.Canon) : (s.fastEdge i level atPs).Canon := by
  unfold State.fastEdge
  split
  · extract_lets t g t₁
    have ht : t.Canon := h.dinChange.setBit.setBit.bump
    have ht₁ : t₁.Canon := ht.each fun _ _ ht₁ => ht₁.rfxPush
    exact ht₁.encoderEdge.ite ht₁
  · exact h

theorem execFastEdge_canon {level : Bool} {atPs : Nat} (h : s.Canon) : CanonOutcome (execFastEdge i level atPs s) := h.fastEdge

theorem State.Canon.groupLost {g : Nat} (h : s.Canon) : (s.groupLost g).Canon :=
  (h.each fun _ _ ht => ht.setBit.wr.dinChange).chanUpdateAll

theorem State.Canon.supplyMeasured {g raw : Nat} (h : s.Canon) : (s.supplyMeasured g raw).Canon := by
  unfold State.supplyMeasured
  split
  next t e =>
    have ht : t.Canon := h.calibrate.of_eq e
    extract_lets t₁ o n u t₂ t₃ t₄
    have ht₁ : t₁.Canon := ht.wr
    have ht₂ : t₂.Canon := ht₁.same
    have ht₃ : t₃.Canon := ht₂.wr
    have ht₄ : t₄.Canon := ht₃.raiseCrown.offer
    exact (ht₂.groupLost.ite ht₂).ite (ht₄.groupLost.ite ht₄.chanUpdateAll)

theorem execFieldSupplyChange_canon {g raw : Nat} (h : s.Canon) : CanonOutcome (execFieldSupplyChange g raw s) :=
  h.supplyMeasured.ite h

/-! ### Jobs (`Machine/Job.lean`) -/

theorem State.Canon.setJobState (h : s.Canon) : (s.setJobState v).Canon := h.ite h.wr.raiseCrown

theorem State.Canon.setCapCause (h : s.Canon) : (s.setCapCause w).Canon := h.wrOf

theorem State.Canon.oweCap (h : s.Canon) : s.oweCap.Canon := h.same

theorem State.Canon.setCap (h : s.Canon) : (s.setCap v).Canon := by
  unfold State.setCap
  split
  · exact h
  · extract_lets t
    have ht : t.Canon := h.wrs.raiseCrown.oweCap
    exact ht.hsbSend.ite ht

theorem State.Canon.capEvaluate (h : s.Canon) : s.capEvaluate.Canon := by
  unfold State.capEvaluate
  split
  · exact h
  · split
    · extract_lets u t t₁ u₁ t₂
      have ht : t.Canon := h.same
      have ht₁ : t₁.Canon := ht.setCap.setCapCause.wr
      have ht₂ : t₂.Canon := ht₁.same.offer
      exact (ht₂.offer.ite ht₂).ite ht.wrB

theorem State.Canon.capRaise (h : s.Canon) : s.capRaise.Canon := by
  unfold State.capRaise
  split
  · split
    · extract_lets t
      have ht : t.Canon := h.setCap.offer
      split
      · exact ht.setCapCause.wrB
    · exact h
  · exact h

theorem execCapRaise_canon (h : s.Canon) : CanonOutcome (execCapRaise s) := h.capRaise

theorem State.Canon.thetaNow {step : Nat} (h : s.Canon) : (s.thetaNow d step).Canon := h.wr

theorem State.Canon.setLeads {l : List (Nat × Option Nat)} (h : s.Canon) : (s.setLeads d l).Canon := h.setTherm.wrB

theorem State.Canon.thetaLower {step : Nat} (h : s.Canon) : (s.thetaLower d step).Canon := by
  unfold State.thetaLower
  extract_lets u t t₁
  have ht : t.Canon := h.setTherm
  have ht₁ : t₁.Canon := ht.capEvaluate
  exact ht.thetaNow.ite ht₁.setLeads

theorem State.Canon.thetaRaise {step : Nat} (h : s.Canon) : (s.thetaRaise d step).Canon :=
  h.setTherm.setLeads.thetaNow.capEvaluate

theorem State.Canon.caseReading {c jmax : Int} (h : s.Canon) : (s.caseReading d c jmax).Canon := by
  unfold State.caseReading
  extract_lets t t₁ th want
  have ht : t.Canon := h.wr.wr
  have ht₁ : t₁.Canon := ht.same.ite ht
  exact ht₁.thetaLower.ite (ht₁.setTherm.ite ht₁.setTherm)

theorem execCaseTempReading_canon {c jmax : Int} (h : s.Canon) : CanonOutcome (execCaseTempReading d c jmax s) :=
  h.caseReading.ite h

theorem execThetaRaise_canon (h : s.Canon) : CanonOutcome (execThetaRaise d s) := by
  unfold execThetaRaise
  show State.Canon _
  split
  · exact h.thetaRaise.ite h
  · exact h

theorem execThetaLeadExpiry_canon (h : s.Canon) : CanonOutcome (execThetaLeadExpiry d s) := by
  unfold execThetaLeadExpiry
  show State.Canon _
  split
  · exact h.thetaNow.setLeads.ite h
  · exact h

theorem State.Canon.dramReading {raw16 : Int} (h : s.Canon) : (s.dramReading d raw16).Canon := by
  unfold State.dramReading
  extract_lets t16 t th t₁ t₂
  have ht : t.Canon := h.wr
  have ht₁ : t₁.Canon := ht.setTherm.wr.wr
  have ht₂ : t₂.Canon := ht.setTherm.wr.wr
  split
  · exact ht₁.raiseDie.offer.capEvaluate.ite ht
  · split
    · split
      · exact ht.setTherm
      · exact ht₂.raiseDie.offer.capEvaluate.ite ht
    · exact ht.setTherm

theorem execDramTempReading_canon {raw16 : Int} (h : s.Canon) : CanonOutcome (execDramTempReading d raw16 s) :=
  h.dramReading.ite h

theorem State.Canon.jobEnd {reason : Nat} {atBoot : Bool} (h : s.Canon) : (s.jobEnd reason atBoot).Canon := by
  unfold State.jobEnd
  split
  · exact h
  · extract_lets t t₁ u t₂ t₃ t₄
    have ht : t.Canon := h.each fun _ _ ht => ht.wr
    have ht₁ : t₁.Canon := by
      unfold t₁
      refine ht.each fun _ _ ht₁ => ?_
      extract_lets th t₅
      have ht₅ : t₅.Canon := by
        unfold t₅
        split
        · exact ht₁.thetaNow.setLeads
        · exact ht₁
      exact ht₅.wr.wr
    have ht₂ : t₂.Canon := ht₁.same
    have ht₃ : t₃.Canon := ht₂.setCap.setCapCause.wr
    have ht₄ : t₄.Canon := ht₃.setJobState.wrs
    exact ht₄.offerAtBoot.ite ht₄.offer

theorem State.Canon.segTable {b : DieJob} (h : s.Canon) : (s.segTable b).2.Canon := by
  unfold State.segTable
  split
  · exact h
  · exact h.readBytes

theorem State.Canon.admitResult {mask die lane detail : Nat} (h : s.Canon) : (s.admitResult code mask die lane detail).Canon :=
  h.wrs.offer

theorem State.Canon.startIngest {b : DieJob} (h : s.Canon) : (s.startIngest b).Canon := h.setIng

theorem State.Canon.takeJob {jb : Job} (h : s.Canon) : (s.takeJob jb).Canon := by
  unfold State.takeJob
  exact ((((h.same.each fun _ _ ht => ((((ht.each fun _ _ ht₁ => ht₁.wr).wr).wr).wr).startIngest).wrs).setJobState).admitResult).capEvaluate

theorem State.Canon.segTables {a : List DieJob} (h : s.Canon) : (s.segTables a).2.Canon := by
  induction a generalizing s with
  | nil =>
    rw [State.segTables]
    exact h
  | cons y a ih =>
    rw [State.segTables]
    split
    next t e =>
      have ht : t.Canon := h.segTable.of_eq e
      split
      next t₁ e₁ =>
        have ht₁ : t₁.Canon := (ih ht).of_eq e₁
        exact ht₁

theorem State.Canon.jobAdmit {addr : Nat} {busy : Bool} (h : s.Canon) : (s.jobAdmit addr busy).2.Canon := by
  unfold State.jobAdmit
  split
  · exact h.admitResult
  · split
    next bs t e =>
      have ht : t.Canon := h.engineRead.of_eq e
      cases bs with
      | none => exact ht.admitResult
      | some bs =>
        have hu := ht.segTables (a := descDies bs)
        dsimp only
        split
        · exact hu.admitResult
        · split
          · exact hu.admitResult
          · exact hu.takeJob

/-! ### Ingest (`Machine/Ingest.lean`) -/

theorem State.Canon.ingSet {f : Field} (h : s.Canon) : (s.ingSet d f src).Canon := h.wr.raiseDie

theorem State.Canon.ringEcc {b : DieJob} (h : s.Canon) : (s.ringEcc b o n).2.Canon := by
  unfold State.ringEcc
  extract_lets base k
  split
  next t e =>
    have ht : t.Canon := h.eccRead.of_eq e
    split
    next t₁ e₁ =>
      have ht₁ : t₁.Canon := by
        refine State.Canon.of_eq ?_ e₁
        split
        · exact ht.eccRead
        · exact ht
      exact ht₁

theorem State.Canon.ingestHalt (h : s.Canon) : (s.ingestHalt d o).Canon := h.ingSet.wr.bump.offer

theorem State.Canon.ingestFormat (h : s.Canon) : (s.ingestFormat d).Canon := h.ingSet.bump.offer

theorem State.Canon.readRecord {b : DieJob} {length : Nat} (h : s.Canon) : ∀ t ∈ s.readRecord b length, t.Canon := by
  unfold State.readRecord
  extract_lets e av h₁ n size body lane first lines ok r
  split
  · exact forall_mem_none
  · split
    · exact forall_mem_none
    · split
      next t e₁ =>
        have ht : t.Canon := h.ringEcc.of_eq e₁
        split
        · exact forall_mem_some ht.ingSet.ingestHalt
        · split
          · exact forall_mem_some ht.ingestHalt
          · extract_lets t₁
            have ht₁ : t₁.Canon := ht.setIng
            refine forall_mem_some ?_
            exact ht₁.ite ht₁.ingestFormat

theorem State.Canon.readUntil {b : DieJob} {length lane x : Nat} (h : s.Canon) : (s.readUntil b length lane x a).Canon := by
  induction a generalizing s with
  | zero =>
    rw [State.readUntil]
    exact h
  | succ a ih =>
    rw [State.readUntil]
    split
    · exact h
    · split
      next t e => exact ih (h.readRecord _ e)
      · exact h

theorem State.Canon.tileSlice {b : DieJob} {id slice : Nat} (h : s.Canon) : (s.tileSlice b id slice).2.Canon := by
  unfold State.tileSlice
  split
  · exact h
  · exact h.readBytes

theorem State.Canon.tileGroups {b : DieJob} {slice : Nat} {a : List (Nat × Nat)} (h : s.Canon) :
    (s.tileGroups b slice a).2.Canon := by
  induction a generalizing s with
  | nil =>
    rw [State.tileGroups]
    exact h
  | cons y a ih =>
    rw [State.tileGroups]
    split
    next t e =>
      have ht : t.Canon := h.tileSlice.of_eq e
      split
      next t₁ e₁ =>
        have ht₁ : t₁.Canon := (ih ht).of_eq e₁
        split <;> exact ht₁

theorem State.Canon.decodeLine {b : DieJob} {r : Rec} {x : Nat} (h : s.Canon) : (s.decodeLine b r n x).2.Canon := by
  unfold State.decodeLine
  split
  next t e =>
    have ht : t.Canon := h.ringEcc.of_eq e
    split
    · exact ht
    · extract_lets body
      split
      · exact ht
      · split
        · exact ht.tileGroups
        · exact ht

theorem State.Canon.passLine (h : s.Canon) : (s.passLine d j).Canon := h.setIng

theorem State.Canon.passRecords {length : Nat} {a : List Rec} (h : s.Canon) : (s.passRecords d length a).Canon := by
  induction a generalizing s with
  | nil =>
    rw [State.passRecords]
    exact h
  | cons y a ih =>
    rw [State.passRecords]
    exact (ih h.setIng.wr).ite h

theorem State.Canon.completeBatt (h : s.Canon) : (s.completeBatt d j bs).Canon := h.writeBytes.setLane.wr.passLine.setIng

theorem State.Canon.failLine (h : s.Canon) : (s.failLine d j).Canon := h.setIng

theorem State.Canon.fillLane {b : DieJob} {length : Nat} (h : s.Canon) : (s.fillLane b length j).Canon := by
  unfold State.fillLane
  extract_lets d i n
  split
  · exact h.completeBatt
  · extract_lets s₁
    have hs₁ : s₁.Canon := h.readUntil
    split
    · split
      · exact hs₁
      · split
        · exact hs₁.failLine
        · split
          next s₂ e₂ => exact (hs₁.decodeLine.of_eq e₂).completeBatt.passRecords
          next s₂ e₂ => exact (hs₁.decodeLine.of_eq e₂).ingSet.failLine
    · exact hs₁

theorem execIngestFill_canon (h : s.Canon) : CanonOutcome (execIngestFill d s) := by
  unfold execIngestFill
  show State.Canon _
  split
  · split
    · exact h.fillLane
    · exact h
  · exact h

theorem State.Canon.abandonLine (h : s.Canon) : (s.abandonLine d j).Canon := by
  unfold State.abandonLine
  extract_lets n t t₁ u t₂
  have ht : t.Canon := h.ingSet.bump
  have ht₁ : t₁.Canon := ht.ite ht.offer
  have ht₂ : t₂.Canon := ht₁.setIng.passLine
  split
  · exact ht₂.passRecords
  · exact ht₂

theorem execIngestAbandon_canon (h : s.Canon) : CanonOutcome (execIngestAbandon d j s) := h.abandonLine.ite h

theorem execIngWptrWrite_canon (h : s.Canon) : CanonOutcome (execIngWptrWrite d w s) := by
  unfold execIngWptrWrite
  extract_lets v
  show State.Canon _
  split <;> exact h.wr.ite h

theorem State.Canon.calResult {r : Nat} (h : s.Canon) : (s.calResult d r).Canon := h.wr.raiseDie

theorem State.Canon.calRead {m : MemId} {size : Nat} {a : List Nat} (h : s.Canon) : (s.calRead m size a).2.2.Canon := by
  induction a generalizing s with
  | nil =>
    rw [State.calRead]
    exact h
  | cons y a ih =>
    rw [State.calRead]
    split
    next s₁ e => exact h.readBytes.of_eq e
    next s₁ e =>
      have hs₁ : s₁.Canon := h.readBytes.of_eq e
      split
      next s₂ e₂ =>
        have hs₂ : s₂.Canon := (ih hs₁).of_eq₂ e₂
        exact hs₂

theorem State.Canon.calStart (h : s.Canon) : (s.calStart d).Canon := by
  unfold State.calStart
  extract_lets mode lane count src size
  split
  · exact h.calResult
  · split
    · exact h.calResult
    · split
      next s₁ e₁ =>
        have hs₁ : s₁.Canon := h.calRead.of_eq₂ e₁
        extract_lets recs u
        exact h.calResult.ite hs₁.setIng.wr

theorem State.Canon.calCtrl (h : s.Canon) : (s.calCtrl d w).Canon := by
  unfold State.calCtrl
  extract_lets t
  have ht : t.Canon := h.wrOf
  exact ht.ite (ht.calResult.ite ht.calStart)

theorem execCalTransfer_canon (h : s.Canon) : CanonOutcome (execCalTransfer d w s) := h.calCtrl.ite h

theorem State.Canon.laneWrite (h : s.Canon) : (s.laneWrite d j a bs).Canon := h.writeBytes

theorem State.Canon.calWrite (h : s.Canon) : (s.calWrite d j a bs).Canon := h.setLane.ite h.laneWrite

theorem State.Canon.calPass {c : CalRun} (h : s.Canon) : (s.calPass d c n).Canon := (h.each fun _ _ ht => ht.calWrite).setIng

theorem State.Canon.calEnd {c : CalRun} (h : s.Canon) : (s.calEnd d c).Canon := h.calPass.setIng.wr.calResult

theorem execCalTransferDone_canon (h : s.Canon) : CanonOutcome (execCalTransferDone d s) := by
  unfold execCalTransferDone
  show State.Canon _
  split
  · exact h.calEnd.ite h
  · exact h

/-! ### Lanes (`Machine/Lanes.lean`) -/

theorem State.Canon.khoodResult {r detail : Nat} (h : s.Canon) : (s.khoodResult d j r detail).Canon := h.wrs.raiseDie

theorem State.Canon.setKhood (h : s.Canon) : (s.setKhood d j v).Canon := h.wrs

theorem State.Canon.disarm (h : s.Canon) : (s.disarm d j v).Canon := h.setLane.setKhood

theorem State.Canon.khoodLost {why : Nat} (h : s.Canon) : (s.khoodLost d j why).Canon := by
  unfold State.khoodLost
  extract_lets st t
  have ht : t.Canon := h.disarm.khoodResult
  exact h.ite (ht.offerAtBoot.ite ht.offer)

theorem State.Canon.stepLaneAddr (h : s.Canon) : (s.stepLaneAddr d j).Canon := h.wr

theorem State.Canon.laneSramRead (h : s.Canon) : (s.laneSramRead d j).2.Canon := by
  unfold State.laneSramRead
  extract_lets a p
  split
  next t e =>
    have ht : t.Canon := h.eccRead.of_eq e
    extract_lets t₁
    have ht₁ : t₁.Canon := ht.offer.ite ht
    exact ht₁.stepLaneAddr

theorem State.Canon.laneSramWrite (h : s.Canon) : (s.laneSramWrite d j w).Canon := by
  unfold State.laneSramWrite
  extract_lets a t
  have ht : t.Canon := h.laneWrite.stepLaneAddr
  split
  · exact trivial
  · split
    · exact trivial
    · split
      · split
        · exact h.calWrite.stepLaneAddr
        · exact trivial
      · exact ht.setKhood.ite ht

theorem State.Canon.stepKsAddr (h : s.Canon) : (s.stepKsAddr d j).Canon := h.wr

theorem State.Canon.laneKsRead (h : s.Canon) : (s.laneKsRead d j).2.Canon := h.eccRead.stepKsAddr

theorem State.Canon.laneKsWrite (h : s.Canon) : (s.laneKsWrite d j w).Canon := by
  unfold State.laneKsWrite
  split
  · exact trivial
  · exact h.writeBytes.stepKsAddr.setKhood

theorem State.Canon.beginLines (h : s.Canon) : (s.beginLines d j).Canon := h.setLane

theorem State.Canon.laneRun (h : s.Canon) : (s.laneRun d j).Canon := h.ite (h.wr.ite h.wr.beginLines)

theorem execLaneRun_canon (h : s.Canon) : CanonOutcome (execLaneRun d j s) := h.laneRun.ite h

theorem State.Canon.laneStop (h : s.Canon) : (s.laneStop d j).Canon := by
  unfold State.laneStop
  split
  · exact h
  · extract_lets l
    exact h.setLane.ite h.setLane.wr

theorem execLaneStop_canon (h : s.Canon) : CanonOutcome (execLaneStop d j s) := h.laneStop.ite h

theorem State.Canon.clearFaulted (h : s.Canon) : (s.clearFaulted d j).Canon := h.setLane.wrs.ite h

theorem execLaneResume_canon (h : s.Canon) : CanonOutcome (execLaneResume d j s) := h.clearFaulted.ite h

theorem State.Canon.laneCtrl (h : s.Canon) : (s.laneCtrl d j w).Canon := by
  unfold State.laneCtrl
  extract_lets t t₁
  have ht : t.Canon := h.wr
  have ht₁ : t₁.Canon := ht.clearFaulted.ite ht
  exact ht₁.laneRun.ite ht₁.laneStop

theorem State.Canon.handRoutes {blank : Bool} {a : List Nat} (h : s.Canon) : (s.handRoutes d j i blank a).2.Canon := by
  induction a generalizing s with
  | nil =>
    rw [State.handRoutes]
    exact h
  | cons y a ih =>
    rw [State.handRoutes]
    split
    · exact ih h
    · extract_lets m l x
      split
      · split
        next t e₁ =>
          have ht : t.Canon := (ih h.setLink).of_eq e₁
          exact ht
      · exact ih h.bump

theorem State.Canon.jobComplete (h : s.Canon) : s.jobComplete.Canon := by
  unfold State.jobComplete
  split
  · split
    · split
      · refine h.setJobState.each fun _ _ ht => ?_
        exact ht.wr.ite ht
      · exact h
    · exact h
  · exact h

theorem State.Canon.handBatt {blank : Bool} {acc : List Nat} (h : s.Canon) : (s.handBatt d j i blank acc).Canon := by
  unfold State.handBatt
  extract_lets n
  split
  next t e => exact (h.handRoutes.of_eq e).setLane.wr.raiseDie.jobComplete

theorem State.Canon.blankBatt {reason : Nat} (h : s.Canon) : (s.blankBatt d j i reason).Canon := by
  unfold State.blankBatt
  exact h.bump.wrs.offer.raiseDie.handBatt

theorem State.Canon.applyHeld (h : s.Canon) : (s.applyHeld d j).Canon := (h.foldl fun _ _ ht => ht.laneWrite).setLane

theorem State.Canon.kernelOver (h : s.Canon) : (s.kernelOver d j).Canon := by
  unfold State.kernelOver
  extract_lets u t t₁ u₁
  have ht : t.Canon := h.setLane
  have ht₁ : t₁.Canon := ht.applyHeld
  exact ht₁.setLane.wr.ite ht₁

theorem State.Canon.laneCapture {kind pos : Nat} (h : s.Canon) : (s.laneCapture d j kind pos).Canon := by
  unfold State.laneCapture
  extract_lets b
  split
  · exact h.wr
  · dsimp only
    cases (s.lane d j).kern with
    | none => exact h.freeNat.freeNat.wrs
    | some k => exact h.wrs

theorem State.Canon.planeFault {kind pos : Nat} (h : s.Canon) : (s.planeFault d j kind pos).Canon := by
  unfold State.planeFault
  extract_lets b t u t₁ t₂ t₃ u₁
  have ht : t.Canon := h.laneCapture
  have ht₁ : t₁.Canon := by
    unfold t₁
    split
    · exact ht.setLane
    · exact ht
  have ht₂ : t₂.Canon := ht₁.kernelOver.wr.nodeFault
  have ht₃ : t₃.Canon := ht₂.offer
  exact ht₃.setLane.ite ht₃

theorem execKernelDeadline_canon (h : s.Canon) : CanonOutcome (execKernelDeadline d j s) := by
  unfold execKernelDeadline
  show State.Canon _
  split
  · exact h
  · split
    · exact h.kernelOver.blankBatt.ite h
    · split
      · exact h.blankBatt.ite h
      · exact h

theorem State.Canon.khoodSwitch {line : Option Nat} (h : s.Canon) : (s.khoodSwitch d j line).Canon := by
  unfold State.khoodSwitch
  extract_lets b cost bud t t₁ u t₂ t₃
  have ht : t.Canon := h.disarm.wrs
  have ht₁ : t₁.Canon := ht.clearFaulted
  have ht₂ : t₂.Canon := by
    unfold t₂
    split
    · exact ht₁.wr
    · exact ht₁.setLane
  have ht₃ : t₃.Canon := ht₂.khoodResult.offer
  exact h.disarm.khoodResult.ite (ht₃.capEvaluate.ite ht₃)

theorem State.Canon.switchAtStart (h : s.Canon) : (s.switchAtStart d j i).Canon := by
  unfold State.switchAtStart
  extract_lets n
  split
  · exact h.khoodSwitch.ite h
  · exact h

theorem State.Canon.loadedSoFar (h : s.Canon) : (s.loadedSoFar d j).Canon := by
  unfold State.loadedSoFar
  split
  · split
    · split
      next t e₁ => exact (h.freeNat.of_eq e₁).calPass
    · exact h
  · exact h

theorem State.Canon.kernelBegin (h : s.Canon) : (s.kernelBegin d j i).Canon := by
  unfold State.kernelBegin
  extract_lets n t u t₁ u₁ t₂ u₂
  have ht : t.Canon := h.switchAtStart.loadedSoFar
  have ht₁ : t₁.Canon := ht.setLane.wr.ite ht
  have ht₂ : t₂.Canon := ht₁.setIng.wr.ite ht₁
  exact ht₂.setLane

theorem execKernelStart_canon (h : s.Canon) : CanonOutcome (execKernelStart d j s) := by
  unfold execKernelStart
  show State.Canon _
  split
  · exact h.kernelBegin.ite h
  · exact h

theorem State.Canon.capExceeded {f : Nat} (h : s.Canon) : (s.capExceeded f).Canon := by
  unfold State.capExceeded
  split
  · exact h.bump.offer.raiseCrown.ite (h.bump.offer.raiseCrown.ite h)
  · exact h

theorem State.Canon.announce {f : Nat} (h : s.Canon) : (s.announce n f).Canon := h.capExceeded.same

theorem execLineAnnounce_canon (h : s.Canon) : CanonOutcome (execLineAnnounce s) := by
  unfold execLineAnnounce
  show State.Canon _
  split
  next t e =>
    have ht : t.Canon := h.generate.of_eq e
    extract_lets t₁
    have ht₁ : t₁.Canon := ht.announce
    exact ht₁.hsbSend.ite ht₁
  next t e => exact h.generate.of_eq e

/-! ### Plane words (`Machine/PlaneOps.lean`) -/

theorem State.Canon.kernelRead (h : s.Canon) : (s.kernelRead d j a n).2.2.Canon := by
  unfold State.kernelRead
  split
  next t e => exact h.eccRead.of_eq e

theorem State.Canon.loadPlane {buf g : Nat} (h : s.Canon) : (s.loadPlane d j buf k g).2.2.Canon := by
  unfold State.loadPlane
  extract_lets n e at_
  split
  next t e₁ =>
    have ht : t.Canon := h.kernelRead.of_eq₂ e₁
    split
    next t₁ e₂ =>
      have ht₁ : t₁.Canon := by
        refine State.Canon.of_eq₂ ?_ e₂
        split
        · exact ht
        · exact ht.kernelRead
      split
      next t₂ e₃ =>
        have ht₂ : t₂.Canon := by
          refine State.Canon.of_eq₂ ?_ e₃
          split
          · exact ht₁.kernelRead
          · exact ht₁
        exact ht₂

theorem State.Canon.calPlane {f g : Nat} (h : s.Canon) : (s.calPlane d j f g).2.2.Canon := by
  unfold State.calPlane
  extract_lets n e
  split
  next t e₁ =>
    have ht : t.Canon := h.kernelRead.of_eq₂ e₁
    split
    next t₁ e₂ =>
      have ht₁ : t₁.Canon := by
        refine State.Canon.of_eq₂ ?_ e₂
        split
        · exact ht
        · exact ht.kernelRead
      split
      next t₂ e₃ =>
        have ht₂ : t₂.Canon := by
          refine State.Canon.of_eq₂ ?_ e₃
          split
          · exact ht₁.kernelRead
          · exact ht₁
        exact ht₂

theorem State.Canon.kernNext {k : Kern} {st : List Plane} (h : s.Canon) : (s.kernNext d j k st).Canon := h.setLane

theorem State.Canon.gend {k : Kern} (h : s.Canon) : (s.gend d j k).Canon := h.setLane.ite h.wr.kernelOver.handBatt

theorem State.Canon.laneExec {k : Kern} {op : LaneOp} (h : s.Canon) : (s.laneExec d j k op).Canon := by
  unfold State.laneExec
  extract_lets n
  split
  · split
    next t e =>
      have ht : t.Canon := h.loadPlane.of_eq₂ e
      exact ht.planeFault.ite ht.kernNext
  · split
    next t e =>
      have ht : t.Canon := h.calPlane.of_eq₂ e
      exact ht.planeFault.ite ht.kernNext
  · split
    next t e₁ =>
      have ht : t.Canon := h.kernelRead.of_eq₂ e₁
      exact ht.planeFault.ite ht.kernNext
  · exact h.laneWrite.kernNext
  · exact h.kernNext
  · extract_lets t
    have ht : t.Canon := h.kernNext
    exact ht.orBits.raiseDie.ite ht
  · exact h.gend
  · split
    · exact h.kernNext
    · exact h

theorem State.Canon.laneCycle {k : Kern} {op : LaneOp} (h : s.Canon) : (s.laneCycle d j k op).Canon := by
  unfold State.laneCycle
  extract_lets m
  split
  · split
    next t e₁ =>
      have ht : t.Canon := h.eccRead.of_eq e₁
      exact ht.planeFault.ite ht.laneExec
  · exact h

theorem State.Canon.laneStep {op : LaneOp} (h : s.Canon) : (s.laneStep d j op).Canon := by
  unfold State.laneStep
  split
  · exact h
  · split
    · exact h
    · extract_lets t
      have ht : t.Canon := h.laneCycle
      exact h.ite ht

theorem execAndp_canon (h : s.Canon) : CanonOutcome (execAndp d j s) := h.laneStep

theorem execOrp_canon (h : s.Canon) : CanonOutcome (execOrp d j s) := h.laneStep

theorem execXorp_canon (h : s.Canon) : CanonOutcome (execXorp d j s) := h.laneStep

theorem execAndnp_canon (h : s.Canon) : CanonOutcome (execAndnp d j s) := h.laneStep

theorem execNotp_canon (h : s.Canon) : CanonOutcome (execNotp d j s) := h.laneStep

theorem execSelp_canon (h : s.Canon) : CanonOutcome (execSelp d j s) := h.laneStep

theorem execZerop_canon (h : s.Canon) : CanonOutcome (execZerop d j s) := h.laneStep

theorem execOnesp_canon (h : s.Canon) : CanonOutcome (execOnesp d j s) := h.laneStep

theorem execDupp_canon (h : s.Canon) : CanonOutcome (execDupp d j s) := h.laneStep

theorem execDropp_canon (h : s.Canon) : CanonOutcome (execDropp d j s) := h.laneStep

theorem execSwapp_canon (h : s.Canon) : CanonOutcome (execSwapp d j s) := h.laneStep

theorem execOverp_canon (h : s.Canon) : CanonOutcome (execOverp d j s) := h.laneStep

theorem execRotp_canon (h : s.Canon) : CanonOutcome (execRotp d j s) := h.laneStep

theorem execNipp_canon (h : s.Canon) : CanonOutcome (execNipp d j s) := h.laneStep

theorem execTuckp_canon (h : s.Canon) : CanonOutcome (execTuckp d j s) := h.laneStep

theorem execPickp_canon (h : s.Canon) : CanonOutcome (execPickp d j n s) := h.laneStep

theorem execShlp_canon (h : s.Canon) : CanonOutcome (execShlp d j n s) := h.laneStep

theorem execShrp_canon (h : s.Canon) : CanonOutcome (execShrp d j n s) := h.laneStep

theorem execLoadp_canon (h : s.Canon) : CanonOutcome (execLoadp d j k s) := h.laneStep

theorem execStorep_canon (h : s.Canon) : CanonOutcome (execStorep d j q s) := h.laneStep

theorem execCalp_canon {f : Nat} (h : s.Canon) : CanonOutcome (execCalp d j f s) := h.laneStep

theorem execLutp_canon (h : s.Canon) : CanonOutcome (execLutp d j i w s) := h.laneStep

theorem execPopcp_canon (h : s.Canon) : CanonOutcome (execPopcp d j k s) := h.laneStep

theorem execFlagp_canon (h : s.Canon) : CanonOutcome (execFlagp d j k s) := h.laneStep

theorem execGend_canon (h : s.Canon) : CanonOutcome (execGend d j s) := h.laneStep

/-! ### Cores (`Machine/Cores.lean`) -/

theorem State.Canon.refuse {space first last : Nat} {write : Bool} (h : s.Canon) :
    (s.refuse r space first last write code).Canon := by
  unfold State.refuse
  split
  · exact h
  · extract_lets t
    have ht : t.Canon := h.offer
    exact ht.wr.ite ht.wrs

theorem State.Canon.dRead (h : s.Canon) : (s.dRead r a n).Canon := by
  unfold State.dRead
  split
  · exact h.refuse
  · split
    · exact h
    · split
      next s₁ e₂ => exact h.readBytes.of_eq e₂
      next s₁ e₂ => exact h.readBytes.of_eq e₂

theorem State.Canon.touchPages (h : s.Canon) : (s.touchPages o n).Canon := h.same

theorem State.Canon.imgPart (h : s.Canon) : (s.imgPart r o bs).2.Canon := by
  unfold State.imgPart
  split
  · split
    · exact h.writeBytes
    · exact h
  · exact h.writeBytes

theorem State.Canon.imgParts {a : List Nat} (h : s.Canon) : (s.imgParts r o bs a).2.Canon := by
  induction a generalizing s o bs with
  | nil =>
    rw [State.imgParts]
    exact h
  | cons y a ih =>
    rw [State.imgParts]
    split
    · exact ih h
    · split
      next t e => exact h.imgPart.of_eq e
      next t e => exact ih (h.imgPart.of_eq e)

theorem State.Canon.memWrite {m : MemId} (h : s.Canon) : (s.memWrite r m o bs).2.Canon := by
  unfold State.memWrite
  split
  · split
    next t e =>
      have ht : t.Canon := by
        refine State.Canon.of_eq ?_ e
        split
        · exact h.imgParts
        · exact h.writeBytes
      dsimp only
      exact ht.touchPages.ite ht
  · split
    next t e =>
      have ht : t.Canon := h.writeBytes.of_eq e
      dsimp only
      exact ht.dirty.dirty.ite ht
  · exact h.writeBytes

theorem State.Canon.dWrite (h : s.Canon) : (s.dWrite r a bs).Canon := by
  unfold State.dWrite
  split
  · exact h.refuse
  · split
    · exact h
    · split
      next t e₂ => exact h.memWrite.of_eq e₂
      next t e₂ => exact h.memWrite.of_eq e₂

theorem State.Canon.dRmw {f : Nat → Nat} (h : s.Canon) : (s.dRmw r a n f).Canon := by
  unfold State.dRmw
  split
  · exact h.refuse
  · split
    next t e₁ => exact h.dRead.of_eq e₁
    next t e₁ => exact h.dRead.of_eq e₁
    next t e₁ =>
      have ht : t.Canon := h.dRead.of_eq e₁
      split
      next t₁ e₂ => exact ht.dWrite.of_eq e₂
      next t₁ e₂ => exact ht.dWrite.of_eq e₂
      next t₁ e₂ => exact ht.dWrite.of_eq e₂

theorem State.Canon.iBytes (h : s.Canon) : (s.iBytes d k a n).2.Canon := by
  unfold State.iBytes
  split
  · exact h
  · split
    next s₁ e₁ => exact h.readBytes.of_eq e₁
    next s₁ e₁ => exact h.readBytes.of_eq e₁

theorem State.Canon.iStore (h : s.Canon) : (s.iStore d k a n v).2.Canon := by
  unfold State.iStore
  split
  · exact h
  · extract_lets t
    have ht : t.Canon := h.wr.ite h
    exact ht.writeBytes

theorem State.Canon.setHeld {l : List Posted} (h : s.Canon) : (s.setHeld r l).Canon := h.same

theorem State.Canon.ramPut (h : s.Canon) : (s.ramPut d k a bs).Canon := h.writeBytes.ite h.setHeld

theorem State.Canon.stalled (h : s.Canon) : (s.stalled d k).Canon := h.setCore

theorem State.Canon.haltCore (h : s.Canon) : (s.haltCore d k code).Canon := h.wr.raiseDie.offer.nodeFault

theorem State.Canon.goHandler {vec : Nat} (h : s.Canon) : (s.goHandler d k vec).Canon := by
  unfold State.goHandler
  split
  next s₁ e => exact (h.readBytes.of_eq e).haltCore
  next s₁ e =>
    have hs₁ : s₁.Canon := h.readBytes.of_eq e
    extract_lets a u t
    have ht : t.Canon := hs₁.setCore
    split
    · split
      next t₁ e₂ => exact ht.iBytes.of_eq e₂
      next t₁ e₂ => exact (ht.iBytes.of_eq e₂).haltCore
    · exact ht.refuse.haltCore

theorem State.Canon.diLeft (h : s.Canon) : (s.diLeft d k).2.Canon := by
  unfold State.diLeft
  split
  · exact h
  · split
    next t e₁ =>
      have ht : t.Canon := h.freeNat.of_eq e₁
      exact ht

theorem State.Canon.lramWords {ws : List Nat} (h : s.Canon) : (s.lramWords d k a ws).Canon := h.writeBytes

theorem State.Canon.countEntry {x : Exc} (h : s.Canon) : (s.countEntry d k x).Canon := h.wrs.bump

theorem State.Canon.enterExc {x : Exc} (h : s.Canon) : (s.enterExc d k x).Canon := by
  unfold State.enterExc
  extract_lets b u slot
  split
  · exact h.haltCore
  · split
    · exact h.setCore
    · split
      next t e => exact (h.diLeft.of_eq e).lramWords.countEntry.setCore.goHandler

theorem State.Canon.enterAsync {vec level : Nat} (h : s.Canon) : (s.enterAsync d k vec cause level).Canon := h.enterExc

theorem State.Canon.boundary (h : s.Canon) : (s.boundary d k).Canon := by
  unfold State.boundary
  split
  · exact h.ite h.setCore.enterExc
  · exact h.setCore.enterAsync.ite h

theorem State.Canon.reportBus (h : s.Canon) : (s.reportBus d k a).Canon := h.setCore.offer

theorem State.Canon.leaveReset (h : s.Canon) : (s.leaveReset d k).Canon := h.setCore.goHandler.ite h

theorem State.Canon.trap {opidx : Nat} (h : s.Canon) : (s.trap d k opc len cause opidx).Canon := h.enterExc

theorem State.Canon.fetch {a' : Nat} (h : s.Canon) : ExceptCanon (s.fetch d k a a') := by
  induction a' generalizing s a with
  | zero =>
    rw [State.fetch]
    exact h
  | succ a' ih =>
    rw [State.fetch]
    split
    · split
      next t e₁ => exact ih (h.iBytes.of_eq e₁)
      next t e₁ => exact h.iBytes.of_eq e₁
    · show State.Canon _
      dsimp only
      exact h.refuse

/-! ### Layout maps (`Machine/Maps.lean`) -/

theorem State.Canon.readMap (h : s.Canon) : (s.readMap a).2.Canon := by
  unfold State.readMap
  split
  next s₁ e => exact h.engineRead.of_eq e
  next s₁ e =>
    have hs₁ : s₁.Canon := h.engineRead.of_eq e
    extract_lets n
    split
    next t _ _ e₁ _ =>
      have ht : t.Canon := by
        refine State.Canon.of_eq ?_ e₁
        split
        · exact hs₁
        · exact hs₁.engineRead
      exact ht
    next t e₁ _ =>
      have ht : t.Canon := by
        refine State.Canon.of_eq ?_ e₁
        split
        · exact hs₁
        · exact hs₁.engineRead
      exact ht

theorem State.Canon.varBytes (h : s.Canon) : (s.varBytes d k a n).2.Canon := by
  unfold State.varBytes
  split
  · exact h.scanBytes
  · exact h

theorem State.Canon.putVar (h : s.Canon) : (s.putVar d k a bs).Canon := by
  unfold State.putVar
  split
  · exact h.memWrite
  · exact h

theorem State.Canon.eqEntries {a : List MapEntry} (h : s.Canon) : (s.eqEntries d k a).2.Canon := by
  induction a generalizing s with
  | nil =>
    rw [State.eqEntries]
    exact h
  | cons y a ih =>
    rw [State.eqEntries]
    split
    next t e =>
      have ht : t.Canon := h.varBytes.of_eq e
      split
      next u e₁ =>
        have hu : u.Canon := (ih ht).of_eq e₁
        exact hu

theorem State.Canon.eqWords (h : s.Canon) : (s.eqWords d k).2.Canon := h.eqEntries

/-! ### Event recorder (`Machine/Recorder.lean`) -/

theorem State.Canon.evrOverrun (h : s.Canon) : s.evrOverrun.Canon := h.wr.raiseCrown

theorem State.Canon.accept {r : Offered} {supp : Nat} (h : s.Canon) : (s.accept r supp).Canon := by
  unfold State.accept
  extract_lets seq cur hit old oldest u t t₁ t₂ t₃
  have ht : t.Canon := h.same
  have ht₁ : t₁.Canon := ht.wr.ite ht
  have ht₂ : t₂.Canon := ht₁.wholeGood.dirty
  have ht₃ : t₃.Canon := ht₂.evrOverrun.ite ht₂
  exact ht₃.raiseCrown.ite ht₃

theorem State.Canon.takeRecord {r : Offered} (h : s.Canon) : (s.takeRecord r).Canon := by
  unfold State.takeRecord
  extract_lets b supp t
  have ht : t.Canon := h.wr.ite h
  exact h.ite (h.bump.bump.ite ht.wr.accept)

theorem State.Canon.eventOffer (h : s.Canon) : s.eventOffer.Canon := by
  unfold State.eventOffer
  split
  · exact h
  · extract_lets u t u₁
    have ht : t.Canon := h.same.takeRecord
    exact ht.same.offer.ite ht

theorem execEventOffer_canon (h : s.Canon) : CanonOutcome (execEventOffer s) := h.eventOffer

theorem State.Canon.tokenRefill {b : Nat} (h : s.Canon) : (s.tokenRefill b).Canon := h.wr.ite h

theorem execTokenRefill_canon {b : Nat} (h : s.Canon) : CanonOutcome (execTokenRefill b s) := h.tokenRefill

theorem State.Canon.evrRead (h : s.Canon) : (s.evrRead i).2.Canon := by
  unfold State.evrRead
  split
  · exact h
  · split
    next t e => exact h.eccRead.of_eq e

theorem State.Canon.evrWin7 (h : s.Canon) : s.evrWin7.2.Canon := by
  unfold State.evrWin7
  extract_lets c
  split
  next t e => exact h.evrRead.of_eq e
  next t e =>
    have ht : t.Canon := h.evrRead.of_eq e
    split
    · exact ht
    · split
      · exact ht.wr
      · exact ht.wr.evrOverrun

theorem execEvrWin7Read_canon (h : s.Canon) : CanonOutcome (execEvrWin7Read s) := h.evrWin7

theorem State.Canon.evrCursorWrite (h : s.Canon) : (s.evrCursorWrite v).Canon := h.wr.ite h.wr.evrOverrun

theorem execEvrCursorWrite_canon (h : s.Canon) : CanonOutcome (execEvrCursorWrite v s) := h.evrCursorWrite

/-! ### Readiness, pages and the job pair (`Machine/Standby.lean`) -/

theorem State.Canon.setPage {x : Page} (h : s.Canon) : (s.setPage p x).Canon := by
  unfold State.setPage
  extract_lets u t ds a t₁
  have ht : t.Canon := h.same
  have ht₁ : t₁.Canon := ht.wrs
  exact ht₁.offer.raiseCrown.ite ht₁

theorem State.Canon.pageWrite (h : s.Canon) : (s.pageWrite a n).Canon := by
  unfold State.pageWrite
  split
  · exact h.each fun _ _ ht => ht.setPage
  · exact h

theorem State.Canon.readyUpdate (h : s.Canon) : s.readyUpdate.Canon := h.ite h.wrB.raiseCrown

theorem State.Canon.setPeerReady {v : Bool} (h : s.Canon) : (s.setPeerReady v).Canon := by
  unfold State.setPeerReady
  split
  · exact h
  · extract_lets t
    have ht : t.Canon := h.wrB.raiseCrown
    exact ht.handoverFail.ite ht

theorem State.Canon.setJobPair {v left : Bool} (h : s.Canon) : (s.setJobPair v left).Canon := by
  unfold State.setJobPair
  extract_lets t
  have ht : t.Canon := h.wrB.readyUpdate
  exact ht.offer.ite ht

theorem State.Canon.jobPairUpdate (h : s.Canon) : s.jobPairUpdate.Canon := h.setJobPair

theorem State.Canon.jobPairEnd (h : s.Canon) : s.jobPairEnd.Canon := h.same.setJobPair

theorem State.Canon.joinCheck (h : s.Canon) : s.joinCheck.Canon := h.setHsbState.readyUpdate.ite h

theorem State.Canon.leaveStandby {st : Nat} (h : s.Canon) : (s.leaveStandby st).Canon := by
  unfold State.leaveStandby
  refine State.Canon.readyUpdate ?_
  refine State.Canon.jobPairEnd ?_
  refine State.Canon.setHsbState ?_
  exact h.jobEnd.ite h

theorem State.Canon.enterJoining (h : s.Canon) : s.enterJoining.Canon := h.same.wr.setHsbState

theorem State.Canon.learnClaim (h : s.Canon) : (s.learnClaim c).Canon := by
  unfold State.learnClaim
  extract_lets t
  have ht : t.Canon := h.wr.ite h
  exact ht.enterJoining.jobEnd.jobPairUpdate.offer.ite ht

theorem State.Canon.pathHeard (h : s.Canon) : (s.pathHeard p).Canon := by
  unfold State.pathHeard
  extract_lets t
  have ht : t.Canon := h.offer.raiseCrown.ite h
  exact ht.same.wr

theorem State.Canon.sbRx {h' : SbHdr} {act : State → State} (h : s.Canon) (hact : ∀ t, t.Canon → (act t).Canon) :
    (s.sbRx h' act).Canon := by
  unfold State.sbRx
  split
  · extract_lets q u rec0 t t₁
    have ht : t.Canon := h.same.pathHeard.learnClaim
    have ht₁ : t₁.Canon := ht.same
    exact (ht₁.ite (hact _ ht₁)).ite ht
  · exact h

/-! ### Kernel hoods (`Machine/Khood.lean`) -/

theorem State.Canon.loadRefused {detail : Nat} (h : s.Canon) : (s.loadRefused d j code detail).Canon := h.setKhood.khoodResult

theorem State.Canon.khoodLoad (h : s.Canon) : (s.khoodLoad d j).Canon := by
  unfold State.khoodLoad
  extract_lets b slot m
  split
  · exact h.khoodResult
  · split
    · split
      next t e₁ =>
        have ht : t.Canon := h.eccRead.of_eq e₁
        exact ht.planeFault.loadRefused.ite ht.wr.loadRefused
    · split
      next t e₁ =>
        have ht : t.Canon := h.eccRead.of_eq e₁
        split
        next t₁ e₂ =>
          have ht₁ : t₁.Canon := ht.eccRead.of_eq e₂
          split
          · exact ht₁.planeFault.loadRefused
          · split
            · exact ht₁.planeFault.loadRefused
            · extract_lets t₂ bud
              have ht₂ : t₂.Canon := ht₁.wrs
              exact ht₂.loadRefused.ite ht₂.setKhood.khoodResult

theorem execKhoodLoad_canon (h : s.Canon) : CanonOutcome (execKhoodLoad d j s) := h.khoodLoad.ite h

theorem State.Canon.armHood {line : Option Nat} {paired : Bool} (h : s.Canon) : (s.armHood d j line paired).Canon :=
  h.setLane.setKhood

theorem State.Canon.armPair (h : s.Canon) : (s.armPair d j n).Canon := h.armHood.hsbSend

theorem State.Canon.khoodSwitchWrite (h : s.Canon) : (s.khoodSwitchWrite d j).Canon := by
  unfold State.khoodSwitchWrite
  extract_lets b n
  split
  · exact h.khoodResult
  · split
    · exact h.khoodResult
    · split
      · exact (h.armPair.ite h.khoodResult).ite h.armPair
      · exact h.khoodSwitch.ite ((h.khoodResult.ite h.armHood).ite h.armHood)

theorem execKhoodSwitch_canon {at_ : Bool} (h : s.Canon) : CanonOutcome (execKhoodSwitch d j at_ s) :=
  h.wrB.khoodSwitchWrite.ite h

theorem State.Canon.khoodAbort (h : s.Canon) : (s.khoodAbort d j).Canon := h.disarm.khoodResult.ite h

theorem execKhoodAbort_canon (h : s.Canon) : CanonOutcome (execKhoodAbort d j s) := h.khoodAbort.ite h

theorem State.Canon.khoodCtrl (h : s.Canon) : (s.khoodCtrl d j w).Canon := by
  unfold State.khoodCtrl
  extract_lets t t₁ t₂
  have ht : t.Canon := h.wr
  have ht₁ : t₁.Canon := ht.khoodLoad.ite ht
  have ht₂ : t₂.Canon := ht₁.khoodSwitchWrite.ite ht₁
  exact ht₂.khoodAbort.ite ht₂

theorem execKhoodSwitchPoint_canon (h : s.Canon) : CanonOutcome (execKhoodSwitchPoint d j s) := by
  unfold execKhoodSwitchPoint
  show State.Canon _
  split
  · split
    · split
      · exact h.khoodSwitch.ite h
      · exact h
    · exact h
  · exact h

theorem State.Canon.agree {a : KArm} (h : s.Canon) : (s.agree d j a).Canon := h.setLane

theorem State.Canon.pairMismatch (h : s.Canon) : (s.pairMismatch d j).Canon := h.disarm.khoodResult

theorem execKarmRx_canon {h' : SbHdr} {digest lead : Nat} (h : s.Canon) :
    CanonOutcome (execKarmRx h' d j n digest cost lead s) := by
  unfold execKarmRx
  extract_lets b
  show State.Canon _
  refine h.sbRx fun _ ht => ?_
  exact ht.ite (ht.armHood.hsbSend.ite ht.hsbSend)

theorem execKhoodAckRx_canon {h' : SbHdr} (h : s.Canon) : CanonOutcome (execKhoodAckRx h' d j s) := by
  unfold execKhoodAckRx
  show State.Canon _
  refine h.sbRx fun _ ht => ?_
  split
  · exact ht.agree.hsbSend.ite ht
  · exact ht

theorem execKhoodNakRx_canon {h' : SbHdr} (h : s.Canon) : CanonOutcome (execKhoodNakRx h' d j s) := by
  unfold execKhoodNakRx
  show State.Canon _
  refine h.sbRx fun _ ht => ?_
  split
  · exact ht.pairMismatch.hsbSend.ite ht
  · exact ht

theorem execKgoRx_canon {h' : SbHdr} (h : s.Canon) : CanonOutcome (execKgoRx h' d j s) := by
  unfold execKgoRx
  show State.Canon _
  refine h.sbRx fun _ ht => ?_
  split
  · exact ht.agree.ite ht
  · exact ht

theorem execKcancelRx_canon {h' : SbHdr} (h : s.Canon) : CanonOutcome (execKcancelRx h' d j s) := by
  unfold execKcancelRx
  show State.Canon _
  refine h.sbRx fun _ ht => ?_
  split
  · exact ht.pairMismatch.ite ht
  · exact ht

theorem execKhoodAckTimeout_canon (h : s.Canon) : CanonOutcome (execKhoodAckTimeout d j s) := by
  unfold execKhoodAckTimeout
  show State.Canon _
  split
  · exact h.pairMismatch.hsbSend.ite h
  · exact h

theorem State.Canon.leavePair (h : s.Canon) : s.leavePair.Canon := by
  unfold State.leavePair
  extract_lets t t₁
  have ht : t.Canon := h.hsbSend
  have ht₁ : t₁.Canon := ht.jobEnd.ite ht
  exact ht₁.wr.setHsbState.jobPairEnd

theorem execKhoodStandbySplit_canon (h : s.Canon) : CanonOutcome (execKhoodStandbySplit d j s) := by
  unfold execKhoodStandbySplit
  show State.Canon _
  split
  · exact h.disarm.khoodResult.offer.leavePair.ite h
  · exact h

theorem State.Canon.laneCntLine (h : s.Canon) : (s.laneCntLine d j).2.Canon := (h.foldl fun _ _ ht => ht.wr).wrs

theorem execLaneCntLine_canon (h : s.Canon) : CanonOutcome (execLaneCntLine d j s) := h.laneCntLine.ite h

/-! ### Order and arbitration (`Machine/Order.lean`) -/

theorem State.Canon.setArbiter {c : Option Nat} {v : Arbiter} (h : s.Canon) : (s.setArbiter c a v).Canon := h.same

theorem State.Canon.withdraw {l : List Node} (h : s.Canon) : (s.withdraw l).Canon := h.same

/-! ### Links (`Machine/Links.lean`) -/

theorem State.Canon.freeAtOnce {type : Nat} (h : s.Canon) : (s.freeAtOnce d m type len).Canon := by
  unfold State.freeAtOnce
  split
  · exact h.setLink
  · exact h

theorem State.Canon.linkSend {type flags cls dl target : Nat} {line : Option Nat} {words : List Nat} (h : s.Canon) :
    (s.linkSend d m type flags cls dl target line words).Canon :=
  h.setLink.emit

theorem State.Canon.linkSendNow {type flags : Nat} {words : List Nat} (h : s.Canon) :
    (s.linkSendNow d m type flags words).Canon :=
  h.linkSend

theorem State.Canon.creditSend {flags b : Nat} (h : s.Canon) : (s.creditSend d m flags a b).Canon := h.linkSendNow.setLink

theorem State.Canon.sendFull (h : s.Canon) : (s.sendFull d m).Canon := h.creditSend

theorem State.Canon.setLinkState {st why : Nat} (h : s.Canon) : (s.setLinkState d m st why).Canon := by
  unfold State.setLinkState
  split
  · exact h
  · extract_lets t u t₁
    have ht : t.Canon := h.wr.raiseDie
    have ht₁ : t₁.Canon := ht.setLink
    exact ht₁.offer.ite (ht₁.wr.offer.ite (ht₁.offer.ite ht₁))

theorem State.Canon.routeDone {x : RouteTx} (h : s.Canon) : (s.routeDone d x).Canon := by
  unfold State.routeDone
  extract_lets l b
  split
  · exact h.setLane.ite h
  · exact h

theorem State.Canon.routeSent {x : RouteTx} (h : s.Canon) : (s.routeSent d m x).Canon := h.setLink.routeDone.setLink

theorem State.Canon.mailboxEnd {r : Nat} (h : s.Canon) : (s.mailboxEnd d m r).Canon := h.setLink.wrs.raiseDie

theorem State.Canon.leaveUp (h : s.Canon) : (s.leaveUp d m).Canon := by
  unfold State.leaveUp
  split
  · exact h
  · extract_lets l t t₁ t₂ t₃
    have ht : t.Canon := h.each fun _ _ ht => ht.routeDone
    have ht₁ : t₁.Canon := ht.bump
    have ht₂ : t₂.Canon := ht₁.bump
    have ht₃ : t₃.Canon := ht₂.mailboxEnd.ite ht₂
    exact ht₃.setLink

theorem State.Canon.beginTrain (h : s.Canon) : (s.beginTrain d m).Canon := h.leaveUp.setLinkState.wrs.setLink

theorem State.Canon.enterTrain (h : s.Canon) : (s.enterTrain d m).Canon := h.beginTrain.ite h

theorem State.Canon.enterUp (h : s.Canon) : (s.enterUp d m).Canon := h.setLinkState.wr.setLink

theorem State.Canon.linkFault {why : Nat} (h : s.Canon) : (s.linkFault d m why).Canon := h.leaveUp.setLinkState.ite h

theorem State.Canon.linkDown (h : s.Canon) : (s.linkDown d m).Canon := h.leaveUp.setLinkState

theorem State.Canon.linkEnable (h : s.Canon) : (s.linkEnable d m).Canon := by
  unfold State.linkEnable
  extract_lets t
  have ht : t.Canon := h.wr
  exact ht.enterTrain.ite ht

theorem execLinkEnable_canon (h : s.Canon) : CanonOutcome (execLinkEnable d m s) := h.linkEnable.ite h

theorem State.Canon.linkDisable (h : s.Canon) : (s.linkDisable d m).Canon := by
  unfold State.linkDisable
  split
  · exact h
  · split
    · exact h.wr.linkDown.ite h.offer
    · exact h.wr.linkDown

theorem execLinkDisable_canon (h : s.Canon) : CanonOutcome (execLinkDisable d m s) := h.linkDisable.ite h

theorem State.Canon.linkRetrain (h : s.Canon) : (s.linkRetrain d m).Canon := by
  unfold State.linkRetrain
  extract_lets t
  have ht : t.Canon := h.wr
  exact ht.enterTrain.ite ht

theorem execLinkRetrain_canon (h : s.Canon) : CanonOutcome (execLinkRetrain d m s) := h.linkRetrain.ite h

theorem State.Canon.linkCtrl (h : s.Canon) : (s.linkCtrl d m w).Canon := by
  unfold State.linkCtrl
  extract_lets t u t₁ t₂
  have ht : t.Canon := h.wr
  have ht₁ : t₁.Canon := ht.ite ht.setLink
  have ht₂ : t₂.Canon := ht₁.linkEnable.ite ht₁.linkDisable
  exact ht₂.linkRetrain.ite ht₂

theorem State.Canon.headerRx (h : s.Canon) : (s.headerRx d m).Canon := h.setLink

theorem State.Canon.claimRx (h : s.Canon) : (s.claimRx d m c).Canon := by
  unfold State.claimRx
  extract_lets t
  have ht : t.Canon := h.wr.ite h
  exact ht.learnClaim.ite ht

theorem State.Canon.rxPut (h : s.Canon) : (s.rxPut d m f).Canon := by
  unfold State.rxPut
  extract_lets l c h₁ u t
  have ht : t.Canon := h.setLink
  exact (ht.raiseDie.ite ht).ite h.freeAtOnce.wr

theorem State.Canon.eventRx (h : s.Canon) : (s.eventRx d m f).Canon := by
  unfold State.eventRx
  extract_lets ws kind g t
  have ht : t.Canon := h.rfxPush
  exact ht.lineEvent.ite ht

theorem State.Canon.applyTap {f : Field} {tap req : Nat} (h : s.Canon) : (s.applyTap d m f tap req).Canon := h.wr

theorem State.Canon.trainDone (h : s.Canon) : (s.trainDone d m).Canon := h.enterUp.ite h

theorem State.Canon.trainRx (h : s.Canon) : (s.trainRx d m f).Canon := by
  unfold State.trainRx
  extract_lets b o t taps u u₁ t₁ big u₂
  have ht : t.Canon := h.wrs
  have hu : u.Canon := ht.foldl fun _ _ ht₁ => ht₁.applyTap
  have ht₁ : t₁.Canon := ht.ite hu.setLink
  exact ht₁.setLink.trainDone

theorem State.Canon.creditRx (h : s.Canon) : (s.creditRx d m f).Canon := by
  unfold State.creditRx
  extract_lets l
  split
  · exact h.setLink.ite ((h.setLink.sendFull.ite h).ite (h.setLink.creditSend.ite h.setLink))

theorem State.Canon.frameAct (h : s.Canon) : (s.frameAct d m f).Canon := by
  unfold State.frameAct
  split
  · exact h.rxPut
  · exact h.eventRx.rxPut
  · exact h.creditRx
  · exact h.enterTrain.trainRx.ite h.trainRx
  · exact h
  · exact h
  · exact h.bump.freeAtOnce

theorem State.Canon.fromLoop (h : s.Canon) : ∀ t ∈ s.fromLoop d m f, t.Canon := by
  unfold State.fromLoop
  split
  · split
    · split
      · exact forall_mem_some h.setLink
      · exact forall_mem_none
    · exact forall_mem_none
  · exact forall_mem_some h

theorem State.Canon.frameRx (h : s.Canon) : (s.frameRx d m f).Canon := by
  unfold State.frameRx
  extract_lets b s₁
  have hs₁ : s₁.Canon := h.headerRx
  split
  · exact h
  · split
    · exact hs₁.bump.freeAtOnce
    · split
      · exact hs₁.bump.freeAtOnce
      · split
        · exact hs₁.bump.freeAtOnce
        · split
          · exact hs₁.bump.linkFault.ite hs₁.claimRx.frameAct
          · exact hs₁.claimRx.frameAct

theorem State.Canon.linkRx (h : s.Canon) : (s.linkRx d m f).Canon := by
  unfold State.linkRx
  split
  next t e =>
    have ht : t.Canon := h.fromLoop _ e
    exact ht.frameRx.ite h
  · exact h

theorem execHcrcFailRx_canon (h : s.Canon) : CanonOutcome (execHcrcFailRx d m s) :=
  h.ite (h.bump.setLink.creditSend.ite (h.bump.ite h))

theorem execBattRx_canon (h : s.Canon) : CanonOutcome (execBattRx d m f s) := h.linkRx.ite h

theorem execCrespRx_canon (h : s.Canon) : CanonOutcome (execCrespRx d m f s) := h.linkRx

theorem execEventRx_canon (h : s.Canon) : CanonOutcome (execEventRx d m f s) := h.linkRx

theorem execCreditRx_canon (h : s.Canon) : CanonOutcome (execCreditRx d m f s) := h.linkRx

theorem execCreditResyncRx_canon (h : s.Canon) : CanonOutcome (execCreditResyncRx d m f s) := h.linkRx

theorem execCreditMarkRx_canon (h : s.Canon) : CanonOutcome (execCreditMarkRx d m f s) := h.linkRx

theorem execCreditFullRx_canon (h : s.Canon) : CanonOutcome (execCreditFullRx d m f s) := h.linkRx

theorem execIdleRx_canon (h : s.Canon) : CanonOutcome (execIdleRx d m f s) := h.linkRx

theorem execTrainRx_canon (h : s.Canon) : CanonOutcome (execTrainRx d m f s) := h.linkRx

theorem State.Canon.linkLate (h : s.Canon) : (s.linkLate d m).Canon := h.bump.raiseDie

theorem State.Canon.routeBlank {x : RouteTx} (h : s.Canon) : (s.routeBlank d m x).Canon := h.setLink.linkLate.offer.ite h

theorem execRouteDeadline_canon (h : s.Canon) : CanonOutcome (execRouteDeadline d m s) := by
  unfold execRouteDeadline
  show State.Canon _
  split
  · exact h.each fun _ _ ht => ht.routeBlank
  · exact h

theorem State.Canon.battCheck {x : RouteTx} (h : s.Canon) : (s.battCheck d m x).Canon := by
  unfold State.battCheck
  split
  · exact h
  · split
    next t e =>
      have ht : t.Canon := h.eccRead.of_eq e
      split
      · exact ((((ht.foldl fun _ _ ht₁ => ht₁.setLink).bump).wrs).offer).raiseDie
      · exact ht

theorem State.Canon.battStart {x : RouteTx} (h : s.Canon) : (s.battStart d m x).Canon := by
  unfold State.battStart
  extract_lets last flags t t₁ t₂ l
  have ht : t.Canon := h.linkLate.ite h
  have ht₁ : t₁.Canon := ht.setLink
  have ht₂ : t₂.Canon := ht₁.linkSend
  exact ht₂.routeSent.ite ht₂.setLink

theorem State.Canon.linkDecide (h : s.Canon) : (s.linkDecide d m).2.Canon := by
  unfold State.linkDecide
  extract_lets b a l reqs ins limit ptr forced g
  split
  · exact h
  · extract_lets mem gf pick t t₁ t₂ t₃
    have ht : t.Canon := h.wrs
    have ht₁ : t₁.Canon := ht.bump.ite ht
    have ht₂ : t₂.Canon := ht₁.bump.ite ht₁
    have ht₃ : t₃.Canon := ht₂.setArbiter.ite ht₂
    exact ht₃.setLink

theorem State.Canon.frameStart {f : TxFrame} (h : s.Canon) : (s.frameStart d m f).Canon := h.setLink.linkSend

theorem State.Canon.reflexStart {f : TxFrame} (h : s.Canon) : (s.reflexStart d m f).Canon := h.frameStart.wr

theorem State.Canon.txStart {r : TxReq} (h : s.Canon) : (s.txStart d m r).Canon := by
  unfold State.txStart
  extract_lets l
  split
  · exact h.battStart
  · split
    · exact h.frameStart.mailboxEnd
    · exact h
  · split
    · exact h.setLink.reflexStart
    · exact h
  · split
    · exact h.setLink.frameStart
    · exact h

theorem State.Canon.linkHold (h : s.Canon) : (s.linkHold d m).Canon := h.setLink.wr

theorem State.Canon.txReady (h : s.Canon) : (s.txReady d m).Canon := by
  unfold State.txReady
  extract_lets s₁ s₂
  have hs₁ : s₁.Canon := h.each fun _ _ ht => ht.routeBlank
  have hs₂ : s₂.Canon := hs₁.each fun _ _ ht => ht.battCheck
  split
  · exact hs₂.ite hs₂.wr
  · exact hs₂

theorem execLinkTxSelect_canon (h : s.Canon) : CanonOutcome (execLinkTxSelect d m s) := by
  unfold execLinkTxSelect
  show State.Canon _
  split
  · exact h
  · split
    next t e => exact (h.txReady.linkDecide.of_eq e).txStart.linkHold
    next t e => exact h.txReady.linkDecide.of_eq e

theorem execIdleTx_canon (h : s.Canon) : CanonOutcome (execIdleTx d m s) := h.linkSendNow.ite h

theorem execCreditTx_canon (h : s.Canon) : CanonOutcome (execCreditTx d m s) := (h.sendFull.ite h.setLink.creditSend).ite h

theorem execTrainTx_canon {ready : Bool} {taps : Nat} (h : s.Canon) : CanonOutcome (execTrainTx d m ready taps s) := by
  unfold execTrainTx
  extract_lets b l ok req t st
  have ht : t.Canon := h.setLink
  show State.Canon _
  exact ht.linkSendNow.trainDone.ite h

theorem State.Canon.mailGo (h : s.Canon) : (s.mailGo d m).Canon := h.ite (h.mailboxEnd.ite h.setLink.wr)

theorem execLinkTxGo_canon (h : s.Canon) : CanonOutcome (execLinkTxGo d m s) := h.mailGo.ite h

theorem State.Canon.rxPop (h : s.Canon) : (s.rxPop d m).Canon := by
  unfold State.rxPop
  extract_lets l
  split
  · exact h.setLink
  · exact h

theorem execLinkRxPop_canon (h : s.Canon) : CanonOutcome (execLinkRxPop d m s) := h.rxPop.ite h

theorem execLinkHbTimeout_canon (h : s.Canon) : CanonOutcome (execLinkHbTimeout d m s) := h.linkFault.ite h

theorem State.Canon.codewords {corr unc : Nat} (h : s.Canon) : (s.codewords d m corr unc).Canon := h.bump.bump.setLink

theorem execLinkLockLoss_canon {codewords : FecReport} (h : s.Canon) : CanonOutcome (execLinkLockLoss d m codewords s) := by
  unfold execLinkLockLoss
  show State.Canon _
  split
  · exact h
  · extract_lets t
    have ht : t.Canon := h.codewords
    exact ht.linkFault.ite (ht.linkFault.ite ht)

theorem execCreditResyncTimeout_canon (h : s.Canon) : CanonOutcome (execCreditResyncTimeout d m s) := h.linkFault.ite h

theorem execFaultRetrain_canon (h : s.Canon) : CanonOutcome (execFaultRetrain d m s) := h.enterTrain.ite h

theorem execLinkTrainTimeout_canon (h : s.Canon) : CanonOutcome (execLinkTrainTimeout d m s) := h.offer.enterTrain.ite h

theorem State.Canon.capSend (h : s.Canon) : s.capSend.Canon := by
  unfold State.capSend
  extract_lets b bytes u t t₁ d m f u₁ t₂
  have ht : t.Canon := h.same
  have ht₁ : t₁.Canon := ht.canOwnerSend.ite ht
  have ht₂ : t₂.Canon := ht₁.setLink.ite ht₁
  refine ht₂.each fun _ _ ht₃ => ?_
  extract_lets l
  exact ht₃.setLeads.ite ht₃

theorem execCapMessage_canon (h : s.Canon) : CanonOutcome (execCapMessage s) := h.capSend.ite h

/-! ### Tasks (`Machine/Tasks.lean`) -/

theorem State.Canon.setTask {r : TaskRun} (h : s.Canon) : (s.setTask d k t r).Canon := h.setCore

theorem State.Canon.setTaskState (h : s.Canon) : (s.setTaskState d k t v).Canon := h.wr

theorem State.Canon.overrun {num : Nat} (h : s.Canon) : (s.overrun d k t num).Canon := h.bump.raiseDie.offer

theorem State.Canon.release {due num : Nat} (h : s.Canon) : (s.release d k t due num).Canon :=
  h.setTask.setTaskState.ite h.overrun

theorem State.Canon.holdDue {due num : Nat} (h : s.Canon) : (s.holdDue d k t due num).Canon :=
  (h.each fun _ _ ht => ht.overrun).setCore

theorem State.Canon.releaseHeld (h : s.Canon) : (s.releaseHeld d k).Canon := by
  unfold State.releaseHeld
  extract_lets c u
  split
  · exact h
  · exact h.setCore.each fun _ _ ht => ht.release

theorem State.Canon.eqLate {num : Nat} (h : s.Canon) : (s.eqLate d k t num).Canon := by
  unfold State.eqLate
  split
  · exact h.bump.setCore.releaseHeld.ite h
  · exact h

theorem State.Canon.fallDue {due num : Nat} (h : s.Canon) : (s.fallDue d k t due num).Canon := by
  unfold State.fallDue
  extract_lets s₁
  have hs₁ : s₁.Canon := h.eqLate
  exact hs₁.ite (hs₁.overrun.ite (hs₁.holdDue.ite hs₁.release))

theorem State.Canon.eventDue (h : s.Canon) : (s.eventDue d k t).Canon := h.setTask.fallDue.ite h

theorem State.Canon.taskDue (h : s.Canon) : (s.taskDue d k t).Canon := by
  unfold State.taskDue
  extract_lets b ds u
  split
  · split
    · exact h
    · extract_lets u₁
      have hu₁ : u₁.Canon := h.setTask
      refine hu₁.each fun _ _ ht => ?_
      exact (ht.overrun.ite ht).ite ht.fallDue
  · exact h

theorem execTaskDue_canon (h : s.Canon) : CanonOutcome (execTaskDue d k t s) := h.taskDue

theorem State.Canon.taskEnable (h : s.Canon) : (s.taskEnable d k t).Canon := by
  unfold State.taskEnable
  extract_lets b p u u₁ u₂
  have hu : u.Canon := h.wr
  have hu₁ : u₁.Canon := hu.setTaskState.ite hu
  exact h.ite (h.wr.raiseDie.ite hu₁.setTask)

theorem State.Canon.taskDisable (h : s.Canon) : (s.taskDisable d k t).Canon := by
  unfold State.taskDisable
  extract_lets u
  have hu : u.Canon := h.wr
  exact hu.setTaskState.ite hu

theorem State.Canon.taskCfg (h : s.Canon) : (s.taskCfg d k t w).Canon := by
  unfold State.taskCfg
  extract_lets b u u₁
  have hu : u.Canon := h.wrOf
  have hu₁ : u₁.Canon := hu.ite hu.wr
  exact hu₁.taskEnable.ite hu₁.taskDisable

theorem State.Canon.taskTrig (h : s.Canon) : (s.taskTrig d k t w).Canon := h.eventDue.ite h

theorem execTaskTrig_canon (h : s.Canon) : CanonOutcome (execTaskTrig d k t s) := h.taskTrig.ite h

theorem State.Canon.eventSource (h : s.Canon) : (s.eventSource d src).Canon := by
  unfold State.eventSource
  split
  · exact h.setBit.each fun _ _ ht => ht.eventDue
  · exact h

theorem execEventTaskSource_canon (h : s.Canon) : CanonOutcome (execEventTaskSource d src s) := h.eventSource

theorem State.Canon.blurSlot (h : s.Canon) : (s.blurSlot d k n).Canon := h.writeBytes.same

theorem State.Canon.saveCtx (h : s.Canon) : (s.saveCtx d k n).Canon := h.blurSlot.setCore

theorem State.Canon.restoreCtx {ctx : Ctx} (h : s.Canon) : (s.restoreCtx d k n ctx).Canon := by
  unfold State.restoreCtx
  extract_lets c
  split
  · exact h
  · exact h.setCore

theorem State.Canon.descRefused {x : Desc} (h : s.Canon) : ∀ t ∈ s.descRefused d k x, t.Canon := by
  unfold State.descRefused
  split
  · exact forall_mem_some h
  · split
    · exact forall_mem_none
    · exact forall_mem_some h.refuse

theorem State.Canon.findRefused {out : Bool} (h : s.Canon) : ∀ u ∈ (s.findRefused d k t out i a), u.2.Canon := by
  induction a generalizing i with
  | zero =>
    rw [State.findRefused]
    exact forall_mem_none
  | succ a ih =>
    rw [State.findRefused]
    split
    next t₁ e =>
      have ht₁ : t₁.Canon := by
        refine State.Canon.of_mem ?_ e
        split
        · exact h.descRefused
        · exact forall_mem_none
      exact forall_mem_some ht₁
    · exact ih

theorem State.Canon.outBytes {x : Desc} (h : s.Canon) : (s.outBytes d k x).2.Canon := by
  unfold State.outBytes
  extract_lets ram
  split
  next s₁ e => exact h.readBytes.of_eq e
  next s₁ e =>
    have hs₁ : s₁.Canon := h.readBytes.of_eq e
    split
    · split
      next s₂ e₂ => exact hs₁.readBytes.of_eq e₂
      next s₂ e₂ =>
        have hs₂ : s₂.Canon := hs₁.readBytes.of_eq e₂
        split
        next s₃ e₃ => exact hs₂.readBytes.of_eq e₃
        next s₃ e₃ =>
          have hs₃ : s₃.Canon := hs₂.readBytes.of_eq e₃
          exact hs₃
    · exact hs₁

theorem State.Canon.carry {x : Desc} (h : s.Canon) : (s.carry d k x).Canon := by
  unfold State.carry
  extract_lets ram
  split
  · split
    next s₁ e₁ => exact h.outBytes.of_eq e₁
    next s₁ e₁ => exact (h.outBytes.of_eq e₁).memWrite.same
  · split
    next s₁ e => exact h.readBytes.of_eq e
    next s₁ e => exact (h.readBytes.of_eq e).writeBytes

theorem State.Canon.passDescs (h : s.Canon) : (s.passDescs d k t a).Canon := by
  induction a generalizing s with
  | zero =>
    rw [State.passDescs]
    exact h
  | succ a ih =>
    rw [State.passDescs]
    split
    · exact h
    · extract_lets x u u₁
      have hu : u.Canon := h.carry.ite h
      exact ih hu.setTask

theorem State.Canon.hoodEnd {st result : Nat} (h : s.Canon) : (s.hoodEnd d k st result).Canon := h.wrs.hoodRes

theorem State.Canon.endHold (h : s.Canon) : (s.endHold d k).Canon := h.setCore.releaseHeld

theorem State.Canon.finalMiss {result : Nat} (h : s.Canon) : (s.finalMiss d k result).Canon := h.hsbSend.ite h

theorem State.Canon.requestEnd {result : Nat} (h : s.Canon) : (s.requestEnd d k result).Canon := h.finalMiss.hoodEnd.endHold

theorem State.Canon.hoodRefCheck (h : s.Canon) : (s.hoodRefCheck d k).Canon := h.requestEnd.ite h

theorem State.Canon.imgFault (h : s.Canon) : (s.imgFault d k t).Canon := h.wrs.raiseDie.offer.hoodRefCheck

theorem State.Canon.beginRelease (h : s.Canon) : (s.beginRelease d k t).Canon := h.setCore.wr.setTaskState

theorem State.Canon.releaseStart (h : s.Canon) : (s.releaseStart d k n).Canon := by
  unfold State.releaseStart
  split
  · split
    · exact h
    · split
      · exact h
      · split
        next u e₂ => exact (h.findRefused _ e₂).imgFault.setTaskState
        · exact h.beginRelease.passDescs
  · split
    · exact h.passDescs.ite h
    · exact h

theorem execReleaseStart_canon (h : s.Canon) : CanonOutcome (execReleaseStart d k n s) := h.releaseStart

theorem State.Canon.taskSuspend (h : s.Canon) : (s.taskSuspend d k n).Canon := by
  unfold State.taskSuspend
  split
  · split
    · exact h
    · exact h.passDescs.saveCtx.setTaskState.ite h
  · exact h

theorem execTaskSuspend_canon (h : s.Canon) : CanonOutcome (execTaskSuspend d k n s) := h.taskSuspend

theorem State.Canon.taskRestore (h : s.Canon) : (s.taskRestore d k).Canon := by
  unfold State.taskRestore
  split
  · split
    · exact h
    · exact h.restoreCtx.setTaskState.ite h
  · exact h

theorem execTaskRestore_canon (h : s.Canon) : CanonOutcome (execTaskRestore d k s) := h.taskRestore

theorem State.Canon.refHood (h : s.Canon) : (s.refHood d k n).Canon := (h.setCore.ite (h.setCore.ite h.setCore)).ite h

theorem State.Canon.eqWrite {vals : List (Nat × List Nat)} {a : List MapEntry} {a' : Bool} (h : s.Canon) :
    (s.eqWrite d k vals a a').Canon := by
  induction a generalizing s a' with
  | nil =>
    rw [State.eqWrite]
    exact h
  | cons y a ih =>
    rw [State.eqWrite]
    split
    · exact ih h
    · extract_lets bs
      split
      next t e₁ =>
        have ht : t.Canon := h.varBytes.of_eq e₁
        split
        · exact ih ht
        · extract_lets t₁
          have ht₁ : t₁.Canon := ht.putVar.bump
          refine ih ?_
          exact ht₁.offer.raiseCrown.ite ht₁

theorem State.Canon.eqApply {vals : Option (List (Nat × List Nat))} (h : s.Canon) : (s.eqApply d k vals).Canon := by
  unfold State.eqApply
  extract_lets u t u₁
  have ht : t.Canon := by
    unfold t
    split
    · exact h.eqWrite.same
    · exact h
  exact ht.setCore.releaseHeld.joinCheck

theorem State.Canon.eqCopy (h : s.Canon) : (s.eqCopy d k).Canon := by
  unfold State.eqCopy
  extract_lets b r
  split
  next t e => exact (h.freeNat.of_eq e).setCore.wrs

theorem State.Canon.eqSend (h : s.Canon) : (s.eqSend d k n).Canon := h.hsbSend.bump.ite h.eqWords.hsbSend

theorem State.Canon.refEq (h : s.Canon) : (s.refEq d k n).Canon := by
  unfold State.refEq
  split
  · split
    · exact h.eqCopy.eqSend
    · split
      · split
        · exact h.eqApply
        · exact h.setCore
      · exact h
  · exact h

theorem State.Canon.refEnded (h : s.Canon) : (s.refEnded d k t).Canon := h.refEq.refHood.ite h

theorem State.Canon.endRelease (h : s.Canon) : (s.endRelease d k t).Canon := by
  unfold State.endRelease
  extract_lets b r ns u u₁ u₂ u₃ u₄
  have hu : u.Canon := h.imgFault.ite h
  have hu₁ : u₁.Canon := hu.wrs
  have hu₂ : u₂.Canon := hu₁.setTaskState
  have hu₃ : u₃.Canon := hu₂.setTask
  exact hu₃.setCore.refEnded

theorem State.Canon.copyOutDone (h : s.Canon) : (s.copyOutDone d k).Canon := by
  unfold State.copyOutDone
  split
  · exact h.passDescs.endRelease.ite h
  · exact h

theorem execCopyOutDone_canon (h : s.Canon) : CanonOutcome (execCopyOutDone d k s) := h.copyOutDone

theorem State.Canon.taskEnd (h : s.Canon) : (s.taskEnd d k).Canon := by
  unfold State.taskEnd
  extract_lets c u hot
  split
  · split
    next u₁ e₁ =>
      have hu₁ : u₁.Canon := by
        refine State.Canon.of_eq ?_ e₁
        split
        next u₂ e₂ => exact h.findRefused _ e₂
        · exact h
      exact hu₁.setCore.setTask.setTaskState
  · exact h.setCore

theorem State.Canon.yield (h : s.Canon) : (s.yield d k).Canon := by
  unfold State.yield
  extract_lets b
  split
  · exact h.saveCtx.setTaskState.setTask.ite h
  · exact h.saveCtx.ite h
  · exact h

theorem State.Canon.backgroundSuspend (h : s.Canon) : (s.backgroundSuspend d k).Canon := h.saveCtx.ite h

theorem execBackgroundSuspend_canon (h : s.Canon) : CanonOutcome (execBackgroundSuspend d k s) := h.backgroundSuspend

theorem State.Canon.backgroundResume (h : s.Canon) : (s.backgroundResume d k).Canon := h.restoreCtx.ite h

theorem execBackgroundResume_canon (h : s.Canon) : CanonOutcome (execBackgroundResume d k s) := h.backgroundResume

/-! ### Node reset (`Machine/NodeReset.lean`) -/

theorem State.Canon.clearBlk {keep : RegKey → Bool} (h : s.Canon) : (s.clearBlk b keep).Canon := h.filterRegs

theorem State.Canon.gateLane (h : s.Canon) : (s.gateLane d j).Canon := by
  unfold State.gateLane
  extract_lets t
  have ht : t.Canon := h.setLane.applyHeld
  exact ht.wr.ite ht

theorem State.Canon.ungateLane (h : s.Canon) : (s.ungateLane d j).Canon := h.beginLines.ite h

theorem State.Canon.resetLane {why : Nat} (h : s.Canon) : (s.resetLane d j why).Canon := by
  unfold State.resetLane
  extract_lets t
  have ht : t.Canon := h.jobEnd.ite h
  exact ht.khoodLost.applyHeld.withdraw.clearBlk.setLane

theorem State.Canon.hoodLost {why : Nat} (h : s.Canon) : (s.hoodLost d k why).Canon := by
  unfold State.hoodLost
  extract_lets b st t u t₁
  have ht : t.Canon := h.wrs.hoodRes
  have ht₁ : t₁.Canon := ht.setCore
  exact h.ite (ht₁.offerAtBoot.ite ht₁.offer)

theorem State.Canon.resetCoreOnly {why : Nat} (h : s.Canon) : (s.resetCoreOnly d k why).Canon :=
  h.hoodLost.clearBlk.withdraw.setHeld.setCore

theorem State.Canon.resetCore {why : Nat} (h : s.Canon) : (s.resetCore d k why).Canon :=
  h.resetCoreOnly.each fun _ _ ht => ht.resetLane

theorem State.Canon.resetLink (h : s.Canon) : (s.resetLink d m).Canon := h.linkDown.clearBlk.setLink

theorem State.Canon.clearDie (h : s.Canon) : (s.clearDie d).Canon := h.setIng.same

theorem State.Canon.relock (h : s.Canon) : (s.relock d).Canon := h.wrs

theorem State.Canon.markWaiting (h : s.Canon) : s.markWaiting.Canon := h.each fun _ _ ht => ht.wr

theorem State.Canon.resetDie {why : Nat} (h : s.Canon) : (s.resetDie d why).Canon :=
  (((((h.each fun _ _ ht => ht.resetCore).each fun _ _ ht => ht.resetLink).each fun _ _ ht => ht.clearBlk).clearDie).withdraw).markWaiting

/-! ### Reset (`Machine/Reset.lean`) -/

theorem State.Canon.loseMems (h : s.Canon) : (s.loseMems cause).Canon := by
  unfold State.loseMems
  exact h.filterMems.same.ite h

theorem State.Canon.resetLosses (h : s.Canon) : s.resetLosses.Canon :=
  (h.jobEnd.each fun _ _ ht => ht.hoodLost).each fun _ _ ht => ht.khoodLost

theorem State.Canon.resetRegs (h : s.Canon) : (s.resetRegs cause).Canon := h.filterRegs.wr.wr

theorem State.Canon.resetHidden (h : s.Canon) : (s.resetHidden cause).Canon := h.same

theorem State.Canon.resetEngines (h : s.Canon) : s.resetEngines.Canon := h.same

theorem State.Canon.resetPower (h : s.Canon) : (s.resetPower cause).Canon := h.same.ite h

theorem State.Canon.doReset (h : s.Canon) : (s.doReset cause).Canon :=
  h.resetLosses.loseMems.resetRegs.resetHidden.resetEngines.resetPower.failSafe.same

theorem State.Canon.packageReset (h : s.Canon) : (s.packageReset cause).Canon := by
  unfold State.packageReset
  split
  · exact h
  · extract_lets t u
    have ht : t.Canon := h.resign
    exact ht.doReset.ite ht.same

theorem State.Canon.resetAfterStore {seg : Nat} (h : s.Canon) : (s.resetAfterStore cause seg).Canon :=
  h.orBits.same.packageReset

/-! ### Wake (`Machine/Wake.lean`) -/

theorem State.Canon.wakeStart {srcs : Nat} (h : s.Canon) : (s.wakeStart srcs).Canon := by
  unfold State.wakeStart
  extract_lets t t₁ u
  have ht : t.Canon := h.orBits
  have ht₁ : t₁.Canon := ht.emit.ite ht
  exact ht₁.same.doReset

theorem State.Canon.wakeEvent (h : s.Canon) : (s.wakeEvent src).Canon := h.same.ite (h.wakeStart.ite h)

/-! ### The real-time clock (`Machine/Rtc.lean`) -/

theorem State.Canon.rtcTick (h : s.Canon) : s.rtcTick.Canon := by
  unfold State.rtcTick
  extract_lets u busy step u' t v
  have ht : t.Canon := h.wr.wrB.ite h
  exact ht.same

theorem execRtcSet_canon (h : s.Canon) : CanonOutcome (execRtcSet s) := h.wr

theorem State.Canon.rtcLoad (h : s.Canon) : s.rtcLoad.Canon := h.wr.wr.wr.wr.wr.same.ite h

theorem execRtcSetLoad_canon (h : s.Canon) : CanonOutcome (execRtcSetLoad s) := h.rtcLoad

theorem State.Canon.rtcShift (h : s.Canon) : (s.rtcShift w).Canon := h.ite h.wr.wr

theorem execRtcShift_canon (h : s.Canon) : CanonOutcome (execRtcShift w s) := h.rtcShift

theorem execRtcShiftDone_canon (h : s.Canon) : CanonOutcome (execRtcShiftDone s) := h.rtcTick.ite h

theorem State.Canon.rtcSecLo (h : s.Canon) : s.rtcSecLo.2.Canon := h.wr.same

theorem execRtcSecLoRead_canon (h : s.Canon) : CanonOutcome (execRtcSecLoRead s) := h.rtcSecLo

theorem State.Canon.rtcFrac (h : s.Canon) : s.rtcFrac.2.Canon := h.wr.same

theorem execRtcFracRead_canon (h : s.Canon) : CanonOutcome (execRtcFracRead s) := h.rtcFrac

theorem State.Canon.almWrite {f : Field} (h : s.Canon) : (s.almWrite k f w).Canon := h.ite h.wr

theorem State.Canon.almCtrl (h : s.Canon) : (s.almCtrl k w).Canon := by
  unfold State.almCtrl
  extract_lets arm t t₁ t₂
  have ht : t.Canon := h.wr.wr
  have ht₁ : t₁.Canon := ht.wr.ite ht
  have ht₂ : t₂.Canon := ht₁.wr.ite ht₁
  exact ht₂.same.ite ht₂

theorem State.Canon.alarmFire (h : s.Canon) : (s.alarmFire k).Canon := by
  unfold State.alarmFire
  extract_lets exact due t t₁ t₂ t₃
  have ht : t.Canon := h.wr
  have ht₁ : t₁.Canon := ht.wr.ite ht.same
  have ht₂ : t₂.Canon := ht₁.same.wr.offer.ite ht₁
  have ht₃ : t₃.Canon := ht₂.raiseCrown
  exact (ht₃.wakeEvent.ite ht₃).ite h

theorem execAlarmFire_canon (h : s.Canon) : CanonOutcome (execAlarmFire k s) := h.alarmFire

theorem execVbatMeasure_canon {mv : Nat} (h : s.Canon) : CanonOutcome (execVbatMeasure mv s) := h.wr.ite (h.wr.ite h)

theorem State.Canon.retentionLatch (h : s.Canon) : s.retentionLatch.Canon := h.filterRegs.same.offerAtBoot

theorem execRetentionLatch_canon (h : s.Canon) : CanonOutcome (execRetentionLatch s) := h.retentionLatch

/-! ### Context slots (`Machine/Ctx.lean`) -/

theorem State.Canon.cryTake {u dl : Nat} (h : s.Canon) : (s.cryTake u dl).Canon := h.same

theorem State.Canon.cryLeave {u : Nat} (h : s.Canon) : (s.cryLeave u).Canon := by
  unfold State.cryLeave
  extract_lets t
  have ht : t.Canon := h.same
  exact ht.raiseCrown.ite ht

theorem State.Canon.crcTake {u dl : Nat} (h : s.Canon) : (s.crcTake u dl).Canon := h.same

theorem State.Canon.crcLeave {u : Nat} (h : s.Canon) : (s.crcLeave u).Canon := h.same

/-! ### The retained store (`Machine/Nvs.lean`) -/

theorem State.Canon.setCopy {b seg : Nat} {c : NvCopy} (h : s.Canon) : (s.setCopy b seg c).Canon := h.same

theorem State.Canon.putSlice {m : MemId} {lo : Nat} {c : Cells} (h : s.Canon) (hc : c.wf = true) :
    (s.putSlice m lo n c).Canon :=
  ⟨s.wf_putSlice m lo n c h.wf hc⟩

theorem State.Canon.copyMem {m m' : MemId} {o' : Nat} (h : s.Canon) : (s.copyMem m m' o o' n).Canon := by
  have hc : ((s.mem m).slice o n).wf = true := Cells.wf_slice _ o n (s.wf_mem m h.wf)
  exact (h.scan.putSlice hc).wholeGood.each fun _ _ ht => ht.setEcc

theorem State.Canon.writeTail (h : s.Canon) : s.writeTail.Canon := h.zeroMem.wholeGood.storeBytes.dirty

theorem State.Canon.requestStore {mask : Nat} (h : s.Canon) : (s.requestStore mask).Canon := h.orBits

theorem execNvsCmd_canon (h : s.Canon) : CanonOutcome (execNvsCmd w s) := h.requestStore

theorem State.Canon.startStore {seg : Nat} {why : StoreWhy} (h : s.Canon) : (s.startStore seg why).Canon := by
  unfold State.startStore
  extract_lets s₁ b g c t t₁ u
  have hs₁ : s₁.Canon := h.writeTail.ite h
  have ht : t.Canon := hs₁.setCopy.copyMem
  have ht₁ : t₁.Canon := ht.setBit.wr.wr
  exact ht₁.same

theorem State.Canon.countStored {mask : Nat} (h : s.Canon) : (s.countStored mask).Canon := h.same

theorem State.Canon.readVhold {raw : Nat} (h : s.Canon) : (s.readVhold raw).Canon := by
  unfold State.readVhold
  split
  next t e => exact (h.calibrate.of_eq e).wr

theorem State.Canon.pfStop (h : s.Canon) : s.pfStop.Canon := h.same

theorem State.Canon.pfComplete (h : s.Canon) : s.pfComplete.Canon := by
  unfold State.pfComplete
  extract_lets t u u₁
  have ht : t.Canon := h.ite h.wr
  have hu : u.Canon := ht.wr.wr
  exact hu.same

theorem State.Canon.storeNext {vhold : Nat} (h : s.Canon) : (s.storeNext vhold).Canon := by
  unfold State.storeNext
  split
  · exact h
  · split
    · exact h
    · split
      · extract_lets t u
        have ht : t.Canon := h.readVhold
        split
        · exact ht.pfComplete
        · exact ht.same.startStore.ite ht.pfStop
      · split
        · split
          · exact h
          · exact h.clrBits.startStore
        · split
          · exact h
          · split
            · extract_lets t u
              have ht : t.Canon := h.clrBits.countStored
              split
              · exact ht.clrBits.startStore
              · split
                · exact ht
                · exact ht.same.startStore

theorem execSegmentStoreStart_canon {vhold : Nat} (h : s.Canon) : CanonOutcome (execSegmentStoreStart vhold s) := by
  unfold execSegmentStoreStart
  show State.Canon _
  refine State.Canon.storeNext ?_
  exact h.requestStore.ite h

theorem State.Canon.pounceEnd (h : s.Canon) : s.pounceEnd.Canon := h.wr.wr.dirty.ite h

theorem State.Canon.storeEnded {r : StoreRun} (h : s.Canon) : (s.storeEnded r).Canon := by
  unfold State.storeEnded
  extract_lets u u₁ t t₁ t₂ t₃ u₂
  have hu : u.Canon := h.wr
  have ht : t.Canon := hu.same
  have ht₁ : t₁.Canon := ht.raiseCrown.ite ht
  have ht₂ : t₂.Canon := ht₁.pfComplete.ite ht₁
  have ht₃ : t₃.Canon := ht₂.pounceEnd
  split
  · exact ht₃.same.doReset.ite ht₃
  · exact ht₃

theorem State.Canon.programDone {good : Bool} {vhold : Nat} (h : s.Canon) : (s.programDone good vhold).Canon := by
  unfold State.programDone
  split
  · exact h
  · split
    · extract_lets u t t₁ t₂
      have ht : t.Canon := h.setCopy.wr
      have ht₁ : t₁.Canon := ht.countStored
      have ht₂ : t₂.Canon := ht₁.raiseCrown.offer.ite ht₁
      exact ht₂.storeEnded
    · extract_lets pf t t₁ u u₁ u₂ u₃
      have ht : t.Canon := h.readVhold.ite h
      have ht₁ : t₁.Canon := ht.orBits.wr
      have hu₁ : u₁.Canon := ht.pfStop
      exact ht₁.same.offer.storeEnded.ite (hu₁.same.wr.ite ht.same)

theorem execSegmentProgramDone_canon {good : Bool} {vhold : Nat} (h : s.Canon) :
    CanonOutcome (execSegmentProgramDone good vhold s) :=
  h.programDone

theorem State.Canon.pouncePass {weak : List (Nat × Nat)} (h : s.Canon) : (s.pouncePass weak).Canon := by
  unfold State.pouncePass
  extract_lets period segs n q t u
  have ht : t.Canon := h.bump.wr
  exact ht.same.pounceEnd.ite h

theorem execPouncePass_canon {weak : List (Nat × Nat)} (h : s.Canon) : CanonOutcome (execPouncePass weak s) := h.pouncePass

theorem State.Canon.formList (h : s.Canon) : s.formList.Canon := h.dirty.same

theorem State.Canon.loadExtra {seg : Nat} {x : List Nat} (h : s.Canon) : (s.loadExtra seg x).Canon := h.same.ite (h.same.ite h)

theorem State.Canon.loadOwned {seg : Nat} {l : List (RegKey × Nat)} (h : s.Canon) : (s.loadOwned seg l).Canon := by
  obtain ⟨hm, hr⟩ := h.parts
  exact .of_parts hm (Regs.wf_foldl_set l _ (Tab.wf_filter _ _ _ _ hr))

theorem State.Canon.recallSeg {seg : Nat} (h : s.Canon) : (s.recallSeg seg).Canon := by
  unfold State.recallSeg
  split
  · extract_lets c o t t₁ u t₂ t₃
    have ht : t.Canon := h.copyMem.wr
    have ht₁ : t₁.Canon := ht.loadOwned.loadExtra
    have ht₂ : t₂.Canon := ht₁.same.ite ht₁
    have ht₃ : t₃.Canon := ht₂.same.ite ht₂
    exact ht₃.orBits.wr.offer.ite ht₃
  · extract_lets t t₁ u u₁ t₂ t₃
    have ht : t.Canon := h.zeroMem.wholeGood.wr
    have ht₁ : t₁.Canon := ht.loadOwned.loadExtra
    have hu : u.Canon := ht₁.wr
    have ht₂ : t₂.Canon := hu.same.ite ht₁
    have ht₃ : t₃.Canon := ht₂.same.ite ht₂
    exact ht₃.orBits.offer

theorem State.Canon.judgeStale {seg : Nat} (h : s.Canon) : (s.judgeStale seg).Canon := by
  unfold State.judgeStale
  split
  · exact h.orBits.offer.ite h
  · exact h

theorem State.Canon.loadTail (h : s.Canon) : s.loadTail.Canon := by
  unfold State.loadTail
  split
  next t e =>
    have ht : t.Canon := h.scanBytes.of_eq e
    extract_lets recs u s₁ u₁
    have hs₁ : s₁.Canon := ht.wholeGood
    split
    · exact ht.same
    · exact hs₁.same

theorem State.Canon.recall (h : s.Canon) : s.recall.Canon :=
  ((((((h.each fun _ _ ht => ht.recallSeg).each fun _ _ ht => ht.judgeStale).same).dirty).wr).loadTail).same

/-! ### Firmware update (`Machine/Update.lean`) -/

theorem State.Canon.eraseSector (h : s.Canon) : (s.eraseSector k).Canon := h.zeroMem

theorem State.Canon.programSector (h : s.Canon) : (s.programSector k bs).Canon := h.storeBytes

theorem State.Canon.updState (h : s.Canon) : (s.updState v).Canon := by
  unfold State.updState
  split
  · exact h
  · extract_lets t
    have ht : t.Canon := h.wr.raiseCrown
    split
    · split
      next t₁ e₁ => exact (ht.freeNat.of_eq e₁).cryTake
    · exact ht.cryLeave

theorem State.Canon.setTrial (h : s.Canon) : (s.setTrial v).Canon := h.ite h.wr.dirty.raiseCrown

theorem State.Canon.updResult (h : s.Canon) : (s.updResult c).Canon := h.wr

theorem State.Canon.clearMap (h : s.Canon) : s.clearMap.Canon := (h.each fun _ _ ht => ht.wr).wr

theorem State.Canon.updBegin {svc : Bool} {xid frags : Nat} (h : s.Canon) : (s.updBegin svc xid frags).2.Canon := by
  unfold State.updBegin
  extract_lets st t u x v
  by_cases h1 : svc ≠ s.svcPath
  · rw [if_pos h1]
    exact h
  by_cases h2 : st = 1 ∨ st = 3
  · rw [if_neg h1, if_pos h2]
    exact h
  by_cases h3 : s.is .upd UPD_STAT_TRIAL = true
  · rw [if_neg h1, if_neg h2, if_pos h3]
    exact h
  by_cases h4 : frags = 0 ∨ 16384 < frags
  · rw [if_neg h1, if_neg h2, if_neg h3, if_pos h4]
    exact h
  rw [if_neg h1, if_neg h2, if_neg h3, if_neg h4]
  have ht : t.Canon := h.offer
  have hu : u.Canon := h.clearMap.wr.wr.dirty
  have hv : v.Canon := hu.same
  split
  · dsimp only
    exact (ht.ite (ht.updState.ite ht.updState)).ite ht.updState
  · dsimp only
    exact hv.offer.updState

theorem execUpdBegin_canon (h : s.Canon) : CanonOutcome (execUpdBegin s) := by
  unfold execUpdBegin
  split
  next t e => exact (h.updBegin.of_eq e).updResult

theorem execStagingEraseDone_canon (h : s.Canon) : CanonOutcome (execStagingEraseDone s) := by
  unfold execStagingEraseDone
  show State.Canon _
  exact ((h.setMem rfl).updState).ite h

theorem State.Canon.updFragment {svc : Bool} (h : s.Canon) : (s.updFragment svc k bs).2.Canon := by
  unfold State.updFragment
  split
  · exact h
  · split
    · exact h
    · split
      · exact h.offer
      · exact h.same

theorem execUpdPut_canon (h : s.Canon) : CanonOutcome (execUpdPut s) := by
  unfold execUpdPut
  split
  next u e =>
    have hu : u.Canon := h.updFragment.of_eq e
    show State.Canon _
    split
    · exact hu.updResult
    · exact hu

theorem State.Canon.updErase {svc : Bool} (h : s.Canon) : (s.updErase svc k).2.Canon := by
  unfold State.updErase
  split
  · exact h
  · extract_lets t
    have ht : t.Canon := h.eraseSector
    dsimp only
    exact ht.setBit.wr.dirty.ite ht

theorem execUpdErase_canon (h : s.Canon) : CanonOutcome (execUpdErase s) := by
  unfold execUpdErase
  split
  next t e => exact (h.updErase.of_eq e).updResult

theorem State.Canon.svcReply {result index xid : Nat} {data : List Nat} (h : s.Canon) :
    (s.svcReply op result index xid data).Canon :=
  h.emit

theorem State.Canon.freeBytes (h : s.Canon) : (s.freeBytes n).2.Canon := h.same

theorem State.Canon.fragmentDone {good : Bool} (h : s.Canon) : (s.fragmentDone good).Canon := by
  unfold State.fragmentDone
  split
  · exact h
  · extract_lets u t t₁ t₂
    have ht : t.Canon := h.same
    have ht₁ : t₁.Canon := ht.programSector.setBit.bump
    have ht₂ : t₂.Canon := ht₁.dirty
    split
    next t₃ e₁ =>
      have ht₃ : t₃.Canon := by
        refine State.Canon.of_eq ?_ e₁
        split
        · dsimp only
          exact ht₂.offer.updState.ite ht₂
        · split
          next t₄ e₂ => exact (ht.freeBytes.of_eq e₂).programSector
      extract_lets t₄
      have ht₄ : t₄.Canon := ht₃.updResult
      exact ht₄.svcReply.ite ht₄

theorem execFragmentProgramDone_canon {good : Bool} (h : s.Canon) : CanonOutcome (execFragmentProgramDone good s) :=
  h.fragmentDone

theorem State.Canon.verifyRecord {b r : Nat} (h : s.Canon) : (s.verifyRecord b r).Canon := h.ite h.offer

theorem State.Canon.verifyDone (h : s.Canon) : s.verifyDone.Canon := h.verifyRecord.updResult.updState.ite h

theorem execUpdVerifyDone_canon (h : s.Canon) : CanonOutcome (execUpdVerifyDone s) := h.verifyDone

theorem State.Canon.actRefuse {svc : Bool} (h : s.Canon) : (s.actRefuse svc c).Canon := by
  unfold State.actRefuse
  extract_lets t
  have ht : t.Canon := h.updResult.offer
  exact ht.svcReply.ite ht

theorem State.Canon.activate {svc : Bool} (h : s.Canon) : (s.activate svc).Canon := by
  unfold State.activate
  split
  · exact h.actRefuse
  · split
    · exact h.actRefuse
    · split
      · exact h.actRefuse
      · exact h.same.setTrial.wr.wr.dirty.requestStore.offer

theorem execUpdActivate_canon (h : s.Canon) : CanonOutcome (execUpdActivate s) := h.activate

theorem State.Canon.activateRecheck (h : s.Canon) : s.activateRecheck.Canon := by
  unfold State.activateRecheck
  split
  · exact h
  · split
    · exact h
    · extract_lets u t u₁ t₁
      have ht : t.Canon := h.same
      have ht₁ : t₁.Canon := ht.same.setTrial
      split
      · exact ht₁.dirty.requestStore.actRefuse
      · refine State.Canon.packageReset ?_
        refine State.Canon.updResult ?_
        exact ht.svcReply.ite ht

theorem execActivateRecheck_canon (h : s.Canon) : CanonOutcome (execActivateRecheck s) := h.activateRecheck

theorem execUpdLockSet_canon (h : s.Canon) : CanonOutcome (execUpdLockSet s) := h.wr.dirty

theorem execUpdUnlock_canon (h : s.Canon) : CanonOutcome (execUpdUnlock s) := h.wr.dirty.ite h

theorem State.Canon.svcRequest {crc : Bool} {index xid : Nat} {needXid : Bool} {f : State → State} (h : s.Canon)
    (hf : ∀ t, t.Canon → (f t).Canon) :
    (s.svcRequest crc op index xid needXid f).Canon :=
  h.ite (h.svcReply.ite (h.svcReply.ite (hf _ h)))

theorem execSvcBegin_canon {crc : Bool} {index xid : Nat} (h : s.Canon) : CanonOutcome (execSvcBegin crc index xid s) := by
  unfold execSvcBegin
  show State.Canon _
  refine h.svcRequest fun _ ht => ?_
  split
  next t e => exact (ht.updBegin.of_eq e).updResult.svcReply

theorem State.Canon.svcPart {part index : Nat} {data : List Nat} (h : s.Canon) : (s.svcPart part index data).Canon := by
  unfold State.svcPart
  split
  · exact h.svcReply
  · split
    · exact h.svcReply
    · extract_lets held bs held₁ u t u₁ t₁
      have ht : t.Canon := h.same
      have ht₁ : t₁.Canon := ht.same
      split
      · split
        next u₂ e₁ =>
          have hu₂ : u₂.Canon := ht₁.updFragment.of_eq e₁
          split
          · exact hu₂.updResult.svcReply
          · exact hu₂
      · exact ht.svcReply

theorem execSvcFragmentPart_canon {crc : Bool} {part index xid : Nat} {data : List Nat} (h : s.Canon) :
    CanonOutcome (execSvcFragmentPart crc part index xid data s) :=
  h.svcRequest fun _ ht => ht.svcPart

theorem execSvcErase_canon {crc : Bool} {index xid : Nat} (h : s.Canon) : CanonOutcome (execSvcErase crc index xid s) := by
  unfold execSvcErase
  show State.Canon _
  refine h.svcRequest fun _ ht => ?_
  split
  next t e => exact (ht.updErase.of_eq e).updResult.svcReply

theorem execSvcStatus_canon {crc : Bool} {index xid : Nat} (h : s.Canon) : CanonOutcome (execSvcStatus crc index xid s) :=
  h.svcRequest fun _ ht => ht.svcReply

theorem execSvcActivate_canon {crc : Bool} {xid : Nat} (h : s.Canon) : CanonOutcome (execSvcActivate crc xid s) := by
  unfold execSvcActivate
  show State.Canon _
  refine h.svcRequest fun _ ht => ?_
  exact ht.activate.ite ht.svcReply

theorem State.Canon.clearXfer (h : s.Canon) : s.clearXfer.Canon := h.wr.dirty.same

theorem State.Canon.confirm (h : s.Canon) : (s.confirm w).Canon := h.setTrial.wr.wr.clearXfer.requestStore.offer.ite h

theorem execUpdConfirm_canon (h : s.Canon) : CanonOutcome (execUpdConfirm w s) := h.confirm

theorem State.Canon.fallback (h : s.Canon) : s.fallback.Canon :=
  h.same.setTrial.wr.clearXfer.updState.offerAtBoot.resetAfterStore

theorem State.Canon.trialExpiry (h : s.Canon) : s.trialExpiry.Canon := (h.wr.offer.ite h.fallback).ite h

theorem execTrialExpiry_canon (h : s.Canon) : CanonOutcome (execTrialExpiry s) := h.trialExpiry

theorem execTrialFallback_canon (h : s.Canon) : CanonOutcome (execTrialFallback s) := h.fallback.ite h

theorem State.Canon.trialSecond (h : s.Canon) : s.trialSecond.Canon := h.bump.dirty.ite h

/-! ### The passing of time (`Machine/Clock.lean`) -/

theorem State.Canon.crystal (h : s.Canon) : s.crystal.Canon := h.rtcLoad.ite h.rtcTick

theorem State.Canon.operate (h : s.Canon) : (s.operate n).Canon := by
  unfold State.operate
  extract_lets u t
  have ht : t.Canon := h.same
  exact ht.ite ht.trialSecond

theorem State.Canon.tick (h : s.Canon) : s.tick.Canon := by
  unfold State.tick
  extract_lets t t₁
  have ht : t.Canon := h.ite h.crystal
  have ht₁ : t₁.Canon := ht.same
  exact ht₁.same.operate.sbPumps.ite ht₁

/-! ### Control hoods (`Machine/Hood.lean`) -/

theorem State.Canon.hoodAccept {m : LMap} (h : s.Canon) : (s.hoodAccept d k m).Canon := by
  unfold State.hoodAccept
  extract_lets run
  split
  · extract_lets later t plan u t₁
    have ht : t.Canon := h.each fun _ _ ht => ht.putVar
    have ht₁ : t₁.Canon := ht.setCore
    split
    next t₂ e₁ => exact (ht₁.scanBytes.of_eq e₁).hoodEnd.wrs

theorem State.Canon.hoodLoad {parcels map : Nat} (h : s.Canon) : (s.hoodLoad d k code parcels map).2.Canon := by
  unfold State.hoodLoad
  extract_lets b t
  have ht : t.Canon := h.wr.wr
  split
  · exact h.hoodRes
  · split
    next t₁ e =>
      have ht₁ : t₁.Canon := ht.engineRead.of_eq e
      split
      · exact ht₁.hoodRes
      · extract_lets t₂
        have ht₂ : t₂.Canon := ht₁.writeBytes
        split
        next t₃ e₁ => exact (ht₂.readMap.of_eq e₁).hoodRes
        next t₃ e₁ =>
          have ht₃ : t₃.Canon := ht₂.readMap.of_eq e₁
          extract_lets others
          split
          · exact ht₃.hoodRes
          · split
            · exact ht₃.hoodRes
            · exact ht₃.hoodAccept

theorem State.Canon.hoodBlock (h : s.Canon) : (s.hoodBlock d k).Canon := by
  unfold State.hoodBlock
  extract_lets b st u h₁ n0 u₁ t
  have ht : t.Canon := h.setCore
  split
  · exact h.hoodRes
  · split
    · exact h
    · exact (h.hoodRes.ite (h.hoodRes.ite ht.wrs.hsbSend)).ite h.setCore.wrs

theorem State.Canon.hoodAbort (h : s.Canon) : (s.hoodAbort d k).Canon := h.requestEnd.ite h

theorem State.Canon.hoodCtrl (h : s.Canon) : (s.hoodCtrl d k w).Canon := by
  unfold State.hoodCtrl
  extract_lets t t₁
  have ht : t.Canon := h.wr
  have ht₁ : t₁.Canon := ht.hoodAbort.ite ht
  exact ht₁.hoodBlock.ite ht₁

theorem execTaskEnable_canon (h : s.Canon) : CanonOutcome (execTaskEnable d k t w s) := h.taskCfg.hoodRefCheck.ite h

theorem execTaskDisable_canon (h : s.Canon) : CanonOutcome (execTaskDisable d k t w s) := h.taskCfg.hoodRefCheck.ite h

theorem execHoodBlock_canon (h : s.Canon) : CanonOutcome (execHoodBlock d k s) := h.hoodBlock.ite h

theorem execHoodAbort_canon (h : s.Canon) : CanonOutcome (execHoodAbort d k s) := h.hoodAbort.ite h

theorem State.Canon.stage {a : List Move} (h : s.Canon) : (s.stage d k a).2.Canon := by
  induction a generalizing s with
  | nil =>
    rw [State.stage]
    exact h
  | cons y a ih =>
    rw [State.stage]
    split
    next t e =>
      have ht : t.Canon := h.varBytes.of_eq e
      split
      next u e₁ =>
        have hu : u.Canon := (ih ht.same).of_eq e₁
        exact hu

theorem State.Canon.carryOver {p : HoodPlan} (h : s.Canon) : (s.carryOver d k p).Canon := by
  unfold State.carryOver
  split
  next u e => exact ((h.stage.of_eq e).each fun _ _ ht => ht.putVar).each fun _ _ ht => ht.putVar

theorem State.Canon.loadRec {ws : List Nat} (h : s.Canon) : (s.loadRec d k t ws).Canon := by
  unfold State.loadRec
  extract_lets b w same u u₁ u₂ u₃ u₄ bad en u₅ u₆ u₇
  have hu : u.Canon := h.wrOf
  have hu₁ : u₁.Canon := hu.wrs
  have hu₂ : u₂.Canon := hu₁.wr
  have hu₃ : u₃.Canon := hu₂.wr.ite hu₂
  have hu₄ : u₄.Canon := hu₃.wrOf
  have hu₅ : u₅.Canon := hu₄.wr.ite hu₄
  have hu₆ : u₆.Canon := hu₅.wrB.setTaskState
  exact hu₆.ite hu₆.setTask

theorem State.Canon.exchange {p : HoodPlan} (h : s.Canon) : (s.exchange d k p).Canon := by
  unfold State.exchange
  extract_lets b num t u t₁ t₂ t₃
  have ht : t.Canon := h.each fun _ _ ht => ht.loadRec
  have ht₁ : t₁.Canon := ht.setCore
  have ht₂ : t₂.Canon := ht₁.wrs
  have ht₃ : t₃.Canon := ht₂.hoodEnd.offer
  exact ht₃.offer.ite ht₃

theorem State.Canon.blockBegin (h : s.Canon) : (s.blockBegin d k).Canon := by
  unfold State.blockBegin
  split
  · exact h
  · exact h.carryOver.wr

theorem State.Canon.blockEnd (h : s.Canon) : (s.blockEnd d k).Canon := by
  unfold State.blockEnd
  split
  · exact h
  · exact h.exchange.endHold

theorem State.Canon.finishBlocks {l : List Node} (h : s.Canon) : (s.finishBlocks l).Canon := by
  unfold State.finishBlocks
  refine h.each fun _ _ ht => ?_
  split
  · exact ht.blockEnd.ite ht
  · exact ht

theorem State.Canon.blocking (h : s.Canon) : (s.blocking d k).Canon := by
  unfold State.blocking
  extract_lets h₁ st
  split
  · exact h.blockEnd
  · split
    · exact h
    · split
      · split
        · split
          · exact h.blockBegin.hsbSend.ite h
          · exact h
        · exact h.blockBegin.ite h
      · exact h.blockBegin.ite h

theorem execBlocking_canon (h : s.Canon) : CanonOutcome (execBlocking d k s) := h.blocking.ite h

theorem State.Canon.hoodNoGap (h : s.Canon) : (s.hoodNoGap d k).Canon := h.requestEnd.offer.ite h

theorem execHoodNoGap_canon (h : s.Canon) : CanonOutcome (execHoodNoGap d k s) := h.hoodNoGap.ite h

theorem State.Canon.hoodArmRx {digest n0 : Nat} (h : s.Canon) : (s.hoodArmRx d k digest n0).Canon :=
  (h.setCore.wr.hsbSend.ite h.hoodRes.hsbSend).ite h

theorem execHoodArmRx_canon {h' : SbHdr} {digest n0 : Nat} (h : s.Canon) : CanonOutcome (execHoodArmRx h' d k digest n0 s) := by
  unfold execHoodArmRx
  show State.Canon _
  refine h.sbRx fun _ ht => ?_
  exact ht.hoodArmRx.ite ht

theorem execHoodReplyRx_canon {h' : SbHdr} {ok : Bool} (h : s.Canon) : CanonOutcome (execHoodReplyRx h' d k ok s) := by
  unfold execHoodReplyRx
  show State.Canon _
  refine h.sbRx fun _ ht => ?_
  exact (ht.wr.ite ht.hoodEnd).ite ht

theorem State.Canon.hoodAtRx (h : s.Canon) : (s.hoodAtRx d k n).Canon := h.setCore.blocking.ite h

theorem execHoodAtRx_canon {h' : SbHdr} (h : s.Canon) : CanonOutcome (execHoodAtRx h' d k n s) := by
  unfold execHoodAtRx
  show State.Canon _
  refine h.sbRx fun _ ht => ?_
  exact ht.hoodAtRx.ite ht

theorem State.Canon.hoodMissRx {final : Option Nat} (h : s.Canon) : (s.hoodMissRx d k n final).Canon := by
  unfold State.hoodMissRx
  split
  · split
    · exact h.hoodEnd.endHold
    · extract_lets c u
      exact h.endHold.ite h.setCore
  · exact h

theorem execHoodMissRx_canon {h' : SbHdr} {miss : HoodMiss} (h : s.Canon) : CanonOutcome (execHoodMissRx h' d k miss s) := by
  unfold execHoodMissRx
  show State.Canon _
  refine h.sbRx fun _ ht => ?_
  exact ht.hoodMissRx.ite ht

theorem State.Canon.hoodPairMiss (h : s.Canon) : (s.hoodPairMiss d k).Canon := by
  unfold State.hoodPairMiss
  extract_lets c u
  split
  · exact (h.requestEnd.offer.ite h.setCore.hsbSend).ite h
  · exact h

theorem execHoodPairMiss_canon (h : s.Canon) : CanonOutcome (execHoodPairMiss d k s) := h.hoodPairMiss.ite h

theorem State.Canon.hoodTimeout (h : s.Canon) : (s.hoodTimeout d k).Canon := by
  unfold State.hoodTimeout
  split
  · exact h.endHold.ite h
  · exact h

theorem execStandbyHoodTimeout_canon (h : s.Canon) : CanonOutcome (execStandbyHoodTimeout d k s) := h.hoodTimeout.ite h

theorem State.Canon.hoodPairSplit (h : s.Canon) : (s.hoodPairSplit d k).Canon := by
  unfold State.hoodPairSplit
  split
  · extract_lets p
    exact h.hoodEnd.offer.endHold.leavePair.ite h
  · exact h

theorem execHoodPairSplit_canon (h : s.Canon) : CanonOutcome (execHoodPairSplit d k s) := h.hoodPairSplit.ite h

/-! ### Deadline arbitration (`Machine/Arb.lean`) -/

theorem State.Canon.present {c : Option Nat} {r : ArbReq} (h : s.Canon) : (s.present c a r).Canon := by
  unfold State.present
  split
  · exact h.setArbiter

theorem State.Canon.arbCount {x input : Nat} {forced : Bool} {dl : Nat} (h : s.Canon) :
    (s.arbCount b x n input forced dl).Canon := by
  unfold State.arbCount
  extract_lets t t₁
  have ht : t.Canon := h.wrs
  have ht₁ : t₁.Canon := ht.bump.ite ht
  exact ht₁.bump.ite ht₁

theorem State.Canon.memberPick {c : Option Nat} {input : Nat} {l : List ArbReq} (h : s.Canon) :
    (s.memberPick c a input l).2.Canon := by
  unfold State.memberPick
  split
  · split
    · exact h.arbCount
    · exact h
  · split
    · extract_lets g
      split
      · exact h.setArbiter
      · exact h
    · exact h

theorem State.Canon.endTransfer {c : Option Nat} (h : s.Canon) : (s.endTransfer c a).Canon := by
  unfold State.endTransfer
  split
  · exact h
  · extract_lets ends u t
    have ht : t.Canon := h.setArbiter.wrs
    exact ht.wrs.ite ht

theorem State.Canon.arbWaits {c : Option Nat} {g : ArbReq} (h : s.Canon) : (s.arbWaits c a g).Canon := by
  unfold State.arbWaits
  extract_lets up u t
  have ht : t.Canon := h.setArbiter
  split
  · exact ht
  · exact ht.each fun _ _ ht₁ => ht₁.setArbiter

theorem State.Canon.passOn {c : Option Nat} {g : ArbReq} (h : s.Canon) : (s.passOn c a g).Canon := by
  unfold State.passOn
  extract_lets n t
  have ht : t.Canon := h.present.ite h
  split
  · split
    · exact ht.present.ite ht
    · exact ht
  · exact ht

theorem State.Canon.arbDecide {c : Option Nat} (h : s.Canon) : (s.arbDecide c a).Canon := by
  unfold State.arbDecide
  extract_lets b x reqs ins
  split
  · exact h
  · split
    · exact h
    next t e₁ => exact (h.memberPick.of_eq e₁).arbCount.arbWaits.setArbiter.passOn

theorem execArbDecision_canon {c : Option Nat} {arrivals : List ArbArrival} {last : Bool} (h : s.Canon) :
    CanonOutcome (execArbDecision c a arrivals last s) := by
  unfold execArbDecision
  show State.Canon _
  split
  · extract_lets wait
    split
    · exact h.each fun _ _ ht => ht.present
    · exact (h.endTransfer.each fun _ _ ht => ht.present).arbDecide
  · exact h

/-! ### Interrupts (`Machine/Irq.lean`) -/

theorem State.Canon.irqPendSet {c : Option Nat} (h : s.Canon) : (s.irqPendSet c w v).Canon := by
  unfold State.irqPendSet
  refine h.each fun _ _ ht => ?_
  split
  · exact ht.raiseCrown
  · exact ht.raiseDie

theorem execIrqPendSet_canon {c : Option Nat} (h : s.Canon) : CanonOutcome (execIrqPendSet c w v s) := h.irqPendSet.ite h

theorem execIrqPendClr_canon {c : Option Nat} (h : s.Canon) : CanonOutcome (execIrqPendClr c w v s) := h.clrBits.ite h

theorem execIrqEnSet_canon {c : Option Nat} (h : s.Canon) : CanonOutcome (execIrqEnSet c w v s) := h.orBits.ite h

theorem execIrqEnClr_canon {c : Option Nat} (h : s.Canon) : CanonOutcome (execIrqEnClr c w v s) := h.clrBits.ite h

theorem State.Canon.wdtEnable (h : s.Canon) : s.wdtEnable.Canon := h.ite h.wr.wr.wr.same

theorem execWdtEnable_canon (h : s.Canon) : CanonOutcome (execWdtEnable s) := h.wdtEnable

theorem State.Canon.wdtKick (h : s.Canon) : (s.wdtKick r w).Canon := (h.ite h.setBit).ite h.wr.raiseCrown

theorem execWdtKick_canon (h : s.Canon) : CanonOutcome (execWdtKick r w s) := h.wdtKick

theorem State.Canon.wdtTasken (h : s.Canon) : (s.wdtTasken w).Canon := h.orBits.ite h.wr

theorem State.Canon.raiseNmi (h : s.Canon) : s.raiseNmi.Canon := h.each fun _ _ ht => ht.setCore

theorem State.Canon.wdtExpire {missing : Nat} (h : s.Canon) : (s.wdtExpire missing).Canon :=
  h.wr.wr.wr.bump.dirty.same.resign.raiseNmi.offer

theorem State.Canon.wdtPeriodEnd (h : s.Canon) : s.wdtPeriodEnd.Canon := by
  unfold State.wdtPeriodEnd
  extract_lets p missing u u₁
  have hu : u.Canon := h.wr
  exact (h.wdtExpire.ite hu.same).ite h

theorem execWdtPeriodEnd_canon (h : s.Canon) : CanonOutcome (execWdtPeriodEnd s) := h.wdtPeriodEnd

theorem State.Canon.wdtHalf (h : s.Canon) : s.wdtHalf.Canon := by
  unfold State.wdtHalf
  split
  · extract_lets u t
    have ht : t.Canon := h.same
    exact ht.raiseCrown.ite ht
  · exact h

theorem execWdtHalfPeriod_canon (h : s.Canon) : CanonOutcome (execWdtHalfPeriod s) := h.wdtHalf

theorem execWdtGraceExpiry_canon (h : s.Canon) : CanonOutcome (execWdtGraceExpiry s) := h.packageReset.ite h

/-! ### Keys and random numbers (`Machine/Keys.lean`) -/

theorem State.Canon.keyResult (h : s.Canon) : (s.keyResult c).Canon := h.wr.wr

theorem State.Canon.keyProgram {good : Bool} (h : s.Canon) : (s.keyProgram r good).Canon := by
  unfold State.keyProgram
  extract_lets i u t
  have ht : t.Canon := h.same
  exact h.ite (h.keyResult.ite (ht.setBit.keyResult.offer.ite h.same.keyResult))

theorem execKeyProgram_canon {good : Bool} (h : s.Canon) : CanonOutcome (execKeyProgram r good s) := h.keyProgram

theorem State.Canon.keyRevoke (h : s.Canon) : (s.keyRevoke i).Canon :=
  h.keyResult.ite (h.keyResult.ite h.setBit.keyResult.offer)

theorem execKeyRevoke_canon (h : s.Canon) : CanonOutcome (execKeyRevoke r w s) := by
  unfold execKeyRevoke
  show State.Canon _
  split
  · exact h.each fun _ _ ht => ht.keyRevoke
  · exact h

theorem State.Canon.trngAcq (h : s.Canon) : s.trngAcq.2.Canon := by
  unfold State.trngAcq
  split
  · exact h.wr
  · exact h

theorem execTrngAcqRead_canon (h : s.Canon) : CanonOutcome (execTrngAcqRead s) := h.trngAcq

theorem State.Canon.trngClear (h : s.Canon) : (s.trngClear i).Canon := ((h.each fun _ _ ht => ht.wr).wr).wr

theorem execTrngReq_canon (h : s.Canon) : CanonOutcome (execTrngReq i s) := by
  unfold execTrngReq
  show State.Canon _
  split
  · extract_lets t
    have ht : t.Canon := h.trngClear
    exact ht.wr.ite ht.wr
  · exact h

theorem execTrngRel_canon (h : s.Canon) : CanonOutcome (execTrngRel i s) := h.wr.ite h

theorem State.Canon.trngFill (h : s.Canon) : (s.trngFill i).Canon := by
  unfold State.trngFill
  refine h.each fun _ _ ht => ?_
  split
  next t e => exact (ht.freeWord.of_eq e).wr

theorem execTrngRequestDone_canon (h : s.Canon) : CanonOutcome (execTrngRequestDone i s) := h.trngFill.wr.wr.ite h

theorem execTrngStartDone_canon (h : s.Canon) : CanonOutcome (execTrngStartDone s) := h.wr.same.ite h

theorem State.Canon.trngFail {apt : Bool} (h : s.Canon) : (s.trngFail apt).Canon := by
  unfold State.trngFail
  extract_lets st n t t₁ t₂
  have ht : t.Canon := h.each fun _ _ ht => ht.wr.wr
  have ht₁ : t₁.Canon := ht.wr.wr
  have ht₂ : t₂.Canon := ht₁.offer.raiseCrown
  exact (ht₂.wr.ite ht₂.wr.offer).ite h

theorem execTrngTestFail_canon {apt : Bool} (h : s.Canon) : CanonOutcome (execTrngTestFail apt s) := h.trngFail

theorem execTrngFailsClear_canon (h : s.Canon) : CanonOutcome (execTrngFailsClear s) := h.wr.ite h

theorem State.Canon.trngEnable {en : Bool} (h : s.Canon) : (s.trngEnable en).Canon := by
  unfold State.trngEnable
  extract_lets t st
  have ht : t.Canon := h.wrB
  exact ht.ite (ht.wr.ite (ht.wr.ite ht))

/-! ### The node tree (`Machine/Nodes.lean`) -/

theorem State.Canon.applyEn {n : Node} {v : Bool} (h : s.Canon) : (s.applyEn n v).Canon := by
  unfold State.applyEn
  extract_lets t
  have ht : t.Canon := by
    unfold t
    refine State.Canon.wrB ?_
    exact h.ite h.withdraw
  split
  · exact ht.ungateLane.ite (ht.gateLane.ite ht)
  · exact ht.leaveReset
  · exact ht

theorem State.Canon.applyNap {n : Node} {v : Bool} (h : s.Canon) : (s.applyNap n v).Canon := by
  unfold State.applyNap
  split
  · extract_lets t
    have ht : t.Canon := by
      unfold t
      refine State.Canon.wrB ?_
      exact h.withdraw.ite h
    split
    · split
      · exact ht.ungateLane.ite ht
      · refine State.Canon.khoodLost ?_
        exact ht.ite ht.gateLane
    · exact ht.hoodLost.ite ht.leaveReset
    · exact ht
  · exact h

theorem State.Canon.applyFrz {n : Node} {v : Bool} (h : s.Canon) : (s.applyFrz n v).Canon := by
  unfold State.applyFrz
  split
  · extract_lets t
    have ht : t.Canon := by
      unfold t
      refine State.Canon.wrB ?_
      exact h.withdraw.ite h
    split
    · exact ht.leaveReset.boundary
    · exact ht
  · exact h

theorem State.Canon.applyFields {l : List Node} (h : s.Canon) : (s.applyFields l w).Canon := by
  unfold State.applyFields
  extract_lets t t₁
  have ht : t.Canon := by
    unfold t
    split
    · exact h.each fun _ _ ht => ht.applyEn
    · exact h
  have ht₁ : t₁.Canon := by
    unfold t₁
    split
    · exact ht.each fun _ _ ht₁ => ht₁.applyNap
    · exact ht
  split
  · exact ht₁.each fun _ _ ht₂ => ht₂.applyFrz
  · exact ht₁

theorem State.Canon.applyRst {n : Node} (h : s.Canon) : (s.applyRst n).Canon := by
  unfold State.applyRst
  split
  · exact h.resetLane
  · exact h.resetCore
  · exact h.resetDie.relock
  · exact h.packageReset

theorem State.Canon.dropRelease (h : s.Canon) : (s.dropRelease d k).Canon := by
  unfold State.dropRelease
  extract_lets t u
  have ht : t.Canon := h.each fun _ _ ht => ht.setTaskState.setTask
  split
  · exact ht.setCore
  · exact ht

theorem State.Canon.portsDown (h : s.Canon) : s.portsDown.Canon := ((h.each fun _ _ ht => ht.linkDown).setRing).wrs

theorem State.Canon.napEnter (h : s.Canon) : (s.napEnter w).Canon :=
  ((((((((h.offer.each fun _ _ ht => ht.applyFrz.dropRelease).applyFields).each fun _ _ ht => ht.chanCommand).portsDown).wr).same).requestStore).dirty).same

theorem State.Canon.awaitBlocks {n : Node} (h : s.Canon) : (s.awaitBlocks n w).Canon := h.finishBlocks.ite h

theorem State.Canon.applyCmd {n : Node} (h : s.Canon) : (s.applyCmd n w).Canon := by
  unfold State.applyCmd
  extract_lets s₁ t
  have hs₁ : s₁.Canon := h.awaitBlocks
  have ht : t.Canon := hs₁.applyRst.ite hs₁
  exact ht.ite (ht.applyFields.napEnter.ite ht.applyFields)

theorem State.Canon.recordRefusal {n : Node} (h : s.Canon) : (s.recordRefusal n w code).Canon := h.offer.ite h

theorem State.Canon.ringAwait {l : List RingReq} (h : s.Canon) : (s.ringAwait l).Canon := h.same

theorem State.Canon.ringDrop (h : s.Canon) : s.ringDrop.Canon := h.same

theorem State.Canon.cmdDone {n : Node} (h : s.Canon) : (s.cmdDone n w).Canon := h.same.ite (h.ite h.wr)

theorem State.Canon.ringRefuse (h : s.Canon) : (s.ringRefuse w code).Canon := h.ringSend.ringDrop.wr.recordRefusal

theorem State.Canon.ringApply {missed : Bool} (h : s.Canon) : (s.ringApply w missed).Canon := by
  unfold State.ringApply
  split
  · exact h.ringRefuse
  · extract_lets t t₁
    have ht : t.Canon := h.ringSend.ringDrop.cmdDone
    have ht₁ : t₁.Canon := ht.offer.ite ht
    exact ht₁.applyFields.applyCmd

theorem State.Canon.ringStart (h : s.Canon) : (s.ringStart w).Canon := by
  unfold State.ringStart
  extract_lets ms t t₁ u
  have ht : t.Canon := h.ringSend
  have ht₁ : t₁.Canon := ht.ringAwait
  split
  · exact ht.ringRefuse
  · exact ht₁.same

theorem State.Canon.runCmd {n : Node} (h : s.Canon) : (s.runCmd n w).Canon := by
  unfold State.runCmd
  split
  · exact h.ringStart
  · split
    · exact h.wr.recordRefusal
    · exact h.cmdDone.applyCmd

theorem State.Canon.runHead (h : s.Canon) : s.runHead.Canon := by
  unfold State.runHead
  split
  · exact h
  · exact h.same.runCmd.markWaiting.bootMark

theorem State.Canon.runKind (h : s.Canon) : (s.runKind k).Canon := by
  unfold State.runKind
  split
  · exact h
  · exact h.runHead.ite h

theorem execNodeEnable_canon (h : s.Canon) : CanonOutcome (execNodeEnable s) := h.runKind

theorem execNodeNap_canon (h : s.Canon) : CanonOutcome (execNodeNap s) := h.runKind

theorem execNodeFreeze_canon (h : s.Canon) : CanonOutcome (execNodeFreeze s) := h.runKind

theorem execNodeReset_canon (h : s.Canon) : CanonOutcome (execNodeReset s) := h.runKind

theorem State.Canon.nodeCtrl {n : Node} (h : s.Canon) : ∀ t ∈ s.nodeCtrl n w, t.Canon := by
  unfold State.nodeCtrl
  split
  · exact forall_mem_some h
  · split
    · exact forall_mem_none
    · exact forall_mem_some h.wr.same

theorem execNodeFaultFree_canon {n : Node} (h : s.Canon) : CanonOutcome (execNodeFaultFree n s) := h.wr.ite h

theorem State.Canon.fltFree {valid lost : Bool} (h : s.Canon) : (s.fltFree r valid lost).Canon := by
  unfold State.fltFree
  split
  · exact h
  · extract_lets t
    have ht : t.Canon := h.wr.ite h
    exact ht.wr.ite ht

theorem execFltCaptureFree_canon (h : s.Canon) : CanonOutcome (execFltCaptureFree r s) := h.fltFree.ite h

theorem State.Canon.protLock (h : s.Canon) : (s.protLock r n).Canon := by
  unfold State.protLock
  split
  · exact h
  · exact h.wr

theorem execProtLock_canon (h : s.Canon) : CanonOutcome (execProtLock r n s) := h.protLock.ite h

/-! ### The image service and the restart (`Machine/Image.lean`) -/

theorem State.Canon.canInput (h : s.Canon) : (s.canInput c o).Canon := h.putEach.setCanObj.ite h

theorem State.Canon.writeInputs (h : s.Canon) : s.writeInputs.Canon := h.putEach.putEach.foldl fun _ _ ht => ht.canInput

theorem State.Canon.publish {seq : Nat} (h : s.Canon) : (s.publish seq).Canon := h.copyMem.copyMem.same.wr

theorem State.Canon.blockWords {a : List Nat} (h : s.Canon) : (s.blockWords a).2.Canon := by
  induction a generalizing s with
  | nil =>
    rw [State.blockWords]
    exact h
  | cons y a ih =>
    rw [State.blockWords]
    split
    next t e =>
      have ht : t.Canon := h.scanBytes.of_eq e
      split
      next u e₁ =>
        have hu : u.Canon := (ih ht).of_eq e₁
        exact hu

theorem State.Canon.mirrorSend {seq : Nat} (h : s.Canon) : (s.mirrorSend seq).Canon := by
  unfold State.mirrorSend
  split
  · extract_lets whole
    split
    next u e₁ => exact (h.blockWords.of_eq e₁).same.hsbSend
  · exact h

theorem State.Canon.forwardChan {all : Bool} (h : s.Canon) : (s.forwardChan q all c).Canon := by
  unfold State.forwardChan
  extract_lets seen v u u₁
  have hu : u.Canon := h.lswCommand
  exact hu.same.ite h

theorem State.Canon.forwardCan (h : s.Canon) : (s.forwardCan c o).Canon := by
  unfold State.forwardCan
  extract_lets x
  split
  · split
    next t e₁ =>
      have ht : t.Canon := h.scanBytes.of_eq e₁
      extract_lets ws data m seen
      exact ht.setCan.canOwnerSend.ite ht
  · exact h

theorem State.Canon.forward (h : s.Canon) : s.forward.Canon := by
  unfold State.forward
  split
  · split
    next t e₁ =>
      have ht : t.Canon := h.scanBytes.of_eq e₁
      exact ((((ht.each fun _ _ ht₁ => ht₁.forwardChan).same).scan).scan).foldl fun _ _ ht₁ => ht₁.forwardCan
  · exact h

theorem State.Canon.refresh (h : s.Canon) : s.refresh.Canon := by
  unfold State.refresh
  extract_lets u t seq t₁ u₁
  have ht : t.Canon := h.same
  have ht₁ : t₁.Canon := ht.writeInputs.mirrorSend.publish
  exact ht.forward.ite ht₁.same.forward

theorem execImgRefresh_canon (h : s.Canon) : CanonOutcome (execImgRefresh s) := h.refresh.ite h

theorem State.Canon.imgRun {run : Bool} (h : s.Canon) : (s.imgRun run).Canon := h.ite (h.same.ite (h.wrB.ite h))

theorem State.Canon.imgCtrl (h : s.Canon) : (s.imgCtrl w).Canon := by
  unfold State.imgCtrl
  extract_lets p
  refine State.Canon.imgRun ?_
  exact h.wr.ite h

theorem execImgRun_canon {period : Nat} (h : s.Canon) : CanonOutcome (execImgRun period s) := h.imgCtrl

theorem execImgStop_canon {period : Nat} (h : s.Canon) : CanonOutcome (execImgStop period s) := h.imgCtrl

theorem State.Canon.keepSend (h : s.Canon) : s.keepSend.Canon := h.emit

theorem execKeepFrameTx_canon (h : s.Canon) : CanonOutcome (execKeepFrameTx s) := h.same.keepSend.ite h

theorem State.Canon.keepPart (h : s.Canon) : (s.keepPart a p n).Canon := by
  unfold State.keepPart
  split
  · split
    · exact h
    · exact h.copyMem.each fun _ _ ht => ht.dirty
  · exact h

theorem State.Canon.keepRange {anew : Bool} (h : s.Canon) : (s.keepRange anew a p n).Canon := by
  unfold State.keepRange
  split
  · refine h.each fun _ _ ht => ?_
    extract_lets lo hi
    exact ht.keepPart.ite ht
  · exact h.keepPart

theorem State.Canon.keepRanges {anew : Bool} {a : List (Nat × Nat)} {a' : Nat} (h : s.Canon) :
    (s.keepRanges anew a a').Canon := by
  induction a generalizing s a' with
  | nil =>
    rw [State.keepRanges]
    exact h
  | cons y a ih =>
    rw [State.keepRanges]
    exact ih h.keepRange

theorem State.Canon.mirrorAs {p : Restart} (h : s.Canon) : (s.mirrorAs p).Canon := by
  unfold State.mirrorAs
  extract_lets anew t
  have ht : t.Canon := by
    unfold t
    split
    · exact h.keepRanges
    · exact h.each fun _ _ ht => ht.keepRange
  exact ht.same

theorem State.Canon.mirror (h : s.Canon) : s.mirror.Canon := by
  unfold State.mirror
  extract_lets t u
  have ht : t.Canon := by
    unfold t
    split
    · exact h.mirrorAs
    · exact h
  exact ht.same

theorem execMirrorPass_canon (h : s.Canon) : CanonOutcome (execMirrorPass s) := h.mirror.ite h

theorem State.Canon.giveBack (h : s.Canon) : (s.giveBack a p n).Canon := by
  unfold State.giveBack
  split
  · extract_lets t
    have ht : t.Canon := h.copyMem
    exact ht.touchPages.ite ht
  · exact h

theorem State.Canon.giveRanges {a : List (Nat × Nat)} {a' : Nat} (h : s.Canon) : (s.giveRanges a a').Canon := by
  induction a generalizing s a' with
  | nil =>
    rw [State.giveRanges]
    exact h
  | cons y a ih =>
    rw [State.giveRanges]
    exact ih h.giveBack

theorem State.Canon.zeroPoints (h : s.Canon) : s.zeroPoints.Canon := h.each fun _ _ ht => ht.zeroMem.touchPages

theorem State.Canon.initVar {e : MapEntry} (h : s.Canon) : (s.initVar d k e).Canon := by
  unfold State.initVar
  split
  · exact h.putVar
  · exact h

theorem State.Canon.warmVar {e : MapEntry} (h : s.Canon) : (s.warmVar d k e).Canon := by
  unfold State.warmVar
  split
  · exact h.giveBack
  · exact h.initVar

theorem State.Canon.applyRestart {kind : Nat} (h : s.Canon) : (s.applyRestart kind).Canon := by
  unfold State.applyRestart
  extract_lets vars t
  have ht : t.Canon := h.zeroPoints
  split
  · exact h.giveRanges
  · split
    · exact (ht.each fun _ _ ht₁ => ht₁.warmVar).each fun _ _ ht₁ => ht₁.offer
    · exact ht.each fun _ _ ht₁ => ht₁.initVar

theorem State.Canon.restart (h : s.Canon) : s.restart.Canon := by
  unfold State.restart
  split
  · extract_lets t t₁ t₂ u u₁
    have ht : t.Canon := h.applyRestart
    have ht₁ : t₁.Canon := ht.wrs
    have ht₂ : t₂.Canon := ht₁.ite ht₁.offer
    have hu : u.Canon := ht₂.offer
    exact hu.same

theorem execRestartDone_canon (h : s.Canon) : CanonOutcome (execRestartDone s) := h.restart.bootMark.ite h

/-! ### Hot standby (`Machine/Hsb.lean`) -/

theorem execJobMsgTx_canon (h : s.Canon) : CanonOutcome (execJobMsgTx s) := h.hsbSend.jobPairUpdate.same.ite h

theorem execJobMsgRx_canon {h' : SbHdr} {state crc s0 : Nat} {dies : List (Nat × Nat × Nat)} (h : s.Canon) :
    CanonOutcome (execJobMsgRx h' state crc s0 dies s) :=
  h.sbRx fun _ ht => ht.same.jobPairUpdate

theorem execCapMsgRx_canon {h' : SbHdr} {cap : Nat} (h : s.Canon) : CanonOutcome (execCapMsgRx h' cap s) :=
  h.sbRx fun _ ht => ht.wr.oweCap

theorem execHashRx_canon {h' : SbHdr} {hashes : List (Nat × Nat)} (h : s.Canon) : CanonOutcome (execHashRx h' hashes s) :=
  h.sbRx fun _ ht => ht.each fun _ _ ht₁ => ht₁.setPage.readyUpdate

theorem execPageHash_canon (h : s.Canon) : CanonOutcome (execPageHash p s) := by
  unfold execPageHash
  extract_lets x
  show State.Canon _
  split
  · split
    · split
      next t e₁ => exact (h.scanBytes.of_eq e₁).setPage.readyUpdate.hsbSend
    · exact h
  · exact h

theorem State.Canon.joinRecords (h : s.Canon) : s.joinRecords.Canon := by
  unfold State.joinRecords
  refine h.each fun _ _ ht => ?_
  extract_lets t
  have ht₁ : t.Canon := ht.offer.ite ht
  exact ht₁.ite ht₁.offer

theorem State.Canon.peerJoins (h : s.Canon) : s.peerJoins.Canon := h.setHsbState.same.hsbSend.joinRecords

theorem execJoinRx_canon {h' : SbHdr} {rev period : Nat} {maps : List Nat} {lanes : List (List Nat)} (h : s.Canon) :
    CanonOutcome (execJoinRx h' rev period maps lanes s) := by
  unfold execJoinRx
  show State.Canon _
  refine h.sbRx fun _ ht => ?_
  split
  · extract_lets e₁
    exact ht.joinRecords.ite ht.wrs.offer.leaveStandby
  · exact ht

theorem State.Canon.hsbEnable (h : s.Canon) : s.hsbEnable.Canon := h.wr.setHsbState.same.ite h.wr

theorem State.Canon.hsbDisable (h : s.Canon) : s.hsbDisable.Canon := h.wr.ite h.leavePair.readyUpdate

theorem execHsbEnable_canon (h : s.Canon) : CanonOutcome (execHsbEnable s) := h.hsbEnable

theorem execHsbDisable_canon (h : s.Canon) : CanonOutcome (execHsbDisable s) := h.hsbDisable

theorem State.Canon.becomeActive {st : Nat} (h : s.Canon) : (s.becomeActive st).Canon := by
  unfold State.becomeActive
  split
  next t e => exact (h.takeClaim _ e).setHsbState
  · exact h.offer

theorem execSeekwaitExpiry_canon (h : s.Canon) : CanonOutcome (execSeekwaitExpiry s) := h.becomeActive.ite h

theorem State.Canon.holdAgain {x : RouteTx} (h : s.Canon) : (s.holdAgain d x).Canon := h.setLane

theorem State.Canon.resendLink (h : s.Canon) : (s.resendLink d m).Canon := by
  unfold State.resendLink
  split
  · exact h
  · exact (h.each fun _ _ ht => ht.holdAgain).setLink

theorem State.Canon.resendLines (h : s.Canon) : s.resendLines.Canon := h.each fun _ _ ht => ht.resendLink

theorem State.Canon.claimFrames (h : s.Canon) : s.claimFrames.Canon := h.each fun _ _ ht => ht.linkSendNow

theorem State.Canon.releaseAllHeld (h : s.Canon) : s.releaseAllHeld.Canon := h.each fun _ _ ht => ht.setCore.endHold

theorem State.Canon.takeoverRecord {unready split : Bool} (h : s.Canon) : (s.takeoverRecord cause unready split).Canon :=
  h.wrs.bump.offer

theorem State.Canon.takeover (h : s.Canon) : (s.takeover cause).Canon := by
  unfold State.takeover
  split
  · exact h.offer
  next t e =>
    have ht : t.Canon := h.takeClaim _ e
    extract_lets u u₁ t₁ t₂ t₃ t₄
    have hu : u.Canon := ht.setHsbState.releaseAllHeld
    have ht₁ : t₁.Canon := hu.same
    have ht₂ : t₂.Canon := ht₁.claimFrames.resendLines.keepSend.oweCap
    have ht₃ : t₃.Canon := ht₂.startSwitch
    have ht₄ : t₄.Canon := ht₃.ite ht₃.jobPairEnd
    exact ht₄.setPeerReady.readyUpdate.takeoverRecord

theorem execResignRx_canon {h' : SbHdr} (h : s.Canon) : CanonOutcome (execResignRx h' s) := by
  unfold execResignRx
  show State.Canon _
  refine h.sbRx fun _ ht => ?_
  exact ht.takeover.ite ht

theorem execLeaveRx_canon {h' : SbHdr} (h : s.Canon) : CanonOutcome (execLeaveRx h' s) := by
  unfold execLeaveRx
  show State.Canon _
  refine h.sbRx fun _ ht => ?_
  exact ht.setPeerReady.setHsbState.jobPairEnd.ite (ht.leaveStandby.ite ht)

theorem execPathSilence_canon (h : s.Canon) : CanonOutcome (execPathSilence p s) := h.same.wr.bump.offer.raiseCrown.ite h

theorem State.Canon.peerFails (h : s.Canon) : s.peerFails.Canon := by
  unfold State.peerFails
  extract_lets u s₁ t u₁
  have hs₁ : s₁.Canon := h.same
  have ht : t.Canon := hs₁.leaveStandby.offer
  split
  · exact hs₁.setPeerReady.setHsbState.jobPairEnd
  · exact hs₁.takeover.ite ((hs₁.takeover.ite ht.same).ite hs₁)

theorem execPeerSilence_canon (h : s.Canon) : CanonOutcome (execPeerSilence s) := h.peerFails.ite h

theorem execHbTx_canon (h : s.Canon) : CanonOutcome (execHbTx s) := h.readyUpdate.same.hsbSend.ite h

theorem State.Canon.hbFollow {b : HbBody} (h : s.Canon) : (s.hbFollow b).Canon := by
  unfold State.hbFollow
  extract_lets good g n
  split
  next t e =>
    have ht : t.Canon := h.freeNat.of_eq e
    extract_lets u u₁ t₁
    have ht₁ : t₁.Canon := ht.same
    exact ht₁.wr.ite (ht₁.wr.ite ht₁)

theorem State.Canon.hbState {peer : Nat} (h : s.Canon) : (s.hbState peer).Canon := by
  unfold State.hbState
  split
  · split
    · exact h
    · exact h.enterJoining.ite ((h.enterJoining.ite h.becomeActive).ite h)
  · exact (h.peerJoins.ite h).ite h

theorem State.Canon.hbRx {h' : SbHdr} {b : HbBody} (h : s.Canon) : (s.hbRx h' b).Canon := by
  unfold State.hbRx
  extract_lets t t₁ t₂ u
  have ht : t.Canon := h.wr.learnClaim
  have ht₁ : t₁.Canon := ht.setPeerReady.ite ht
  have ht₂ : t₂.Canon := ht₁.hbState
  exact ht₂.same

theorem execHbRx_canon {h' : SbHdr} {hc time echo residence : Nat} {ready jobpair : Bool} (h : s.Canon) :
    CanonOutcome (execHbRx h' hc time echo residence ready jobpair s) := by
  unfold execHbRx
  extract_lets b t t₁
  have ht : t.Canon := h.sbRx fun _ ht => ht.hbRx
  have ht₁ : t₁.Canon := ht.hbFollow.ite ht
  exact ht₁.joinCheck

theorem State.Canon.handover (h : s.Canon) : s.handover.Canon := h.ite (h.handoverFail.ite h.wr.same.hsbSend)

theorem execHsbHandover_canon (h : s.Canon) : CanonOutcome (execHsbHandover s) := h.handover

theorem State.Canon.hsbCtrl (h : s.Canon) : (s.hsbCtrl w).Canon := by
  unfold State.hsbCtrl
  extract_lets t t₁
  have ht : t.Canon := h.wrOf
  have ht₁ : t₁.Canon := ht.hsbEnable.ite ht.hsbDisable
  exact ht₁.handover.ite ht₁

theorem execHandoverRx_canon {h' : SbHdr} (h : s.Canon) : CanonOutcome (execHandoverRx h' n s) := by
  unfold execHandoverRx
  show State.Canon _
  refine h.sbRx fun _ ht => ?_
  exact ht.same.hsbSend.ite ht

theorem execHandackRx_canon {h' : SbHdr} (h : s.Canon) : CanonOutcome (execHandackRx h' n s) := by
  unfold execHandackRx
  show State.Canon _
  refine h.sbRx fun _ ht => ?_
  exact ht.same.ite ht

theorem execHandackTimeout_canon (h : s.Canon) : CanonOutcome (execHandackTimeout s) := by
  unfold execHandackTimeout
  show State.Canon _
  split
  · exact h.handoverFail.ite h
  · exact h

theorem State.Canon.handoverSwitch (h : s.Canon) : s.handoverSwitch.Canon := by
  unfold State.handoverSwitch
  split
  · split
    · exact (h.takeover.ite (h.wr.same.setHsbState.readyUpdate.ite h)).ite h
    · exact h
  · exact h

theorem execHandoverSwitch_canon (h : s.Canon) : CanonOutcome (execHandoverSwitch s) := h.handoverSwitch

theorem State.Canon.followLine {f : Nat} (h : s.Canon) : (s.followLine n f).Canon := h.renumber.showLine.announce.same

theorem execLineMsgRx_canon {h' : SbHdr} {f : Nat} (h : s.Canon) : CanonOutcome (execLineMsgRx h' n f s) := by
  unfold execLineMsgRx
  show State.Canon _
  refine h.sbRx fun _ ht => ?_
  exact ht.followLine.ite ht

theorem State.Canon.mirrorPublish {m : Mirror} (h : s.Canon) : (s.mirrorPublish m).Canon :=
  (((h.each fun _ _ ht => ht.putEach).publish).wr).same

theorem State.Canon.mirrorNext (h : s.Canon) : (s.mirrorNext a).Canon := by
  induction a generalizing s with
  | zero =>
    rw [State.mirrorNext]
    exact h
  | succ a ih =>
    rw [State.mirrorNext]
    split
    · exact h
    · exact (ih h.same.mirrorPublish).ite h

theorem State.Canon.mirrorRx {h' : SbHdr} {seq : Nat} {whole : Bool} {blocks : List (Nat × List Nat)} (h : s.Canon) :
    (s.mirrorRx h' seq whole blocks).Canon := by
  unfold State.mirrorRx
  extract_lets m u u₁ u₂ t
  have hu : u.Canon := h.mirrorPublish
  have ht : t.Canon := hu.same.ite h.same
  split
  · exact h
  · refine State.Canon.joinCheck ?_
    exact ht.mirrorNext.ite ht

theorem execMirrorRx_canon {h' : SbHdr} {seq : Nat} {whole : Bool} {blocks : List (Nat × List Nat)} (h : s.Canon) :
    CanonOutcome (execMirrorRx h' seq whole blocks s) :=
  h.sbRx fun _ ht => ht.mirrorRx

theorem State.Canon.eqRx {core : Nat} {vals : Option (List (Nat × List Nat))} (h : s.Canon) : (s.eqRx core n vals).Canon :=
  h.ite (h.eqApply.ite h.same)

theorem execEqRx_canon {h' : SbHdr} {core : Nat} {vals : List (Nat × List Nat)} (h : s.Canon) :
    CanonOutcome (execEqRx h' core n vals s) :=
  h.sbRx fun _ ht => ht.eqRx

theorem execEqskipRx_canon {h' : SbHdr} {core : Nat} (h : s.Canon) : CanonOutcome (execEqskipRx h' core n s) :=
  h.sbRx fun _ ht => ht.eqRx

theorem execCanHeartbeatTx_canon (h : s.Canon) : CanonOutcome (execCanHeartbeatTx s) := h.same.canOwnerSend.ite h

theorem execCanHeartbeatRx_canon {claim : Nat} (h : s.Canon) : CanonOutcome (execCanHeartbeatRx claim s) :=
  h.same.wr.learnClaim.ite h

theorem execClxFrameTx_canon (h : s.Canon) : CanonOutcome (execClxFrameTx s) := by
  unfold execClxFrameTx
  extract_lets f
  split
  next t e =>
    have ht : t.Canon := h.freeBit.of_eq e
    exact h.ite (ht.same.ite (ht.ite ht.emit.same.clxUpdate))

theorem State.Canon.clxRx {claim : Nat} (h : s.Canon) : (s.clxRx claim).Canon := by
  unfold State.clxRx
  extract_lets s₁ u u₁ t t₁
  have hs₁ : s₁.Canon := h.raiseCrown.ite h
  have hu : u.Canon := hs₁.wrs
  have ht : t.Canon := hu.same
  have ht₁ : t₁.Canon := ht.clxUpdate
  exact ht₁.learnClaim.ite ht₁

theorem execClxFrameRx_canon {claim : Nat} {crcOk : Bool} (h : s.Canon) : CanonOutcome (execClxFrameRx claim crcOk s) :=
  (h.clxRx.ite h.bump).ite h

theorem execClxPeerLost_canon (h : s.Canon) : CanonOutcome (execClxPeerLost s) := by
  unfold execClxPeerLost
  show State.Canon _
  split
  · exact h.wr.raiseCrown.ite h
  · exact h

/-! ### Host queues (`Machine/Host.lean`) -/

theorem State.Canon.setQueue {x : Queue} (h : s.Canon) : (s.setQueue q x).Canon := h.same

theorem State.Canon.clearCmd (h : s.Canon) : (s.clearCmd q).Canon := h.setQueue.wr

theorem State.Canon.writeCompletion {c : QCmd} {st res data : Nat} (h : s.Canon) :
    (s.writeCompletion q c st res data).Canon := by
  unfold State.writeCompletion
  extract_lets x tail next w t t₁
  have ht : t.Canon := h.emit.wr
  have ht₁ : t₁.Canon := ht.setQueue.clearCmd
  exact ht₁.sendMsix.ite ht₁

theorem State.Canon.clearEnded {c : QCmd} (h : s.Canon) : (s.clearEnded c).Canon := by
  unfold State.clearEnded
  split
  · split
    · exact h.raiseDie
    · exact h
  · exact h

theorem State.Canon.cmdEnd {st res data : Nat} (h : s.Canon) : (s.cmdEnd q st res data).Canon := by
  unfold State.cmdEnd
  split
  · exact h
  · extract_lets t t₁ u
    have ht : t.Canon := h.cryLeave.crcLeave.clearEnded
    have ht₁ : t₁.Canon := ht.clearCmd
    exact ht.ringSend.setQueue.ite ((ht₁.wr.ite ht₁).ite (ht.setQueue.ite ht.writeCompletion))

theorem State.Canon.carryCmd {c : QCmd} (h : s.Canon) : (s.carryCmd q c).Canon := h.ringSend.ringAwait

theorem State.Canon.commitStart {c : QCmd} (h : s.Canon) : (s.commitStart c).Canon := h.same.requestStore.ite h

theorem State.Canon.firstStep {c : QCmd} (h : s.Canon) : (s.firstStep q c).Canon := by
  unfold State.firstStep
  extract_lets u begun t t₁
  have hbegun : begun.Canon := h.setQueue
  have ht : t.Canon := hbegun.commitStart
  have ht₁ : t₁.Canon := ht.crcTake.ite ht
  split
  · exact hbegun.carryCmd
  · split
    · exact h.cmdEnd
    · exact ht₁.cryTake.ite ht₁

theorem State.Canon.cmdWait {win : Nat} (h : s.Canon) : (s.cmdWait q win).Canon := by
  unfold State.cmdWait
  split
  · exact h.setQueue
  · exact h

theorem State.Canon.commandStep (h : s.Canon) : s.commandStep.Canon := by
  unfold State.commandStep
  split
  · exact h
  · extract_lets t t₁
    have ht : t.Canon := h.each fun _ _ ht => ht.cmdWait
    have ht₁ : t₁.Canon := ht.same
    exact ht₁.ite ht₁.firstStep

theorem execCommandStep_canon (h : s.Canon) : CanonOutcome (execCommandStep s) := h.commandStep

theorem execContextSlotGrant_canon {crc : Bool} (h : s.Canon) : CanonOutcome (execContextSlotGrant crc s) := h.same.ite h.same

theorem State.Canon.runCommand {f : QCmd → State → Nat × Nat × State} (h : s.Canon)
    (hf : ∀ c t r, t.Canon → f c t = r → r.2.2.Canon) :
    (s.runCommand q op f).Canon := by
  unfold State.runCommand
  split
  · exact h
  · next c _ => exact (hf c s _ h rfl).cmdEnd

theorem execHostNop_canon (h : s.Canon) : CanonOutcome (execHostNop q s) := by
  refine h.runCommand fun c t r ht e => ?_
  cases e
  exact ht

theorem execJobAdmit_canon (h : s.Canon) : CanonOutcome (execJobAdmit q s) := by
  refine h.runCommand fun c t r ht e => ?_
  cases e
  exact ht.jobAdmit.jobPairUpdate

theorem State.Canon.jobBegin {jb : Job} {s0 first : Nat} (h : s.Canon) : (s.jobBegin jb s0 first).Canon :=
  h.wr.same.setJobState.each fun _ _ ht => ht.wr

theorem State.Canon.lateStart {jb : Job} {s0 : Nat} (h : s.Canon) : (s.lateStart jb s0).Canon :=
  h.jobBegin.same.each fun _ _ ht => ht.wr.setIng

theorem State.Canon.jobStart {s0 : Nat} (h : s.Canon) : (s.jobStart s0).2.Canon := by
  unfold State.jobStart
  split
  · exact h
  · split
    · exact h
    · split
      · exact h.jobBegin.jobPairUpdate
      · split
        · exact h.lateStart.jobPairUpdate
        · exact h

theorem execJobStart_canon (h : s.Canon) : CanonOutcome (execJobStart q s) := by
  refine h.runCommand fun c t r ht e => ?_
  cases e
  exact ht.jobStart

theorem execJobEnd_canon (h : s.Canon) : CanonOutcome (execJobEnd q s) := by
  refine h.runCommand fun c t r ht e => ?_
  split at e <;> cases e
  · exact ht.jobEnd.jobPairUpdate
  · exact ht

theorem execHoodLoad_canon (h : s.Canon) : CanonOutcome (execHoodLoad q s) := by
  refine h.runCommand fun c t r ht e => ?_
  split at e <;> cases e
  · exact ht
  · exact ht.hoodLoad

theorem State.Canon.clearDram (h : s.Canon) : (s.clearDram d a n).Canon := h.zeroMem.wholeGood

theorem execDramClear_canon (h : s.Canon) : CanonOutcome (execDramClear q s) := by
  refine h.runCommand fun c t r ht e => ?_
  split at e
  · cases e
    exact ht
  · split at e <;> cases e
    · exact ht
    · exact ht.clearDram

theorem execDramCrc_canon (h : s.Canon) : CanonOutcome (execDramCrc q s) := by
  refine h.runCommand fun c t r ht e => ?_
  split at e <;> cases e
  · exact ht
  · exact ht.scanBytes

theorem execNvsCommit_canon (h : s.Canon) : CanonOutcome (execNvsCommit q s) := by
  unfold execNvsCommit
  show State.Canon _
  split
  · exact h
  · extract_lets data
    exact h.cmdEnd.ite (h.cmdEnd.ite h)

theorem execImageVerify_canon (h : s.Canon) : CanonOutcome (execImageVerify q s) := by
  refine h.runCommand fun c t r ht e => ?_
  cases e
  exact ht.verifyRecord

theorem State.Canon.abortEffect {c : QCmd} (h : s.Canon) : (s.abortEffect c).Canon := by
  unfold State.abortEffect
  split
  · exact h
  · split
    · split
      · exact h.ite h.wr
      · exact h
    · split
      · split
        · exact h
        · split
          next t e₂ => exact (h.freeNat.of_eq e₂).clearDram
      · exact h
    · exact h.clrBits
    · exact h

theorem State.Canon.abortCmd {c : QCmd} (h : s.Canon) : (s.abortCmd q c).Canon := h.abortEffect.cmdEnd

theorem State.Canon.cmdAbort {r cid : Nat} (h : s.Canon) : (s.cmdAbort q r cid).2.Canon := by
  unfold State.cmdAbort
  split
  · split
    · exact h
    · split
      · exact h
      · exact h.abortCmd
  · exact h

theorem execCmdAbort_canon (h : s.Canon) : CanonOutcome (execCmdAbort q s) := by
  refine h.runCommand fun c t r ht e => ?_
  cases e
  exact ht.cmdAbort

theorem State.Canon.windDown {st : Nat} (h : s.Canon) : (s.windDown q st).Canon := by
  unfold State.windDown
  split
  · exact h.wr
  · extract_lets u t
    have ht : t.Canon := h.wr.setQueue
    exact ht.cmdEnd.ite (ht.abortEffect.cmdEnd.ite ht)

theorem State.Canon.queueEnable (h : s.Canon) : (s.queueEnable q).Canon := h.ite (h.wr.ite h.setQueue.wrs)

theorem State.Canon.queueDisable (h : s.Canon) : (s.queueDisable q).Canon := h.wr.windDown.ite h

theorem State.Canon.queueError {err : Nat} (h : s.Canon) : (s.queueError q err).Canon := h.wr.windDown

theorem State.Canon.sqDoorbell (h : s.Canon) : (s.sqDoorbell q w).Canon := h.wr.ite (h.queueError.ite h.wr)

theorem State.Canon.cqDoorbell (h : s.Canon) : (s.cqDoorbell q w).Canon := by
  unfold State.cqDoorbell
  extract_lets v size old tail t
  have ht : t.Canon := h.wr
  split
  · exact h.wr
  · split
    · exact h.queueError
    · split
      · split
        · exact ht.ite ht.writeCompletion
        · exact ht
      · exact ht

theorem execQueueEnable_canon (h : s.Canon) : CanonOutcome (execQueueEnable q s) := h.queueEnable.ite h

theorem execQueueDisable_canon (h : s.Canon) : CanonOutcome (execQueueDisable q s) := h.queueDisable.ite h

theorem execSqDoorbell_canon (h : s.Canon) : CanonOutcome (execSqDoorbell q w s) := h.sqDoorbell.ite h

theorem execCqDoorbell_canon (h : s.Canon) : CanonOutcome (execCqDoorbell q w s) := h.cqDoorbell.ite h

theorem State.Canon.takeEntry {slack : Nat} {e : List Nat} (h : s.Canon) : (s.takeEntry q slack e).Canon := h.setQueue

theorem execQueueFetch_canon {entry : List Nat} {err : Bool} (h : s.Canon) : CanonOutcome (execQueueFetch q entry err s) := by
  unfold execQueueFetch
  show State.Canon _
  extract_lets head t
  have ht : t.Canon := h.wr
  exact (ht.queueError.ite ht.takeEntry.wrs).ite h

theorem State.Canon.endpointReset (h : s.Canon) : (s.endpointReset cause).Canon := by
  unfold State.endpointReset
  extract_lets t busy u v
  have ht : t.Canon := by
    unfold t
    refine h.each fun _ _ ht => ?_
    exact ht.windDown.ite ht
  have hu : u.Canon := ht.filterRegsPcie
  have hv : v.Canon := by
    unfold v
    exact hu.each fun _ _ hw => hw.wrs
  exact hv.wr.offer

theorem execEndpointReset_canon (h : s.Canon) : CanonOutcome (execEndpointReset cause s) := h.endpointReset.ite h

theorem State.Canon.sendPending (h : s.Canon) : s.sendPending.Canon := h.each fun _ _ ht => ht.setBit.sendMsix

theorem execPcieLinkTrained_canon {speed : Nat} {setup : PcieSetup} (h : s.Canon) :
    CanonOutcome (execPcieLinkTrained speed setup s) :=
  h.wrs.same.sendPending.ite h

/-! ### Ring (`Machine/Ring.lean`) -/

theorem State.Canon.enumerate (h : s.Canon) : s.enumerate.Canon := h.setRing.same

theorem State.Canon.ringHeard (h : s.Canon) : s.ringHeard.Canon := h.setRing.ite h

theorem execEnumTx_canon (h : s.Canon) : CanonOutcome (execEnumTx s) := h.ringSend.same.ite h

theorem State.Canon.enumDone {count : Nat} (h : s.Canon) : (s.enumDone count).Canon := by
  unfold State.enumDone
  extract_lets n t
  have ht : t.Canon := h.wrs
  exact (ht.ite ht.setRing.offer).ite (ht.setRing.ite ht.setRing)

theorem execEnumRx_canon {count : Nat} {other : Bool} (h : s.Canon) : CanonOutcome (execEnumRx count other s) := by
  unfold execEnumRx
  show State.Canon _
  split
  · exact h
  · exact ((h.ite h.setRing.offer.same).ite (h.enumDone.ite h)).ite h.wr.setRing.ringSend

theorem execRingReenum_canon (h : s.Canon) : CanonOutcome (execRingReenum s) := h.wr.enumerate.ite h

theorem State.Canon.ringPortDown {lost : Nat} (h : s.Canon) : (s.ringPortDown p lost).Canon := by
  unfold State.ringPortDown
  split
  · extract_lets t t₁ st
    have ht : t.Canon := h.wr
    have ht₁ : t₁.Canon := ht.each fun _ _ ht₁ => ht₁.bump.offer
    exact ht₁.setRing.bump.offer.ite (ht₁.setRing.ite ht₁)
  · exact h

theorem execRingPortDown_canon {lost : Nat} (h : s.Canon) : CanonOutcome (execRingPortDown p lost s) := h.ringPortDown

theorem State.Canon.ringCrcBad (h : s.Canon) : (s.ringCrcBad p).Canon := by
  unfold State.ringCrcBad
  extract_lets l t
  have ht : t.Canon := h.same.bump
  split
  · exact ht.same.ringPortDown.ite ht
  · exact ht

theorem execRingPortRecovered_canon (h : s.Canon) : CanonOutcome (execRingPortRecovered p s) := by
  unfold execRingPortRecovered
  show State.Canon _
  split
  · extract_lets t st
    have ht : t.Canon := h.wr
    exact (ht.enumerate.ite ht).ite (ht.setRing.ite ht)
  · exact h

theorem execRingFramePassOn_canon {name : String} {header payload : List Nat} {crcOk : Bool} (h : s.Canon) :
    CanonOutcome (execRingFramePassOn p name header payload crcOk s) := by
  unfold execRingFramePassOn
  show State.Canon _
  split
  · exact h
  · split
    · exact h.ringCrcBad
    · extract_lets src dst own t
      have ht : t.Canon := h.ite h.ringHeard
      exact ht.ite ht.ringEmit

theorem execRingCmdRx_canon {tag : Nat} {entry : List Nat} {slack : Nat} (h : s.Canon) :
    CanonOutcome (execRingCmdRx src tag entry slack s) := by
  unfold execRingCmdRx
  show State.Canon _
  split
  · extract_lets s₁
    have hs₁ : s₁.Canon := h.ringHeard
    split
    · exact hs₁.takeEntry.setQueue
    · exact hs₁
  · exact h

theorem State.Canon.ringAnswered {r : RingReq} (h : s.Canon) : (s.ringAnswered r).Canon := h.same

theorem State.Canon.checkAnswer {r : RingReq} (h : s.Canon) : (s.checkAnswer r code).Canon := by
  unfold State.checkAnswer
  split
  · exact h.ringAnswered
  · split
    · exact h.ringRefuse
    · extract_lets t
      have ht : t.Canon := h.ringAnswered
      exact ht.ite ht.ringApply

theorem execRingCplRx_canon {tag status result data : Nat} (h : s.Canon) :
    CanonOutcome (execRingCplRx src tag status result data s) := by
  unfold execRingCplRx
  show State.Canon _
  split
  · exact h
  · split
    · exact h.ringAnswered.cmdEnd
    · exact h.checkAnswer
    · exact h

theorem State.Canon.ringFailed {r : RingReq} (h : s.Canon) : (s.ringFailed r).Canon := h.same

theorem execRingTimeout_canon {tag : Nat} (h : s.Canon) : CanonOutcome (execRingTimeout src tag s) := by
  unfold execRingTimeout
  show State.Canon _
  split
  · exact h
  · split
    · exact h
    · split
      · exact h.ringAnswered.emit.ite (h.ringAnswered.ringFailed.ite h)
      · split
        · exact h.ringAnswered.cmdEnd
        · split
          · exact h.ringAnswered
          · exact h.same.checkAnswer

theorem execRingCheckRx_canon {tag : Nat} (h : s.Canon) : CanonOutcome (execRingCheckRx src tag w s) := by
  unfold execRingCheckRx
  show State.Canon _
  split
  · extract_lets s₁ code t u
    have hs₁ : s₁.Canon := h.ringHeard
    have ht : t.Canon := hs₁.ringSend
    exact ht.same.ite ht
  · exact h

theorem execRingApplyRx_canon (h : s.Canon) : CanonOutcome (execRingApplyRx s) := by
  unfold execRingApplyRx
  show State.Canon _
  split
  · exact h.ringDrop.applyCmd.ite h
  · exact h

theorem execRingReleaseRx_canon (h : s.Canon) : CanonOutcome (execRingReleaseRx s) := h.ringDrop.ite h

/-! ### Register reads (`Machine/IoRead.lean`) -/

theorem State.Canon.rcTaken (h : s.Canon) : (s.rcTaken b o).Canon := h.each fun _ _ ht => ht.wr

theorem State.Canon.lramRead (h : s.Canon) : (s.lramRead d k).Canon := by
  unfold State.lramRead
  extract_lets b
  split
  next s₁ e => exact (h.readBytes.of_eq e).wr
  next s₁ e => exact h.readBytes.of_eq e

theorem State.Canon.ispRead (h : s.Canon) : (s.ispRead d k).Canon := by
  unfold State.ispRead
  extract_lets b a
  split
  · exact trivial
  · split
    next t e => exact (h.iBytes.of_eq e).wr
    next t e => exact h.iBytes.of_eq e

theorem State.Canon.ringStatus (h : s.Canon) : s.ringStatus.2.Canon := by
  unfold State.ringStatus
  split
  next t e =>
    have ht : t.Canon := h.freeNat.of_eq e
    exact ht

theorem RegRead.Canon.of {p : Nat × State} (h : p.2.Canon) : (RegRead.of p).Canon := h

theorem State.Canon.evrRegRead (h : s.Canon) : (s.evrRegRead o).Canon := by
  unfold State.evrRegRead
  split
  · split
    next t e =>
      have ht : t.Canon := by
        refine State.Canon.of_eq ?_ e
        split
        · exact h.evrWin7
        · exact h.evrRead
      exact ht
    next t e =>
      have ht : t.Canon := by
        refine State.Canon.of_eq ?_ e
        split
        · exact h.evrWin7
        · exact h.evrRead
      exact ht
  · exact h.rcTaken

theorem State.Canon.regRead (h : s.Canon) : (s.regRead b o).Canon := by
  unfold State.regRead
  split
  · exact h.lramRead
  · exact h.ispRead
  · exact RegRead.Canon.of h.laneCntLine
  · exact RegRead.Canon.of h.laneSramRead
  · exact RegRead.Canon.of h.laneKsRead
  · exact RegRead.Canon.of h.ringStatus
  · exact RegRead.Canon.of h.tmbTimeLo
  · exact RegRead.Canon.of h.tmbTimeHi
  · exact RegRead.Canon.of h.rtcSecLo
  · exact RegRead.Canon.of h.rtcFrac
  · exact h.evrRegRead
  · exact RegRead.Canon.of h.trngAcq
  · exact h.rcTaken

/-! ### Reflexes (`Machine/Reflex.lean`) -/

theorem State.Canon.sendTemplate {g : Trigger} (h : s.Canon) : (s.sendTemplate d n g).Canon := by
  unfold State.sendTemplate
  extract_lets b words type m f l t
  have ht : t.Canon := h.setLink
  exact h.wr.ite (h.bump.ite (ht.ite ht.wr))

theorem State.Canon.reflexAct {g : Trigger} (h : s.Canon) : (s.reflexAct d i g).Canon := by
  unfold State.reflexAct
  extract_lets b arg t t₁
  have ht : t.Canon := by
    unfold t
    split
    · exact h.sendTemplate
    · exact h.lswCommand
    · exact h.raiseDie
    · exact h
  have ht₁ : t₁.Canon := ht.wr.bump
  exact ht₁.wr.ite ht₁

theorem State.Canon.reflexFlag (h : s.Canon) : (s.reflexFlag d i).Canon := by
  unfold State.reflexFlag
  extract_lets b f
  split
  · exact h.setBit
  · exact h.setBit
  · exact h

theorem State.Canon.reflexPass {g : Trigger} (h : s.Canon) : (s.reflexPass d g).Canon :=
  (h.each fun _ _ ht => ht.reflexAct).each fun _ _ ht => ht.reflexFlag

theorem execReflexPass_canon (h : s.Canon) : CanonOutcome (execReflexPass d s) := by
  unfold execReflexPass
  show State.Canon _
  split
  · exact h.same.reflexPass.ite h
  · exact h

theorem execRfxFset_canon (h : s.Canon) : CanonOutcome (execRfxFset d w s) := h.orBits.ite h

theorem execRfxFclr_canon (h : s.Canon) : CanonOutcome (execRfxFclr d w s) := h.clrBits.ite h

/-! ### Register writes (`Machine/IoWrite.lean`) -/

theorem State.Canon.keyDirty {f : Field} (h : s.Canon) : (s.keyDirty b f).Canon := by
  unfold State.keyDirty
  split
  · exact h.dirty
  · exact h

theorem State.Canon.putField {f : Field} (h : s.Canon) : (s.putField b w f).Canon := by
  unfold State.putField
  split
  · exact h.wr.keyDirty.ite h
  · exact h.orBits
  · exact h.clrBits
  · exact h

theorem State.Canon.putReg (h : s.Canon) : (s.putReg b o w).Canon := h.each fun _ _ ht => ht.putField

theorem nextOr_canon {a : Host.Outcome State Fault Refusal} (h : s.Canon) (ha : CanonOutcome a) : (nextOr s a).Canon := by
  unfold nextOr
  split
  · exact ha
  · exact h

theorem State.Canon.putRate (h : s.Canon) : (s.putRate i w).Canon := h.putReg.wr

theorem State.Canon.putNode {n : Node} (h : s.Canon) : ∀ t ∈ s.putNode n o w, t.Canon := by
  unfold State.putNode
  extract_lets b
  split
  · refine forall_mem_some ?_
    split
    next t e₁ => exact h.nodeCtrl _ e₁
    · exact trivial
  · split
    · exact forall_mem_some h.putReg
    · split
      · split
        · refine forall_mem_some ?_
          exact h.ite h.putReg
        · exact forall_mem_none
      · split
        · refine forall_mem_some ?_
          exact h.ite h.putReg
        · exact forall_mem_none
      · split
        · refine forall_mem_some ?_
          exact h.ite h.putReg
        · exact forall_mem_none
      · exact forall_mem_none

theorem State.Canon.lramWrite (h : s.Canon) : (s.lramWrite d k w).Canon := h.writeBytes.wr

theorem State.Canon.ispWrite (h : s.Canon) : (s.ispWrite d k w).Canon := by
  unfold State.ispWrite
  extract_lets b a
  split
  · exact trivial
  · exact h.iStore.wr

theorem State.Canon.putTask (h : s.Canon) : (s.putTask d k t o w).Canon := by
  unfold State.putTask
  extract_lets b
  split
  · exact h.taskCfg.hoodRefCheck
  · exact h.taskTrig
  · exact h.ite h.putReg

theorem State.Canon.putCore (h : s.Canon) : (s.putCore d k o w).Canon := by
  unfold State.putCore
  split
  · exact h.lramWrite
  · split
    · exact h.ispWrite
    · split
      · exact h.hoodCtrl
      · split
        · exact h.putTask
        · exact h.putReg

theorem State.Canon.putLane (h : s.Canon) : (s.putLane d j o w).Canon := by
  unfold State.putLane
  extract_lets b run
  split
  · exact h.laneCtrl
  · split
    · exact h
    · split
      · exact h
      · split
        · exact h.putReg.wr
        · split
          · exact h.khoodCtrl
          · split
            · exact h.laneSramWrite
            · split
              · exact h.laneKsWrite
              · exact h.putReg

theorem State.Canon.putLink (h : s.Canon) : (s.putLink d m o w).Canon := by
  unfold State.putLink
  split
  · exact h.linkCtrl
  · exact (h.mailGo.ite h).ite ((h.rxPop.ite h).ite h.putReg)

theorem State.Canon.putIrq {c : Option Nat} (h : s.Canon) : (s.putIrq c o w).Canon := by
  unfold State.putIrq
  split
  · exact nextOr_canon h (execIrqPendSet_canon h)
  · split
    · exact nextOr_canon h (execIrqPendClr_canon h)
    · exact (nextOr_canon h (execIrqEnSet_canon h)).ite ((nextOr_canon h (execIrqEnClr_canon h)).ite h.putReg)

theorem State.Canon.putWdt (h : s.Canon) : (s.putWdt r o w).Canon := by
  unfold State.putWdt
  split
  · exact h.wdtEnable.ite h
  · exact h.ite (h.wdtTasken.ite (h.wdtKick.ite h.putReg))

theorem State.Canon.putMsix (h : s.Canon) : (s.putMsix o w).Canon := by
  unfold State.putMsix
  extract_lets e t
  have ht : t.Canon := h.wr
  exact (ht.setBit.sendMsix.ite ht).ite h.putReg

theorem State.Canon.putHost (h : s.Canon) : (s.putHost o w).Canon := by
  unfold State.putHost
  split
  · extract_lets q
    split
    · exact h.queueEnable.ite h.queueDisable
    · exact h.sqDoorbell
    · exact h.cqDoorbell
    · exact h.ite h.putReg
  · exact h.putMsix.ite h.putReg

theorem State.Canon.putCan (h : s.Canon) : (s.putCan c o w).Canon := by
  unfold State.putCan
  split
  · exact h.canCtrl
  · split
    · exact h
    · exact h.canSelect.ite (h.canCmd.ite (h.setCan.ite h.putReg))

theorem State.Canon.putCry (h : s.Canon) : (s.putCry r o w).Canon := by
  unfold State.putCry
  split
  · split
    · split
      next t e₂ => exact (h.freeBit.of_eq e₂).keyProgram
    · exact h
  · split
    · exact nextOr_canon h (execKeyRevoke_canon h)
    · split
      · exact h.wr
      · split
        · exact h.trngEnable
        · split
          · extract_lets i t
            have ht : t.Canon := (nextOr_canon h (execTrngReq_canon h)).ite h
            exact (nextOr_canon ht (execTrngRel_canon ht)).ite ht
          · exact h.putReg

theorem State.Canon.putUpd (h : s.Canon) : (s.putUpd o w).Canon := by
  unfold State.putUpd
  split
  · extract_lets t t₁ t₂
    have ht : t.Canon := (nextOr_canon h (execUpdBegin_canon h)).ite h
    have ht₁ : t₁.Canon := (nextOr_canon ht (execUpdPut_canon ht)).ite ht
    have ht₂ : t₂.Canon := (nextOr_canon ht₁ (execUpdErase_canon ht₁)).ite ht₁
    exact ht₂.activate.ite ht₂
  · split
    · exact h.confirm
    · split
      · exact h
      · split
        · extract_lets t
          have ht : t.Canon := (nextOr_canon h (execUpdLockSet_canon h)).ite h
          exact (nextOr_canon ht (execUpdUnlock_canon ht)).ite ht
        · exact h.putReg

theorem State.Canon.putHsb (h : s.Canon) : (s.putHsb o w).Canon := h.hsbCtrl.ite ((h.wr.dirty.ite h).ite h.putReg)

theorem State.Canon.putTmb (h : s.Canon) : (s.putTmb o w).Canon := h.tmbCtrl.ite (h.putReg.refsCheck.ite (h.ite h.putReg))

theorem State.Canon.putLsw (h : s.Canon) : (s.putLsw o w).Canon := by
  unfold State.putLsw
  split
  · exact h.lswResume.ite h
  · split
    · exact nextOr_canon h (execLswSet_canon h)
    · split
      · exact nextOr_canon h (execLswClr_canon h)
      · split
        · split
          next t e => exact (h.freeBit.of_eq e).diagClear
        · exact h.putReg

theorem State.Canon.putRtc (h : s.Canon) : (s.putRtc o w).Canon := by
  unfold State.putRtc
  split
  · exact (nextOr_canon h (execRtcSet_canon h)).ite h
  · split
    · exact h.rtcShift
    · split
      · extract_lets k
        split
        · exact h.almCtrl
        · exact h.each fun _ _ ht => ht.almWrite
      · exact h.putReg

theorem State.Canon.putBlk (h : s.Canon) : (s.putBlk r b o w).Canon := by
  unfold State.putBlk
  split
  · exact h.putCore
  · exact h.putLane
  · exact h.putLink
  · exact h.putIrq
  · exact h.putIrq
  · exact h.putWdt
  · exact h.putHost
  · exact ((nextOr_canon h (execRingReenum_canon h)).ite h).ite h.putReg
  · exact h.putCan
  · exact h.evrCursorWrite.ite (h.putRate.ite h.putReg)
  · exact h.putUpd
  · exact h.putCry
  · exact h.putHsb
  · exact h.putTmb
  · exact h.dinCfg.ite (h.dinFilt.ite h.putReg)
  · exact h.putLsw
  · exact h.putRtc
  · exact h.requestStore.ite h.putReg
  · exact (nextOr_canon h (execRfxFset_canon h)).ite ((nextOr_canon h (execRfxFclr_canon h)).ite h.putReg)
  · exact (nextOr_canon h (execIngWptrWrite_canon h)).ite (h.calCtrl.ite h.putReg)
  · exact h.imgCtrl.ite h.putReg
  · exact h.putReg

theorem State.Canon.regWrite (h : s.Canon) : (s.regWrite r b o w).Canon := by
  unfold State.regWrite
  split
  next n _ =>
    cases e : s.putNode n o w with
    | none => exact h.putBlk
    | some x => exact h.putNode x e
  · exact h.putBlk

/-! ### Bus accesses (`Machine/Bus.lean`) -/

theorem State.Canon.queueHeld {p : Posted} (h : s.Canon) : (s.queueHeld r p).Canon := by
  unfold State.queueHeld
  extract_lets l
  split
  · split
    · exact h.setHeld
    · exact trivial
  · exact h.setHeld

theorem State.Canon.ringWrite (h : s.Canon) : (s.ringWrite p a w).Canon := h.ringSend

theorem State.Canon.ringRead (h : s.Canon) : (s.ringRead r p a n).Canon := h.ringSend.ringAwait

theorem State.Canon.proxyRead (h : s.Canon) : (s.proxyRead r p a).Canon := by
  unfold State.proxyRead
  split
  · exact h.ringRead
  · split
    · exact h.ringAnswered
    · split
      · exact h.ringAnswered
      · exact h

theorem State.Canon.settle {a' : WriteResult} (h : s.Canon) (ha' : a'.Canon) : (s.settle r a w a').Canon := by
  unfold State.settle
  split
  · exact ha'
  · exact h.refuse
  · exact h.queueHeld

theorem State.Canon.ioNow (h : s.Canon) : (s.ioNow r a w).Canon := by
  unfold State.ioNow
  split
  · exact trivial
  · exact h
  · exact h.ringWrite
  · exact h.regWrite

theorem State.Canon.ioWrite (h : s.Canon) : (s.ioWrite r a w).Canon := by
  unfold State.ioWrite
  split
  · exact h.refuse
  · split
    · exact h.settle h.ioNow
    · exact h.queueHeld

theorem State.Canon.ioRead (h : s.Canon) : (s.ioRead r a).Canon := by
  unfold State.ioRead
  split
  · exact h.refuse
  · split
    · exact h
    · split
      · exact h.refuse
      · exact h
      · exact h.proxyRead
      · split
        next t e₂ => exact h.regRead.of_eq e₂
        · exact h.refuse
        next t e₂ => exact h.regRead.of_eq e₂

theorem State.Canon.dBits {mask : Nat} (h : s.Canon) : (s.dBits r a mask v).Canon := by
  unfold State.dBits
  split
  · exact h.refuse
  · split
    · exact h
    · split
      next s₁ e₂ => exact h.readBytes.of_eq e₂
      next s₁ e₂ =>
        have hs₁ : s₁.Canon := h.readBytes.of_eq e₂
        split
        next t e₃ => exact hs₁.memWrite.of_eq e₃
        next t e₃ => exact hs₁.memWrite.of_eq e₃

theorem State.Canon.reportWrite (h : s.Canon) : (s.reportWrite r a).Canon := by
  unfold State.reportWrite
  split
  · exact h.reportBus
  · exact h.offer

theorem State.Canon.postAcc {a' : Acc Unit} (h : a'.Canon) : (State.postAcc r a a').Canon := by
  unfold State.postAcc
  split
  · exact h
  · exact h
  · exact h.reportWrite

theorem State.Canon.postBytes (h : s.Canon) : (s.postBytes r a bs).Canon := by
  unfold State.postBytes
  split
  · exact State.Canon.postAcc h.dWrite
  · split
    · exact h.refuse
    · exact h.queueHeld

theorem State.Canon.postBits {mask : Nat} (h : s.Canon) : (s.postBits r a mask v).Canon := by
  unfold State.postBits
  split
  · exact State.Canon.postAcc h.dBits
  · split
    · exact h.refuse
    · exact h.queueHeld

/-! ### Operands (`Machine/Operands.lean`) -/

theorem State.Canon.coreLoad (h : s.Canon) : (s.coreLoad d k a n).Canon := by
  unfold State.coreLoad
  split
  · exact h
  · split
    next t e => exact h.dRead.of_eq e
    next t e => exact h.dRead.of_eq e
    next t e => exact h.dRead.of_eq e

theorem State.Canon.coreRmw {f : Nat → Nat} (h : s.Canon) : (s.coreRmw d k a n f).Canon := by
  unfold State.coreRmw
  split
  · exact h
  · split
    next t e => exact h.dRmw.of_eq e
    next t e => exact h.dRmw.of_eq e
    next t e => exact h.dRmw.of_eq e

theorem Post.Canon.got {p : Post} (h : p.Canon) (hs : s.Canon) : (Post.got p s cause).Canon := by
  unfold Post.got
  split
  · exact h
  · exact h
  · exact hs

theorem State.Canon.coreStore (h : s.Canon) : (s.coreStore d k a n v).Canon := h.postBytes.got h

theorem State.Canon.coreBit {v : Bool} (h : s.Canon) : (s.coreBit d k a i v).Canon := h.postBits.got h

theorem State.Canon.coreIn (h : s.Canon) : (s.coreIn d k a).Canon := by
  unfold State.coreIn
  split
  · exact h
  · split
    next a₂ e => exact h.ioRead.of_eq e
    next a₁ e => exact h.ioRead.of_eq e
    next a₁ e => exact h.ioRead.of_eq e
    next a₁ e => exact h.ioRead.of_eq e

theorem State.Canon.irqDone (h : s.Canon) : (s.irqDone d k w).Canon := by
  unfold State.irqDone
  extract_lets c
  split
  · exact h
  · split
    · exact h
    · split
      · exact h
      · exact h.setCore

theorem State.Canon.coreOut (h : s.Canon) : (s.coreOut d k a w).Canon := by
  unfold State.coreOut
  split
  · exact h.irqDone
  · exact h.ioWrite.got h

theorem State.Canon.localWord (h : s.Canon) : (s.localWord d k a).Canon := by
  unfold State.localWord
  split
  · exact h
  · split
    next s₁ e => exact h.readBytes.of_eq e
    next s₁ e => exact h.readBytes.of_eq e

theorem State.Canon.baseWord {u : BaseWords} (h : s.Canon) : (s.baseWord d k u n).Canon := by
  unfold State.baseWord
  split
  · exact h
  · exact h.localWord

theorem State.Canon.resolve {u : BaseWords} {o : Opd} (h : s.Canon) : (s.resolve d k sz u o).Canon := by
  unfold State.resolve
  split
  · exact h
  · split
    next t e => exact h.baseWord.of_eq e
    next t e => exact h.baseWord.of_eq e
    next t e =>
      have ht : t.Canon := h.baseWord.of_eq e
      split
      · split
        next t₁ e₂ => exact ht.baseWord.of_eq e₂
        next t₁ e₂ => exact ht.baseWord.of_eq e₂
        next t₁ e₂ => exact ht.baseWord.of_eq e₂
      · split
        · exact ht

theorem State.Canon.locRefused {write : Bool} {l : Loc} (h : s.Canon) : ∀ t ∈ s.locRefused d k n write l, t.2.Canon := by
  intro t ht
  cases l with
  | mem a | bit a _ | io a =>
    obtain ⟨c, _, rfl⟩ := Option.map_eq_some_iff.1 ht
    dsimp only
    exact h.refuse
  | _ => cases ht

theorem State.Canon.readLoc {l : Loc} (h : s.Canon) : (s.readLoc d k n l).Canon := by
  unfold State.readLoc
  split
  · exact h
  · exact h.coreLoad
  · exact h.coreIn
  · exact h
  · exact h
  · split
    next t e =>
      have ht : t.Canon := h.coreLoad.of_eq e
      exact ht
    next t e => exact h.coreLoad.of_eq e
    next t e => exact h.coreLoad.of_eq e

theorem State.Canon.writeLoc {l : Loc} (h : s.Canon) : (s.writeLoc d k n v l).Canon := by
  unfold State.writeLoc
  split
  · exact h
  · exact h
  · exact h.coreStore
  · exact h.coreOut
  · exact h.setCore
  · exact h.coreBit

/-! ### Running an instruction (`Machine/Run.lean`) -/

theorem State.Canon.setBranch {taken : Bool} {tgt : Nat} (h : s.Canon) : (s.setBranch d k len taken tgt).Canon := h.setCore

theorem State.Canon.formReturn (h : s.Canon) : (s.formReturn d k).Canon := by
  unfold State.formReturn
  extract_lets c u
  split
  · exact h.setCore
  · split
    next t e₁ => exact (h.freeWord.of_eq e₁).setCore

theorem State.Canon.advance {slot : Option Br} (h : s.Canon) : (s.advance d k len slot).Canon := by
  unfold State.advance
  extract_lets c
  split
  · exact h.setCore
  · exact h.setCore.formReturn.ite h.setCore

theorem State.Canon.spend (h : s.Canon) : (s.spend d k n).Canon := h.setCore

theorem State.Canon.fillWords {a' : Nat} (h : s.Canon) : (s.fillWords d k a a').Canon := by
  induction a' generalizing s a with
  | zero =>
    rw [State.fillWords]
    exact h
  | succ a' ih =>
    rw [State.fillWords]
    split
    · exact h
    · split
      next t e => exact h.dRead.of_eq e
      next t e => exact h.dRead.of_eq e
      next t e =>
        have ht : t.Canon := h.dRead.of_eq e
        split
        next u e₁ =>
          have hu : u.Canon := (ih ht).of_eq e₁
          exact hu
        · exact ih ht

theorem State.Canon.spillRefused {a' : Nat} (h : s.Canon) : ∀ t ∈ s.spillRefused d k a a', t.Canon := by
  induction a' generalizing a with
  | zero =>
    rw [State.spillRefused]
    exact forall_mem_none
  | succ a' ih =>
    rw [State.spillRefused]
    split
    · exact forall_mem_some h.refuse
    · exact ih

theorem State.Canon.spillWords {a' : List Word} (h : s.Canon) : (s.spillWords d k a a').Canon := by
  induction a' generalizing s a with
  | nil =>
    rw [State.spillWords]
    exact h
  | cons y a' ih =>
    rw [State.spillWords]
    exact ih h.ramPut

theorem Got.Canon.body {α : Type} {g : Got α} {f : α → State → Body} (h : g.Canon) (hf : ∀ a t, t.Canon → (f a t).Canon) :
    (Got.body g f).Canon := by
  unfold Got.body
  split
  · exact hf _ _ h
  · exact h
  · exact h

theorem State.Canon.putFilled {ws : List Word} (h : s.Canon) : (s.putFilled d k ws).Canon := h.ite h.setCore

theorem State.Canon.results {u : Use} {ds : List Word} {rs : List Bool} {ts : List Word} (h : s.Canon) :
    (s.results d k u ds rs ts).Canon :=
  h.spillWords.setCore

theorem State.Canon.unstack {h' : Hot} (h : s.Canon) : (s.unstack d k h').Canon := h.ite h.setCore

theorem State.Canon.stackFails {h' : Hot} {body : Body} (h : s.Canon) (hbody : body.Canon) :
    (s.stackFails d k opc len c h' body).Canon := by
  unfold State.stackFails
  split
  · exact hbody.unstack.trap.ite h.unstack.trap
  · exact h.unstack.trap

theorem State.Canon.stackBody {u : Use} {slot : Option Br} {body : Ins → State → Body} {after : State → State} (h : s.Canon)
    (hbody : ∀ a t, t.Canon → (body a t).Canon) (hafter : ∀ t, t.Canon → (after t).Canon) :
    (s.stackBody d k opc len u cost slot body after).Canon := by
  unfold State.stackBody
  extract_lets h₁
  split
  next t e => exact (h.fillWords.of_eq e).stackFails (hbody _ _ h)
  next t e => exact (h.fillWords.of_eq e).stalled
  next t e =>
    have ht : t.Canon := h.fillWords.of_eq e
    extract_lets t₁ h'
    have ht₁ : t₁.Canon := ht.putFilled
    split
    next t₂ e₁ => exact (ht₁.spillRefused _ e₁).stackFails (hbody _ _ ht₁)
    · split
      next t₂ e₂ => exact ((hbody _ _ ht₁).of_eq e₂).unstack.trap
      next t₂ e₂ => exact ((hbody _ _ ht₁).of_eq e₂).unstack.stalled
      next t₂ e₂ =>
        have ht₂ : t₂.Canon := (hbody _ _ ht₁).of_eq e₂
        extract_lets t₃
        have ht₃ : t₃.Canon := ht₂.results.spend
        exact h.stalled.ite ((hafter _ ht₃.advance).boundary)

theorem State.Canon.runS {u : Use} {body : Ins → State → Body} {inSlot : Bool} {after : State → State} (h : s.Canon)
    (hbody : ∀ a t, t.Canon → (body a t).Canon) (hafter : ∀ t, t.Canon → (after t).Canon) :
    (s.runS d k opc len u cost body inSlot after).Canon := by
  unfold State.runS
  split
  · split
    next t e₁ => exact (h.fetch.of_eq e₁).trap
    next t e₁ =>
      have ht : t.Canon := h.fetch.of_eq e₁
      extract_lets c
      split
      · exact ht.trap
      · split
        · exact ht.trap
        · split
          · exact ht.trap
          · split
            next t₁ e₃ => exact (ht.fetch.of_eq e₃).trap
            next t₁ e₃ => exact (ht.fetch.of_eq e₃).stackBody (fun _ _ ht₂ => hbody _ _ ht₂) fun _ ht₂ => hafter _ ht₂
  · exact h

theorem State.Canon.pureS {u : Use} {f : Ins → List Word × List Bool × List Word} (h : s.Canon) :
    (s.pureS d k opc len u cost f).Canon :=
  h.runS (fun _ _ ht => ht) fun _ ht => ht

theorem State.Canon.resolveArgs {u : BaseWords} {a : List Arg} (h : s.Canon) :
    ∀ t ∈ (s.resolveArgs d k sz u a), t.2.2.Canon := by
  induction a generalizing s u with
  | nil =>
    rw [State.resolveArgs]
    exact forall_mem_some h
  | cons y a ih =>
    rw [State.resolveArgs]
    split
    · exact forall_mem_none
    · exact forall_mem_none
    next t e =>
      have ht : t.Canon := h.resolve.of_eq e
      split
      next t₁ e₁ =>
        have ht₁ : t₁.Canon := (ih ht) _ e₁
        exact forall_mem_some ht₁
      · exact forall_mem_none

theorem State.Canon.refusedArg {a' : List (Arg × Loc)} (h : s.Canon) : ∀ t ∈ (s.refusedArg d k a a'), t.2.2.Canon := by
  induction a' generalizing a with
  | nil =>
    rw [State.refusedArg]
    exact forall_mem_none
  | cons y a' ih =>
    rw [State.refusedArg]
    split
    next u e => exact forall_mem_some (h.locRefused _ e)
    · exact ih

theorem State.Canon.readArgs {a' : List (Arg × Loc)} (h : s.Canon) : (s.readArgs d k a a').Canon := by
  induction a' generalizing s a with
  | nil =>
    rw [State.readArgs]
    exact h
  | cons y a' ih =>
    rw [State.readArgs]
    split
    · split
      · exact h
      · exact ih h
    · split
      next t e => exact h.readLoc.of_eq e
      next t e => exact h.readLoc.of_eq e
      next t e =>
        have ht : t.Canon := h.readLoc.of_eq e
        split
        next t₁ e₁ =>
          have ht₁ : t₁.Canon := (ih ht).of_eq e₁
          exact ht₁
        · exact ih ht

theorem State.Canon.stopArgs {a' : List (Arg × Loc)} (h : s.Canon) : ∀ t ∈ s.stopArgs d k a a', t.Canon := by
  induction a' generalizing a with
  | nil =>
    rw [State.stopArgs]
    exact forall_mem_none
  | cons y a' ih =>
    rw [State.stopArgs]
    split
    · split
      · exact forall_mem_some h
      · exact ih
    · split
      next t e => exact forall_mem_some (h.readLoc.of_eq e)
      next t e => exact forall_mem_some (h.readLoc.of_eq e)
      · exact ih

theorem State.Canon.writeArgs {l : List (Arg × Loc)} {vs : List Nat} (h : s.Canon) : (s.writeArgs d k i l vs).Canon := by
  induction l generalizing s i vs with
  | nil => exact h
  | cons y l ih =>
    cases vs with
    | nil => exact h
    | cons v vs =>
      rw [State.writeArgs]
      split
      · have hw := h.writeLoc (d := d) (k := k) (n := y.1.n) (v := v) (l := y.2)
        split
        next e => exact hw.of_eq e
        next e => exact hw.of_eq e
        next e => exact ih (hw.of_eq e)
      · exact ih h

theorem State.Canon.putBase {u : BaseWords} (h : s.Canon) : (s.putBase d k u).Canon := h.each fun _ _ ht => ht.ramPut

theorem State.Canon.memBody {l : List (Arg × Loc)} {u : BaseWords} {slot : Option Br} {body : List Nat → State → MBody}
    {after : List Nat → State → State} (h : s.Canon) (hbody : ∀ a t, t.Canon → (body a t).Canon) (hafter : ∀ a t, t.Canon →
    (after a t).Canon) :
    (s.memBody d k opc len l u cost slot body after).Canon := by
  unfold State.memBody
  split
  next t e => exact (h.stopArgs _ e).trap
  next t e => exact (h.stopArgs _ e).stalled
  · exact h
  · split
    next t e₁ => exact (h.readArgs.of_eq e₁).trap
    next t e₁ => exact (h.readArgs.of_eq e₁).stalled
    next t e₁ =>
      have ht : t.Canon := h.readArgs.of_eq e₁
      split
      next t₁ e₂ => exact ((hbody _ _ ht).of_eq e₂).trap
      · exact h.stalled
      next t₁ e₂ =>
        have ht₁ : t₁.Canon := (hbody _ _ ht).of_eq e₂
        split
        next t₂ e₃ => exact (ht₁.writeArgs.of_eq e₃).setCore.trap
        · exact h.stalled
        next t₂ e₃ =>
          have ht₂ : t₂.Canon := ht₁.writeArgs.of_eq e₃
          extract_lets t₃
          have ht₃ : t₃.Canon := ht₂.putBase.spend
          exact h.stalled.ite ((hafter _ _ ht₃.advance).boundary)

theorem lowerSpec_canon {x y : Option (Nat × Nat × State)} (hx : ∀ t ∈ x, t.2.2.Canon) (hy : ∀ t ∈ y, t.2.2.Canon) :
    ∀ t ∈ lowerSpec x y, t.2.2.Canon := by
  cases x with
  | none => cases y <;> exact hy
  | some a =>
    cases y with
    | none => exact hx
    | some b =>
      simp only [lowerSpec]
      split
      · exact hy
      · exact hx

theorem State.Canon.memArgs {l : List Arg} {slot : Option Br} {early : Early} {body : List Nat → State → MBody}
    {after : List Nat → State → State} (h : s.Canon) (hearly : early.Canon) (hbody : ∀ vs t, t.Canon → (body vs t).Canon)
    (hafter : ∀ vs t, t.Canon → (after vs t).Canon) :
    (s.memArgs d k opc sz len l cost slot early body after).Canon := by
  unfold State.memArgs
  split
  · exact h.stalled
  next xs _ t e =>
    have ht : t.Canon := h.resolveArgs _ e
    extract_lets ax
    split
    next e => exact State.Canon.trap (lowerSpec_canon (forall_mem_map fun _ => ht) (hearly.1 xs t ht) _ e)
    · split
      next e => exact State.Canon.trap (lowerSpec_canon ht.refusedArg (hearly.2 xs t ht) _ e)
      · exact ht.memBody hbody hafter

theorem State.Canon.runM {l : List Arg} {go : Option Br → State → State} {bad : Nat → Arg → Option Nat}
    {slotCause : Option Nat} (h : s.Canon) (hgo : ∀ a t, t.Canon → (go a t).Canon) :
    (s.runM d k op sz l go bad slotCause).Canon := by
  unfold State.runM
  extract_lets opc len
  split
  · split
    next t e₁ => exact (h.fetch.of_eq e₁).trap
    next t e₁ =>
      have ht : t.Canon := h.fetch.of_eq e₁
      split
      · exact ht.trap
      · split
        · exact ht.trap
        · split
          · exact ht.trap
          · split
            next t₁ e₄ => exact (ht.fetch.of_eq e₄).trap
            next t₁ e₄ => exact hgo _ _ (ht.fetch.of_eq e₄)
  · exact h

theorem State.Canon.opM {l : List Arg} {body : List Nat → State → MBody} {slotCause : Option Nat}
    {after : List Nat → State → State} {early : Early} (h : s.Canon) (hbody : ∀ a t, t.Canon → (body a t).Canon)
    (hafter : ∀ a t, t.Canon → (after a t).Canon) (hearly : early.Canon) :
    (s.opM d k op sz l cost body slotCause after early).Canon :=
  h.runM fun _ _ ht => ht.memArgs hearly (fun _ _ ht₁ => hbody _ _ ht₁) fun _ _ ht₁ => hafter _ _ ht₁

/-! ### Bit instructions (`Machine/BitForm.lean`) -/

theorem State.Canon.bitRun {rn rp : Nat} {f : Nat → Nat → Bool → State → Body} (h : s.Canon) (hf : ∀ a a₁ a₂ t, t.Canon →
    (f a a₁ a₂ t).Canon) :
    (s.bitRun d k op w off rn rp cost f).Canon :=
  h.runS (fun _ _ ht => hf _ _ _ _ ht) fun _ ht => ht

theorem State.Canon.bitLogic {f : Bool → Bool → Bool} (h : s.Canon) : (s.bitLogic d k op w off f).Canon :=
  h.bitRun fun _ _ _ _ ht => ht.coreLoad.body fun _ _ ht₁ => ht₁

theorem State.Canon.bitCoil {f : Bool → Bool} (h : s.Canon) : (s.bitCoil d k op w off f).Canon :=
  h.bitRun fun _ _ _ _ ht => ht.coreBit.body fun _ _ ht₁ => ht₁

theorem State.Canon.bitLatch {v : Bool} (h : s.Canon) : (s.bitLatch d k op w off v).Canon := by
  unfold State.bitLatch
  refine h.bitRun fun _ _ _ _ ht => ?_
  split
  · exact ht.coreBit.body fun _ _ ht₁ => ht₁
  · split
    · exact ht.refuse
    · exact ht

theorem State.Canon.bitEdge {f : Bool → Bool → Bool} (h : s.Canon) : (s.bitEdge d k op w off f).Canon :=
  h.bitRun fun _ _ _ _ ht => ht.coreRmw.body fun _ _ ht₁ => ht₁

theorem execBld_canon (h : s.Canon) : CanonOutcome (execBld d k w off s) :=
  h.bitRun fun _ _ _ _ ht => ht.coreLoad.body fun _ _ ht₁ => ht₁

theorem execBldn_canon (h : s.Canon) : CanonOutcome (execBldn d k w off s) :=
  h.bitRun fun _ _ _ _ ht => ht.coreLoad.body fun _ _ ht₁ => ht₁

theorem execBand_canon (h : s.Canon) : CanonOutcome (execBand d k w off s) := h.bitLogic

theorem execBandn_canon (h : s.Canon) : CanonOutcome (execBandn d k w off s) := h.bitLogic

theorem execBor_canon (h : s.Canon) : CanonOutcome (execBor d k w off s) := h.bitLogic

theorem execBorn_canon (h : s.Canon) : CanonOutcome (execBorn d k w off s) := h.bitLogic

theorem execBst_canon (h : s.Canon) : CanonOutcome (execBst d k w off s) := h.bitCoil

theorem execBstn_canon (h : s.Canon) : CanonOutcome (execBstn d k w off s) := h.bitCoil

theorem execBset_canon (h : s.Canon) : CanonOutcome (execBset d k w off s) := h.bitLatch

theorem execBclr_canon (h : s.Canon) : CanonOutcome (execBclr d k w off s) := h.bitLatch

theorem execRise_canon (h : s.Canon) : CanonOutcome (execRise d k w off s) := h.bitEdge

theorem execFall_canon (h : s.Canon) : CanonOutcome (execFall d k w off s) := h.bitEdge

theorem State.Canon.rungOp {rn rp : Nat} {f : Bool → Bool → List Bool} (h : s.Canon) : (s.rungOp d k n rn rp f).Canon := h.pureS

theorem execRAnd_canon (h : s.Canon) : CanonOutcome (execRAnd d k s) := h.rungOp

theorem execROr_canon (h : s.Canon) : CanonOutcome (execROr d k s) := h.rungOp

theorem execRXor_canon (h : s.Canon) : CanonOutcome (execRXor d k s) := h.rungOp

theorem execRAndn_canon (h : s.Canon) : CanonOutcome (execRAndn d k s) := h.rungOp

theorem execROrn_canon (h : s.Canon) : CanonOutcome (execROrn d k s) := h.rungOp

theorem execRNot_canon (h : s.Canon) : CanonOutcome (execRNot d k s) := h.rungOp

theorem execRDup_canon (h : s.Canon) : CanonOutcome (execRDup d k s) := h.rungOp

theorem execRDrop_canon (h : s.Canon) : CanonOutcome (execRDrop d k s) := h.rungOp

theorem execRSwap_canon (h : s.Canon) : CanonOutcome (execRSwap d k s) := h.rungOp

theorem execROne_canon (h : s.Canon) : CanonOutcome (execROne d k s) := h.rungOp

theorem execRZero_canon (h : s.Canon) : CanonOutcome (execRZero d k s) := h.rungOp

theorem execRTod_canon (h : s.Canon) : CanonOutcome (execRTod d k s) := h.pureS

theorem execRFromd_canon (h : s.Canon) : CanonOutcome (execRFromd d k s) := h.pureS

theorem execRDepth_canon (h : s.Canon) : CanonOutcome (execRDepth d k s) := h.runS (fun _ _ ht => ht) fun _ ht => ht

theorem execRClr_canon (h : s.Canon) : CanonOutcome (execRClr d k s) := h.pureS

/-! ### Access instructions (`Machine/AccessForm.lean`) -/

theorem State.Canon.dRun {u : Use} {f : Nat → Word → State → Body} (h : s.Canon) (hf : ∀ a a₁ t, t.Canon → (f a a₁ t).Canon) :
    (s.dRun d k n w disp u cost f).Canon :=
  h.runS (fun _ _ ht => hf _ _ _ ht) fun _ ht => ht

theorem State.Canon.dLoad {f : Nat → Word} (h : s.Canon) : (s.dLoad d k op w disp n f).Canon := by
  unfold State.dLoad
  refine h.dRun fun _ _ _ ht => ?_
  extract_lets a
  split
  · exact ht
  · exact ht.coreLoad.body fun _ _ ht₁ => ht₁

theorem State.Canon.dStore (h : s.Canon) : (s.dStore d k op w disp n).Canon := by
  unfold State.dStore
  refine h.dRun fun _ _ _ ht => ?_
  extract_lets a
  split
  · exact ht
  · exact ht.coreStore.body fun _ _ ht₁ => ht₁

theorem State.Canon.dSwap {f : Word → Word → Word} (h : s.Canon) : (s.dSwap d k op w disp f).Canon := by
  unfold State.dSwap
  refine h.dRun fun _ _ _ ht => ?_
  extract_lets a
  split
  · exact ht
  · exact ht.coreRmw.body fun _ _ ht₁ => ht₁

theorem execLddB_canon (h : s.Canon) : CanonOutcome (execLddB d k w disp s) := h.dLoad

theorem execLddBu_canon (h : s.Canon) : CanonOutcome (execLddBu d k w disp s) := h.dLoad

theorem execLddH_canon (h : s.Canon) : CanonOutcome (execLddH d k w disp s) := h.dLoad

theorem execLddHu_canon (h : s.Canon) : CanonOutcome (execLddHu d k w disp s) := h.dLoad

theorem execLddW_canon (h : s.Canon) : CanonOutcome (execLddW d k w disp s) := h.dLoad

theorem execLddT_canon (h : s.Canon) : CanonOutcome (execLddT d k w disp s) :=
  h.dRun fun _ _ _ ht => ht.coreLoad.body fun _ _ ht₁ => ht₁

theorem execStdB_canon (h : s.Canon) : CanonOutcome (execStdB d k w disp s) := h.dStore

theorem execStdH_canon (h : s.Canon) : CanonOutcome (execStdH d k w disp s) := h.dStore

theorem execStdW_canon (h : s.Canon) : CanonOutcome (execStdW d k w disp s) := h.dStore

theorem execStdT_canon (h : s.Canon) : CanonOutcome (execStdT d k w disp s) :=
  h.dRun fun _ _ _ ht => ht.coreBit.body fun _ _ ht₁ => ht₁

theorem execXchdW_canon (h : s.Canon) : CanonOutcome (execXchdW d k w disp s) := h.dSwap

theorem execAdddW_canon (h : s.Canon) : CanonOutcome (execAdddW d k w disp s) := h.dSwap

theorem State.Canon.inBody (h : s.Canon) : (s.inBody d k a).Canon := by
  unfold State.inBody
  split
  · exact h
  · exact h.coreIn.body fun _ _ ht => ht

theorem State.Canon.outBody {v : Word} (h : s.Canon) : (s.outBody d k a v).Canon := by
  unfold State.outBody
  split
  · exact h
  · exact h.coreOut.body fun _ _ ht => ht

theorem execInI_canon (h : s.Canon) : CanonOutcome (execInI d k s) := h.runS (fun _ _ ht => ht.inBody) fun _ ht => ht

theorem execOut_canon (h : s.Canon) : CanonOutcome (execOut d k s) := h.runS (fun _ _ ht => ht.outBody) fun _ ht => ht

theorem execInD_canon {b disp : Nat} (h : s.Canon) : CanonOutcome (execInD d k b disp s) :=
  h.runS (fun _ _ ht => ht.inBody) fun _ ht => ht

theorem execOutD_canon {b disp : Nat} (h : s.Canon) : CanonOutcome (execOutD d k b disp s) :=
  h.runS (fun _ _ ht => ht.outBody) fun _ ht => ht

/-! ### Flow instructions (`Machine/FlowForm.lean`) -/

theorem State.Canon.branchS {short : Bool} {disp : Nat} {u : Use} {f : Ins → Bool} (h : s.Canon) :
    (s.branchS d k n short disp u f).Canon :=
  h.runS (fun _ _ ht => ht.setBranch) fun _ ht => ht

theorem State.Canon.jumpS {u : Use} {tgt : Ins → Core → Nat} (h : s.Canon) : (s.jumpS d k opc len u tgt).Canon :=
  h.runS (fun _ _ ht => ht.setBranch) fun _ ht => ht

theorem State.Canon.callS {dn : Nat} {tgt : Ins → Core → Nat} (h : s.Canon) : (s.callS d k opc len dn tgt).Canon :=
  h.runS (fun _ _ ht => ht.setBranch) fun _ ht => ht

theorem execBEq_canon {short : Bool} {disp : Nat} (h : s.Canon) : CanonOutcome (execBEq d k short disp s) := h.branchS

theorem execBNe_canon {short : Bool} {disp : Nat} (h : s.Canon) : CanonOutcome (execBNe d k short disp s) := h.branchS

theorem execBLt_canon {short : Bool} {disp : Nat} (h : s.Canon) : CanonOutcome (execBLt d k short disp s) := h.branchS

theorem execBGe_canon {short : Bool} {disp : Nat} (h : s.Canon) : CanonOutcome (execBGe d k short disp s) := h.branchS

theorem execBLtu_canon {short : Bool} {disp : Nat} (h : s.Canon) : CanonOutcome (execBLtu d k short disp s) := h.branchS

theorem execBGeu_canon {short : Bool} {disp : Nat} (h : s.Canon) : CanonOutcome (execBGeu d k short disp s) := h.branchS

theorem execBRz_canon {short : Bool} {disp : Nat} (h : s.Canon) : CanonOutcome (execBRz d k short disp s) := h.branchS

theorem execBRnz_canon {short : Bool} {disp : Nat} (h : s.Canon) : CanonOutcome (execBRnz d k short disp s) := h.branchS

theorem execJmp_canon {disp : Nat} (h : s.Canon) : CanonOutcome (execJmp d k disp s) := h.jumpS

theorem execJmpl_canon (h : s.Canon) : CanonOutcome (execJmpl d k a s) := h.jumpS

theorem execJmpi_canon (h : s.Canon) : CanonOutcome (execJmpi d k s) := h.jumpS

theorem execCall_canon {disp : Nat} (h : s.Canon) : CanonOutcome (execCall d k disp s) := h.callS

theorem execCalll_canon (h : s.Canon) : CanonOutcome (execCalll d k a s) := h.callS

theorem execCalli_canon (h : s.Canon) : CanonOutcome (execCalli d k s) := h.callS

theorem State.Canon.retBody {a : Word} (h : s.Canon) : (s.retBody d k a).Canon := by
  unfold State.retBody
  extract_lets c
  split
  · split
    · exact h
    · exact h.setCore
  · exact h.setBranch

theorem execRet_canon (h : s.Canon) : CanonOutcome (execRet d k s) := h.runS (fun _ _ ht => ht.retBody) fun _ ht => ht

theorem State.Canon.schedS {after : State → State} (h : s.Canon) (hafter : ∀ t, t.Canon → (after t).Canon) :
    (s.schedS d k opc after).Canon := by
  unfold State.schedS
  refine h.runS (fun _ _ ht => ?_) fun _ ht => hafter _ ht
  split <;> exact ht

theorem execYield_canon (h : s.Canon) : CanonOutcome (execYield d k s) := h.schedS fun _ ht => ht.yield

theorem execTaskend_canon (h : s.Canon) : CanonOutcome (execTaskend d k s) := h.schedS fun _ ht => ht.taskEnd

theorem execNop_canon (h : s.Canon) : CanonOutcome (execNop d k s) := h.pureS

theorem State.Canon.fenceBody (h : s.Canon) : (s.fenceBody d k).Canon := by
  unfold State.fenceBody
  split <;> exact h

theorem State.Canon.maskInts (h : s.Canon) : (s.maskInts d k).Canon := h.setCore

theorem State.Canon.unmaskInts (h : s.Canon) : (s.unmaskInts d k).Canon := h.setCore

theorem State.Canon.cycles (h : s.Canon) : (s.cycles d k).2.Canon := by
  unfold State.cycles
  split
  next t e => exact (h.freeNat.of_eq e).setCore

theorem execFence_canon (h : s.Canon) : CanonOutcome (execFence d k s) := h.runS (fun _ _ ht => ht.fenceBody) fun _ ht => ht

theorem execBrk_canon (h : s.Canon) : CanonOutcome (execBrk d k s) := h.runS (fun _ _ ht => ht) fun _ ht => ht

theorem execRdtb_canon (h : s.Canon) : CanonOutcome (execRdtb d k s) := h.runS (fun _ _ ht => ht) fun _ ht => ht

theorem execRdcyc_canon (h : s.Canon) : CanonOutcome (execRdcyc d k s) := h.runS (fun _ _ ht => ht.cycles) fun _ ht => ht

theorem execDi_canon (h : s.Canon) : CanonOutcome (execDi d k s) := h.runS (fun _ _ ht => ht.maskInts) fun _ ht => ht

theorem execEi_canon (h : s.Canon) : CanonOutcome (execEi d k s) := h.runS (fun _ _ ht => ht.unmaskInts) fun _ ht => ht

theorem State.Canon.crRun {u : Use} {body : Ins → State → Body} (h : s.Canon) (hbody : ∀ a t, t.Canon → (body a t).Canon) :
    (s.crRun d k opc n u body).Canon := by
  unfold State.crRun
  split
  · exact h.runS (fun _ _ ht => hbody _ _ ht) fun _ ht => ht
  · exact h.runS (fun _ _ ht => ht) fun _ ht => ht

theorem execRdcr_canon (h : s.Canon) : CanonOutcome (execRdcr d k n s) := h.crRun fun _ _ ht => ht

theorem execWrcr_canon (h : s.Canon) : CanonOutcome (execWrcr d k n s) := h.crRun fun _ _ ht => ht.setCore

/-! ### Word instructions (`Machine/WordForm.lean`) -/

theorem State.Canon.dataOp {dn dp : Nat} {f : Ins → List Word} (h : s.Canon) : (s.dataOp d k n dn dp cost f).Canon := h.pureS

theorem State.Canon.unary {f : Word → Word} (h : s.Canon) : (s.unary d k n f).Canon := h.dataOp

theorem State.Canon.binary {f : Word → Word → Word} (h : s.Canon) : (s.binary d k n cost f).Canon := h.dataOp

theorem State.Canon.noteDiv {b : Word} (h : s.Canon) : (s.noteDiv d k b).Canon := h.setCore.ite h

theorem State.Canon.divide {f : Word → Word → Word} (h : s.Canon) : (s.divide d k n f).Canon :=
  h.runS (fun _ _ ht => ht.noteDiv) fun _ ht => ht

theorem State.Canon.compare (h : s.Canon) : (s.compare d k n c).Canon := h.pureS

theorem execDup_canon (h : s.Canon) : CanonOutcome (execDup d k s) := h.dataOp

theorem execDrop_canon (h : s.Canon) : CanonOutcome (execDrop d k s) := h.dataOp

theorem execSwap_canon (h : s.Canon) : CanonOutcome (execSwap d k s) := h.dataOp

theorem execOver_canon (h : s.Canon) : CanonOutcome (execOver d k s) := h.dataOp

theorem execRot_canon (h : s.Canon) : CanonOutcome (execRot d k s) := h.dataOp

theorem execNip_canon (h : s.Canon) : CanonOutcome (execNip d k s) := h.dataOp

theorem execTuck_canon (h : s.Canon) : CanonOutcome (execTuck d k s) := h.dataOp

theorem execDepth_canon (h : s.Canon) : CanonOutcome (execDepth d k s) := h.runS (fun _ _ ht => ht) fun _ ht => ht

theorem execPick_canon (h : s.Canon) : CanonOutcome (execPick d k n s) := h.dataOp

theorem execTor_canon (h : s.Canon) : CanonOutcome (execTor d k s) := h.pureS

theorem execFromr_canon (h : s.Canon) : CanonOutcome (execFromr d k s) := h.pureS

theorem execRfetch_canon (h : s.Canon) : CanonOutcome (execRfetch d k s) := h.pureS

theorem execAdd_canon (h : s.Canon) : CanonOutcome (execAdd d k s) := h.binary

theorem execSub_canon (h : s.Canon) : CanonOutcome (execSub d k s) := h.binary

theorem execAdds_canon (h : s.Canon) : CanonOutcome (execAdds d k s) := h.binary

theorem execSubs_canon (h : s.Canon) : CanonOutcome (execSubs d k s) := h.binary

theorem execNeg_canon (h : s.Canon) : CanonOutcome (execNeg d k s) := h.unary

theorem execAbs_canon (h : s.Canon) : CanonOutcome (execAbs d k s) := h.unary

theorem execMin_canon (h : s.Canon) : CanonOutcome (execMin d k s) := h.binary

theorem execMax_canon (h : s.Canon) : CanonOutcome (execMax d k s) := h.binary

theorem execMinu_canon (h : s.Canon) : CanonOutcome (execMinu d k s) := h.binary

theorem execMaxu_canon (h : s.Canon) : CanonOutcome (execMaxu d k s) := h.binary

theorem execInc_canon (h : s.Canon) : CanonOutcome (execInc d k s) := h.unary

theorem execDec_canon (h : s.Canon) : CanonOutcome (execDec d k s) := h.unary

theorem execMul_canon (h : s.Canon) : CanonOutcome (execMul d k s) := h.binary

theorem execMulh_canon (h : s.Canon) : CanonOutcome (execMulh d k s) := h.binary

theorem execMulhu_canon (h : s.Canon) : CanonOutcome (execMulhu d k s) := h.binary

theorem execDiv_canon (h : s.Canon) : CanonOutcome (execDiv d k s) := h.divide

theorem execDivu_canon (h : s.Canon) : CanonOutcome (execDivu d k s) := h.divide

theorem execRem_canon (h : s.Canon) : CanonOutcome (execRem d k s) := h.divide

theorem execRemu_canon (h : s.Canon) : CanonOutcome (execRemu d k s) := h.divide

theorem execAndI_canon (h : s.Canon) : CanonOutcome (execAndI d k s) := h.binary

theorem execOrI_canon (h : s.Canon) : CanonOutcome (execOrI d k s) := h.binary

theorem execXor_canon (h : s.Canon) : CanonOutcome (execXor d k s) := h.binary

theorem execNotI_canon (h : s.Canon) : CanonOutcome (execNotI d k s) := h.unary

theorem execAndn_canon (h : s.Canon) : CanonOutcome (execAndn d k s) := h.binary

theorem execShl_canon (h : s.Canon) : CanonOutcome (execShl d k s) := h.binary

theorem execShr_canon (h : s.Canon) : CanonOutcome (execShr d k s) := h.binary

theorem execSar_canon (h : s.Canon) : CanonOutcome (execSar d k s) := h.binary

theorem execRol_canon (h : s.Canon) : CanonOutcome (execRol d k s) := h.binary

theorem execRor_canon (h : s.Canon) : CanonOutcome (execRor d k s) := h.binary

theorem execBfx_canon (h : s.Canon) : CanonOutcome (execBfx d k s) := h.dataOp

theorem execBfi_canon (h : s.Canon) : CanonOutcome (execBfi d k s) := h.dataOp

theorem execClz_canon (h : s.Canon) : CanonOutcome (execClz d k s) := h.unary

theorem execPopc_canon (h : s.Canon) : CanonOutcome (execPopc d k s) := h.unary

theorem execSexb_canon (h : s.Canon) : CanonOutcome (execSexb d k s) := h.unary

theorem execSexh_canon (h : s.Canon) : CanonOutcome (execSexh d k s) := h.unary

theorem execZexb_canon (h : s.Canon) : CanonOutcome (execZexb d k s) := h.unary

theorem execZexh_canon (h : s.Canon) : CanonOutcome (execZexh d k s) := h.unary

theorem execCeq_canon (h : s.Canon) : CanonOutcome (execCeq d k s) := h.compare

theorem execCne_canon (h : s.Canon) : CanonOutcome (execCne d k s) := h.compare

theorem execClt_canon (h : s.Canon) : CanonOutcome (execClt d k s) := h.compare

theorem execCge_canon (h : s.Canon) : CanonOutcome (execCge d k s) := h.compare

theorem execCltu_canon (h : s.Canon) : CanonOutcome (execCltu d k s) := h.compare

theorem execCgeu_canon (h : s.Canon) : CanonOutcome (execCgeu d k s) := h.compare

theorem execSel_canon (h : s.Canon) : CanonOutcome (execSel d k s) := h.pureS

theorem State.Canon.literal {v : Word} (h : s.Canon) : (s.literal d k opc len v).Canon := h.pureS

theorem execLit11_canon (h : s.Canon) : CanonOutcome (execLit11 d k v s) := h.literal

theorem execLit16s_canon (h : s.Canon) : CanonOutcome (execLit16s d k v s) := h.literal

theorem execLit16u_canon (h : s.Canon) : CanonOutcome (execLit16u d k v s) := h.literal

theorem execLit32_canon (h : s.Canon) : CanonOutcome (execLit32 d k v s) := h.literal

theorem execLita_canon (h : s.Canon) : CanonOutcome (execLita d k v s) := h.literal

/-! ### Memory instructions (`Machine/MemForm.lean`) -/

theorem State.Canon.memOp {a b : Opd} {f : Word → Word → Word} (h : s.Canon) : (s.memOp d k op sz a b x cost f).Canon :=
  h.opM (fun _ _ ht => ht) (fun _ _ ht => ht) Early.Canon.none

theorem State.Canon.memDiv {a b : Opd} {f : Word → Word → Word} (h : s.Canon) : (s.memDiv d k op sz a b x f).Canon :=
  h.opM (fun _ _ ht => ht.noteDiv) (fun _ _ ht => ht) Early.Canon.none

theorem execMov_canon {a : Opd} (h : s.Canon) : CanonOutcome (execMov d k sz a x s) :=
  h.opM (fun _ _ ht => ht) (fun _ _ ht => ht) Early.Canon.none

theorem execAddM_canon {a b : Opd} (h : s.Canon) : CanonOutcome (execAddM d k sz a b x s) := h.memOp

theorem execSubM_canon {a b : Opd} (h : s.Canon) : CanonOutcome (execSubM d k sz a b x s) := h.memOp

theorem execAndM_canon {a b : Opd} (h : s.Canon) : CanonOutcome (execAndM d k sz a b x s) := h.memOp

theorem execOrM_canon {a b : Opd} (h : s.Canon) : CanonOutcome (execOrM d k sz a b x s) := h.memOp

theorem execXorM_canon {a b : Opd} (h : s.Canon) : CanonOutcome (execXorM d k sz a b x s) := h.memOp

theorem execAndnM_canon {a b : Opd} (h : s.Canon) : CanonOutcome (execAndnM d k sz a b x s) := h.memOp

theorem execShlM_canon {a n : Opd} (h : s.Canon) : CanonOutcome (execShlM d k sz a n x s) := h.memOp

theorem execShrM_canon {a n : Opd} (h : s.Canon) : CanonOutcome (execShrM d k sz a n x s) := h.memOp

theorem execSarM_canon {a n : Opd} (h : s.Canon) : CanonOutcome (execSarM d k sz a n x s) := h.memOp

theorem execMulM_canon {a b : Opd} (h : s.Canon) : CanonOutcome (execMulM d k sz a b x s) := h.memOp

theorem execDivuM_canon {a b : Opd} (h : s.Canon) : CanonOutcome (execDivuM d k sz a b x s) := h.memDiv

theorem execRemuM_canon {a b : Opd} (h : s.Canon) : CanonOutcome (execRemuM d k sz a b x s) := h.memDiv

theorem execBCc_canon {a b disp : Opd} (h : s.Canon) : CanonOutcome (execBCc d k c sz a b disp s) :=
  h.opM (fun _ _ ht => ht.setBranch) (fun _ _ ht => ht) Early.Canon.none

theorem execJalM_canon {tgt link : Opd} (h : s.Canon) : CanonOutcome (execJalM d k sz tgt link s) :=
  h.opM (fun _ _ ht => ht.setBranch) (fun _ _ ht => ht) Early.Canon.none

theorem State.Canon.iRefused {ia : Nat} {write : Bool} (h : s.Canon) : (s.iRefused d k ia n code write).Canon := h.refuse

theorem earlyI_canon {write : Bool} {refused : State → Nat → Option Nat} : (earlyI d k sz i write refused).Canon := by
  refine ⟨fun l t ht u hu => ?_, fun l t ht u hu => ?_⟩
  · obtain ⟨a, _, hu⟩ := Option.bind_eq_some_iff.1 hu
    split at hu
    · cases hu
      exact ht
    · cases hu
  · obtain ⟨a, _, hu⟩ := Option.bind_eq_some_iff.1 hu
    obtain ⟨c, _, rfl⟩ := Option.map_eq_some_iff.1 hu
    exact ht.iRefused

theorem execIload_canon {ia : Opd} (h : s.Canon) : CanonOutcome (execIload d k sz ia x s) := by
  unfold execIload
  show State.Canon _
  refine h.opM (fun _ _ ht => ?_) (fun _ _ ht => ht) earlyI_canon
  extract_lets a
  split
  next t e => exact (ht.iBytes.of_eq e).spend
  next t e => exact ht.iBytes.of_eq e

theorem State.Canon.istoreBody (h : s.Canon) : (s.istoreBody d k sz a v).Canon := by
  unfold State.istoreBody
  split
  · exact h.iRefused
  · split
    next t e₁ => exact h.iStore.of_eq e₁
    next t e₁ => exact h.iStore.of_eq e₁

theorem execIstore_canon {a ia : Opd} (h : s.Canon) : CanonOutcome (execIstore d k sz a ia s) :=
  h.opM (fun _ _ ht => ht.istoreBody) (fun _ _ ht => ht) earlyI_canon

theorem State.Canon.enterStack {tgt : Nat} (h : s.Canon) : (s.enterStack d k tgt).Canon := h.setCore

theorem State.Canon.pushReturn (h : s.Canon) : (s.pushReturn d k).Canon := h.setCore

theorem execEnterS_canon {tgt : Opd} (h : s.Canon) : CanonOutcome (execEnterS d k sz tgt s) :=
  h.opM (fun _ _ ht => ht) (fun _ _ ht => ht.enterStack) Early.Canon.none

theorem execEnterSc_canon {tgt : Opd} (h : s.Canon) : CanonOutcome (execEnterSc d k sz tgt s) := by
  unfold execEnterSc
  show State.Canon _
  refine h.opM (fun _ _ ht => ?_) (fun _ _ ht => ht.pushReturn.enterStack) Early.Canon.none
  split <;> exact ht

theorem State.Canon.topFrame (h : s.Canon) : (s.topFrame d k).2.Canon := h.readBytes

theorem State.Canon.resume {info reta iaddr btgt : Nat} (h : s.Canon) : (s.resume d k info reta iaddr btgt).Canon :=
  (h.setCore.ite (h.formReturn.ite h.setCore)).ite h.setCore

theorem State.Canon.returnFrame {stack : Bool} (h : s.Canon) : (s.returnFrame d k stack).Canon := by
  unfold State.returnFrame
  split
  next s₁ e => exact h.topFrame.of_eq e
  next s₁ e => exact (h.topFrame.of_eq e).setCore.resume.wr

theorem State.Canon.returnBody {stack : Bool} (h : s.Canon) : (s.returnBody d k stack).Canon := by
  unfold State.returnBody
  split
  · exact h
  · split
    · exact h
    · split
      next s₁ e => exact h.topFrame.of_eq e
      next s₁ e =>
        have hs₁ : s₁.Canon := h.topFrame.of_eq e
        split <;> exact hs₁

theorem execRetS_canon (h : s.Canon) : CanonOutcome (execRetS d k s) :=
  h.opM (fun _ _ ht => ht.returnBody) (fun _ _ ht => ht.returnFrame) Early.Canon.none

theorem execRetM_canon (h : s.Canon) : CanonOutcome (execRetM d k s) :=
  h.opM (fun _ _ ht => ht.returnBody) (fun _ _ ht => ht.returnFrame) Early.Canon.none

theorem execDiM_canon (h : s.Canon) : CanonOutcome (execDiM d k s) :=
  h.opM (fun _ _ ht => ht.maskInts) (fun _ _ ht => ht) Early.Canon.none

theorem execEiM_canon (h : s.Canon) : CanonOutcome (execEiM d k s) :=
  h.opM (fun _ _ ht => ht.unmaskInts) (fun _ _ ht => ht) Early.Canon.none

theorem execFenceM_canon (h : s.Canon) : CanonOutcome (execFenceM d k s) := by
  unfold execFenceM
  show State.Canon _
  refine h.opM (fun _ _ ht => ?_) (fun _ _ ht => ht) Early.Canon.none
  split <;> exact ht

theorem execBrkM_canon (h : s.Canon) : CanonOutcome (execBrkM d k s) :=
  h.opM (fun _ _ ht => ht) (fun _ _ ht => ht) Early.Canon.none

/-! ### Block instructions (`Machine/BlockForm.lean`) -/

theorem State.Canon.pointerTrap {ax : List (Nat × Arg × Loc)} (h : s.Canon) : ∀ t ∈ s.pointerTrap d k ax, t.2.2.Canon := by
  intro t ht
  rcases Option.or_eq_some_iff.1 ht with hm | ⟨_, hr⟩
  · obtain ⟨e, _, he⟩ := List.exists_of_findSome?_eq_some hm
    obtain ⟨c, _, rfl⟩ := Option.map_eq_some_iff.1 he
    exact h
  · obtain ⟨e, _, he⟩ := List.exists_of_findSome?_eq_some hr
    obtain ⟨c, hc, rfl⟩ := Option.map_eq_some_iff.1 he
    exact h.locRefused c hc

theorem State.Canon.inPlace {ws : List (Nat × Nat)} (h : s.Canon) : (s.inPlace d k ws).Canon := h.each fun _ _ ht => ht.ramPut

theorem State.Canon.element {ptrs : List Arg} {lc count : Nat} {vals : List Nat → List Nat} {found : List Nat → Bool}
    {upd : List Nat → State → Got (List (Nat × Nat))} (h : s.Canon) (hupd : ∀ a t, t.Canon → (upd a t).Canon) :
    (s.element d k n i ptrs lc count vals found upd).Canon := by
  unfold State.element
  split
  · exact h
  next t e =>
    have ht : t.Canon := h.resolveArgs _ e
    extract_lets ax
    split
    next t₁ e₁ => exact ht.pointerTrap _ e₁
    · split
      next t₁ e₂ => exact ht.stopArgs _ e₂
      next t₁ e₂ => exact ht.stopArgs _ e₂
      · exact h
      · split
        next t₁ e₃ => exact ht.readArgs.of_eq e₃
        · exact h
        next t₁ e₃ =>
          have ht₁ : t₁.Canon := ht.readArgs.of_eq e₃
          split
          · exact ht₁
          · split
            next t₂ e₄ => exact (hupd _ _ ht₁).of_eq e₄
            · exact h
            next t₂ e₄ =>
              have ht₂ : t₂.Canon := (hupd _ _ ht₁).of_eq e₄
              split
              next t₃ e₅ => exact ht₂.writeArgs.of_eq e₅
              · exact h
              next t₃ e₅ =>
                have ht₃ : t₃.Canon := ht₂.writeArgs.of_eq e₅
                extract_lets t₄
                have ht₄ : t₄.Canon := ht₃.putBase.inPlace
                split
                · exact h
                · exact ht₄

theorem State.Canon.elements {lc : Nat} {elem : Nat → State → Elem} (h : s.Canon) (helem : ∀ a₁ t, t.Canon →
    (elem a₁ t).Canon) :
    (s.elements d k lc cost elem a).Canon := by
  induction a generalizing s with
  | zero =>
    rw [State.elements]
    split
    next t e => exact h.localWord.of_eq e
    next t e => exact h.localWord.of_eq e
    · exact h
  | succ a ih =>
    rw [State.elements]
    split
    next t e => exact h.localWord.of_eq e
    next t e => exact h.localWord.of_eq e
    next t e => exact h.localWord.of_eq e
    next t _ e =>
      have ht : t.Canon := h.localWord.of_eq e
      split
      next t₁ e₁ => exact ih ((helem _ _ ht).of_eq e₁).spend
      · exact helem _ _ ht

theorem Elem.Canon.finish {e : Elem} (h : e.Canon) : (Elem.finish e d k opc len).Canon := by
  unfold Elem.finish
  split
  · exact h.setCore.boundary
  · exact h.setCore.boundary
  · exact h.setCore
  · exact h.advance.boundary
  · exact h.trap

theorem State.Canon.blockStart (h : s.Canon) : (s.blockStart d k len).Canon := h.setCore

theorem State.Canon.countIsZero {l : List (Nat × Arg × Loc)} (h : s.Canon) : ∀ t ∈ s.countIsZero d k l, t.Canon := by
  unfold State.countIsZero
  split
  · split
    · exact forall_mem_none
    · split
      next t e₁ => exact forall_mem_some (h.localWord.of_eq e₁)
      · exact forall_mem_none
  · exact forall_mem_none

theorem State.Canon.blockM {l : List Arg} {upto : Option Nat} {run : Nat → State → Except (Nat × State) (State ×
    (Nat → State → Elem))} (h : s.Canon) (hrun : ∀ n t, t.Canon → BlockCanon (run n t)) :
    (s.blockM d k op sz l cost upto run).Canon := by
  unfold State.blockM
  extract_lets opc len
  refine h.runM fun _ t ht => ?_
  split
  · exact ht.stalled
  · extract_lets fixed lc t'
    have ht' : t'.Canon := ht.blockStart
    split
    next e => exact (ht.countIsZero _ e).blockStart.advance.boundary
    split
    next u e => exact (ht.pointerTrap _ e).trap
    split
    · exact ht.trap
    have hw := ht'.localWord (d := d) (k := k) (a := lc)
    split
    next u e =>
      have hu : u.Canon := hw.of_eq e
      have hb := hrun lc u hu
      split
      next e => exact (hb.of_error e).trap
      next e => exact ((hb.of_ok e).1.elements (hb.of_ok e).2).finish
    next e => exact State.Canon.trap (hw.of_eq e)
    next e => exact State.Canon.stalled (hw.of_eq e)

theorem execMovblk_canon {p q c : Opd} {upto : Option Nat} (h : s.Canon) : CanonOutcome (execMovblk d k sz p q c upto s) := by
  refine h.blockM fun _ _ ht => ⟨ht, fun _ _ hu => ?_⟩
  dsimp only
  exact hu.element fun _ _ hv => hv

theorem State.Canon.fillValue {v : Opd} (h : s.Canon) : (s.fillValue d k sz v).Canon := by
  unfold State.fillValue
  split
  next t e => exact (h.resolve.of_eq e).readLoc
  next t e => exact h.resolve.of_eq e
  next t e => exact h.resolve.of_eq e

theorem execFillblk_canon {v q c : Opd} {upto : Option Nat} (h : s.Canon) : CanonOutcome (execFillblk d k sz v q c upto s) := by
  refine h.blockM fun _ t ht => ?_
  have hv := ht.fillValue (d := d) (k := k) (sz := sz) (v := v)
  split
  next e =>
    refine ⟨hv.of_eq e, fun _ _ hu => ?_⟩
    dsimp only
    exact hu.element fun _ _ hw => hw
  next e => exact hv.of_eq e
  next e => exact ⟨hv.of_eq e, fun _ _ hu => hu⟩

theorem State.Canon.crcInto {lr : Nat} (h : s.Canon) : (s.crcInto d k lr n v).Canon := by
  unfold State.crcInto
  split
  next t e => exact h.localWord.of_eq e
  next t e => exact h.localWord.of_eq e
  next t e => exact h.localWord.of_eq e

theorem execCrcblk_canon {p r c : Opd} {upto : Option Nat} (h : s.Canon) : CanonOutcome (execCrcblk d k sz p r c upto s) :=
  h.blockM fun _ _ ht => ⟨ht, fun _ _ hu => hu.element fun _ _ hv => hv.crcInto⟩

theorem execCmpblk_canon {p q c : Opd} {upto : Option Nat} (h : s.Canon) : CanonOutcome (execCmpblk d k sz p q c upto s) := by
  refine h.blockM fun _ _ ht => ⟨ht, fun _ _ hu => ?_⟩
  dsimp only
  exact hu.element fun _ _ hv => hv

/-! ### Core events (`Machine/CoreEvents.lean`) -/

theorem State.Canon.interruptEntry (h : s.Canon) : (s.interruptEntry d k).Canon := h.setCore.enterAsync.ite h

theorem execInterruptEntry_canon (h : s.Canon) : CanonOutcome (execInterruptEntry d k s) := h.interruptEntry

theorem execNmiEntry_canon (h : s.Canon) : CanonOutcome (execNmiEntry d k s) := h.setCore.enterAsync.ite h

theorem State.Canon.planeEntry (h : s.Canon) : (s.planeEntry d k).Canon := by
  unfold State.planeEntry
  split
  · exact h.setLane.enterAsync.ite h
  · exact h

theorem execPlaneFaultEntry_canon (h : s.Canon) : CanonOutcome (execPlaneFaultEntry d k s) := h.planeEntry

theorem execPostedBusError_canon (h : s.Canon) : CanonOutcome (execPostedBusError d k a s) := h.reportBus.boundary.ite h

theorem State.Canon.diExpire (h : s.Canon) : (s.diExpire d k).Canon := by
  unfold State.diExpire
  split
  · exact h.setCore.offer
  · exact h

theorem execDiLimitExpiry_canon (h : s.Canon) : CanonOutcome (execDiLimitExpiry d k s) := h.diExpire.ite h

theorem execReservedOpcodeTrap_canon {parcel : Nat} (h : s.Canon) : CanonOutcome (execReservedOpcodeTrap d k parcel s) := by
  unfold execReservedOpcodeTrap
  show State.Canon _
  split
  · split
    · split
      next t e₂ => exact (h.fetch.of_eq e₂).trap
      next t e₂ => exact (h.fetch.of_eq e₂).trap
    · exact h
  · exact h

theorem execInstructionFetchFault_canon (h : s.Canon) : CanonOutcome (execInstructionFetchFault d k s) := by
  unfold execInstructionFetchFault
  show State.Canon _
  split
  · split
    next t e₁ => exact (h.fetch.of_eq e₁).trap
    · exact h
  · exact h

/-! ### Register commands (`Machine/HostIo.lean`) -/

theorem State.Canon.hostWords {ws : List Nat} (h : s.Canon) : (s.hostWords ws).Canon := h.emit

theorem State.Canon.hostAbort (h : s.Canon) : s.hostAbort.Canon := h.emit.same

theorem State.Canon.hostD3 {write : Bool} (h : s.Canon) : (s.hostD3 write).Canon := by
  unfold State.hostD3
  extract_lets t u
  have ht : t.Canon := h.ite h.emit
  exact ht.same

theorem State.Canon.hostWrite (h : s.Canon) : (s.hostWrite a w).Canon := by
  unfold State.hostWrite
  split
  · exact h.refuse.ite (h.ringWrite.ite h.setHeld)
  · split
    next a₁ e₁ => exact h.ioWrite.of_eq e₁
    next a₁ e₁ => exact h.ioWrite.of_eq e₁
    · exact h

theorem State.Canon.hostReads {got : List Nat} {a' : Nat} (h : s.Canon) : (s.hostReads a got a').Canon := by
  induction a' generalizing s a got with
  | zero =>
    rw [State.hostReads]
    exact h.hostWords
  | succ a' ih =>
    rw [State.hostReads]
    split
    next a₂ e => exact ih (h.ioRead.of_eq e)
    next a₁ e => exact (h.ioRead.of_eq e).hostAbort
    next a₁ e => exact (h.ioRead.of_eq e).hostAbort
    next a₁ e => exact (h.ioRead.of_eq e).setHeld

theorem State.Canon.hostRead (h : s.Canon) : (s.hostRead a n).Canon := by
  unfold State.hostRead
  split
  · exact h.ringRead.ite h.refuse.hostAbort
  · split
    · exact h.ringRead
    · exact h.hostReads

theorem State.Canon.hostPath {p : Posted} {now : State → State} (h : s.Canon) (hnow : ∀ t, t.Canon → (now t).Canon) :
    (s.hostPath p now).Canon :=
  (hnow _ h).ite h.setHeld

theorem State.Canon.hostWrites {a' : List Nat} (h : s.Canon) : (s.hostWrites a a').Canon := by
  induction a' generalizing s a with
  | nil =>
    rw [State.hostWrites]
    exact h
  | cons y a' ih =>
    rw [State.hostWrites]
    exact ih h.hostWrite

theorem State.Canon.bar0Now {off : Nat} {write : Bool} {data : List (Option Nat)} (h : s.Canon) :
    (s.bar0Now off write data).Canon := by
  unfold State.bar0Now
  split
  · extract_lets t
    have ht : t.Canon := h.wr
    exact ht.ite ht.hostAbort
  · exact h.hostWrites.ite h.hostRead

theorem execBar0Request_canon {off : Nat} {write : Bool} {data : List (Option Nat)} (h : s.Canon) :
    CanonOutcome (execBar0Request off write data s) := by
  unfold execBar0Request
  show State.Canon _
  split
  · exact h
  · split
    · exact h.hostD3
    · exact h.hostPath fun _ ht => ht.bar0Now

theorem State.Canon.hostStore (h : s.Canon) : (s.hostStore a bs).Canon := by
  unfold State.hostStore
  split
  next a₁ e =>
    have ha₁ : a₁.Canon := h.postBytes.of_eq e
    exact ha₁.pageWrite.ite ha₁
  next a₁ e => exact h.postBytes.of_eq e
  · exact h

theorem State.Canon.bar2Write {data : List (Option Nat)} (h : s.Canon) : (s.bar2Write a data).Canon := by
  unfold State.bar2Write
  split
  · exact h
  · split
    · exact h.refuse
    · exact h.each fun _ _ ht => ht.hostStore

theorem State.Canon.bar2Read {data : List (Option Nat)} (h : s.Canon) : (s.bar2Read a data).Canon := by
  unfold State.bar2Read
  split
  · exact h.emit
  · split
    next t e₁ => exact (h.dRead.of_eq e₁).emit
    next t e₁ => exact (h.dRead.of_eq e₁).hostAbort
    next t e₁ => exact (h.dRead.of_eq e₁).hostAbort

theorem State.Canon.bar2Now {off : Nat} {write : Bool} {data : List (Option Nat)} (h : s.Canon) :
    (s.bar2Now off write data).Canon :=
  h.bar2Write.ite h.bar2Read

theorem execBar2Request_canon {off : Nat} {write : Bool} {data : List (Option Nat)} (h : s.Canon) :
    CanonOutcome (execBar2Request off write data s) := by
  unfold execBar2Request
  show State.Canon _
  split
  · exact h
  · split
    · exact h.hostD3
    · exact h.hostPath fun _ ht => ht.bar2Now

theorem State.Canon.ringResp {dst tag : Nat} {ws : List Nat} (h : s.Canon) : (s.ringResp dst tag ws).Canon := h.ringSend

theorem State.Canon.frameRead {tag : Nat} (h : s.Canon) : (s.frameRead src tag a).Canon := by
  unfold State.frameRead
  split
  next a₂ e => exact (h.ioRead.of_eq e).ringResp
  next a₁ e => exact (h.ioRead.of_eq e).ringResp
  next a₁ e => exact (h.ioRead.of_eq e).ringResp
  next a₁ e => exact (h.ioRead.of_eq e).setHeld

theorem execRingReadRx_canon {tag : Nat} (h : s.Canon) : CanonOutcome (execRingReadRx src tag a s) := by
  unfold execRingReadRx
  show State.Canon _
  split
  · exact h
  · exact h.ringHeard.hostPath fun _ ht => ht.frameRead

theorem execRingWriteRx_canon (h : s.Canon) : CanonOutcome (execRingWriteRx a w s) := by
  unfold execRingWriteRx
  show State.Canon _
  split
  · exact h
  · split
    next a₁ e => exact h.ringHeard.ioWrite.of_eq e
    next a₁ e => exact h.ringHeard.ioWrite.of_eq e
    · exact h.ringHeard

theorem State.Canon.hostAnswer {r : RingReq} {data : List Nat} (h : s.Canon) : (s.hostAnswer r data).Canon := by
  unfold State.hostAnswer
  extract_lets t
  have ht : t.Canon := h.ringAnswered
  split
  · exact ht.hostAbort
  · extract_lets got
    exact ht.ringSend.ringAwait.ite ht.hostWords

theorem State.Canon.coreAnswer {r : RingReq} {data : List Nat} (h : s.Canon) : (s.coreAnswer r data).Canon :=
  h.ringAnswered.same

theorem execRingRespRx_canon {tag : Nat} {data : List Nat} (h : s.Canon) : CanonOutcome (execRingRespRx src tag data s) := by
  unfold execRingRespRx
  show State.Canon _
  split
  · exact h
  · split
    · exact h
    · exact h.hostAnswer.ite (h.coreAnswer.ite h)

theorem State.Canon.drainOne {a : Posted} (h : s.Canon) : ∀ t ∈ s.drainOne r a, t.Canon := by
  unfold State.drainOne
  split
  · split
    next t e => exact forall_mem_some (h.ioNow.of_eq e)
    · extract_lets t
      have ht : t.Canon := h.refuse
      refine forall_mem_some ?_
      split
      · exact ht.reportBus
      · exact ht
    · exact forall_mem_none
  · split
    next a₁ e =>
      have ha₁ : a₁.Canon := (State.Canon.postAcc h.dWrite).of_eq e
      refine forall_mem_some ?_
      exact ha₁.pageWrite.ite ha₁
    next a₁ e => exact forall_mem_some ((State.Canon.postAcc h.dWrite).of_eq e)
    · exact forall_mem_none
  · refine forall_mem_some ?_
    split
    · exact h.writeBytes
    · exact h
  · exact forall_mem_some h.ringWrite
  · split
    next a₁ e => exact forall_mem_some ((State.Canon.postAcc h.dBits).of_eq e)
    next a₁ e => exact forall_mem_some ((State.Canon.postAcc h.dBits).of_eq e)
    · exact forall_mem_none
  · exact forall_mem_none
  · exact forall_mem_none
  · exact forall_mem_none
  · exact forall_mem_none
  · exact forall_mem_none

theorem State.Canon.serve {a : Posted} (h : s.Canon) : ∀ t ∈ s.serve a, t.Canon := by
  unfold State.serve
  split
  · exact forall_mem_some h.bar0Now
  · exact forall_mem_some h.bar2Now
  · exact forall_mem_some h.hostWrite
  · exact forall_mem_some h.hostRead
  · exact forall_mem_some h.hostReads
  · exact forall_mem_some h.frameRead
  · exact forall_mem_none

theorem State.Canon.drain {a : List Posted} (h : s.Canon) : (s.drain r a).Canon := by
  induction a generalizing s with
  | nil =>
    rw [State.drain]
    exact h.setHeld
  | cons y a ih =>
    rw [State.drain]
    split
    next t e =>
      have ht : t.Canon := h.setHeld.serve _ e
      split
      · exact ih ht
      · exact ht.setHeld
    · split
      next t e₁ => exact ih (h.setHeld.drainOne _ e₁)
      · exact h.setHeld

theorem execHeldWriteTaken_canon (h : s.Canon) : CanonOutcome (execHeldWriteTaken r s) := by
  unfold execHeldWriteTaken
  show State.Canon _
  split
  · exact h
  · extract_lets t
    have ht : t.Canon := h.drain
    split
    · exact ht.boundary
    · exact ht

/-! ### I/O commands (`Machine/IoRows.lean`) -/

theorem State.Canon.coreAccess {α : Type} {g : Got α} (hg : g.Canon) : (s.coreAccess d k g).Canon := by
  unfold State.coreAccess
  split
  · exact hg
  · exact hg
  · exact hg.trap

theorem State.Canon.accessWrite (h : s.Canon) : (s.accessWrite r a w).Canon := by
  unfold State.accessWrite
  split
  · exact h
  · split
    · split
      · refine State.Canon.coreAccess ?_
        split
        · exact h
        · exact h.coreOut
      · exact h
    · split
      · exact h
      · exact h.hostPath fun _ ht => ht.hostWrite
    · split
      · exact h
      · split
        next a₁ e => exact h.ioWrite.of_eq e
        next a₁ e => exact h.ioWrite.of_eq e
        · exact h

theorem State.Canon.accessRead (h : s.Canon) : (s.accessRead r a).Canon := by
  unfold State.accessRead
  split
  · exact h
  · split
    · split
      · refine State.Canon.coreAccess ?_
        split
        · exact h
        · exact h.coreIn
      · exact h
    · split
      · exact h
      · exact h.hostPath fun _ ht => ht.hostRead
    · split
      · exact h
      · split
        next a₂ e => exact h.ioRead.of_eq e
        next a₁ e => exact h.ioRead.of_eq e
        next a₁ e => exact h.ioRead.of_eq e
        next a₁ e => exact h.ioRead.of_eq e

theorem State.Canon.access {w : Option Nat} (h : s.Canon) : (s.access r a w).Canon := by
  unfold State.access
  split
  · exact h.accessWrite
  · exact h.accessRead

theorem execRegWrite_canon (h : s.Canon) : CanonOutcome (execRegWrite r a w s) := h.accessWrite

theorem execRcRead_canon (h : s.Canon) : CanonOutcome (execRcRead r a s) := h.accessRead

theorem execCoreLramData_canon {w : Option Nat} (h : s.Canon) : CanonOutcome (execCoreLramData r d k w s) := h.access

theorem execCoreIspData_canon {w : Option Nat} (h : s.Canon) : CanonOutcome (execCoreIspData r d k w s) := h.access

theorem execLaneSramData_canon {w : Option Nat} (h : s.Canon) : CanonOutcome (execLaneSramData r d j w s) := h.access

theorem execLaneKsData_canon {w : Option Nat} (h : s.Canon) : CanonOutcome (execLaneKsData r d j w s) := h.access

theorem execIrqDone_canon (h : s.Canon) : CanonOutcome (execIrqDone r d k w s) := h.accessWrite

/-! ### Power (`Machine/Power.lean`) -/

theorem State.Canon.warnBegin {mv : Nat} (h : s.Canon) : (s.warnBegin mv).Canon := by
  unfold State.warnBegin
  extract_lets t again t₁ u
  have ht : t.Canon := h.wrs
  have ht₁ : t₁.Canon := ht.ite ht.raiseCrown
  exact ht₁.same.ite ht₁.same

theorem execPwrWarn_canon {mv : Nat} (h : s.Canon) : CanonOutcome (execPwrWarn mv s) := (h.wr.same.ite h.warnBegin).ite h

theorem execPwrWarnEnd_canon {mv : Nat} (h : s.Canon) : CanonOutcome (execPwrWarnEnd mv s) := by
  unfold execPwrWarnEnd
  show State.Canon _
  split
  · exact h
  · split
    · extract_lets t u t₁
      have ht : t.Canon := h.wrs
      have ht₁ : t₁.Canon := ht.same
      exact ht₁.offer.ite ht₁
    · exact h

theorem State.Canon.pfStart (h : s.Canon) : s.pfStart.Canon :=
  (h.resign.offer.wrs.portsDown.wr.each fun _ _ ht => ht.resetDie).same

theorem State.Canon.pfCopy {n : Option Nat} (h : s.Canon) : (s.pfCopy n).Canon := h.same.mirror.same.ite h

theorem State.Canon.pfList (h : s.Canon) : s.pfList.Canon := by
  unfold State.pfList
  extract_lets t
  have ht : t.Canon := h.formList
  exact ht.pfStop.offerAtBoot.ite ht

theorem State.Canon.pfGoOn {stop : Option Nat} (h : s.Canon) : (s.pfGoOn stop).Canon := by
  unfold State.pfGoOn
  split
  · exact h.pfCopy
  · exact h.pfCopy.writeTail.pfList

theorem execPowerfailStore_canon {stop : Option Nat} (h : s.Canon) : CanonOutcome (execPowerfailStore stop s) :=
  (h.pfGoOn.ite h).ite (h.pfStart.pfGoOn.ite h)

theorem State.Canon.railsOut {rails : Nat} (h : s.Canon) : (s.railsOut rails).Canon := h.doReset.wr.same

theorem execPowerfailStoreEnd_canon {rails : Nat} (h : s.Canon) : CanonOutcome (execPowerfailStoreEnd rails s) :=
  (h.offerAtBoot.same.doReset.ite h.railsOut).ite h

theorem State.Canon.crownLost {rail : Nat} (h : s.Canon) : (s.crownLost rail).Canon := by
  unfold State.crownLost
  extract_lets u u₁ t
  have hu : u.Canon := h.offerAtBoot
  have ht : t.Canon := hu.same.pfList.ite h
  exact ht.clrBits.ite ht

theorem execRailResetInStore_canon {rails : Nat} (h : s.Canon) : CanonOutcome (execRailResetInStore rails s) := by
  unfold execRailResetInStore
  show State.Canon _
  split
  · split
    · exact h.railsOut
    · extract_lets t
      have ht : t.Canon := h.orBits
      exact ht.crownLost.ite (ht.crownLost.ite ht)
  · exact h

theorem State.Canon.railReset {rails : Nat} (h : s.Canon) : (s.railReset rails).Canon := by
  unfold State.railReset
  extract_lets t u u₁
  have ht : t.Canon := h.wrs.offerAtBoot
  have hu : u.Canon := ht.resign.doReset
  exact hu.same.ite ht.packageReset

theorem execRailReset_canon {rails : Nat} (h : s.Canon) : CanonOutcome (execRailReset rails s) :=
  h.ite (h.offerAtBoot.ite h.railReset)

theorem execPwrResetN_canon (h : s.Canon) : CanonOutcome (execPwrResetN s) := h.packageReset

theorem execPowerOn_canon (h : s.Canon) : CanonOutcome (execPowerOn s) := h.doReset

theorem State.Canon.bootTrial (h : s.Canon) : s.bootTrial.Canon := by
  unfold State.bootTrial
  split
  · extract_lets t b u t₁
    have ht : t.Canon := h.bump.dirty
    have ht₁ : t₁.Canon := ht.same
    exact ht₁.setTrial.clearXfer.offer.ite ht
  · exact h

theorem State.Canon.bootVerify {b : Nat} (h : s.Canon) : (s.bootVerify b).2.Canon := by
  unfold State.bootVerify
  exact h.wr.verifyRecord

theorem State.Canon.bootOther {b r : Nat} (h : s.Canon) : (s.bootOther b r).Canon := by
  unfold State.bootOther
  extract_lets t u t₁
  have ht : t.Canon := h.offer.setTrial.dirty
  have ht₁ : t₁.Canon := ht.same
  split
  next t₂ e =>
    have ht₂ : t₂.Canon := ht₁.bootVerify.of_eq e
    exact ht₂.ite ht₂.wrs.raiseCrown.offer

theorem State.Canon.bootRom (h : s.Canon) : s.bootRom.Canon := by
  unfold State.bootRom
  extract_lets t t₁
  have ht : t.Canon := h.bootTrial
  have ht₁ : t₁.Canon := by
    unfold t₁
    split
    next t₂ e =>
      have ht₂ : t₂.Canon := ht.bootVerify.of_eq e
      exact ht₂.ite ht₂.bootOther
  exact ht₁.requestStore.ite ht₁

theorem State.Canon.bootVersions (h : s.Canon) : s.bootVersions.Canon := by
  unfold State.bootVersions
  extract_lets t
  have ht : t.Canon := h.wrs
  exact ht.ite ht.wr

theorem State.Canon.bringUp (h : s.Canon) : s.bringUp.Canon := by
  unfold State.bringUp
  extract_lets t t₁ t₂ t₃
  have ht : t.Canon := h.wr
  have ht₁ : t₁.Canon := by
    unfold t₁
    split
    · exact ht
    · exact ht.each fun _ _ ht₁ => ht₁.relock
  have ht₂ : t₂.Canon := ht₁.wr
  have ht₃ : t₃.Canon := ht₂.wrs.ite ht₂
  split
  next t₄ e => exact (ht₃.freeNat.of_eq e).wr

theorem State.Canon.bootRecords (h : s.Canon) : s.bootRecords.Canon := by
  unfold State.bootRecords
  extract_lets u t t₁
  have ht : t.Canon := h.same.each fun _ _ ht => ht.offerRec
  have ht₁ : t₁.Canon := ht.ite ht.offer
  exact ht₁.offer.ite ht₁

theorem State.Canon.boot (h : s.Canon) : s.boot.Canon := by
  unfold State.boot
  extract_lets c t t₁ t₂ u u₁
  have ht : t.Canon := h.wrs
  have ht₁ : t₁.Canon := ht.recall.failSafe.ite ht
  have ht₂ : t₂.Canon := ht₁.bootRom.bootVersions.bringUp.bootRecords
  exact ht₂.same

theorem execBootSequence_canon {hsbPair hsbUnit ringEn ringHead : Bool} (h : s.Canon) :
    CanonOutcome (execBootSequence hsbPair hsbUnit ringEn ringHead s) :=
  h.same.boot.ite h

theorem State.Canon.napDone (h : s.Canon) : s.napDone.Canon := h.filterRegs.wr.wr.wr.same

theorem execNapStoreDone_canon (h : s.Canon) : CanonOutcome (execNapStoreDone s) := h.napDone.ite h

theorem execWakeNLow_canon (h : s.Canon) : CanonOutcome (execWakeNLow s) := h.wakeEvent.ite h

theorem execSvcWakeFrame_canon (h : s.Canon) : CanonOutcome (execSvcWakeFrame s) := h.wakeEvent.ite h

theorem execNapDinSample_canon {levels : Nat} (h : s.Canon) : CanonOutcome (execNapDinSample levels s) := by
  unfold execNapDinSample
  show State.Canon _
  split
  · extract_lets l u t t₁
    have ht : t.Canon := h.same
    have ht₁ : t₁.Canon := ht.each fun _ _ ht₁ => ht₁.raiseCrown
    exact ht₁.wakeEvent.ite ht₁
  · exact h

theorem execLatchedWakeStart_canon (h : s.Canon) : CanonOutcome (execLatchedWakeStart s) := h.wakeStart.ite h

theorem execWakeSupplySwitch_canon {vfield : Bool} (h : s.Canon) : CanonOutcome (execWakeSupplySwitch vfield s) := h.wrB

theorem State.Canon.clockStop {f : Field} {n : Node} {island : Nat} (h : s.Canon) : (s.clockStop b f i n island).Canon :=
  h.setBit.offer.nodeFault

theorem execClockLockLoss_canon {die : Option Nat} {island : Nat} (h : s.Canon) :
    CanonOutcome (execClockLockLoss die island s) := by
  unfold execClockLockLoss
  show State.Canon _
  split
  · exact h.clockStop.ite h
  · split
    · split
      · extract_lets t
        have ht : t.Canon := h.clockStop
        split
        · exact ht.each fun _ _ ht₁ => ht₁.linkDown
        · exact ht
      · exact h

theorem execThermHot_canon {n : Node} {c : Int} (h : s.Canon) : CanonOutcome (execThermHot n c s) := by
  unfold execThermHot
  show State.Canon _
  split
  · extract_lets t u t₁
    have ht : t.Canon := h.wr
    have ht₁ : t₁.Canon := ht.same
    split
    · extract_lets j t₂
      have ht₂ : t₂.Canon := ht₁.wrs
      exact ht₂.thetaLower.ite ht₂
    · exact ht₁
  · exact h

theorem execThermClear_canon (h : s.Canon) : CanonOutcome (execThermClear s) := by
  unfold execThermClear
  show State.Canon _
  split
  · split
    · exact ((h.each fun _ _ ht => ht.wr).each fun _ _ ht => ht.wr).same
    · exact h
  · exact h

/-! ### Dispatch (`Machine/Dispatch.lean`) -/

theorem exec_canon {i : Instr} (h : s.Canon) : CanonOutcome (exec i s) := by
  unfold exec
  split
  · exact execRegWrite_canon h
  · exact execRcRead_canon h
  · exact execHeldWriteTaken_canon h
  · exact execNodeEnable_canon h
  · exact execNodeNap_canon h
  · exact execNodeFreeze_canon h
  · exact execNodeReset_canon h
  · exact execNodeFaultFree_canon h
  · exact execFltCaptureFree_canon h
  · exact execProtLock_canon h
  · exact execBld_canon h
  · exact execBldn_canon h
  · exact execBand_canon h
  · exact execBandn_canon h
  · exact execBor_canon h
  · exact execBorn_canon h
  · exact execBst_canon h
  · exact execBstn_canon h
  · exact execBset_canon h
  · exact execBclr_canon h
  · exact execRise_canon h
  · exact execFall_canon h
  · exact execRAnd_canon h
  · exact execROr_canon h
  · exact execRXor_canon h
  · exact execRAndn_canon h
  · exact execROrn_canon h
  · exact execRNot_canon h
  · exact execRDup_canon h
  · exact execRDrop_canon h
  · exact execRSwap_canon h
  · exact execROne_canon h
  · exact execRZero_canon h
  · exact execRTod_canon h
  · exact execRFromd_canon h
  · exact execRDepth_canon h
  · exact execRClr_canon h
  · exact execDup_canon h
  · exact execDrop_canon h
  · exact execSwap_canon h
  · exact execOver_canon h
  · exact execRot_canon h
  · exact execNip_canon h
  · exact execTuck_canon h
  · exact execDepth_canon h
  · exact execPick_canon h
  · exact execTor_canon h
  · exact execFromr_canon h
  · exact execRfetch_canon h
  · exact execAdd_canon h
  · exact execSub_canon h
  · exact execAdds_canon h
  · exact execSubs_canon h
  · exact execNeg_canon h
  · exact execAbs_canon h
  · exact execMin_canon h
  · exact execMax_canon h
  · exact execMinu_canon h
  · exact execMaxu_canon h
  · exact execInc_canon h
  · exact execDec_canon h
  · exact execMul_canon h
  · exact execMulh_canon h
  · exact execMulhu_canon h
  · exact execDiv_canon h
  · exact execDivu_canon h
  · exact execRem_canon h
  · exact execRemu_canon h
  · exact execAndI_canon h
  · exact execOrI_canon h
  · exact execXor_canon h
  · exact execNotI_canon h
  · exact execAndn_canon h
  · exact execShl_canon h
  · exact execShr_canon h
  · exact execSar_canon h
  · exact execRol_canon h
  · exact execRor_canon h
  · exact execBfx_canon h
  · exact execBfi_canon h
  · exact execClz_canon h
  · exact execPopc_canon h
  · exact execSexb_canon h
  · exact execSexh_canon h
  · exact execZexb_canon h
  · exact execZexh_canon h
  · exact execCeq_canon h
  · exact execCne_canon h
  · exact execClt_canon h
  · exact execCge_canon h
  · exact execCltu_canon h
  · exact execCgeu_canon h
  · exact execSel_canon h
  · exact execLit11_canon h
  · exact execLit16s_canon h
  · exact execLit16u_canon h
  · exact execLit32_canon h
  · exact execLita_canon h
  · exact execLddB_canon h
  · exact execLddBu_canon h
  · exact execLddH_canon h
  · exact execLddHu_canon h
  · exact execLddW_canon h
  · exact execLddT_canon h
  · exact execStdB_canon h
  · exact execStdH_canon h
  · exact execStdW_canon h
  · exact execStdT_canon h
  · exact execXchdW_canon h
  · exact execAdddW_canon h
  · exact execInI_canon h
  · exact execOut_canon h
  · exact execInD_canon h
  · exact execOutD_canon h
  · exact execBEq_canon h
  · exact execBNe_canon h
  · exact execBLt_canon h
  · exact execBGe_canon h
  · exact execBLtu_canon h
  · exact execBGeu_canon h
  · exact execBRz_canon h
  · exact execBRnz_canon h
  · exact execJmp_canon h
  · exact execJmpl_canon h
  · exact execJmpi_canon h
  · exact execCall_canon h
  · exact execCalll_canon h
  · exact execCalli_canon h
  · exact execRet_canon h
  · exact execYield_canon h
  · exact execTaskend_canon h
  · exact execNop_canon h
  · exact execFence_canon h
  · exact execBrk_canon h
  · exact execRdtb_canon h
  · exact execRdcyc_canon h
  · exact execDi_canon h
  · exact execEi_canon h
  · exact execRdcr_canon h
  · exact execWrcr_canon h
  · exact execMov_canon h
  · exact execAddM_canon h
  · exact execSubM_canon h
  · exact execAndM_canon h
  · exact execOrM_canon h
  · exact execXorM_canon h
  · exact execAndnM_canon h
  · exact execShlM_canon h
  · exact execShrM_canon h
  · exact execSarM_canon h
  · exact execMulM_canon h
  · exact execDivuM_canon h
  · exact execRemuM_canon h
  · exact execBCc_canon h
  · exact execJalM_canon h
  · exact execIload_canon h
  · exact execIstore_canon h
  · exact execMovblk_canon h
  · exact execFillblk_canon h
  · exact execCrcblk_canon h
  · exact execCmpblk_canon h
  · exact execEnterS_canon h
  · exact execEnterSc_canon h
  · exact execRetS_canon h
  · exact execRetM_canon h
  · exact execDiM_canon h
  · exact execEiM_canon h
  · exact execFenceM_canon h
  · exact execBrkM_canon h
  · exact execInterruptEntry_canon h
  · exact execNmiEntry_canon h
  · exact execPlaneFaultEntry_canon h
  · exact execPostedBusError_canon h
  · exact execDiLimitExpiry_canon h
  · exact execCoreLramData_canon h
  · exact execCoreIspData_canon h
  · exact execTaskEnable_canon h
  · exact execTaskDisable_canon h
  · exact execTaskTrig_canon h
  · exact execTaskDue_canon h
  · exact execEventTaskSource_canon h
  · exact execReleaseStart_canon h
  · exact execTaskSuspend_canon h
  · exact execTaskRestore_canon h
  · exact execCopyOutDone_canon h
  · exact execBackgroundSuspend_canon h
  · exact execBackgroundResume_canon h
  · exact execImgRefresh_canon h
  · exact execImgRun_canon h
  · exact execImgStop_canon h
  · exact execRestartDone_canon h
  · exact execMirrorPass_canon h
  · exact execHoodLoad_canon h
  · exact execHoodBlock_canon h
  · exact execHoodAbort_canon h
  · exact execBlocking_canon h
  · exact execHoodNoGap_canon h
  · exact execHoodArmRx_canon h
  · exact execHoodReplyRx_canon h
  · exact execHoodAtRx_canon h
  · exact execHoodMissRx_canon h
  · exact execHoodPairMiss_canon h
  · exact execStandbyHoodTimeout_canon h
  · exact execHoodPairSplit_canon h
  · exact execLineAnnounce_canon h
  · exact execLaneRun_canon h
  · exact execLaneStop_canon h
  · exact execLaneResume_canon h
  · exact execKernelStart_canon h
  · exact execKernelDeadline_canon h
  · exact execAndp_canon h
  · exact execOrp_canon h
  · exact execXorp_canon h
  · exact execAndnp_canon h
  · exact execNotp_canon h
  · exact execSelp_canon h
  · exact execZerop_canon h
  · exact execOnesp_canon h
  · exact execDupp_canon h
  · exact execDropp_canon h
  · exact execSwapp_canon h
  · exact execOverp_canon h
  · exact execRotp_canon h
  · exact execNipp_canon h
  · exact execTuckp_canon h
  · exact execPickp_canon h
  · exact execShlp_canon h
  · exact execShrp_canon h
  · exact execLoadp_canon h
  · exact execStorep_canon h
  · exact execCalp_canon h
  · exact execLutp_canon h
  · exact execPopcp_canon h
  · exact execFlagp_canon h
  · exact execGend_canon h
  · exact execLaneCntLine_canon h
  · exact execLaneSramData_canon h
  · exact execLaneKsData_canon h
  · exact execKhoodLoad_canon h
  · exact execKhoodSwitch_canon h
  · exact execKhoodAbort_canon h
  · exact execKhoodSwitchPoint_canon h
  · exact execKarmRx_canon h
  · exact execKhoodAckRx_canon h
  · exact execKhoodNakRx_canon h
  · exact execKgoRx_canon h
  · exact execKcancelRx_canon h
  · exact execKhoodAckTimeout_canon h
  · exact execKhoodStandbySplit_canon h
  · exact execJobAdmit_canon h
  · exact execJobStart_canon h
  · exact execJobEnd_canon h
  · exact execHostNop_canon h
  · exact execDramClear_canon h
  · exact execDramCrc_canon h
  · exact execNvsCommit_canon h
  · exact execImageVerify_canon h
  · exact execCmdAbort_canon h
  · exact execIngWptrWrite_canon h
  · exact execIngestFill_canon h
  · exact execIngestAbandon_canon h
  · exact execCalTransfer_canon h
  · exact execCalTransferDone_canon h
  · exact execDramTempReading_canon h
  · exact execCaseTempReading_canon h
  · exact execThetaRaise_canon h
  · exact execThetaLeadExpiry_canon h
  · exact execCapRaise_canon h
  · exact execCapMessage_canon h
  · exact execLinkEnable_canon h
  · exact execLinkDisable_canon h
  · exact execLinkRetrain_canon h
  · exact execHcrcFailRx_canon h
  · exact execBattRx_canon h
  · exact execCrespRx_canon h
  · exact execEventRx_canon h
  · exact execCreditRx_canon h
  · exact execCreditResyncRx_canon h
  · exact execCreditMarkRx_canon h
  · exact execCreditFullRx_canon h
  · exact execIdleRx_canon h
  · exact execTrainRx_canon h
  · exact execLinkTxSelect_canon h
  · exact execIdleTx_canon h
  · exact execCreditTx_canon h
  · exact execTrainTx_canon h
  · exact execLinkTxGo_canon h
  · exact execLinkRxPop_canon h
  · exact execLinkHbTimeout_canon h
  · exact execLinkLockLoss_canon h
  · exact execCreditResyncTimeout_canon h
  · exact execFaultRetrain_canon h
  · exact execLinkTrainTimeout_canon h
  · exact execRouteDeadline_canon h
  · exact execReflexPass_canon h
  · exact execRfxFset_canon h
  · exact execRfxFclr_canon h
  · exact execArbDecision_canon h
  · exact execHsbEnable_canon h
  · exact execHsbDisable_canon h
  · exact execHsbHandover_canon h
  · exact execHbTx_canon h
  · exact execHbRx_canon h
  · exact execResignRx_canon h
  · exact execHandoverRx_canon h
  · exact execHandackRx_canon h
  · exact execHandackTimeout_canon h
  · exact execHandoverSwitch_canon h
  · exact execLineMsgRx_canon h
  · exact execMirrorRx_canon h
  · exact execEqRx_canon h
  · exact execEqskipRx_canon h
  · exact execJobMsgRx_canon h
  · exact execJobMsgTx_canon h
  · exact execCapMsgRx_canon h
  · exact execJoinRx_canon h
  · exact execLeaveRx_canon h
  · exact execHashRx_canon h
  · exact execPageHash_canon h
  · exact execSeekwaitExpiry_canon h
  · exact execPathSilence_canon h
  · exact execPeerSilence_canon h
  · exact execCanHeartbeatTx_canon h
  · exact execCanHeartbeatRx_canon h
  · exact execClxFrameTx_canon h
  · exact execClxFrameRx_canon h
  · exact execClxPeerLost_canon h
  · exact execKeepFrameRx_canon h
  · exact execKeepFrameTx_canon h
  · exact execKeepTimeout_canon h
  · exact execIrqPendSet_canon h
  · exact execIrqPendClr_canon h
  · exact execIrqEnSet_canon h
  · exact execIrqEnClr_canon h
  · exact execIrqDone_canon h
  · exact execWdtEnable_canon h
  · exact execWdtKick_canon h
  · exact execWdtPeriodEnd_canon h
  · exact execWdtHalfPeriod_canon h
  · exact execWdtGraceExpiry_canon h
  · exact execEndpointReset_canon h
  · exact execBar0Request_canon h
  · exact execBar2Request_canon h
  · exact execQueueEnable_canon h
  · exact execQueueDisable_canon h
  · exact execSqDoorbell_canon h
  · exact execCqDoorbell_canon h
  · exact execQueueFetch_canon h
  · exact execCommandStep_canon h
  · exact execContextSlotGrant_canon h
  · exact execEnumTx_canon h
  · exact execEnumRx_canon h
  · exact execRingReadRx_canon h
  · exact execRingWriteRx_canon h
  · exact execRingRespRx_canon h
  · exact execRingCmdRx_canon h
  · exact execRingCplRx_canon h
  · exact execRingCheckRx_canon h
  · exact execRingApplyRx_canon h
  · exact execRingReleaseRx_canon h
  · exact execRingTimeout_canon h
  · exact execRingPortDown_canon h
  · exact execRingPortRecovered_canon h
  · exact execRingReenum_canon h
  · exact execFieldSupplyChange_canon h
  · exact execDinSample_canon h
  · exact execFastEdge_canon h
  · exact execDinFiltWrite_canon h
  · exact execLswSet_canon h
  · exact execLswClr_canon h
  · exact execLswResume_canon h
  · exact execTurnonDone_canon h
  · exact execTurnoffDone_canon h
  · exact execTurnoffTimeout_canon h
  · exact execOcTrip_canon h
  · exact execOtTrip_canon h
  · exact execOpenDetect_canon h
  · exact execShortDetect_canon h
  · exact execLswDiagClear_canon h
  · exact execCanEnable_canon h
  · exact execCanFrameRx_canon h
  · exact execCanTxStart_canon h
  · exact execCanTxDone_canon h
  · exact execCanTxRetry_canon h
  · exact execCanBusoffRecovery_canon h
  · exact execCanBusStuck_canon h
  · exact execCanObjsel_canon h
  · exact execCanObjWrite_canon h
  · exact execCanObjTxreq_canon h
  · exact execCanObjCancel_canon h
  · exact execRtcSet_canon h
  · exact execRtcSetLoad_canon h
  · exact execRtcShift_canon h
  · exact execRtcSecLoRead_canon h
  · exact execRtcFracRead_canon h
  · exact execAlarmFire_canon h
  · exact execVbatMeasure_canon h
  · exact execRetentionLatch_canon h
  · exact execTmbSet_canon h
  · exact execPtpMessage_canon h
  · exact execTmbTimeLoRead_canon h
  · exact execLineEnable_canon h
  · exact execLineDisable_canon h
  · exact execRefInvalid_canon h
  · exact execRefQualified_canon h
  · exact execNvsCmd_canon h
  · exact execSegmentStoreStart_canon h
  · exact execSegmentProgramDone_canon h
  · exact execPouncePass_canon h
  · exact execPwrWarn_canon h
  · exact execPwrWarnEnd_canon h
  · exact execPowerfailStore_canon h
  · exact execPowerfailStoreEnd_canon h
  · exact execEventOffer_canon h
  · exact execTokenRefill_canon h
  · exact execEvrWin7Read_canon h
  · exact execEvrCursorWrite_canon h
  · exact execUpdBegin_canon h
  · exact execUpdPut_canon h
  · exact execUpdErase_canon h
  · exact execUpdActivate_canon h
  · exact execStagingEraseDone_canon h
  · exact execFragmentProgramDone_canon h
  · exact execUpdVerifyDone_canon h
  · exact execActivateRecheck_canon h
  · exact execSvcBegin_canon h
  · exact execSvcFragmentPart_canon h
  · exact execSvcErase_canon h
  · exact execSvcStatus_canon h
  · exact execSvcActivate_canon h
  · exact execUpdConfirm_canon h
  · exact execUpdLockSet_canon h
  · exact execUpdUnlock_canon h
  · exact execTrialExpiry_canon h
  · exact execTrialFallback_canon h
  · exact execKeyProgram_canon h
  · exact execKeyRevoke_canon h
  · exact execTrngAcqRead_canon h
  · exact execTrngReq_canon h
  · exact execTrngRel_canon h
  · exact execTrngRequestDone_canon h
  · exact execTrngStartDone_canon h
  · exact execTrngTestFail_canon h
  · exact execTrngFailsClear_canon h
  · exact execPowerOn_canon h
  · exact execRailReset_canon h
  · exact execPwrResetN_canon h
  · exact execBootSequence_canon h
  · exact execNapStoreDone_canon h
  · exact execWakeNLow_canon h
  · exact execSvcWakeFrame_canon h
  · exact execNapDinSample_canon h
  · exact execClockLockLoss_canon h
  · exact execThermHot_canon h
  · exact execThermClear_canon h
  · exact execReservedOpcodeTrap_canon h
  · exact execInstructionFetchFault_canon h
  · exact execCanRxError_canon h
  · exact execCanIntegrated_canon h
  · exact execRtcShiftDone_canon h
  · exact execRailResetInStore_canon h
  · exact execWakeSupplySwitch_canon h
  · exact execLatchedWakeStart_canon h
  · exact execRingFramePassOn_canon h
  · exact execPcieLinkTrained_canon h

/-! ### The step (`Machine/Step.lean`) -/

theorem step_canon (h : s.Canon) : CanonOutcome (step s) := by
  unfold step
  split
  · exact h.tick
  · exact exec_canon h.same

end

/-! ### The obligation -/

/-- Settles O59: a step either lets a nanosecond pass (`State.Canon.tick`) or carries out the command in front (`exec_canon`). -/
theorem stepKeepsCanonicalForm : Obligations.StepKeepsCanonicalForm := by
  unfold Obligations.StepKeepsCanonicalForm
  intro s s' hs e
  have h : CanonOutcome (step s) := step_canon ⟨hs⟩
  rw [e] at h
  exact h.wf

end Sys2Proof.Machine

namespace Sys2Proof.Machine

/-! ### Halting (R32, R113) -/

theorem State.each_mems {α : Type} (l : List α) (f : State → α → State) (h : ∀ t a, (f t a).mems = t.mems) (s : State) :
    (s.each l f).mems = s.mems := by
  induction l generalizing s with
  | nil => rfl
  | cons a l ih => exact (ih (f s a)).trans (h s a)

@[simp] theorem State.capture_mems (s : State) (n : Node) (via code path : Nat) : (s.capture n via code path).mems = s.mems := by
  unfold State.capture
  split <;> rfl

@[simp] theorem State.nodeFault_mems (s : State) (n : Node) (code : Nat) : (s.nodeFault n code).mems = s.mems := by
  rw [State.nodeFault, State.each_mems _ _ (fun t c => t.capture_mems ..), State.wr_mems]

@[simp] theorem State.raiseDie_mems (s : State) (d src : Nat) : (s.raiseDie d src).mems = s.mems := by
  rw [State.raiseDie, State.raiseAt_only]

/-- A capture takes a fault into the two registers of R31 that hold one, and into no other. -/
theorem State.rd_capture (s : State) (n : Node) (via code path : Nat) (b : Blk) (g : Field)
    (hc : g.off ≠ NODE_FAULT_CODE.off) (hp : g.off ≠ NODE_FAULT_PATH_PATH.off) : (s.capture n via code path).rd b g = s.rd b g := by
  unfold State.capture
  split
  · rfl
  · rw [State.rd_wr_off (f := NODE_FAULT_VALID) _ _ hc, State.rd_wr_off _ _ hp, State.rd_wr_off (f := NODE_FAULT_VIA) _ _ hc,
      State.rd_wr_off _ _ hc]

/-- A node fault leaves every register field outside the captures but the node's OWN_FAULT. -/
theorem State.rd_nodeFault (s : State) (n : Node) (code : Nat) (b : Blk) (g : Field)
    (hc : g.off ≠ NODE_FAULT_CODE.off) (hp : g.off ≠ NODE_FAULT_PATH_PATH.off) :
    (s.nodeFault n code).rd b g = (s.wr n.blk NODE_STATUS_OWN_FAULT 1).rd b g := by
  rw [State.nodeFault, State.rd_each _ _ _ _ fun t c => t.rd_capture _ _ _ _ b g hc hp]

@[simp] theorem State.haltCore_mems (s : State) (d k code : Nat) : (s.haltCore d k code).mems = s.mems := by
  simp only [State.haltCore, State.nodeFault_mems, State.offer_mems, State.raiseDie_mems, State.wr_mems]

theorem State.rd_haltCore_ownFault (s : State) (d k code : Nat) : (s.haltCore d k code).rd (.core d k) NODE_STATUS_OWN_FAULT = 1 := by
  rw [State.haltCore, State.rd_nodeFault _ _ _ _ _ (by decide) (by decide)]
  exact State.rd_wr_same ..

theorem State.rd_haltCore_halted (s : State) (d k code : Nat) : (s.haltCore d k code).rd (.core d k) CORE_TRAP_HALTED = 1 := by
  rw [State.haltCore, State.rd_nodeFault _ _ _ _ _ (by decide) (by decide), State.rd_wr_off _ _ (by decide),
    State.rd_offer _ _ _ _ _ _ (by simp), State.rd_raiseDie _ _ _ _ _ (by simp)]
  exact State.rd_wr_same ..

/-! ### The steps of an entry (R110, R111) -/

/-- DILEFT draws at most a free number. -/
theorem State.diLeft_snd (s : State) (d k : Nat) : ∃ n, (s.diLeft d k).2 = { s with free := n } := by
  unfold State.diLeft
  split
  · exact ⟨s.free, rfl⟩
  · exact ⟨s.free + 1, rfl⟩

/-- The cycles left of the DI mask, by whether it is set. -/
theorem State.diLeft_fst (s : State) (d k : Nat) : (s.diLeft d k).1 =
    match (s.core d k).di with | none => 0 | some e => min 2047 (e - (s.core d k).cyc - Config.freeNat s.free) := by
  unfold State.diLeft
  cases (s.core d k).di <;> rfl

theorem length_flatMap_leBytes (n : Nat) (ws : List Nat) : (ws.flatMap fun w => leBytes n w).length = n * ws.length := by
  simp [List.length_flatMap, Nat.mul_comm]

/-- Words stored in a core's RAM at a word address are all written, and no ECC error arises. -/
theorem State.lramWords_aligned (s : State) (d k a : Nat) (ws : List Nat) (ha : a % 4 = 0) :
    ∃ e, s.lramWords d k a ws = { s with ecc := e }.storeBytes (.lram d k) a (ws.flatMap fun w => leBytes 4 w) ∧
      ∀ m w, s.eccOf m w = .good → Tab.get e (m, w) .good = .good := by
  obtain ⟨e, he, hk⟩ := s.writeBytes_words (.lram d k) a (ws.flatMap fun w => leBytes 4 w) rfl ha
    (by rw [length_flatMap_leBytes]; omega)
  exact ⟨e, by rw [State.lramWords, he], hk⟩

section
variable (s : State) (d k : Nat) (x : Exc)

@[simp] theorem State.load_countEntry (m : MemId) (a n : Nat) : (s.countEntry d k x).load m a n = s.load m a n := rfl
@[simp] theorem State.byte_countEntry (m : MemId) (a : Nat) : (s.countEntry d k x).byte m a = s.byte m a := rfl
@[simp] theorem State.mem_countEntry (m : MemId) : (s.countEntry d k x).mem m = s.mem m := rfl

/-- The trap registers that an entry writes, one after the other. -/
theorem State.countEntry_eq : s.countEntry d k x =
    (((s.wr (.core d k) CORE_TRAP_DEPTH (s.rd (.core d k) CORE_TRAP_DEPTH + 1)).wr (.core d k) CORE_TRAP_LAST_CAUSE x.cause).wr
      (.core d k) CORE_TRAP_LAST_VEC x.vec).bump (.core d k) CORE_TRAPCNT_COUNT := rfl

theorem State.rd_countEntry_depth :
    (s.countEntry d k x).rd (.core d k) CORE_TRAP_DEPTH = (s.rd (.core d k) CORE_TRAP_DEPTH + 1) % 2 ^ 4 := by
  rw [State.countEntry_eq, State.bump, State.rd_wr_off _ _ (by decide), State.rd_wr_lo _ _ (by decide),
    State.rd_wr_lo _ _ (by decide), State.rd_wr_same]

theorem State.rd_countEntry_cause : (s.countEntry d k x).rd (.core d k) CORE_TRAP_LAST_CAUSE = x.cause % 2 ^ 8 := by
  rw [State.countEntry_eq, State.bump, State.rd_wr_off _ _ (by decide), State.rd_wr_lo _ _ (by decide), State.rd_wr_same]

theorem State.rd_countEntry_vec : (s.countEntry d k x).rd (.core d k) CORE_TRAP_LAST_VEC = x.vec % 2 ^ 8 := by
  rw [State.countEntry_eq, State.bump, State.rd_wr_off _ _ (by decide), State.rd_wr_same]

theorem State.rd_countEntry_count :
    (s.countEntry d k x).rd (.core d k) CORE_TRAPCNT_COUNT = min (s.rd (.core d k) CORE_TRAPCNT_COUNT + 1) (2 ^ 32 - 1) := by
  rw [State.countEntry_eq, State.bump, State.rd_wr_same, State.rd_wr_off _ _ (by decide), State.rd_wr_off _ _ (by decide),
    State.rd_wr_off _ _ (by decide)]
  exact Nat.mod_eq_of_lt (lt_of_le_of_lt (Nat.min_le_right ..) (by decide))

end

/-- Code stays fetchable while the running bank stays and no ECC error arises. -/
theorem State.codeGood_keep (s t : State) (d k a n : Nat) (h : s.codeGood d k a n = true) (hb : (t.core d k).bank = (s.core d k).bank)
    (hk : ∀ m w, s.eccOf m w = .good → t.eccOf m w = .good) : t.codeGood d k a n = true := by
  simp only [State.codeGood, List.all_eq_true, Bool.and_eq_true] at h ⊢
  intro i hi
  obtain ⟨hf, hm⟩ := h i hi
  have hl : t.iLoc d k (a + i) = s.iLoc d k (a + i) := by simp only [State.iLoc, hb]
  refine ⟨hf, ?_⟩
  rw [hl]
  split at hm
  · exact State.eccGood_keep s t _ _ 2 hm (hk _)
  · cases hm

/-- A handler whose vector word and first parcel hold no ECC error is gone to: only the core's place changes. -/
theorem State.goHandler_good (s : State) (d k vec a : Nat) (hv : s.eccGood (.lram d k) (0x40 + vec) 4 = true)
    (ha : s.load (.lram d k) (0x40 + vec) 4 = a) (hc : s.codeGood d k a 1 = true) :
    s.goHandler d k vec = s.setCore d k { s.core d k with pc := a } := by
  obtain ⟨hf, ⟨m, o, hl, hg⟩, _⟩ := s.codeGood_succ d k a 0 hc
  have hl' : (s.setCore d k { s.core d k with pc := a }).iLoc d k a = some (m, o) := by
    rw [← hl]
    simp only [State.iLoc, State.core_setCore_same]
  have hr := State.readBytes_good (s.setCore d k { s.core d k with pc := a }) m o 2 hg
  have hw : leNat ((s.mem (.lram d k)).getList (0x40 + vec) 4) = a := ha
  simp only [State.goHandler, s.readBytes_good _ _ _ hv, hw, hf, if_true, State.iBytes, hl', hr]

/-- An entry that neither halts the core nor waits: frame, trap registers, core, handler (R110). -/
theorem State.enterExc_steps (s : State) (d k : Nat) (x : Exc) (hn : s.rd (.core d k) CORE_TRAP_DEPTH ≠ 8)
    (hb : s.ramBehind d k = false) :
    s.enterExc d k x =
      ((((s.diLeft d k).2.lramWords d k (0x100 + 32 * s.rd (.core d k) CORE_TRAP_DEPTH)
        ((s.core d k).frame x (s.diLeft d k).1 (s.tmb.count % 2 ^ 32))).countEntry d k x).setCore d k (s.core d k).entered).goHandler
          d k x.vec := by
  simp only [State.enterExc, hn, hb, Bool.false_eq_true, if_false]

/-- What an entry makes of the state where the handler can be fetched: from a state with the same registers and memories, the frame
is stored in the core's RAM, whose vector words lie below all frames, the trap registers count it, and the core stands at the
handler. -/
theorem State.enterExc_handler (s : State) (d k : Nat) (x : Exc) (hn : s.rd (.core d k) CORE_TRAP_DEPTH < 8)
    (hb : s.ramBehind d k = false) (hx : x.vec < 0x80) (hv : s.eccGood (.lram d k) (0x40 + x.vec) 4 = true)
    (hc : s.codeGood d k (s.load (.lram d k) (0x40 + x.vec) 4) 1 = true) :
    ∃ u : State, u.regs = s.regs ∧ u.mems = s.mems ∧ s.enterExc d k x =
      ((u.storeBytes (.lram d k) (0x100 + 32 * s.rd (.core d k) CORE_TRAP_DEPTH)
        (((s.core d k).frame x (s.diLeft d k).1 (s.tmb.count % 2 ^ 32)).flatMap fun w => leBytes 4 w)).countEntry d k x).setCore d k
          { (s.core d k).entered with pc := s.load (.lram d k) (0x40 + x.vec) 4 } := by
  obtain ⟨free, hs⟩ := s.diLeft_snd d k
  obtain ⟨ecc, hw, hk⟩ := State.lramWords_aligned { s with free := free } d k (0x100 + 32 * s.rd (.core d k) CORE_TRAP_DEPTH)
    ((s.core d k).frame x (s.diLeft d k).1 (s.tmb.count % 2 ^ 32)) (by omega)
  refine ⟨{ s with free := free, ecc := ecc }, rfl, rfl, ?_⟩
  rw [s.enterExc_steps d k x (by omega) hb, hs, hw]
  generalize hbs : ((s.core d k).frame x (s.diLeft d k).1 (s.tmb.count % 2 ^ 32)).flatMap (fun w => leBytes 4 w) = bs
  generalize ht : (({ s with free := free, ecc := ecc }.storeBytes (.lram d k) (0x100 + 32 * s.rd (.core d k) CORE_TRAP_DEPTH)
    bs).countEntry d k x).setCore d k (s.core d k).entered = t
  have hcore : t.core d k = (s.core d k).entered := by rw [← ht, State.core_setCore_same]
  have hkeep : ∀ m w, s.eccOf m w = .good → t.eccOf m w = .good := by rw [← ht]; exact hk
  have hload : t.load (.lram d k) (0x40 + x.vec) 4 = s.load (.lram d k) (0x40 + x.vec) 4 := by
    rw [← ht, State.load_setCore, State.load, State.mem_countEntry, State.storeBytes, State.mem_setMem_same,
      Cells.getList_setList_apart _ _ _ _ _ (by omega)]
    rfl
  have hcode := State.codeGood_keep s t d k _ 1 hc (by rw [hcore]; rfl) hkeep
  rw [State.goHandler_good t d k x.vec _ (State.eccGood_keep s t _ _ _ hv (hkeep _)) hload hcode, hcore, ← ht,
    State.setCore_setCore]

@[simp] theorem State.byte_setCore (s : State) (d k : Nat) (c : Core) (m : MemId) (a : Nat) : (s.setCore d k c).byte m a = s.byte m a := rfl

theorem State.rd_of_regs {s u : State} (h : u.regs = s.regs) (b : Blk) (f : Field) : u.rd b f = s.rd b f := by
  rw [State.rd, State.rd, h]

theorem State.byte_of_mems {s u : State} (h : u.mems = s.mems) (m : MemId) (a : Nat) : u.byte m a = s.byte m a := by
  rw [State.byte, State.byte, State.mem, State.mem, h]

/-! ### Words and bytes that a store of words leaves -/

/-- Word `i` of words stored one after another. -/
theorem State.load_storeBytes_word (s : State) (m : MemId) (a : Nat) (ws : List Nat) (i : Nat) (h : i < ws.length) :
    (s.storeBytes m a (ws.flatMap fun w => leBytes 4 w)).load m (a + 4 * i) 4 = ws.getD i 0 % 2 ^ 32 := by
  rw [State.load, State.storeBytes, State.mem_setMem_same, Cells.word_setList _ _ _ _ h]

/-- A byte of another memory, or outside the bytes stored, reads as before. -/
theorem State.byte_storeBytes_apart (s : State) (m m' : MemId) (a o : Nat) (bs : List Byte) (h : m' ≠ m ∨ o < a ∨ a + bs.length ≤ o) :
    (s.storeBytes m a bs).byte m' o = s.byte m' o := by
  by_cases hm : m' = m
  · subst hm
    have ho : ¬ (a ≤ o ∧ o < a + bs.length) := by
      rcases h with h | h
      · exact absurd rfl h
      · omega
    rw [State.byte, State.storeBytes, State.mem_setMem_same, Cells.get_setList, if_neg ho]
    rfl
  · rw [State.byte, State.storeBytes, State.mem_setMem_ne _ _ _ _ hm]
    rfl

/-- Settles O15: with 8 frames held the entry is a halt (`rd_haltCore_halted`, `haltCore_mems`), with stores held it waits, and
otherwise it is what `enterExc_handler` says, from which each clause is read. -/
theorem exceptionEntry : Obligations.ExceptionEntry := by
  unfold Obligations.ExceptionEntry
  intro s d k x c b m n slot a left info btgt words t
  refine ⟨fun hn => ?_, fun hn hb => ?_, fun hn hb hx hv hc => ?_⟩
  · have ht : t = s.haltCore d k Ev.TRAP_DEPTH := if_pos hn
    rw [ht]
    exact ⟨State.rd_haltCore_halted .., State.rd_haltCore_ownFault .., State.haltCore_mems ..⟩
  · exact (if_neg hn).trans (if_pos hb)
  · obtain ⟨u, hr, hm, ht⟩ := s.enterExc_handler d k x hn hb hx hv hc
    have hwords : c.frame x (s.diLeft d k).1 (s.tmb.count % 2 ^ 32) = words := by
      rw [State.diLeft_fst]
      rfl
    rw [hwords] at ht
    change t = _ at ht
    rw [ht]
    simp only [b, State.core_setCore_same, State.rd_setCore, State.rd_countEntry_depth, State.rd_countEntry_cause,
      State.rd_countEntry_vec, State.rd_countEntry_count, State.rd_storeBytes, State.rd_of_regs hr, State.load_setCore,
      State.load_countEntry, State.byte_setCore, State.byte_countEntry, true_and]
    refine ⟨rfl, Nat.mod_eq_of_lt (show n + 1 < 16 by omega), Nat.mod_eq_of_lt (hx.trans (by decide)),
      fun i hi => State.load_storeBytes_word _ _ _ words i hi, fun m' o ho => ?_⟩
    rw [State.byte_storeBytes_apart _ _ _ _ _ _ (by rwa [length_flatMap_leBytes]), State.byte_of_mems hm]

end Sys2Proof.Machine

namespace Sys2Proof.Machine

/-! ### The sequencer's commands (R38 to R41, R389, R511) -/

/-- A reset comes before the other kinds. -/
theorem ctlKind_eq_three {w : Nat} : ctlKind w = 3 ↔ ctlRST w = true := by
  unfold ctlKind
  repeat' split
  all_goals simp_all

/-- A nap comes after a reset only. -/
theorem ctlKind_eq_two {w : Nat} : ctlKind w = 2 ↔ ctlRST w = false ∧ ctlNAP w = true := by
  unfold ctlKind
  repeat' split
  all_goals simp_all

/-- A freeze acts on nothing else. -/
theorem ctlKind_eq_zero {w : Nat} : ctlKind w = 0 ↔ ctlRST w = false ∧ ctlNAP w = false ∧ ctlEN w = false := by
  unfold ctlKind
  repeat' split
  all_goals simp_all

section
variable (s : State) {n : Node} {w : Nat}

/-- The head of a free sequencer is run by the row of its kind. -/
theorem State.runKind_head {c : NodeCmd} {cs : List NodeCmd} {k : Nat} (hq : s.seqQ = c :: cs) (hf : s.seqFree = true)
    (hg : s.heldByGrant c = false) (hk : ctlKind c.word = k) :
    s.runKind k = ({ s with seqQ := cs }.runCmd c.node c.word).markWaiting.bootMark := by
  simp only [State.runKind, State.runHead, hq, hk, hf, hg, Bool.false_eq_true, not_false_eq_true, and_self, if_true]

theorem State.runCmd_refused {code : Nat} (hn : n ≠ .ring) (hr : s.cmdRefused n w = some code) :
    s.runCmd n w = (s.wr n.blk NODE_CTRL_RESULT code).recordRefusal n w code := by
  simp only [State.runCmd, hn, hr, if_false]

theorem State.runCmd_passed (hn : n ≠ .ring) (hr : s.cmdRefused n w = none) : s.runCmd n w = (s.cmdDone n w).applyCmd n w := by
  simp only [State.runCmd, hn, hr, if_false]

/-- A command that is neither a package reset nor a package nap is over with its application. -/
theorem State.cmdDone_over (hn : n ≠ .ring) (hnap : ¬ (n = .pkg ∧ ctlNAP w = true ∧ w.testBit 1 = true))
    (hrst : ¬ (ctlRST w = true ∧ n.resetsPackage = true)) : s.cmdDone n w = s.wr n.blk NODE_CTRL_RESULT 0 := by
  have hnap' : ¬ ((n = .pkg ∨ n = .ring) ∧ ctlNAP w = true ∧ w.testBit 1 = true) := fun h => hnap ⟨h.1.resolve_right hn, h.2⟩
  rw [State.cmdDone, if_neg hrst, if_neg hnap']

theorem State.cmdDone_reset (hrst : ctlRST w = true) (hn : n.resetsPackage = true) :
    s.cmdDone n w = { s with pwr := { s.pwr with seqReset := true } } := if_pos ⟨hrst, hn⟩

theorem State.cmdDone_nap (hrst : ctlRST w = false) (hnap : ctlNAP w = true) (h1 : w.testBit 1 = true) : s.cmdDone .pkg w = s := by
  simp [State.cmdDone, hrst, hnap, h1]

theorem State.applyRst_package (hn : n.resetsPackage = true) : s.applyRst n = s.packageReset 5 := by
  cases n with
  | lane | core | die => cases hn
  | ring | pkg | crown | field => rfl

/-- A package reset discards the command's other fields. -/
theorem State.applyCmd_reset (hrst : ctlRST w = true) (hn : n.resetsPackage = true) :
    s.applyCmd n w = (s.finishBlocks (s.subtree n)).packageReset 5 := by
  simp [State.applyCmd, State.awaitBlocks, State.applyRst_package, hrst, hn]

theorem State.applyCmd_nap (hrst : ctlRST w = false) (hnap : ctlNAP w = true) (h1 : w.testBit 1 = true) :
    s.applyCmd .pkg w = ((s.finishBlocks (s.subtree .pkg)).applyFields ((s.finishBlocks (s.subtree .pkg)).subtree .pkg)
      (w &&& 0x50005)).napEnter w := by
  simp [State.applyCmd, State.awaitBlocks, hrst, hnap, h1]

/-- A word with none of EN, NAP and FRZ under MASK changes no field. -/
theorem State.applyFields_none (l : List Node) (hen : ctlEN w = false) (hnap : ctlNAP w = false) (hfrz : ctlFRZ w = false) :
    s.applyFields l w = s := by
  simp [State.applyFields, hen, hnap, hfrz]

theorem State.applyFields_freeze (l : List Node) (hen : ctlEN w = false) (hnap : ctlNAP w = false) (hfrz : ctlFRZ w = true) :
    s.applyFields l w = s.each l fun t n => t.applyFrz n (w.testBit 2) := by
  simp [State.applyFields, hen, hnap, hfrz]

theorem State.applyCmd_laneReset (d j : Nat) (hrst : ctlRST w = true) (hen : ctlEN w = false) (hnap : ctlNAP w = false)
    (hfrz : ctlFRZ w = false) : s.applyCmd (.lane d j) w = (s.finishBlocks [.lane d j]).resetLane d j 2 := by
  simp [State.applyCmd, State.awaitBlocks, State.applyRst, Node.resetsPackage, State.subtree, State.applyFields_none, hrst, hen,
    hnap, hfrz]

theorem State.applyCmd_laneFreeze (d j : Nat) (hrst : ctlRST w = false) (hen : ctlEN w = false) (hnap : ctlNAP w = false)
    (hfrz : ctlFRZ w = true) : s.applyCmd (.lane d j) w =
      (if w.testBit 2 then s.withdraw [.lane d j] else s).wrB (.lane d j) NODE_CTRL_FRZ (w.testBit 2) := by
  simp [State.applyCmd, State.awaitBlocks, State.subtree, State.applyFields_freeze, State.each, State.applyFrz, Node.gates, Node.blk,
    Node.frz, hrst, hen, hnap, hfrz]

end

/-- What the row of a kind does with the head of a free sequencer. -/
theorem State.runKind_outcomes (s : State) {c : NodeCmd} {cs : List NodeCmd} {k : Nat} (code : Nat) (hq : s.seqQ = c :: cs)
    (hf : s.seqFree = true) (hg : s.heldByGrant c = false) (hk : ctlKind c.word = k) :
    let u := { s with seqQ := cs }
    (c.node = .ring → s.runKind k = (u.ringStart c.word).markWaiting.bootMark) ∧
    (c.node ≠ .ring → u.cmdRefused c.node c.word = some code →
      s.runKind k = ((u.wr c.node.blk NODE_CTRL_RESULT code).recordRefusal c.node c.word code).markWaiting.bootMark) ∧
    (c.node ≠ .ring → u.cmdRefused c.node c.word = none → ¬ (c.node = .pkg ∧ ctlNAP c.word = true ∧ c.word.testBit 1 = true) →
      ¬ (k = 3 ∧ c.node.resetsPackage = true) →
      s.runKind k = ((u.wr c.node.blk NODE_CTRL_RESULT 0).applyCmd c.node c.word).markWaiting.bootMark) := by
  intro u
  rw [s.runKind_head hq hf hg hk]
  refine ⟨fun hn => ?_, fun hn hr => ?_, fun hn hr hnap hrst => ?_⟩
  · rw [hn, State.runCmd, if_pos rfl]
  · rw [State.runCmd_refused _ hn hr]
  · have hrst' : ¬ (ctlRST c.word = true ∧ c.node.resetsPackage = true) := fun h => hrst ⟨hk ▸ ctlKind_eq_three.2 h.1, h.2⟩
    rw [State.runCmd_passed _ hn hr, State.cmdDone_over _ hn hnap hrst']

/-- Settles O24: each row runs the head of its kind (`State.runKind_outcomes`); a package reset and a package nap keep RESULT
(`State.cmdDone_reset`, `State.cmdDone_nap`), and the fields of a lane's command are applied to it alone. -/
theorem nodeCommands : Obligations.NodeCommands := by
  unfold Obligations.NodeCommands
  intro s c cs code u w done nap run hq hf hg
  have row (i : Instr) (k : Nat) (hi : exec i s = .next (s.runKind k)) : run i k := by
    intro hk
    obtain ⟨hring, href, hdone⟩ := s.runKind_outcomes code hq hf hg hk
    exact ⟨fun hn => hi.trans (congrArg _ (hring hn)), fun hn hr => hi.trans (congrArg _ (href hn hr)),
      fun hn hr hnap hrst => hi.trans (congrArg _ (hdone hn hr hnap hrst))⟩
  refine ⟨row _ _ rfl, row _ _ rfl, row _ _ rfl, row _ _ rfl, fun hk hn hp hr => ?_, fun hk hn h1 hr => ?_,
    fun d j hk hn hnap hen hfrz => ?_, fun d j hk hn hfrz => ?_⟩
  · have hrst := ctlKind_eq_three.1 hk
    change Host.Outcome.next (s.runKind 3) = _
    rw [s.runKind_head hq hf hg hk, State.runCmd_passed _ hn hr, State.cmdDone_reset _ hrst hp, State.applyCmd_reset _ hrst hp]
    rfl
  · obtain ⟨hrst, hnap⟩ := ctlKind_eq_two.1 hk
    change Host.Outcome.next (s.runKind 2) = _
    rw [s.runKind_head hq hf hg hk, hn, State.runCmd_passed _ (n := .pkg) nofun hr, State.cmdDone_nap _ hrst hnap h1,
      State.applyCmd_nap _ hrst hnap h1]
  · rw [hn, State.applyCmd_laneReset _ d j (ctlKind_eq_three.1 hk) hen hnap hfrz]
  · obtain ⟨hrst, hnap, hen⟩ := ctlKind_eq_zero.1 hk
    rw [hn, State.applyCmd_laneFreeze _ d j hrst hen hnap hfrz]

/-! ### Accesses to I-space (R44, R101, R104) -/

section
variable {s t : State} {d k sz v : Nat} {x : Loc}

/-- What an operand reads as before its instruction is what it reads as, or nothing. -/
theorem State.peekLoc_of_readLoc (h : s.readLoc d k 4 x = .ok v t) : s.peekLoc d k x = none ∨ s.peekLoc d k x = some v := by
  rw [State.peekLoc, h]
  split
  · exact .inl rfl
  · exact .inr rfl

/-- An operand that reads as an aligned address which nothing refuses causes no early trap. -/
theorem earlyI_pass {i : Nat} {write : Bool} {refused : State → Nat → Option Nat} {xs : List Loc} (hx : xs[i]? = some x)
    (hv : s.readLoc d k 4 x = .ok v t) (hodd : sz = 2 → v % 2 = 0) (hr : refused s v = none) :
    (earlyI d k sz i write refused).mis xs s = none ∧ (earlyI d k sz i write refused).ref xs s = none := by
  have ho : oddWord sz v = false := decide_eq_false fun h => by have := hodd h.1; omega
  rcases State.peekLoc_of_readLoc hv with hp | hp <;> simp [earlyI, hx, hp, ho, hr]

/-- The one value read by an instruction that reads its first operand and writes its second. -/
theorem State.readLoc_of_readArgs {i : Nat} {a b : Arg} {y : Loc} (ha : a.role.write = false) (hb : b.role.write = true)
    (h : s.readArgs d k i [(a, x), (b, y)] = .ok [v] t) : s.readLoc d k a.n x = .ok v t := by
  simp only [State.readArgs, ha, hb, Bool.false_eq_true, if_false, if_true] at h
  cases e : s.readLoc d k a.n x with
  | trap | stall => simp [e] at h
  | ok u r =>
    rw [e] at h
    by_cases hy : y = .bad
    · simp [hy] at h
    · simp only [hy, if_false, Ran.ok.injEq, List.cons.injEq, and_true] at h
      rw [h.1, h.2]

/-- What can be read of I-space is mapped. -/
theorem State.iReadCheck_of_iBytes {n w : Nat} (h : s.iBytes d k v n = (some w, t)) : s.iReadCheck d k v = none := by
  cases e : s.iLoc d k v with
  | none => simp [State.iBytes, e] at h
  | some => simp [State.iReadCheck, e]

end

/-- A value below `2 ^ 32` is the number of the word that stands for it. -/
theorem val_zero_toNat {v : Nat} {vs : List Nat} (hv : v < 2 ^ 32) : (val (v :: vs) 0).toNat = v := by
  rw [val, List.getD_cons_zero, w32, BitVec.toNat_ofNat, Nat.mod_eq_of_lt hv]

theorem val_one_toNat {w v : Nat} {vs : List Nat} (hv : v < 2 ^ 32) : (val (w :: v :: vs) 1).toNat = v :=
  val_zero_toNat (vs := vs) hv

/-- A memory-form instruction whose body and writes complete goes on where neither moved its core's branch or left it a bus error
or an entry to wait for. -/
theorem State.opM_goesOn (s t t' : State) (d k op sz : Nat) (l : List Arg) (cost : Nat) (body : List Nat → State → MBody)
    (early : Early) (xs : List Loc) (u : BaseWords) (vs ws : List Nat) (h : s.memReady d k op sz l xs u vs = true)
    (hm : early.mis xs s = none ∧ early.ref xs s = none) (hb : body vs s = .done ws t)
    (hw : t.writeArgs d k 1 (l.zip xs) ws = .ok () t') (ho : (t'.putBase d k u).overfull d k = false)
    (hbr : (t'.core d k).br = (s.core d k).br) (hbe : (t'.core d k).busErr = false) (hwt : (t'.core d k).wait = none) :
    s.opM d k op sz l cost body none (fun _ t => t) early =
      (t'.putBase d k u).after d k (argsLen l) (argsLen l + (xs.map Loc.cost).sum + cost) := by
  obtain ⟨hready, _⟩ := s.memReady_parts _ _ _ _ _ _ _ _ h
  rw [s.opM_done t t' d k op sz l cost body none _ early xs u vs ws h (.inr rfl) hm.1 hm.2 hb hw ho]
  exact s.advance_after t' d k _ _ u hready hbr hbe hwt

theorem State.istoreBody_done (s : State) {d k sz a w : Nat} (hc : s.iWriteCheck d k a = none)
    (hd : (s.iStore d k a (2 ^ sz) w).1 = true) : s.istoreBody d k sz a w = .done [] (s.iStore d k a (2 ^ sz) w).2 := by
  simp only [State.istoreBody, hc]
  split
  · next t e => rw [e]
  · next t e => simp [e] at hd

/-- Settles O12: the address read causes no early trap (`earlyI_pass`), and the instruction goes on (`State.opM_goesOn`) with the
parcels read, or stored. -/
theorem codeAccesses : Obligations.CodeAccesses := by
  unfold Obligations.CodeAccesses
  intro s d k sz a x p q u v w word even heven hv hw
  have hcost (n : Nat) : n + ([p, q].map Loc.cost).sum + 1 = n + p.cost + q.cost + 1 := by simp [Nat.add_assoc]
  refine ⟨?_, ?_⟩
  · intro l hm hi n t hws hbr hbe hwt ho
    obtain ⟨_, _, _, _, hread, _⟩ := s.memReady_parts _ _ _ _ _ _ _ _ hm
    have hloc : s.readLoc d k 4 p = .ok v s := State.readLoc_of_readArgs rfl rfl hread
    have hearly := earlyI_pass (write := false) (refused := fun t a => t.iReadCheck d k a) (xs := [p, q]) (i := 0) rfl hloc heven
      (State.iReadCheck_of_iBytes hi)
    rw [← hcost]
    refine congrArg Host.Outcome.next
      (s.opM_goesOn n t d k 0x20 sz l 1 _ _ [p, q] u [v] [w] hm hearly ?_ (n.writes_ok _ _ _ _ _ hws) ho hbr hbe hwt)
    simp only [val_zero_toNat hv, hi]
    rfl
  · intro l hm hloc hc y hd hcore ho
    obtain ⟨hready, _⟩ := s.memReady_parts _ _ _ _ _ _ _ _ hm
    obtain ⟨_, _, hbe, _, _, hwt, _⟩ := s.core_ready d k _ false hready
    have hearly := earlyI_pass (write := true) (refused := fun t a => t.iWriteCheck d k a) (xs := [p, q]) (i := 1) rfl hloc heven hc
    rw [← hcost]
    refine congrArg Host.Outcome.next
      (s.opM_goesOn y y d k 0x21 sz l 1 _ _ [p, q] u [w, v] [] hm hearly ?_ rfl ho (by rw [hcore]) (by rw [hcore, hbe])
        (by rw [hcore, hwt]))
    rw [val_one_toNat hv, val_zero_toNat hw, s.istoreBody_done hc hd]

/-! ### Captures and locks (R32, R50, R52) -/

/-- A requester's block is the header of the core, crown or package node that holds its protection window. -/
theorem Req.node_of_blk {r : Req} {b : Blk} {n : Node} (hr : r.blk = some b) (hn : b.node? = some n) :
    n.blk = b ∧ ((∃ d k, n = .core d k) ∨ n = .crown ∨ n = .pkg) := by
  cases r with
  | core d k => cases hr; cases hn; exact ⟨rfl, .inl ⟨d, k, rfl⟩⟩
  | crown => cases hr; cases hn; exact ⟨rfl, .inr (.inl rfl)⟩
  | host => cases hr; cases hn; exact ⟨rfl, .inr (.inr rfl)⟩
  | engine => cases hr

/-- A write in a node's protection window goes to the region that holds its offset. -/
theorem State.putNode_window (s : State) {n : Node} {o : Nat} (w : Nat) (hn : (∃ d k, n = .core d k) ∨ n = .crown ∨ n = .pkg)
    (hlo : 0x100 ≤ o) (hhi : o < 0x180) :
    s.putNode n o w = some (.taken (if s.is n.blk (PROT_ATTR_LOCK ((o - 0x100) / 0x10)) then s else s.putReg n.blk o w)) := by
  have h18 : o ≠ 0x18 := by omega
  have h30 : ¬ o < 0x30 := by omega
  rcases hn with ⟨d, k, rfl⟩ | rfl | rfl <;> simp only [State.putNode, h18, h30, hlo, hhi, if_false, and_self, if_true]

theorem exec_fltCaptureFree (s : State) (r : Req) :
    exec (.fltCaptureFree r) s = .next (if s.hasReq r then s.fltFree r true false else s) := rfl

theorem exec_protLock (s : State) (r : Req) (i : Nat) :
    exec (.protLock r i) s = .next (if s.hasReq r ∧ i < 8 then s.protLock r i else s) := rfl

/-- Settles O20: a requester's block is its node's (`Req.node_of_blk`), and a write within a locked region's registers is dropped
(`State.putNode_window`). -/
theorem capturesAndLocks : Obligations.CapturesAndLocks := by
  unfold Obligations.CapturesAndLocks
  intro s n r b i
  refine ⟨fun hn => ?_, fun hr hb => ⟨?_, fun hi => ?_, fun o w hi hlo hhi hn hl => ?_⟩, fun hb => ⟨?_, ?_⟩⟩
  · exact congrArg Host.Outcome.next (if_pos hn)
  · simp [exec_fltCaptureFree, State.fltFree, hr, hb]
  · simp [exec_protLock, State.protLock, hr, hi, hb]
  · obtain ⟨rfl, hwin⟩ := Req.node_of_blk hb hn
    have hreg : (o - 0x100) / 0x10 = i := by omega
    rw [s.putNode_window w hwin (by omega) (by omega), hreg, if_pos hl]
  · simp [exec_fltCaptureFree, State.fltFree, hb]
  · simp [exec_protLock, State.protLock, hb]

end Sys2Proof.Machine

namespace Sys2Proof.Machine

/-! ### Words of the data stack (R68 to R70) -/

theorem State.overfull_of_ready {s : State} {d k len : Nat} {form : Bool} (h : s.ready d k len form = true) : s.overfull d k = false := by
  obtain ⟨_, _, _, _, _, _, ho⟩ := s.core_ready d k len form h
  exact ho

/-- A command that only computes puts `ds'`, `rs'` and `ts'` onto the stacks in place of `ds`, `rs` and `ts`. -/
theorem exec_pure {s : State} {d k opc : Nat} {c : Instr} {f : Ins → List Word × List Bool × List Word} {dr tr : List Word} {rr : List Bool}
    (ds ds' : List Word) (rs rs' : List Bool) (ts ts' : List Word) (hs : s.ready d k 1 true = true)
    (hc : exec c s = .next (s.pureS d k opc 1
      { dn := ds.length, dp := ds'.length, rn := rs.length, rp := rs'.length, tn := ts.length, tp := ts'.length } 1 f))
    (hf : f { d := ds, r := rs, t := ts } = (ds', rs', ts')) (hd : (s.core d k).hot.ds = ds ++ dr) (hr : (s.core d k).hot.rs = rs ++ rr)
    (ht : (s.core d k).hot.ts = ts ++ tr) (ld : dr.length + ds'.length ≤ 32) (lr : rs.length < rs'.length → rr.length + rs'.length ≤ 64)
    (lt : ts.length < ts'.length → tr.length + ts'.length ≤ 32) :
    exec c s = .next (s.wentOn d k 1 1 { (s.core d k).hot with ds := ds' ++ dr, rs := rs' ++ rr, ts := ts' ++ tr }) :=
  hc.trans (congrArg _ (s.pureS_take d k opc 1 _ 1 f ds dr ds' rs rr rs' ts tr ts' hs (by decide) hd hr ht hf rfl rfl rfl rfl ld lr lt))

/-- A command that replaces the words `i` on top of the data stack by one word computed from them. -/
theorem exec_replace {s : State} {d k n cost : Nat} {c : Instr} {f : Ins → Word} {i ds : List Word} {w : Word}
    (hs : s.ready d k 1 true = true) (hl : ds.length ≤ 31)
    (hc : exec c s = .next (s.dataOp d k n i.length 1 cost fun x => [f x])) (hw : f { d := i, r := [], t := [] } = w)
    (hd : (s.core d k).hot.ds = i ++ ds) : exec c s = .next (s.wentOn d k 1 cost { (s.core d k).hot with ds := w :: ds }) := by
  rw [hc, s.dataOp_take d k n i.length 1 cost _ i ds [w] hs hd (by rw [hw]) rfl rfl (by omega)]
  rfl

/-- Settles O1: each word replaces what it takes by one word (`exec_replace`, `State.divide_take`), computed by a function that
is that of bit vectors. -/
theorem arithmeticWords : Obligations.ArithmeticWords := by
  unfold Obligations.ArithmeticWords
  intro s d k a b ds hs hl h one two div sat
  have hl' : ds.length ≤ 31 := by omega
  have unary {c : Instr} {n : Nat} {f : Word → Word} {w : Word} (hc : exec c s = .next (s.unary d k n f)) (hw : f a = w) : one c w :=
    exec_replace (i := [a]) hs hl' hc hw
  have binary {c : Instr} {n cost : Nat} {f : Word → Word → Word} {w : Word} (hc : exec c s = .next (s.binary d k n cost f))
      (hw : f a b = w) : two c cost w :=
    exec_replace (i := [b, a]) hs hl' hc hw
  have divide {c : Instr} {n : Nat} {f : Word → Word → Word} {w : Word} (hc : exec c s = .next (s.divide d k n f))
      (hw : f a b = w) : div c w :=
    fun hd => by rw [hc, s.divide_take d k n f a b ds hs hd hl', hw]
  exact ⟨binary rfl rfl, binary rfl rfl, binary rfl (sat32_eq _), binary rfl (sat32_eq _), unary rfl (BitVec.zero_sub a).symm,
    unary rfl ((absSat_eq a).trans (sat32_eq _)), unary rfl rfl, unary rfl rfl, binary rfl (minS_eq a b), binary rfl (maxS_eq a b),
    binary rfl (minU_eq a b), binary rfl (maxU_eq a b), binary rfl rfl, binary rfl (mulHigh_eq a b), binary rfl (mulHighU_eq a b),
    divide rfl (divS_eq a b), divide rfl (divU_eq a b), divide rfl (remS_eq a b), divide rfl (remU_eq a b)⟩

theorem shl_eq (a n : Word) : shl a n = a <<< (n &&& 31).toNat := by rw [shl, shiftCount_eq]
theorem shr_eq (a n : Word) : shr a n = a >>> (n &&& 31).toNat := by rw [shr, shiftCount_eq]
theorem sar_eq (a n : Word) : sar a n = a.sshiftRight (n &&& 31).toNat := by rw [sar, shiftCount_eq]

theorem fieldMask_eq (p n : Word) : fieldMask p n = BitVec.ofNat 32 ((2 ^ (n.toNat % 64) - 1) * 2 ^ (p &&& 31).toNat) := by
  rw [fieldMask, low5_eq, w32]

theorem bfi_eq (a v p n : Word) :
    bfi a v p n = (a &&& ~~~fieldMask p n) ||| ((v <<< (p &&& 31).toNat) &&& fieldMask p n) := by
  rw [bfi, low5_eq]

/-- Settles O2: each word replaces what it takes by one word (`exec_replace`), computed by a function that is that of bit
vectors. -/
theorem logicAndShiftWords : Obligations.LogicAndShiftWords := by
  unfold Obligations.LogicAndShiftWords
  intro s d k a b p n ds hs hl h run cnt pos ones mask
  have replace {c : Instr} {m : Nat} {f : Ins → Word} {i : List Word} {w : Word}
      (hc : exec c s = .next (s.dataOp d k m i.length 1 1 fun x => [f x])) (hw : f { d := i, r := [], t := [] } = w) : run c i w :=
    exec_replace hs (by omega) hc hw
  have hbfi : bfi a b p n = (a &&& ~~~mask) ||| ((b <<< pos) &&& mask) := by rw [bfi_eq, fieldMask_eq]
  exact ⟨replace rfl rfl, replace rfl rfl, replace rfl rfl, replace rfl rfl, replace rfl rfl, replace rfl (shl_eq a b),
    replace rfl (shr_eq a b), replace rfl (sar_eq a b), replace rfl (rol_eq a b), replace rfl (ror_eq a b),
    replace rfl (bfx_eq a p n), replace rfl hbfi, replace rfl (clz_eq a), replace rfl (popc_eq a), replace rfl rfl, replace rfl rfl,
    replace rfl (zext8_eq a), replace rfl (zext16_eq a)⟩

/-! ### Stack words and literals (R68, R71) -/

/-- The low bits of a number, extended with their sign. -/
theorem sext_w32 {n : Nat} (v : Nat) (h : n ≤ 32) : sext n (w32 v) = (BitVec.ofNat n v).signExtend 32 := by
  rw [sext, w32, BitVec.truncate_eq_setWidth, BitVec.setWidth_ofNat_of_le h]

theorem sext16_eq (v : Nat) : sext16 v = (BitVec.ofNat 16 v).signExtend 32 := sext_w32 v (by decide)

theorem State.literal_push {s : State} {d k opc len : Nat} {v : Word} (hs : s.ready d k len true = true) (h1 : 1 ≤ len)
    (hl : (s.core d k).hot.ds.length ≤ 31) :
    s.literal d k opc len v = s.wentOn d k len len { (s.core d k).hot with ds := v :: (s.core d k).hot.ds } :=
  s.pureS_take d k opc len _ len _ [] _ [v] [] _ [] [] _ [] hs h1 rfl rfl rfl rfl rfl rfl rfl rfl (by simpa using by omega)
    nofun nofun

/-- Settles O3: words of the data stack alone are taken and put (`State.dataOp_take`), words that pass between the stacks likewise
(`exec_pure`), and a literal is pushed (`State.literal_push`). -/
theorem stackWordsAndLiterals : Obligations.StackWordsAndLiterals := by
  unfold Obligations.StackWordsAndLiterals
  intro s d k a b c ds ts xs n v h run lit
  have words {i : Instr} {m : Nat} {f : Ins → List Word} {pre post : List Word}
      (hc : exec i s = .next (s.dataOp d k m pre.length post.length 1 f)) (hf : f { d := pre, r := [], t := [] } = post)
      (hp : post.length ≤ 3) : run i pre post :=
    fun hd hl hs => hc.trans (congrArg _ (s.dataOp_take d k m _ _ 1 f pre ds post hs hd hf rfl rfl (by omega)))
  have literal {i : Instr} {opc len : Nat} {u w : Word} (hc : exec i s = .next (s.literal d k opc len u)) (h1 : 1 ≤ len) (hu : u = w) :
      lit i len w :=
    fun hl hs => by rw [hc, State.literal_push hs h1 hl, hu]
  refine ⟨words rfl rfl (by simp), words rfl rfl (by simp), words rfl rfl (by simp), words rfl rfl (by simp), words rfl rfl (by simp),
    words rfl rfl (by simp), words rfl rfl (by simp), fun hl hs => ?depth, fun hn hx hd hl hs => ?pick, fun hd hl ht hs => ?tor,
    fun ht hl hl' hs => ⟨?fromr, ?rfetch⟩, fun hv => literal rfl (by decide) ?lit11, fun hv => ⟨literal rfl (by decide) (sext16_eq v),
      literal rfl (by decide) ?lit16u, literal rfl (by decide) ?lita⟩, fun hv => literal rfl (by decide) rfl⟩
  case depth =>
    exact congrArg Host.Outcome.next (s.runS_words s d k _ 1 1 _ _ [] h.ds [_] hs (by decide) rfl rfl (by simpa using by omega) rfl rfl
      (State.overfull_of_ready hs))
  case pick =>
    subst hx
    have hn' : xs.length % 16 = xs.length := Nat.mod_eq_of_lt hn
    have hd' : h.ds = (xs ++ [a]) ++ ds := by rw [hd, List.append_assoc]; rfl
    have hlen : h.ds.length = xs.length + 1 + ds.length := by rw [hd']; simp; omega
    rw [hd']
    refine congrArg Host.Outcome.next
      (s.dataOp_take d k _ _ _ 1 _ (xs ++ [a]) ds (a :: (xs ++ [a])) hs hd' ?_ ?_ ?_ (by omega)) <;> rw [hn'] <;> simp [Ins.a]
  case tor =>
    exact exec_pure [a] [] [] [] [] [a] hs rfl rfl hd rfl rfl (by simpa using by omega) nofun (by simpa using by omega)
  case fromr =>
    exact exec_pure [] [a] [] [] [a] [] hs rfl rfl rfl rfl ht (by simpa using by omega) nofun nofun
  case rfetch =>
    have hput := exec_pure (c := .rfetch d k) (dr := h.ds) [] [a] [] [] [a] [a] hs rfl rfl rfl rfl ht (by simpa using by omega) nofun (by simp)
    rw [show [a] ++ ts = h.ts from ht.symm] at hput
    exact hput
  case lit11 => exact sext_w32 v (by decide)
  case lit16u => rw [Nat.mod_eq_of_lt hv, w32]
  case lita => rw [sext16_eq, w32]

/-! ### Rung words (R67, R68, R81) -/

theorem State.compare_take {s : State} {d k n c : Nat} {a b : Word} {ds : List Word} (hs : s.ready d k 1 true = true)
    (hd : (s.core d k).hot.ds = b :: a :: ds) (hl : ds.length ≤ 32) (hr : (s.core d k).hot.rs.length ≤ 63) :
    s.compare d k n c =
      s.wentOn d k 1 1 { (s.core d k).hot with ds := ds, rs := condition c 32 a b :: (s.core d k).hot.rs } :=
  s.pureS_take d k _ 1 _ 1 _ [b, a] ds [] [] _ [condition c 32 a b] [] _ [] hs (by decide) hd rfl rfl rfl rfl rfl rfl rfl
    hl (by simpa using by omega) nofun

/-- Settles O4: rungs are taken and put (`State.rungOp_take`), two words compared (`State.compare_take`), or words and rungs passed
between the stacks (`exec_pure`). -/
theorem rungWords : Obligations.RungWords := by
  unfold Obligations.RungWords
  intro s d k x y a b rs ds hs h rung cmp
  have rungs {i : Instr} {n : Nat} {rp : Nat} {f : Bool → Bool → List Bool} {pre post : List Bool}
      (hc : exec i s = .next (s.rungOp d k n pre.length rp f)) (hf : f (pre.getD 0 false) (pre.getD 1 false) = post)
      (hp : rp ≤ 2) : rung i pre post :=
    fun hr hl hd => hc.trans (congrArg _ (s.rungOp_take d k n _ rp f pre rs post hs hd hr hf rfl (by omega)))
  have compares {i : Instr} {n c : Nat} {r : Bool} (hc : exec i s = .next (s.compare d k n c)) (hr : condition c 32 a b = r) : cmp i r :=
    fun hd hl hr' => by rw [hc, State.compare_take hs hd (by omega) hr', hr]
  obtain ⟨heq, hne, hlt, hge, hltu, hgeu⟩ := condition_eq a b
  refine ⟨rungs rfl rfl (by decide), rungs rfl rfl (by decide), rungs rfl rfl (by decide), rungs rfl rfl (by decide),
    rungs rfl rfl (by decide), rungs rfl rfl (by decide), rungs rfl rfl (by decide), rungs rfl rfl (by decide),
    rungs rfl rfl (by decide), rungs rfl rfl (by decide), rungs rfl rfl (by decide), fun hr hl hd => ?tod, fun hd hl hr => ?fromd,
    fun hr hd => ?depth, fun hr hd => ?clr, compares rfl heq, compares rfl hne, compares rfl hlt, compares rfl hge, compares rfl hltu,
    compares rfl hgeu, fun hd hl hr hl' => ?sel⟩
  case tod =>
    exact exec_pure [] [if x then 1 else 0] [x] [] [] [] hs rfl rfl rfl hr rfl (by simpa using by omega) nofun nofun
  case fromd =>
    exact exec_pure [a] [] [] [a != 0] [] [] hs rfl (by simp [Ins.a, bne, BEq.beq]) hd rfl rfl (by simpa using by omega)
      (by simpa using by omega) nofun
  case depth =>
    exact congrArg Host.Outcome.next (s.runS_words s d k _ 1 1 _ _ [] h.ds [_] hs (by decide) rfl rfl (by simpa using by omega) rfl rfl
      (State.overfull_of_ready hs))
  case clr =>
    exact exec_pure [] [] h.rs [] [] [] hs rfl rfl rfl (List.append_nil _).symm rfl (by simpa using hd) nofun nofun
  case sel =>
    exact exec_pure [b, a] [if x then b else a] [x] [] [] [] hs rfl rfl hd hr rfl (by simpa using by omega) nofun nofun

end Sys2Proof.Machine

namespace Sys2Proof.Machine

/-! ### Memory bits (R64 to R66) -/

/-- Where neither scan cores nor held writes change, the core stands as it did, and its queue is no fuller. -/
theorem State.calm_of_side {s t : State} {d k len : Nat} {form : Bool} (hs : s.ready d k len form = true) (h : t.side = s.side) :
    t.core d k = s.core d k ∧ t.overfull d k = false :=
  ⟨State.core_of_side _ _ _ _ h, (State.overfull_of_side _ _ _ _ h).trans (State.overfull_of_ready hs)⟩

theorem State.memWrite_calm {s : State} {d k len : Nat} {form : Bool} (hs : s.ready d k len form = true) (m : MemId) (y : Nat)
    (bs : List Byte) :
    (s.memWrite (.core d k) m y bs).2.core d k = s.core d k ∧ (s.memWrite (.core d k) m y bs).2.overfull d k = false :=
  State.calm_of_side hs (s.memWrite_side ..)

/-- A core stands before a memory bit instruction in window `w`, whose offset stands in its parcels or is `p` on top of the data
stack, above `ds`; the bit that it names is bit `i` of the byte at `a` (R64, R65). -/
structure BitReady (s : State) (d k w : Nat) (off : Option Nat) (p : Word) (ds : List Word) (a i : Nat) : Prop where
  ready : s.ready d k (1 + off.isSome.toNat) true = true
  window : w < 4
  offset : ∀ v, off = some v → v < 2 ^ 21
  words : (s.core d k).hot.ds = if off.isSome then ds else p :: ds
  room : ds.length ≤ 31
  byte : (s.core d k).hot.dwin.getD w 0 * 2 ^ 32 + off.getD p.toNat / 8 = a
  bit : off.getD p.toNat % 8 = i

section
variable {s t : State} {d k w op cost : Nat} {off : Option Nat} {p : Word} {ds : List Word} {a i y : Nat} {m : MemId}
  {x : Bool} {rs : List Bool}

/-- The state in which a bit instruction has left the rungs `r` and the words `ds`. -/
abbrev State.bitDone (t s : State) (d k cost : Nat) (off : Option Nat) (ds : List Word) (r : List Bool) : State :=
  t.wentOn d k (1 + off.isSome.toNat) (cost + off.isSome.toNat) { (s.core d k).hot with ds := ds, rs := r }

theorem State.bitRun_ready {rn : Nat} {pre post : List Bool} {f : Nat → Nat → Bool → State → Body} (hb : BitReady s d k w off p ds a i)
    (hl : rs.length ≤ 63) (hr : (s.core d k).hot.rs = pre ++ rs) (hn : rn = pre.length)
    (hf : f a i (pre.getD 0 false) s = .done [] post [] t) (ht : t.core d k = s.core d k ∧ t.overfull d k = false) :
    s.bitRun d k op w off rn 1 cost f = t.bitDone s d k cost off ds (post ++ rs) := by
  obtain ⟨hs, hw, ho, hd, hroom, rfl, rfl⟩ := hb
  exact s.bitRun_done t d k op w off p rn 1 cost f ds pre rs post hs hw ho hd (by omega) hr hn (by omega) hf ht.1 ht.2

theorem State.bitRun_load {pre : List Bool} {f : Bool → Bool → Bool} (hb : BitReady s d k w off p ds a i) (hl : rs.length ≤ 63)
    (hr : (s.core d k).hot.rs = pre ++ rs) (hload : s.canLoad d k a 1 m y = true) :
    s.bitRun d k op w off pre.length 1 2 (fun a i x t => (t.coreLoad d k a 1).body fun v t => .done [] [f x (v.testBit i)] [] t) =
      s.bitDone s d k 2 off ds (f (pre.getD 0 false) ((s.load m y 1).testBit i) :: rs) :=
  State.bitRun_ready (post := [_]) hb hl hr rfl (by rw [s.coreLoad_ok d k a 1 m y hload]; rfl) ⟨rfl, State.overfull_of_ready hb.ready⟩

theorem State.bitCoil_store {f : Bool → Bool} (hb : BitReady s d k w off p ds a i) (hl : rs.length ≤ 63)
    (hr : (s.core d k).hot.rs = x :: rs) (hload : s.canLoad d k a 1 m y = true)
    (hst : s.canStore d k a (leBytes 1 (putBit (s.load m y 1) i (f x))) m y = true) :
    s.bitCoil d k op w off f =
      (s.memWrite (.core d k) m y (leBytes 1 (putBit (s.load m y 1) i (f x)))).2.bitDone s d k 1 off ds (x :: rs) :=
  State.bitRun_ready (pre := [x]) (post := [x]) hb hl hr rfl
    (by rw [List.getD_cons_zero, s.coreBit_ok d k a i (f x) m y hload hst]; rfl) (State.memWrite_calm hb.ready ..)

/-- BSET and BCLR of a rung that is 1 are the coils of a constant. -/
theorem State.bitLatch_store {v : Bool} (hb : BitReady s d k w off p ds a i) (hl : rs.length ≤ 63)
    (hr : (s.core d k).hot.rs = true :: rs) (hload : s.canLoad d k a 1 m y = true)
    (hst : s.canStore d k a (leBytes 1 (putBit (s.load m y 1) i v)) m y = true) :
    s.bitLatch d k op w off v =
      (s.memWrite (.core d k) m y (leBytes 1 (putBit (s.load m y 1) i v))).2.bitDone s d k 1 off ds (true :: rs) :=
  State.bitRun_ready (pre := [true]) (post := [true]) hb hl hr rfl
    (by rw [List.getD_cons_zero, if_pos rfl, s.coreBit_ok d k a i v m y hload hst]; rfl) (State.memWrite_calm hb.ready ..)

/-- BSET and BCLR of a rung that is 0 only check the address. -/
theorem State.bitLatch_keep {v : Bool} (hb : BitReady s d k w off p ds a i) (hl : rs.length ≤ 63)
    (hr : (s.core d k).hot.rs = false :: rs) (hck : s.dCheck (.core d k) a 1 true = none) :
    s.bitLatch d k op w off v = s.bitDone s d k 1 off ds (false :: rs) :=
  State.bitRun_ready (pre := [false]) (post := [false]) hb hl hr rfl (by simp only [List.getD_cons_zero, Bool.false_eq_true, if_false, hck])
    ⟨rfl, State.overfull_of_ready hb.ready⟩

theorem State.bitEdge_store {f : Bool → Bool → Bool} (hb : BitReady s d k w off p ds a i) (hl : rs.length ≤ 63)
    (hr : (s.core d k).hot.rs = x :: rs) (hload : s.canLoad d k a 1 m y = true)
    (hst : s.canStore d k a (leBytes 1 (putBit (s.load m y 1) i x)) m y = true) :
    s.bitEdge d k op w off f = (s.memWrite (.core d k) m y (leBytes 1 (putBit (s.load m y 1) i x))).2.bitDone s d k 2 off ds
      (f x ((s.load m y 1).testBit i) :: rs) := by
  have hrmw := s.coreRmw_ok d k a 1 (fun v => withBit v i x) m y hload (by rw [withBit_eq]; exact hst)
  rw [withBit_eq] at hrmw
  exact State.bitRun_ready (pre := [x]) (post := [_]) hb hl hr rfl (by rw [List.getD_cons_zero, hrmw]; rfl)
    (State.memWrite_calm hb.ready ..)

end

/-- Settles O5: the addressed bit is loaded (`State.bitRun_load`), stored (`State.bitCoil_store`, `State.bitLatch_store`), left alone
(`State.bitLatch_keep`) or exchanged with the rung (`State.bitEdge_store`). -/
theorem bitWords : Obligations.BitWords := by
  unfold Obligations.BitWords
  intro s d k w y m off p x ds rs h n o a b bit put load store keep hs hw hoff hl hroom hd hload
  have hb : BitReady s d k w off p ds a (o % 8) := ⟨hs, hw, hoff, hd, hroom, rfl, rfl⟩
  have loads {c : Instr} {op : Nat} (pre : List Bool) {f : Bool → Bool → Bool} (hc : exec c s =
      .next (s.bitRun d k op w off pre.length 1 2 fun a i x t =>
        (t.coreLoad d k a 1).body fun v t => .done [] [f x (v.testBit i)] [] t)) : load c pre [f (pre.getD 0 false) bit] :=
    fun hr => hc.trans (congrArg _ (State.bitRun_load hb hl hr hload))
  have coils {c : Instr} {op : Nat} {f : Bool → Bool} (hc : exec c s = .next (s.bitCoil d k op w off f)) : store c 1 (f x) x :=
    fun hr hst => hc.trans (congrArg _ (State.bitCoil_store hb hl hr hload hst))
  have latches {c : Instr} {op : Nat} {v : Bool} (hc : exec c s = .next (s.bitLatch d k op w off v)) (hx : x = true) :
      store c 1 v x := by
    subst hx
    exact fun hr hst => hc.trans (congrArg _ (State.bitLatch_store hb hl hr hload hst))
  have keeps {c : Instr} {op : Nat} {v : Bool} (hc : exec c s = .next (s.bitLatch d k op w off v)) : keep c := by
    intro hr hx hck
    subst hx
    exact hc.trans (congrArg _ (State.bitLatch_keep hb hl hr hck))
  have edges {c : Instr} {op : Nat} {f : Bool → Bool → Bool} (hc : exec c s = .next (s.bitEdge d k op w off f)) :
      store c 2 x (f x bit) :=
    fun hr hst => hc.trans (congrArg _ (State.bitEdge_store hb hl hr hload hst))
  exact ⟨loads [] (f := fun _ b => b) rfl, loads [] (f := fun _ b => !b) rfl, loads [x] (f := fun x b => x && b) rfl,
    loads [x] (f := fun x b => x && !b) rfl, loads [x] (f := fun x b => x || b) rfl, loads [x] (f := fun x b => x || !b) rfl,
    coils (f := fun x => x) rfl, coils (f := fun x => !x) rfl, fun hx => ⟨latches rfl hx, latches rfl hx⟩, keeps rfl, keeps rfl,
    edges (f := fun x b => x && !b) rfl, edges (f := fun x b => !x && b) rfl⟩

end Sys2Proof.Machine

namespace Sys2Proof.Machine

/-! ### Loads and stores (R72 to R75) -/

theorem Core.dAddr_window {c : Core} {w : Nat} (hw : w < 4) (o : Nat) : c.dAddr w o = c.hot.dwin.getD w 0 * 2 ^ 32 + o := by
  rw [Core.dAddr, Nat.mod_eq_of_lt hw]

theorem Core.bitAddr_window {c : Core} {w : Nat} (hw : w < 4) (o : Nat) :
    c.bitAddr w o = (c.hot.dwin.getD w 0 * 2 ^ 32 + o / 8, o % 8) := by
  rw [Core.bitAddr, Nat.mod_eq_of_lt hw]

theorem not_misaligned {a n : Nat} (h : a % n = 0) : misaligned a n = false := by simp [misaligned, h]

/-- A core stands before a load or store in window `w`, with room on its data stack above `ds`; the offset that it takes for `o`
and the displacement is `e` (R72). -/
structure AccessReady (s : State) (d k w : Nat) (disp : Option Nat) (ds : List Word) (o : Word) (e : Nat) : Prop where
  ready : s.ready d k (1 + disp.isSome.toNat) true = true
  window : w < 4
  room : ds.length ≤ 30
  offset : (o + (BitVec.ofNat 16 (disp.getD 0)).signExtend 32).toNat = e

section
variable {s t : State} {d k w op n cost a e y : Nat} {disp : Option Nat} {ds : List Word} {o v : Word} {m : MemId}

/-- The state in which a load or store has left the words `r`. -/
abbrev State.accessDone (t s : State) (d k cost : Nat) (disp : Option Nat) (r : List Word) : State :=
  t.wentOn d k (1 + disp.isSome.toNat) (cost + disp.isSome.toNat) { (s.core d k).hot with ds := r }

theorem State.dRun_ready {u : Use} {pre post : List Word} {f : Nat → Word → State → Body} (hr : AccessReady s d k w disp ds o e)
    (hd : (s.core d k).hot.ds = o :: (pre ++ ds)) (hu : u = { dn := 1 + pre.length, dp := post.length }) (hp : post.length ≤ 1)
    (hf : f e (pre.getD 0 0) s = .done post [] [] t) (ht : t.core d k = s.core d k ∧ t.overfull d k = false) :
    s.dRun d k op w disp u cost f = t.accessDone s d k cost disp (post ++ ds) := by
  obtain ⟨hs, _, hroom, rfl⟩ := hr
  rw [← sext16_eq] at hf
  exact s.dRun_done t d k op w disp u cost f o pre ds post hs hd hu (by omega) hf ht.1 ht.2

theorem State.dLoad_ok {f : Nat → Word} (hr : AccessReady s d k w disp ds o e) (ha : (s.core d k).hot.dwin.getD w 0 * 2 ^ 32 + e = a)
    (hal : a % n = 0) (hload : s.canLoad d k a n m y = true) (hd : (s.core d k).hot.ds = o :: ds) :
    s.dLoad d k op w disp n f = s.accessDone s d k 2 disp (f (s.load m y n) :: ds) := by
  refine State.dRun_ready (pre := []) (post := [_]) hr hd rfl le_rfl ?_ ⟨rfl, State.overfull_of_ready hr.ready⟩
  simp only [Core.dAddr_window hr.window, ha, not_misaligned hal, s.coreLoad_ok d k a n m y hload, Got.body, Bool.false_eq_true, if_false]

theorem State.dStore_ok (hr : AccessReady s d k w disp ds o e) (ha : (s.core d k).hot.dwin.getD w 0 * 2 ^ 32 + e = a)
    (hal : a % n = 0) (hd : (s.core d k).hot.ds = o :: v :: ds) (hst : s.canStore d k a (leBytes n v.toNat) m y = true) :
    s.dStore d k op w disp n = (s.memWrite (.core d k) m y (leBytes n v.toNat)).2.accessDone s d k 1 disp ds := by
  refine State.dRun_ready (pre := [v]) (post := []) hr hd rfl (Nat.zero_le _) ?_ (State.memWrite_calm hr.ready ..)
  simp only [Core.dAddr_window hr.window, ha, not_misaligned hal, List.getD_cons_zero, s.coreStore_ok d k a n v.toNat m y hst, Got.body,
    Bool.false_eq_true, if_false]

theorem State.dSwap_ok {f : Word → Word → Word} (hr : AccessReady s d k w disp ds o e)
    (ha : (s.core d k).hot.dwin.getD w 0 * 2 ^ 32 + e = a) (hal : a % 4 = 0) (hload : s.canLoad d k a 4 m y = true)
    (hd : (s.core d k).hot.ds = o :: v :: ds) (hst : s.canStore d k a (leBytes 4 (f (w32 (s.load m y 4)) v).toNat) m y = true) :
    s.dSwap d k op w disp f = (s.memWrite (.core d k) m y (leBytes 4 (f (w32 (s.load m y 4)) v).toNat)).2.accessDone s d k 2 disp
      (w32 (s.load m y 4) :: ds) := by
  refine State.dRun_ready (pre := [v]) (post := [_]) hr hd rfl le_rfl ?_ (State.memWrite_calm hr.ready ..)
  simp only [Core.dAddr_window hr.window, ha, not_misaligned hal, List.getD_cons_zero,
    s.coreRmw_ok d k a 4 (fun old => (f (w32 old) v).toNat) m y hload hst, Got.body, Bool.false_eq_true, if_false]

/-- LDD.T: bit `e % 8` of the byte at `e / 8` (R72). -/
theorem State.bitLoad_ok (hr : AccessReady s d k w disp ds o e) (ha : (s.core d k).hot.dwin.getD w 0 * 2 ^ 32 + e / 8 = a)
    (hload : s.canLoad d k a 1 m y = true) (hd : (s.core d k).hot.ds = o :: ds) :
    exec (.lddT d k w disp) s = .next (s.accessDone s d k 2 disp (boolWord ((s.load m y 1).testBit (e % 8)) :: ds)) := by
  refine congrArg Host.Outcome.next
    (State.dRun_ready (pre := []) (post := [_]) hr hd rfl le_rfl ?_ ⟨rfl, State.overfull_of_ready hr.ready⟩)
  simp only [Core.bitAddr_window hr.window, ha, s.coreLoad_ok d k a 1 m y hload, Got.body]

theorem State.bitStore_ok (hr : AccessReady s d k w disp ds o e) (ha : (s.core d k).hot.dwin.getD w 0 * 2 ^ 32 + e / 8 = a)
    (hload : s.canLoad d k a 1 m y = true) (hd : (s.core d k).hot.ds = o :: v :: ds)
    (hst : s.canStore d k a (leBytes 1 (putBit (s.load m y 1) (e % 8) (v.getLsbD 0))) m y = true) :
    exec (.stdT d k w disp) s = .next
      ((s.memWrite (.core d k) m y (leBytes 1 (putBit (s.load m y 1) (e % 8) (v.getLsbD 0)))).2.accessDone s d k 1 disp ds) := by
  refine congrArg Host.Outcome.next
    (State.dRun_ready (pre := [v]) (post := []) hr hd rfl (Nat.zero_le _) ?_ (State.memWrite_calm hr.ready ..))
  simp only [Core.bitAddr_window hr.window, ha, List.getD_cons_zero, s.coreBit_ok d k a (e % 8) (v.getLsbD 0) m y hload hst, Got.body]

end

/-- Settles O6: each word is a load, a store or an exchange of bytes (`State.dLoad_ok`, `State.dStore_ok`, `State.dSwap_ok`) or of one
bit (`State.bitLoad_ok`, `State.bitStore_ok`) at the offset that `AccessReady` names. -/
theorem loadAndStoreWords : Obligations.LoadAndStoreWords := by
  unfold Obligations.LoadAndStoreWords
  intro s d k w y m disp o v ds h n e a ab load store hs hw hl
  have hr : AccessReady s d k w disp ds o e := ⟨hs, hw, hl, rfl⟩
  have loads {c : Instr} {op n : Nat} {f : Nat → Word} {r : Word} (hal : a % n = 0) (hload : s.canLoad d k a n m y = true)
      (hc : exec c s = .next (s.dLoad d k op w disp n f)) (hf : f (s.load m y n) = r) : load c r :=
    fun hd => by rw [hc, State.dLoad_ok hr rfl hal hload hd, hf]
  have stores {c : Instr} {op n : Nat} (hal : a % n = 0) (hc : exec c s = .next (s.dStore d k op w disp n)) :
      store c a (leBytes n v.toNat) 1 [] :=
    fun hd hst => hc.trans (congrArg _ (State.dStore_ok hr rfl hal hd hst))
  have swaps {c : Instr} {op : Nat} {f : Word → Word → Word} (hal : a % 4 = 0) (hload : s.canLoad d k a 4 m y = true)
      (hc : exec c s = .next (s.dSwap d k op w disp f)) :
      store c a (leBytes 4 (f (BitVec.ofNat 32 (s.load m y 4)) v).toNat) 2 [BitVec.ofNat 32 (s.load m y 4)] :=
    fun hd hst => hc.trans (congrArg _ (State.dSwap_ok hr rfl hal hload hd hst))
  exact ⟨fun hld => ⟨loads (Nat.mod_one a) hld rfl (sext_w32 _ (by decide)), loads (Nat.mod_one a) hld rfl rfl⟩,
    fun hal hld => ⟨loads hal hld rfl (sext_w32 _ (by decide)), loads hal hld rfl rfl⟩,
    fun hal hld => loads hal hld rfl rfl, fun hld hd => State.bitLoad_ok hr rfl hld hd,
    stores (Nat.mod_one a) rfl, fun hal => stores hal rfl, fun hal => stores hal rfl,
    fun hld hd hst => State.bitStore_ok hr rfl hld hd hst,
    fun hal hld => ⟨swaps (f := fun _ v => v) hal hld rfl, swaps (f := fun old v => old + v) hal hld rfl⟩⟩

end Sys2Proof.Machine

namespace Sys2Proof.Machine

/-! ### Instructions that change the record of their core -/

/-- A stack-form instruction of which the body changes its core's record, but neither its stacks nor a bus error or an entry that
waits, goes on from that record (R53, R84). -/
theorem State.runS_record (s t : State) (c : Core) (d k opc len : Nat) (u : Use) (cost : Nat) (body : Ins → State → Body) (inSlot : Bool)
    (ds dr ds' : List Word) (rs rr rs' : List Bool) (ts tr ts' : List Word)
    (h : s.ready d k len true = true) (sl : inSlot = true ∨ (s.core d k).br = none)
    (hd : (s.core d k).hot.ds = ds ++ dr) (hr : (s.core d k).hot.rs = rs ++ rr) (ht : (s.core d k).hot.ts = ts ++ tr)
    (hu : u = { dn := ds.length, dp := ds'.length, rn := rs.length, rp := rs'.length, tn := ts.length, tp := ts'.length })
    (hb : body { d := ds, r := rs, t := ts } s = .done ds' rs' ts' (t.setCore d k c))
    (cd : c.hot.ds = (s.core d k).hot.ds) (cr : c.hot.rs = (s.core d k).hot.rs) (ct : c.hot.ts = (s.core d k).hot.ts)
    (ce : c.busErr = (s.core d k).busErr) (cw : c.wait = (s.core d k).wait) (o : t.overfull d k = s.overfull d k)
    (ld : dr.length + ds'.length ≤ 32) (lr : rs.length < rs'.length → rr.length + rs'.length ≤ 64)
    (lt : ts.length < ts'.length → tr.length + ts'.length ≤ 32) (l : 1 ≤ len) :
    s.runS d k opc len u cost body inSlot = t.setCore d k { c.goOn (s.core d k).br len cost with
      hot := { c.hot with ds := ds' ++ dr, rs := rs' ++ rr, ts := ts' ++ tr } } := by
  obtain ⟨_, _, he, _, hm, hw, ho⟩ := s.core_ready d k len true h
  obtain ⟨ud, up, ur, urp, ut, utp⟩ : u.dn = ds.length ∧ u.dp = ds'.length ∧ u.rn = rs.length ∧ u.rp = rs'.length ∧ u.tn = ts.length ∧
    u.tp = ts'.length := by rw [hu]; exact ⟨rfl, rfl, rfl, rfl, rfl, rfl⟩
  have hcore : (t.setCore d k c).core d k = c := State.core_setCore_same ..
  have hroom : ds'.length + (((t.setCore d k c).core d k).hot.ds.length - u.dn) ≤ 32 := by
    rw [hcore, cd, hd, ud, List.length_append]; omega
  have hover : ((t.setCore d k c).results d k u ds' rs' ts').overfull d k = false :=
    (State.overfull_results _ d k u ds' rs' ts' hroom).trans (o.trans ho)
  rw [State.runS_take s d k opc len u cost body inSlot id ds dr rs rr ts tr h sl hd hr ht ud ur ut (by rwa [up])
    (by rwa [ur, urp]) (by rwa [ut, utp]) l, hb]
  simp only [hover, Bool.false_eq_true, if_false, id]
  rw [State.done_goOn _ d k len cost u ds' rs' ts' _ (by rw [hcore, ce, he]) (by rw [hcore, cw, hw]) hm hroom, hcore, cd, cr, ct, hd, hr,
    ht, ud, ur, ut, List.drop_left, List.drop_left, List.drop_left, State.setCore_setCore]

theorem Core.goOn_prio (c : Core) (b : Option Br) (len cost : Nat) (l : List Nat) :
    ({ c with prio := l }).goOn b len cost = { c.goOn b len cost with prio := l } := by cases b <;> rfl

theorem Core.goOn_di (c : Core) (b : Option Br) (len cost : Nat) (e : Option Nat) :
    ({ c with di := e }).goOn b len cost = { c.goOn b len cost with di := e } := by cases b <;> rfl

/-! ### I/O words (R78, R79, R347) -/

theorem Core.ioAddr_parcel {c : Core} {b e : Nat} (hb : b < 4) (he : e < 2 ^ 16) :
    c.ioAddr b e = (c.hot.iob.getD b 0 + 4 * e) % 2 ^ 32 := by
  rw [Core.ioAddr, Nat.mod_eq_of_lt hb, Nat.mod_eq_of_lt he]

section
variable {s : State} {d k n o w : Nat} {x : Blk}

/-- What a core that reaches an address finds there. -/
theorem State.reaches_core {write : Bool} (h : s.reaches (.core d k) n write = true) :
    n % 4 = 0 ∧ s.ioCheck (.core d k) n write = none ∧ s.heldOf (.core d k) = [] ∧ (write = false → s.readWaits n = false) ∧
      (if write then !s.ownDone d k n else !s.islandDown n) = true := by
  simp only [State.reaches, Bool.and_eq_true, decide_eq_true_eq, Bool.or_eq_true, Bool.not_eq_true'] at h
  obtain ⟨⟨⟨⟨⟨_, ha⟩, hc⟩, hh⟩, hw⟩, _, hd⟩ := h
  exact ⟨ha, hc, hh, fun e => hw.resolve_left (by simp [e]), hd⟩

/-- A register that only holds fields gives its word (R11, R79). -/
theorem State.ioRead_plain (h : s.reaches (.core d k) n false = true) (ht : s.ioTarget n = .ok (.reg x o)) (hx : x.plain = true) :
    s.ioRead (.core d k) n = .word (s.regWord x o) (s.rcTaken x o) := by
  obtain ⟨_, hc, hh, hw, _⟩ := State.reaches_core h
  exact s.ioRead_reg _ _ n _ x o hc hh (hw rfl) ht (s.regRead_plain x o hx)

/-- A register that only holds fields takes the word written field by field (R11, R79). -/
theorem State.ioWrite_plain (h : s.reaches (.core d k) n true = true) (ht : s.ioTarget n = .ok (.reg x o)) (hx : x.plain = true) :
    s.ioWrite (.core d k) n w = .done (s.putReg x o w) := by
  obtain ⟨_, hc, hh, _, _⟩ := State.reaches_core h
  exact s.ioWrite_reg _ _ n w x o hc hh ht (s.regWrite_plain _ x o w hx)

/-- An OUT to the core's own IRQ_DONE of its running level ends that level (R347). -/
theorem State.outBody_done {v : Word} {l : Nat} {ls : List Nat} (ha : n % 4 = 0) (ho : s.ownDone d k n = true)
    (hc : s.ioCheck (.core d k) n true = none) (hh : s.heldOf (.core d k) = []) (hp : (s.core d k).prio = l :: ls)
    (hv : v.toNat % 16 = l) : s.outBody d k n v = .done [] [] [] (s.setCore d k { s.core d k with prio := ls }) := by
  simp [State.outBody, not_misaligned ha, State.coreOut, ho, hc, State.irqDone, hp, hv, hh, Got.body]

end

/-- Settles O7: an IN reads and an OUT writes what the address names (`State.inBody_ok`, `State.outBody_ok`), be it a register that
only holds fields (`State.ioRead_plain`, `State.ioWrite_plain`) or the core's own IRQ_DONE (`State.outBody_done`). -/
theorem ioWords : Obligations.IoWords := by
  unfold Obligations.IoWords
  intro s d k b e l o x v a ds ls h r p q calm push pop inOf outOf holds hb he hl
  have hq : (s.core d k).ioAddr b e = q := Core.ioAddr_parcel hb he
  have ins {c : Instr} {opc len n : Nat} {pre : List Word} {body : Ins → State → Body} (hs : s.ready d k len true = true)
      (h1 : 1 ≤ len) (hd : h.ds = pre ++ ds) (hc : exec c s = .next (s.runS d k opc len { dn := pre.length, dp := 1 } (1 + len) body))
      (hbody : body { d := pre, r := [], t := [] } s = s.inBody d k n) :
      (inOf n → exec c s = .next (push (s.given r n).2 len (s.given r n).1)) ∧
        (holds n false → exec c s = .next (push (s.rcTaken x o) len (s.regWord x o))) := by
    have reads {w : Nat} {t : State} (ha : n % 4 = 0) (hi : s.islandDown n = false) (hr : s.ioRead r n = .word w t) (ht : calm t) :
        exec c s = .next (push t len w) :=
      hc.trans (congrArg _ (s.runS_words t d k opc len _ _ _ pre ds [w32 w] hs h1 hd rfl (by simpa using by omega)
        (hbody.trans (s.inBody_ok t d k n w ha hi hr)) ht.1 ht.2))
    refine ⟨fun ⟨ha, hi, hg, ht⟩ => reads ha hi (s.gives_word r n hg) ht, fun ⟨hr, ht, hx⟩ => ?_⟩
    obtain ⟨ha, _, _, _, hi⟩ := State.reaches_core hr
    exact reads ha (by simpa using hi) (State.ioRead_plain hr ht hx) (State.calm_of_side hs (s.rcTaken_side x o))
  have outs {c : Instr} {opc len n : Nat} {pre : List Word} {body : Ins → State → Body} (hs : s.ready d k len true = true)
      (h1 : 1 ≤ len) (hd : h.ds = pre ++ ds) (hc : exec c s = .next (s.runS d k opc len { dn := pre.length } len body))
      (hbody : body { d := pre, r := [], t := [] } s = s.outBody d k n v) :
      (outOf n → exec c s = .next (pop (s.posted r n v.toNat) len)) ∧
        (holds n true → exec c s = .next (pop (s.putReg x o v.toNat) len)) := by
    have writes {t : State} (ha : n % 4 = 0) (ho : s.ownDone d k n = false) (hw : s.ioWrite r n v.toNat = .done t) (ht : calm t) :
        exec c s = .next (pop t len) :=
      hc.trans (congrArg _ (s.runS_words t d k opc len _ _ _ pre ds [] hs h1 hd rfl (by simpa using by omega)
        (hbody.trans (s.outBody_ok t d k n v ha ho hw)) ht.1 ht.2))
    refine ⟨fun ⟨ha, ho, hg, ht⟩ => writes ha ho (s.posts_done r n _ hg) ht, fun ⟨hr, ht, hx⟩ => ?_⟩
    obtain ⟨ha, _, _, _, ho⟩ := State.reaches_core hr
    exact writes ha (by simpa using ho) (State.ioWrite_plain hr ht hx) (State.calm_of_side hs (s.putReg_side x o _))
  refine ⟨fun hs hd => ins (pre := [a]) hs (by decide) hd rfl rfl, fun hs hd => ins (pre := []) hs (by decide) hd rfl ?_,
    fun hs hd => ⟨?_, ?_, fun ha ho hc hh hp hv => ?_⟩, fun hs hd => outs (pre := [v]) hs (by decide) hd rfl ?_⟩
  · exact congrArg _ hq
  · exact (outs (pre := [a, v]) hs (by decide) hd rfl rfl).1
  · exact (outs (pre := [a, v]) hs (by decide) hd rfl rfl).2
  · refine congrArg Host.Outcome.next ((s.runS_record s { s.core d k with prio := ls } d k _ 1 _ 1 _ true [a, v] ds [] [] h.rs [] [] h.ts [] hs (.inl rfl) hd rfl rfl
      rfl (State.outBody_done ha ho hc hh hp hv) rfl rfl rfl rfl rfl rfl (by simpa using by omega) nofun nofun (by decide)).trans ?_)
    rw [Core.goOn_prio, Core.goOn_br]
    rfl
  · exact congrArg (s.outBody d k · v) hq

end Sys2Proof.Machine

namespace Sys2Proof.Machine

/-! ### Branches, jumps, calls and RET (R80 to R84, R121) -/

section
variable {s : State} {d k len : Nat}

theorem State.setBranch_taken {tgt : Nat} (h : tgt < 2 ^ 32) :
    s.setBranch d k len true tgt = s.setCore d k { s.core d k with br := some { tgt := tgt } } := by
  rw [State.setBranch, if_pos rfl, Nat.mod_eq_of_lt h]

theorem Core.relTarget_lt (c : Core) (disp : Word) : c.relTarget len disp < 2 ^ 32 := BitVec.isLt _

/-- A branch of which the condition is `t` goes to its target or to the address that follows its delay slot. -/
theorem State.setBranch_cond {disp : Word} (t : Bool) :
    s.setBranch d k len t ((s.core d k).relTarget len disp) = s.setCore d k { s.core d k with
      br := some {
        tgt := if t then (BitVec.ofNat 32 ((s.core d k).pc + len) + disp).toNat else s.slotEnd d k ((s.core d k).pc + len) } } := by
  rw [State.setBranch, Nat.mod_eq_of_lt (Core.relTarget_lt ..)]
  rfl

theorem branchDisp_eq (short : Bool) (e : Nat) :
    branchDisp short e = if short then (BitVec.ofNat 8 e).signExtend 32 else (BitVec.ofNat 16 e).signExtend 32 := by
  rw [branchDisp, sext16_eq, sext_w32 e (by decide)]

theorem Core.goOn_br_none {c : Core} (h : c.br = none) (b : Br) (cost : Nat) :
    ({ c with br := some b } : Core).goOn none len cost = { c.after len cost with br := some b } := by
  rw [← Core.goOn_br, h]
  rfl

/-- A transfer outside a delay slot pops its operands and goes on into its slot with the branch resolved (R80, R84). -/
theorem State.runS_transfer (b : Br) {opc : Nat} {u : Use} {body : Ins → State → Body} {ds dr : List Word} {rs rr : List Bool}
    {ts tr ts' : List Word} (hs : s.ready d k len true = true) (h1 : 1 ≤ len) (hbr : (s.core d k).br = none)
    (hd : (s.core d k).hot.ds = ds ++ dr) (hr : (s.core d k).hot.rs = rs ++ rr) (ht : (s.core d k).hot.ts = ts ++ tr)
    (hu : u = { dn := ds.length, rn := rs.length, tn := ts.length, tp := ts'.length })
    (hb : body { d := ds, r := rs, t := ts } s = .done [] [] ts' (s.setCore d k { s.core d k with br := some b }))
    (hl : dr.length ≤ 32) (hl' : ts.length < ts'.length → tr.length + ts'.length ≤ 32) :
    s.runS d k opc len u len body false = s.setCore d k { (s.core d k).after len len with
      hot := { (s.core d k).hot with ds := dr, rs := rr, ts := ts' ++ tr }, br := some b } := by
  rw [s.runS_record s { s.core d k with br := some b } d k opc len u len body false ds dr [] rs rr [] ts tr ts' hs (.inr hbr) hd hr ht
    hu hb rfl rfl rfl rfl rfl rfl (by simpa using hl) (by simp) hl' h1, hbr, Core.goOn_br_none hbr]
  rfl

end

section
variable {s : State} {d k len opc tgt : Nat} {pre ds : List Word} {f : Ins → Core → Nat}

theorem State.jumpS_take {u : Use} (hs : s.ready d k len true = true) (h1 : 1 ≤ len) (hbr : (s.core d k).br = none)
    (hl : ds.length ≤ 32) (hd : (s.core d k).hot.ds = pre ++ ds) (hu : u = { dn := pre.length })
    (hf : f { d := pre, r := [], t := [] } (s.core d k) = tgt) (ht : tgt < 2 ^ 32) :
    s.jumpS d k opc len u f = s.setCore d k { (s.core d k).after len len with
      hot := { (s.core d k).hot with ds := ds }, br := some { tgt := tgt } } :=
  State.runS_transfer { tgt := tgt } hs h1 hbr hd (rs := []) rfl (ts := []) rfl (ts' := []) hu (by rw [hf, State.setBranch_taken ht]) hl nofun

theorem State.callS_take {dn : Nat} (hs : s.ready d k len true = true) (h1 : 1 ≤ len) (hbr : (s.core d k).br = none)
    (hl : ds.length ≤ 32) (hd : (s.core d k).hot.ds = pre ++ ds) (hu : dn = pre.length)
    (hf : f { d := pre, r := [], t := [] } (s.core d k) = tgt) (ht : tgt < 2 ^ 32) (hts : (s.core d k).hot.ts.length ≤ 31) :
    s.callS d k opc len dn f = s.setCore d k { (s.core d k).after len len with
      hot := { (s.core d k).hot with
        ds := ds, ts := BitVec.ofNat 32 (s.slotEnd d k ((s.core d k).pc + len)) :: (s.core d k).hot.ts }
      br := some { tgt := tgt } } :=
  State.runS_transfer { tgt := tgt } hs h1 hbr hd (rs := []) rfl (ts := []) rfl (ts' := [_]) (by rw [hu]; rfl)
    (by rw [hf, State.setBranch_taken ht]; rfl) hl fun _ => Nat.succ_le_succ hts

end

theorem State.retBody_address {s : State} {d k : Nat} {a : Word} (ha : a ≠ 0xFFFFFFF0) :
    s.retBody d k a = .done [] [] [] (s.setCore d k { s.core d k with br := some { tgt := a.toNat } }) := by
  have hm : a.toNat ≠ formMarker := fun h => ha (BitVec.eq_of_toNat_eq h)
  rw [State.retBody, if_neg hm, State.setBranch_taken a.isLt]

/-- A RET that meets the form-return marker above another entry is a form-return (R121). -/
theorem State.retBody_marker {s : State} {d k : Nat} (h : 2 ≤ (s.core d k).hot.ts.length) :
    s.retBody d k 0xFFFFFFF0 =
      .done [] [] [] (s.setCore d k { s.core d k with br := some { tgt := 0xFFFFFFF0, toMem := true } }) := by
  have hm : (0xFFFFFFF0 : Word).toNat = formMarker := rfl
  rw [State.retBody, if_pos hm, if_neg (by omega)]

/-- Settles O8: every transfer goes on as `State.runS_transfer` says, with the branch that it resolves. -/
theorem branchAndCallWords : Obligations.BranchAndCallWords := by
  unfold Obligations.BranchAndCallWords
  intro s d k e short x a b ds ts rs c h len disp far next go cmp rung ret hbr hl
  have hdisp : branchDisp short e = disp := branchDisp_eq short e
  have h1 : 1 ≤ len := by cases short <;> decide
  have hfar : (s.core d k).relTarget 2 (sext16 e) = far.toNat := by rw [sext16_eq]; rfl
  refine ⟨fun hs => ?branches, fun hs hd => ⟨?_, fun ht => ?_⟩, fun hs hd he => ⟨?_, fun ht => ?_⟩, fun hs hd => ⟨?_, fun ht => ?_⟩,
    fun hs hd ht ha => ?_, fun hs hd ht ha => ?_⟩
  case branches =>
    have branch {i : Instr} {n : Nat} {u : Use} {f : Ins → Bool} {pre : List Word} {rs' rr : List Bool} {t : Bool}
        (hc : exec i s = .next (s.branchS d k n short e u f)) (hd : h.ds = pre ++ ds) (hr : h.rs = rs' ++ rr)
        (hu : u = { dn := pre.length, rn := rs'.length }) (hf : f { d := pre, r := rs', t := [] } = t) :
        exec i s = next len (go len t) { h with ds := ds, rs := rr } := by
      refine hc.trans (congrArg _ (State.runS_transfer { tgt := go len t } hs h1 hbr hd hr (ts := []) rfl (ts' := []) hu ?_ hl nofun))
      rw [hf, hdisp, State.setBranch_cond]
    have cmps {i : Instr} {n : Nat} {t : Bool} (hc : exec i s = .next (s.branchS d k n short e { dn := 2 } fun x => condition n 32 (x.a 1) (x.a 0)))
        (ht : condition n 32 a b = t) : cmp i t :=
      fun hd => branch (pre := [b, a]) (rs' := []) hc hd rfl rfl ht
    have rungs {i : Instr} {n : Nat} {f : Bool → Bool} (hc : exec i s = .next (s.branchS d k n short e { rn := 1 } fun x => f (x.rung 0))) :
        rung i (f x) := by
      intro hr hd
      subst hd
      exact branch (pre := []) (rs' := [x]) hc rfl hr rfl rfl
    obtain ⟨heq, hne, hlt, hge, hltu, hgeu⟩ := condition_eq a b
    exact ⟨cmps rfl heq, cmps rfl hne, cmps rfl hlt, cmps rfl hge, cmps rfl hltu, cmps rfl hgeu, rungs (f := fun x => !x) rfl,
      rungs (f := fun x => x) rfl⟩
  · subst hd
    exact congrArg Host.Outcome.next (State.jumpS_take (pre := []) hs (by decide) hbr hl rfl rfl hfar far.isLt)
  · subst hd
    exact congrArg Host.Outcome.next (State.callS_take (pre := []) hs (by decide) hbr hl rfl rfl hfar far.isLt ht)
  · subst hd
    exact congrArg Host.Outcome.next (State.jumpS_take (pre := []) hs (by decide) hbr hl rfl rfl rfl he)
  · subst hd
    exact congrArg Host.Outcome.next (State.callS_take (pre := []) hs (by decide) hbr hl rfl rfl rfl he ht)
  · exact congrArg Host.Outcome.next (State.jumpS_take (pre := [a]) hs (by decide) hbr hl hd rfl rfl a.isLt)
  · exact congrArg Host.Outcome.next (State.callS_take (pre := [a]) hs (by decide) hbr hl hd rfl rfl a.isLt ht)
  · subst hd
    exact congrArg Host.Outcome.next (State.runS_transfer { tgt := a.toNat } (ds := []) (rs := []) (ts := [a]) (ts' := []) hs (by decide) hbr
      rfl rfl ht rfl (State.retBody_address ha) hl nofun)
  · subst hd ha
    exact congrArg Host.Outcome.next (State.runS_transfer { tgt := 0xFFFFFFF0, toMem := true } (ds := []) (rs := []) (ts := [_]) (ts' := [])
      hs (by decide) hbr rfl rfl ht rfl (State.retBody_marker (by rw [ht]; simp)) hl nofun)

end Sys2Proof.Machine

namespace Sys2Proof.Machine

/-! ### Core registers (R61, R62) -/

theorem listedReg_of_reg {c : Core} {n v : Nat} (h : c.reg n = some v) : listedReg n = true := by
  unfold Core.reg at h
  split at h
  case h_14 => cases h
  all_goals rfl

section
variable (c : Core) (n v : Nat)

/-- A core register is written: which fields of the core keep their values. -/
theorem Core.setReg_keeps : (c.setReg n v).hot.ds = c.hot.ds ∧ (c.setReg n v).hot.rs = c.hot.rs ∧ (c.setReg n v).hot.ts = c.hot.ts ∧
    (c.setReg n v).busErr = c.busErr ∧ (c.setReg n v).wait = c.wait := by
  unfold Core.setReg
  split <;> exact ⟨rfl, rfl, rfl, rfl, rfl⟩

/-- A core register is written before or after the core has gone on without some of its words. -/
theorem Core.setReg_goOn (b : Option Br) (len cost : Nat) (ds : List Word) :
    { (c.setReg n v).goOn b len cost with hot := { (c.setReg n v).hot with ds := ds } } =
      ({ c.goOn b len cost with hot := { c.hot with ds := ds } } : Core).setReg n v := by
  unfold Core.setReg
  cases b <;> split <;> rfl

end

section
variable {s : State} {d k n : Nat}

/-- WRCR: the register takes the word, and the core goes on without it on its stack. -/
theorem exec_wrcr {a : Word} {ds : List Word} {v : Nat} (hs : s.ready d k 1 true = true) (hl : ds.length ≤ 32) (hn : n < 256)
    (hr : (s.core d k).reg n = some v) (hd : (s.core d k).hot.ds = a :: ds) :
    exec (.wrcr d k n) s = .next (s.setCore d k
      (({ (s.core d k).after 1 1 with hot := { (s.core d k).hot with ds := ds } } : Core).setReg n a.toNat)) := by
  obtain ⟨kd, kr, kt, ke, kw⟩ := (s.core d k).setReg_keeps n a.toNat
  have hrun := s.runS_record s ((s.core d k).setReg n a.toNat) d k (0xF200 + n % 256) 1 { dn := 1 } 1
    (fun x t => .done [] [] [] (t.setCore d k ((t.core d k).setReg (n % 256) (x.a 0).toNat))) true [a] ds [] [] _ [] [] _ [] hs (.inl rfl)
    hd kr.symm kt.symm rfl (by rw [Nat.mod_eq_of_lt hn]; rfl) kd kr kt ke kw rfl (by simpa using hl) nofun nofun (by decide)
  have hlist : listedReg (n % 256) = true := by rw [Nat.mod_eq_of_lt hn]; exact listedReg_of_reg hr
  refine congrArg Host.Outcome.next ((if_pos hlist).trans (hrun.trans (congrArg (s.setCore d k) ?_)))
  exact (Core.setReg_goOn ..).trans (by rw [Core.goOn_br]; rfl)

/-! ### The scheduler's words (R82, R138, R142, R543) -/

/-- With no task READY a YIELD has nobody to yield to. -/
theorem State.yield_alone (h : ∀ u, u < 16 → s.rd (.core d k) (TASK_STAT_STATE u) ≠ 2) : s.yield d k = s := by
  have hnone : s.tasksIn d k [2] = [] := by
    rw [State.tasksIn, List.filter_eq_nil_iff]
    intro u hu
    simpa [State.taskState] using h u (List.mem_range.1 hu)
  unfold State.yield
  rw [hnone]
  split <;> rfl

/-- Outside a delay slot control goes on to the next parcel. -/
theorem State.advance_straight (len cost : Nat) :
    (s.spend d k cost).advance d k len none = s.setCore d k ((s.core d k).goOn none len cost) := by
  simp only [State.spend, State.advance, State.core_setCore_same, State.setCore_setCore, Core.goTo, Core.goOn]

/-- YIELD and TASKEND outside a delay slot with no frame held go on, and then bring about what they are for. -/
theorem State.schedS_take {opc : Nat} {act : State → State} (hs : s.ready d k 1 true = true) (hl : (s.core d k).hot.ds.length ≤ 32)
    (hbr : (s.core d k).br = none) (hn : s.rd (.core d k) CORE_TRAP_DEPTH = 0) :
    s.schedS d k opc act = (act (s.wentOn d k 1 1 (s.core d k).hot)).boundary d k := by
  refine (s.runS_goOn s d k opc 1 {} 1 _ false act [] (s.core d k).hot.ds [] [] (s.core d k).hot.rs [] [] (s.core d k).hot.ts [] hs
    (.inr hbr) rfl rfl rfl ?_ rfl (State.overfull_of_ready hs) rfl rfl rfl rfl hl nofun nofun (by decide)).trans ?_
  · rw [hn]
    rfl
  · rw [hbr, State.advance_straight, State.core_setCore_same, State.setCore_setCore, State.wentOn, ← Core.goOn_br, hbr]
    rfl

/-- TASKEND in the background ends it: no stacks, and nothing to run. -/
theorem State.taskEnd_background (h : (s.core d k).ctx = .background) :
    s.taskEnd d k = s.setCore d k { s.core d k with hot := { (s.core d k).hot with ds := [], rs := [], ts := [] }, ctx := .idle } := by
  rw [State.taskEnd, h]

/-- TASKEND of a task without descriptors goes on to its copy-outs. -/
theorem State.taskEnd_task {t : Nat} (h : (s.core d k).ctx = .task t) (hc : s.rd (.core d k) (TASK_IMG_COUNT t) = 0) :
    s.taskEnd d k = (s.setCore d k { s.core d k with
      hot := { (s.core d k).hot with ds := [], rs := [], ts := [] }
      tasks := Tab.set (fun n => n) (s.core d k).tasks t {} { s.task d k t with pos := 0, out := true, stop := none } }).wr
        (.core d k) (TASK_STAT_STATE t) 5 := by
  simp only [State.taskEnd, h, hc, State.findRefused, State.setTask, State.setTaskState, State.task, State.core_setCore_same,
    State.setCore_setCore]

/-- What a core that has gone on keeps. -/
theorem Core.after_keeps (c : Core) (len cost : Nat) : (c.after len cost).hot = c.hot ∧ (c.after len cost).busErr = c.busErr ∧
    (c.after len cost).wait = c.wait ∧ (c.after len cost).ctx = c.ctx ∧ (c.after len cost).tasks = c.tasks := by
  rw [← Core.goOn_br]
  cases c.br <;> exact ⟨rfl, rfl, rfl, rfl, rfl⟩

/-- A word that only sets or clears the DI mask (R90). -/
theorem State.runS_mask {s : State} {d k opc : Nat} {e : Option Nat} {body : Ins → State → Body} (hs : s.ready d k 1 true = true)
    (hl : (s.core d k).hot.ds.length ≤ 32)
    (hb : body { d := [], r := [], t := [] } s = .done [] [] [] (s.setCore d k { s.core d k with di := e })) :
    s.runS d k opc 1 {} 1 body = s.setCore d k { (s.core d k).after 1 1 with di := e } := by
  rw [s.runS_record s { s.core d k with di := e } d k opc 1 {} 1 body true [] (s.core d k).hot.ds [] [] (s.core d k).hot.rs [] []
    (s.core d k).hot.ts [] hs (.inl rfl) rfl rfl rfl rfl hb rfl rfl rfl rfl rfl rfl (by simpa using hl) nofun nofun (by decide),
    Core.goOn_di, ← Core.goOn_br]
  generalize (s.core d k).br = b
  cases b <;> rfl

end

/-- Settles O9: the words that only compute put their results (`exec_pure`, `State.runS_words`),
those that change the core's record go on from it (`State.runS_record`, `State.runS_mask`,
`exec_wrcr`), and YIELD and TASKEND act once they have gone on (`State.schedS_take`). -/
theorem systemWords : Obligations.SystemWords := by
  unfold Obligations.SystemWords
  intro s d k n t v a ds c h hs hl
  have hov : s.overfull d k = false := State.overfull_of_ready hs
  obtain ⟨_, _, hbe, _, _, hwt, _⟩ := s.core_ready d k 1 true hs
  obtain ⟨_, kb, kw, kc, kt⟩ := c.after_keeps 1 1
  have hcore : (s.wentOn d k 1 1 h).core d k = { c.after 1 1 with hot := h } := State.core_setCore_same ..
  refine ⟨?nop, fun hh => ?fence, ?brk, ?rdtb, ?rdcyc, ?di, ?ei, fun hn hr => ?rdcr,
    fun hn hr hd => exec_wrcr hs (by rw [hd] at hl; simp at hl; omega) hn hr hd, fun hbr hdep => ?sched⟩
  case nop =>
    exact exec_pure (dr := h.ds) [] [] [] [] [] [] hs rfl rfl rfl rfl rfl (by simpa using by omega) nofun nofun
  case fence =>
    exact congrArg Host.Outcome.next (s.runS_words s d k _ 1 1 _ _ [] h.ds [] hs (by decide) rfl rfl (by simpa using by omega)
      (if_pos hh) rfl hov)
  case brk =>
    refine congrArg Host.Outcome.next ((s.runS_take d k _ 1 {} 1 _ true id [] h.ds [] h.rs [] h.ts hs (.inl rfl) rfl rfl rfl rfl rfl rfl
      (by simpa using by omega) nofun nofun (by decide)).trans ?_)
    simp only [State.unstack, if_true]
    rfl
  case rdtb =>
    exact congrArg Host.Outcome.next (s.runS_words s d k _ 1 2 _ _ [] h.ds [_, _] hs (by decide) rfl rfl (by simpa using by omega) rfl rfl hov)
  case rdcyc =>
    refine congrArg Host.Outcome.next ((s.runS_record { s with free := s.free + 1 } { c with cyc := c.cyc + Config.freeNat s.free } d k _ 1 _ 2
      _ true [] h.ds [_, _] [] h.rs [] [] h.ts [] hs (.inl rfl) rfl rfl rfl rfl rfl rfl rfl rfl rfl rfl rfl (by simpa using by omega) nofun nofun
      (by decide)).trans ?_)
    rw [show (s.core d k).br = ({ c with cyc := c.cyc + Config.freeNat s.free } : Core).br from rfl, Core.goOn_br]
    rfl
  case di => exact congrArg Host.Outcome.next (State.runS_mask hs (hl.trans (by decide)) rfl)
  case ei => exact congrArg Host.Outcome.next (State.runS_mask hs (hl.trans (by decide)) rfl)
  case rdcr =>
    have hn' : n % 256 = n := Nat.mod_eq_of_lt hn
    refine congrArg Host.Outcome.next ((if_pos (by rw [hn']; exact listedReg_of_reg hr)).trans
      (s.runS_words s d k _ 1 1 _ _ [] h.ds [_] hs (by decide) rfl rfl (by simpa using by omega) ?_ rfl hov))
    rw [hn', hr]
    rfl
  case sched =>
    have hsched {i : Instr} {opc : Nat} {act : State → State} (hc : exec i s = .next (s.schedS d k opc act)) :
        exec i s = .next ((act (s.wentOn d k 1 1 h)).boundary d k) :=
      hc.trans (congrArg _ (State.schedS_take hs (hl.trans (by decide)) hbr hdep))
    refine ⟨fun hu => ?yield, fun hc => ?background, fun hc h0 => ?task⟩
    case yield =>
      refine (hsched rfl).trans (congrArg _ ?_)
      rw [State.yield_alone (s := s.wentOn d k 1 1 h) hu]
      exact State.boundary_quiet _ _ _ (by rw [hcore]; exact kb.trans hbe) (by rw [hcore]; exact kw.trans hwt)
    case background =>
      refine (hsched rfl).trans (congrArg _ ?_)
      rw [State.taskEnd_background (by rw [hcore]; exact kc.trans hc), hcore, State.wentOn, State.setCore_setCore]
      exact State.boundary_quiet _ _ _ (by rw [State.core_setCore_same]; exact kb.trans hbe)
        (by rw [State.core_setCore_same]; exact kw.trans hwt)
    case task =>
      refine (hsched rfl).trans (congrArg _ ?_)
      rw [State.taskEnd_task (s := s.wentOn d k 1 1 h) (by rw [hcore]; exact kc.trans hc) h0, State.task, hcore, State.wentOn,
        State.setCore_setCore, State.boundary_quiet _ _ _ (by rw [State.core_wr, State.core_setCore_same]; exact kb.trans hbe)
          (by rw [State.core_wr, State.core_setCore_same]; exact kw.trans hwt), kt]
      rfl

end Sys2Proof.Machine

namespace Sys2Proof.Machine

/-! ### Memory form arithmetic (R69, R70, R100 to R102) -/

theorem State.dz_noteDiv (s : State) (d k : Nat) (q : Word) : ((s.noteDiv d k q).core d k).dz = ((s.core d k).dz || q == 0) := by
  by_cases hq : q = 0
  · rw [State.noteDiv, if_pos hq, State.core_setCore_same, hq]
    simp
  · rw [State.noteDiv, if_neg hq, beq_false_of_ne hq, Bool.or_false]

/-- Settles O10: each instruction reads its operands, computes one result, writes it and goes on (`State.opM_goesOn`). -/
theorem memoryFormArithmetic : Obligations.MemoryFormArithmetic := by
  unfold Obligations.MemoryFormArithmetic
  intro s d k sz a b x xs u v w i o fit run p q cnt
  have goes {c : Instr} {op cost : Nat} {l : List Arg} {vs : List Nat} {r : Word} {n : State} {f : List Nat → State → MBody}
      (hc : exec c s = .next (s.opM d k op sz l cost f)) (hf : f vs s = .done [r.toNat] n)
      (hm : s.memReady d k op sz l xs u vs = true) (hw : n.writes d k 1 (l.zip xs) [r.toNat] = true)
      (hfit : fit (n.written d k 1 (l.zip xs) [r.toNat])) :
      exec c s = .next (((n.written d k 1 (l.zip xs) [r.toNat]).putBase d k u).after d k (argsLen l)
        (argsLen l + (xs.map Loc.cost).sum + cost)) := by
    obtain ⟨hbr, hbe, hwt, hov⟩ := hfit
    exact hc.trans (congrArg _ (s.opM_goesOn n _ d k op sz l cost f {} xs u vs [r.toNat] hm ⟨rfl, rfl⟩ hf (n.writes_ok _ _ _ _ _ hw) hov
      hbr hbe hwt))
  have computes {c : Instr} {op cost : Nat} {f : Word → Word → Word} {r : Word} (hc : exec c s = .next (s.memOp d k op sz a b x cost f))
      (hr : f p q = r) : run c op cost r :=
    fun hm hw hfit => goes hc (by rw [← hr]; rfl) hm hw hfit
  have divides {c : Instr} {op : Nat} {f : Word → Word → Word} (hc : exec c s = .next (s.memDiv d k op sz a b x f)) :=
    goes (l := [i a, i b, o x]) (vs := [v, w]) (r := f p q) (n := s.noteDiv d k q) hc rfl
  exact ⟨goes (cost := 0) (f := fun vs t => .done [(val vs 0).toNat] t) (n := s) (vs := [v]) (r := p) rfl rfl, computes rfl rfl,
    computes rfl rfl, computes rfl rfl, computes rfl rfl, computes rfl rfl, computes rfl rfl, computes rfl (shl_eq p q),
    computes rfl (shr_eq p q), computes rfl (sar_eq p q), computes rfl rfl, s.dz_noteDiv d k q,
    by rw [← divU_eq]; exact divides rfl, by rw [← remU_eq]; exact divides rfl⟩

end Sys2Proof.Machine

namespace Sys2Proof.Machine

/-! ### Words of bytes that were read together -/

theorem Cells.getList_drop (m : Cells) (a n i : Nat) : (m.getList a n).drop i = m.getList (a + i) (n - i) := by
  induction i generalizing a n with
  | zero => rfl
  | succ i ih =>
    cases n with
    | zero => simp [Cells.getList]
    | succ n => rw [Cells.getList, List.drop_succ_cons, ih, Nat.add_right_comm, Nat.add_sub_add_right]; rfl

theorem Cells.getList_take (m : Cells) (a : Nat) {n j : Nat} (h : j ≤ n) : (m.getList a n).take j = m.getList a j := by
  induction j generalizing a n with
  | zero => rfl
  | succ j ih =>
    obtain ⟨n, rfl⟩ : ∃ n', n = n' + 1 := ⟨n - 1, by omega⟩
    rw [Cells.getList, List.take_succ_cons, ih _ (by omega)]
    rfl

/-- A number among bytes of memory that were read together is the one that a load of its bytes gives. -/
theorem State.numAt_getList (s : State) (mem : MemId) (a : Nat) {n i j : Nat} (h : i + j ≤ n) :
    numAt ((s.mem mem).getList a n) i j = s.load mem (a + i) j := by
  rw [numAt, Cells.getList_drop, Cells.getList_take _ _ (by omega), State.load]

theorem State.load_lt (s : State) (m : MemId) (a n : Nat) : s.load m a n < 256 ^ n := by
  have h := leNat_lt ((s.mem m).getList a n)
  rwa [Cells.getList_length] at h

/-! ### Instructions without operands (R89, R90, R112, R121, R122) -/

section
variable {s : State} {d k op : Nat}

/-- An instruction without operands whose body leaves the core's queue no fuller goes on, and then brings about what it is for. -/
theorem State.opM_bare {t : State} {cost : Nat} {body : List Nat → State → MBody} {slotCause : Option Nat} {after : List Nat → State → State}
    (hm : s.memReady d k op 0 [] [] [] [] = true) (sl : (s.core d k).br = none ∨ slotCause = none) (hb : body [] s = .done [] t)
    (ho : t.overfull d k = s.overfull d k) :
    s.opM d k op 0 [] cost body slotCause after =
      (after [] ((t.spend d k (1 + cost)).advance d k 1 (s.core d k).br)).boundary d k := by
  obtain ⟨hs, _⟩ := s.memReady_parts _ _ _ _ _ _ _ _ hm
  exact s.opM_done t t d k op 0 [] cost body slotCause after {} [] [] [] [] hm sl rfl rfl hb rfl (ho.trans (State.overfull_of_ready hs))

/-- One whose body only sets or clears the DI mask. -/
theorem State.opM_mask {e : Option Nat} {body : List Nat → State → MBody} (hm : s.memReady d k op 0 [] [] [] [] = true)
    (hb : body [] s = .done [] (s.setCore d k { s.core d k with di := e })) :
    s.opM d k op 0 [] 0 body = s.setCore d k { (s.core d k).after 1 1 with di := e } := by
  obtain ⟨hs, _⟩ := s.memReady_parts _ _ _ _ _ _ _ _ hm
  obtain ⟨_, _, hbe, _, hbr, hwt, _⟩ := s.core_ready d k _ false hs
  rw [State.opM_bare hm (.inr rfl) hb rfl, State.spend_advance _ d k 1 _ _ (by rw [State.core_setCore_same, hbe])
    (by rw [State.core_setCore_same, hwt]) hbr, State.core_setCore_same, State.setCore_setCore, Core.goOn_di, Core.goOn_br]

end

/-! ### Returns from an exception (R121, R122) -/

section
variable {s : State} {d k slot : Nat}

theorem State.topFrame_good (hslot : 0x100 + 32 * (s.rd (.core d k) CORE_TRAP_DEPTH - 1) = slot) (hg : s.eccGood (.lram d k) slot 32 = true) :
    s.topFrame d k = (some ((s.mem (.lram d k)).getList slot 32), s) := by
  rw [State.topFrame, hslot]
  exact s.readBytes_good _ _ _ hg

theorem State.returnBody_done {stack : Bool} (hn : s.rd (.core d k) CORE_TRAP_DEPTH ≠ 0) (hb : s.ramBehind d k = false)
    (hslot : 0x100 + 32 * (s.rd (.core d k) CORE_TRAP_DEPTH - 1) = slot) (hg : s.eccGood (.lram d k) slot 32 = true)
    (hform : (s.load (.lram d k) slot 4).testBit 16 = stack) : s.returnBody d k stack = .done [] s := by
  have hinfo : numAt ((s.mem (.lram d k)).getList slot 32) 0 4 = s.load (.lram d k) slot 4 := s.numAt_getList _ _ (by decide)
  rw [State.returnBody, if_neg hn, hb, State.topFrame_good hslot hg]
  simp only [Bool.false_eq_true, if_false, hinfo, hform, if_true]

/-- A return takes its core's form, mask and place from the words of the top frame and removes the frame (R122). -/
theorem State.returnFrame_good {stack : Bool} (hslot : 0x100 + 32 * (s.rd (.core d k) CORE_TRAP_DEPTH - 1) = slot)
    (hg : s.eccGood (.lram d k) slot 32 = true) :
    s.returnFrame d k stack = ((s.setCore d k ((s.core d k).unframed (s.load (.lram d k) slot 4) stack)).resume d k
      (s.load (.lram d k) slot 4) (s.load (.lram d k) (slot + 8) 4) (s.load (.lram d k) (slot + 12) 4)
      (s.load (.lram d k) (slot + 16) 4)).wr (.core d k) CORE_TRAP_DEPTH (s.rd (.core d k) CORE_TRAP_DEPTH - 1) := by
  rw [State.returnFrame, State.topFrame_good hslot hg]
  simp only [s.numAt_getList (.lram d k) slot (show 0 + 4 ≤ 32 by decide), s.numAt_getList (.lram d k) slot (show 8 + 4 ≤ 32 by decide),
    s.numAt_getList (.lram d k) slot (show 12 + 4 ≤ 32 by decide), s.numAt_getList (.lram d k) slot (show 16 + 4 ≤ 32 by decide),
    Nat.add_zero]

/-- The DI mask of a frame lifts after the cycles that the top bits of its first word name. -/
theorem Core.unframed_eq {c : Core} {info : Nat} (stack : Bool) (h : info < 2 ^ 32) :
    c.unframed info stack = { c with form := stack, di := if info.testBit 18 then some (c.cyc + info / 2 ^ 20) else none } := by
  rw [Core.unframed, bits, Nat.mod_eq_of_lt (by omega)]

/-! Where a return goes, by whether the frame records a branch and the handler has moved RETA (R87, R121, R122). -/

variable {c : Core} {info reta iaddr btgt : Nat}

theorem State.resume_straight (h : info.testBit 17 = false) : (s.setCore d k c).resume d k info reta iaddr btgt =
    s.setCore d k { c.goTo reta true with blk := info.testBit 19 && reta == iaddr } := by
  simp only [State.resume, h, Bool.false_eq_true, if_false, State.core_setCore_same, State.setCore_setCore]
  rfl

theorem State.resume_pending (h : info.testBit 17 = true) (ha : reta = iaddr) : (s.setCore d k c).resume d k info reta iaddr btgt =
    s.setCore d k { c.goTo reta true with br := some { tgt := btgt, toMem := btgt == 0xFFFFFFF0 } } := by
  simp only [State.resume, h, ha, if_true, State.core_setCore_same, State.setCore_setCore]
  rfl

theorem State.resume_moved (h : info.testBit 17 = true) (ha : reta ≠ iaddr) (ht : btgt ≠ 0xFFFFFFF0) :
    (s.setCore d k c).resume d k info reta iaddr btgt = s.setCore d k (c.goTo btgt true) := by
  simp only [State.resume, h, ha, ht, decide_false, Bool.false_eq_true, if_true, if_false, State.core_setCore_same, State.setCore_setCore]

end

/-- Settles O13: a return goes on and then leaves its frame (`State.returnFrame_good`) for where the frame's words say
(`State.resume_straight`, `State.resume_pending`, `State.resume_moved`); the others only change their core's record, or trap. -/
theorem memoryFormSystem : Obligations.MemoryFormSystem := by
  unfold Obligations.MemoryFormSystem
  intro s d k stack c b n slot word info reta iaddr btgt at_ y u back returns
  refine ⟨fun hm hbr hn hram hg hform => ?_, fun hm => ?_, fun hm => ?_, fun hm hh => ?_, fun hm => ?_⟩
  · obtain ⟨hs, _⟩ := s.memReady_parts _ _ _ _ _ _ _ _ hm
    obtain ⟨_, _, hbe, _, _, hwt, _⟩ := s.core_ready d k _ false hs
    obtain ⟨_, kb, kw, _⟩ := c.after_keeps 1 11
    have hleave : (s.setCore d k y).returnFrame d k stack = ((s.setCore d k u).resume d k info reta iaddr btgt).wr b CORE_TRAP_DEPTH (n - 1) := by
      have h := State.returnFrame_good (s := s.setCore d k y) (stack := stack) rfl hg
      rw [State.core_setCore_same, State.setCore_setCore, Core.unframed_eq stack (State.load_lt ..)] at h
      exact h
    have hret {v : Core} (hv : (s.setCore d k u).resume d k info reta iaddr btgt = s.setCore d k v) (hvb : v.busErr = y.busErr)
        (hvw : v.wait = y.wait) : returns v := by
      have hop : s.opM d k (if stack then 0xF2 else 0xF3) 0 [] 10 (fun _ t => t.returnBody d k stack) (some 0x20)
          (fun _ t => t.returnFrame d k stack) = (s.setCore d k v).wr b CORE_TRAP_DEPTH (n - 1) := by
        rw [State.opM_bare hm (.inl hbr) (State.returnBody_done hn hram rfl hg hform) rfl, hbr, State.advance_straight, ← hbr, Core.goOn_br,
          hleave, hv]
        exact State.boundary_quiet _ _ _ (by rw [State.core_wr, State.core_setCore_same, hvb]; exact kb.trans hbe)
          (by rw [State.core_wr, State.core_setCore_same, hvw]; exact kw.trans hwt)
      constructor <;> intro h <;> rw [h] at hop <;> exact congrArg Host.Outcome.next hop
    exact ⟨fun h17 => hret (State.resume_straight h17) rfl rfl, fun h17 ha => hret (State.resume_pending h17 ha) rfl rfl,
      fun h17 ha ht => hret (State.resume_moved h17 ha ht) rfl rfl⟩
  · exact congrArg Host.Outcome.next (State.opM_mask hm rfl)
  · exact congrArg Host.Outcome.next (State.opM_mask hm rfl)
  · obtain ⟨hs, _⟩ := s.memReady_parts _ _ _ _ _ _ _ _ hm
    obtain ⟨_, _, hbe, _, _, hwt, hov⟩ := s.core_ready d k _ false hs
    exact congrArg Host.Outcome.next (s.opM_goesOn s s d k 0xF6 0 [] 0 _ {} [] [] [] [] hm ⟨rfl, rfl⟩ (if_pos hh) rfl hov rfl hbe hwt)
  · exact congrArg Host.Outcome.next (s.opM_ready d k 0xF7 0 [] 0 _ none _ {} [] [] [] hm (.inr rfl) rfl rfl)

end Sys2Proof.Machine

namespace Sys2Proof.Machine

/-! ### What reaches a core at its boundaries (R77, R90, R114, R197, R344, R345, R356) -/

section
variable {s : State} {d k : Nat}

theorem State.atBoundary_iff :
    s.atBoundary d k = true ↔ s.coreLive d k = true ∧ (s.core d k).br = none ∧ (s.core d k).busy = false := by
  simp [State.atBoundary, and_assoc]

theorem State.coreLive_up (h : s.coreLive d k = true) : s.coreUp d k = true ∧ (s.core d k).wait = none := by
  simp only [State.coreLive, Bool.and_eq_true, Option.isNone_iff_eq_none] at h
  obtain ⟨⟨⟨hup, _⟩, _⟩, hw⟩ := h
  exact ⟨hup, hw⟩

/-- A bus error that is reported leaves the core as it was but for its being pending, and at a boundary where it was. -/
theorem State.core_reportBus (a : Nat) : (s.reportBus d k a).core d k = { s.core d k with busErr := true } := by
  rw [State.reportBus, State.core_offer, State.core_setCore_same]

theorem State.atBoundary_reportBus (a : Nat) : (s.reportBus d k a).atBoundary d k = s.atBoundary d k := by
  have hlive : (s.reportBus d k a).coreLive d k = s.coreLive d k :=
    State.coreLive_congr s _ d k (fun b f hb => by rw [State.reportBus, State.rd_offer _ _ _ _ _ _ hb, State.rd_setCore])
      (by rw [State.reportBus, State.offer_pwr, State.setCore_pwr]) (by rw [State.reportBus, State.offer_straps, State.setCore_straps])
      (by rw [State.core_reportBus]) (by rw [State.core_reportBus]) (by rw [State.core_reportBus])
  simp only [State.atBoundary, hlive, State.core_reportBus]

/-- A pending bus error is entered at a boundary, and nowhere else. -/
theorem State.boundary_busErr (hw : (s.core d k).wait = none) (hb : (s.core d k).busErr = true) :
    s.boundary d k = if s.atBoundary d k then (s.setCore d k { s.core d k with busErr := false }).enterAsync d k 0x24 0x62 else s := by
  simp only [State.boundary, hw, hb, Bool.true_and]

/-- A reserved opcode that can be fetched is trapped with its cause (R55, R92, R96). -/
theorem exec_reservedOpcode {p c : Nat} (hr : s.coreRuns d k = true) (hg : s.codeGood d k (s.core d k).pc 1 = true)
    (hc : reservedOpcode (s.core d k).form (p % 2 ^ 16) = some c) :
    exec (.reservedOpcodeTrap d k p) s = .next (s.trap d k (p % 2 ^ 16) 1 c) := by
  change execReservedOpcodeTrap d k p s = _
  simp only [execReservedOpcodeTrap, hc, hr, if_true, s.fetch_good d k _ 1 hg]

theorem State.codeLen_unfetchable {a : Nat} (form : Bool) (h : fetchable a = false) : codeLen (s.peekParcel d k) form a = 1 := by
  simp [codeLen, State.peekParcel, h]

/-- An instruction at an address from which nothing is fetched traps there, with the capture of the refusal (R77, R83). -/
theorem exec_fetchFault (hr : s.coreRuns d k = true) (hf : fetchable (s.core d k).pc = false) :
    exec (.instructionFetchFault d k) s =
      .next ((s.refuse (.core d k) 0 (s.core d k).pc (s.core d k).pc false 0xF0).trap d k 0 1 0x03) := by
  change execInstructionFetchFault d k s = _
  simp only [execInstructionFetchFault, hr, if_true, State.codeLen_unfetchable _ hf, State.fetch, hf, Bool.false_eq_true, if_false]

end

/-- Settles O16: at a boundary (`State.atBoundary_iff`) each event enters its vector; a bus error of a posted access waits for one
(`State.boundary_busErr`). -/
theorem coreBoundaryEvents : Obligations.CoreBoundaryEvents := by
  unfold Obligations.CoreBoundaryEvents
  intro s d k a i kind e c level entry free
  have hfree : free ↔ s.atBoundary d k = true := State.atBoundary_iff.symm
  refine ⟨fun hf hb hn hp hd hl ht hlen hdep => ?irq, fun hf hb hn => ?nmi, fun hf hb hn hp => ?plane, fun hu hf hw => ?busError,
    fun hf => ?busEntry, fun hu hd => ?mask, fun hr hg hop he => ?opcode, fun hr hfetch => ?fetch⟩
  case irq =>
    have hallowed : s.irqAllowed d k level = true := by
      simp only [State.irqAllowed, hfree.1 hf, Bool.true_and, Bool.and_eq_true, decide_eq_true_eq, Option.isNone_iff_eq_none,
        Bool.not_eq_true']
      exact ⟨⟨⟨⟨hb, hn⟩, hp⟩, hd⟩, hl, ht, hlen, hdep⟩
    refine congrArg Host.Outcome.next ((if_pos hallowed).trans ?_)
    rw [State.enterAsync, State.core_setCore_same]
  case nmi =>
    refine congrArg Host.Outcome.next ((if_pos ?_).trans ?_)
    · rw [hfree.1 hf, hn, hb]
      rfl
    · rw [State.enterAsync, State.core_setCore_same]
  case plane =>
    have hgo : (s.atBoundary d k && !(s.core d k).nmi && !(s.core d k).busErr) = true := by
      rw [hfree.1 hf, hn, hb]
      rfl
    refine congrArg Host.Outcome.next ?_
    simp only [State.planeEntry, hp, hgo, if_true]
    rfl
  case busError =>
    have hat : (s.reportBus d k a).atBoundary d k = false := by
      rw [State.atBoundary_reportBus, Bool.eq_false_iff]
      exact fun h => hf (hfree.2 h)
    refine congrArg Host.Outcome.next ((if_pos hu).trans ?_)
    rw [State.boundary_busErr (by rw [State.core_reportBus]; exact hw) (by rw [State.core_reportBus]), hat]
    rfl
  case busEntry =>
    obtain ⟨hu, hw⟩ := State.coreLive_up hf.1
    refine congrArg Host.Outcome.next ((if_pos hu).trans ?_)
    rw [State.boundary_busErr (by rw [State.core_reportBus]; exact hw) (by rw [State.core_reportBus]), State.atBoundary_reportBus,
      hfree.1 hf, if_pos rfl, State.enterAsync, State.core_setCore_same, State.core_reportBus]
    rfl
  case mask =>
    refine congrArg Host.Outcome.next ((if_pos hu).trans ?_)
    rw [State.diExpire, show (s.core d k).di = some e from hd]
  case opcode =>
    refine (exec_reservedOpcode hr hg hop).trans (congrArg _ ?_)
    simp only [List.mem_cons, List.not_mem_nil, or_false] at he
    rcases he with rfl | rfl | rfl <;> rfl
  case fetch =>
    refine (exec_fetchFault hr hfetch).trans (congrArg _ ?_)
    rw [State.trap, State.core_refuse]
    rfl

end Sys2Proof.Machine

namespace Sys2Proof.Machine

/-! ### Branches, jumps and form entries in memory form (R100, R101, R103, R120) -/

/-! What the low bits of a word compare as, at a width that a word holds. -/

section
variable {b : Nat}

theorem zext_w32 (v : Nat) (h : b ≤ 32) : zext b (w32 v) = (BitVec.ofNat b v).setWidth 32 := by
  rw [zext, w32, BitVec.truncate_eq_setWidth, BitVec.setWidth_ofNat_of_le h]

theorem setWidth_eq_iff {x y : BitVec b} (h : b ≤ 32) : x.setWidth 32 = y.setWidth 32 ↔ x = y := by
  refine ⟨fun e => BitVec.eq_of_toNat_eq ?_, congrArg _⟩
  rw [← BitVec.toNat_setWidth_of_le h, e, BitVec.toNat_setWidth_of_le h]

theorem ult_setWidth (x y : BitVec b) (h : b ≤ 32) : (x.setWidth 32).ult (y.setWidth 32) = x.ult y := by
  rw [BitVec.ult, BitVec.ult, BitVec.toNat_setWidth_of_le h, BitVec.toNat_setWidth_of_le h]

theorem slt_signExtend (x y : BitVec b) (h : b ≤ 32) : (x.signExtend 32).slt (y.signExtend 32) = x.slt y := by
  rw [BitVec.slt, BitVec.slt, BitVec.toInt_signExtend_of_le h, BitVec.toInt_signExtend_of_le h]

theorem and_setWidth_eq_zero {x y : BitVec b} (h : b ≤ 32) : x.setWidth 32 &&& y.setWidth 32 = 0 ↔ x &&& y = 0 := by
  rw [← BitVec.setWidth_and, ← setWidth_eq_iff (y := 0) h]
  simp

/-- The eight conditions at the width of SZ (R100, R101). -/
theorem condition_width {n : Nat} (v w : Nat) (hn : n < 8) (h : b ≤ 32) : condition n b (w32 v) (w32 w) =
    (let p := BitVec.ofNat b v
     let q := BitVec.ofNat b w
     [p == q, p != q, p.slt q, !p.slt q, p.ult q, !p.ult q, (p &&& q) == 0, (p &&& q) != 0].getD n false) := by
  simp only [condition, zext_w32 _ h, sext_w32 _ h, ne_eq, setWidth_eq_iff h, slt_signExtend _ _ h, ult_setWidth _ _ h,
    and_setWidth_eq_zero h]
  rcases (by omega : (n = 2 ∨ n = 3 ∨ n = 4 ∨ n = 5) ∨ n = 0 ∨ n = 1 ∨ n = 6 ∨ n = 7) with hord | heq
  · rcases hord with rfl | rfl | rfl | rfl <;> rfl
  · rcases heq with rfl | rfl | rfl | rfl <;> simp [bne, BEq.beq]

end

/-- Every B.cc takes the three widths. -/
theorem memRow_branch {n : Nat} (hn : n < 8) : memRow (0x10 + n) = some ([0, 1, 2], [rd, rd, rd]) := by
  revert n; decide

section
variable {s : State} {d k : Nat}

@[simp] theorem State.writeArgs_nil (s : State) (d k i : Nat) (l : List (Arg × Loc)) : s.writeArgs d k i l [] = .ok () s := by
  cases l <;> rfl

/-- A memory-form transfer outside a delay slot goes on into its slot, with its results written (R84, R103). -/
theorem State.opM_intoSlot (t t' : State) {op sz : Nat} {l : List Arg} {body : List Nat → State → MBody} {xs : List Loc}
    {u : BaseWords} {vs ws : List Nat} (h : s.memReady d k op sz l xs u vs = true) (hbr : (s.core d k).br = none)
    (hb : body vs s = .done ws t) (hw : t.writeArgs d k 1 (l.zip xs) ws = .ok () t')
    (ho : (t'.putBase d k u).overfull d k = false) (hbe : (t'.core d k).busErr = false) (hwt : (t'.core d k).wait = none) :
    s.opM d k op sz l 0 body (slotCause := some 0x20) =
      (t'.putBase d k u).intoSlot d k (argsLen l) (argsLen l + (xs.map Loc.cost).sum) := by
  rw [s.opM_done t t' d k op sz l 0 body _ _ {} xs u vs ws h (.inl hbr) rfl rfl hb hw ho, hbr]
  exact t'.advance_slot d k _ _ u hbe hwt

/-- A memory-form instruction that writes nothing goes on outside a delay slot, and then brings about what it is for. -/
theorem State.opM_then {op sz cost : Nat} {l : List Arg} {body : List Nat → State → MBody} {act : List Nat → State → State}
    {xs : List Loc} {u : BaseWords} {vs : List Nat} (h : s.memReady d k op sz l xs u vs = true) (hbr : (s.core d k).br = none)
    (hb : body vs s = .done [] s) : s.opM d k op sz l cost body (slotCause := some 0x20) (after := act) =
      (act vs ((s.putBase d k u).after d k (argsLen l) (argsLen l + (xs.map Loc.cost).sum + cost))).boundary d k := by
  obtain ⟨_, _, _, _, _, _, _, _, ho⟩ := s.memReady_parts _ _ _ _ _ _ _ _ h
  rw [s.opM_done s s d k op sz l cost body _ act {} xs u vs [] h (.inl hbr) rfl rfl hb (s.writeArgs_nil ..) ho, hbr,
    State.advance_straight, State.after, ← Core.goOn_br, State.putBase_core, hbr]

/-- An entry to stack form is complete where no bus error is pending and no entry waits (R120). -/
theorem State.enterStack_quiet {tgt : Nat} (hb : (s.core d k).busErr = false) (hw : (s.core d k).wait = none) :
    (s.enterStack d k tgt).boundary d k = s.enterStack d k tgt :=
  State.boundary_quiet _ _ _ (by rw [State.enterStack, State.core_setCore_same]; exact hb)
    (by rw [State.enterStack, State.core_setCore_same]; exact hw)

end

/-- Settles O11: a branch and a jump resolve and go on into their slots (`State.opM_intoSlot`), a branch by its condition at the width
of SZ (`condition_width`); an entry goes on and then enters stack form (`State.opM_then`). -/
theorem memoryFormTransfers : Obligations.MemoryFormTransfers := by
  unfold Obligations.MemoryFormTransfers
  intro s d k sz n a b x xs u v w e c i word bits p q cond slot hbr
  refine ⟨?branch, ?jump, ?enter⟩
  case branch =>
    intro l hn hm len y
    obtain ⟨hs, hsz, _, _, _, _, _, _, ho⟩ := s.memReady_parts _ _ _ _ _ _ _ _ hm
    obtain ⟨_, _, hbe, _, _, hwt, _⟩ := s.core_ready d k _ false hs
    have hbits : bits ≤ 32 := by
      have : sz = 0 ∨ sz = 1 ∨ sz = 2 := by simpa [memRow_branch hn] using hsz
      rcases this with rfl | rfl | rfl <;> decide
    have hcond : condition n bits (w32 v) (w32 w) = cond := condition_width v w hn hbits
    have htgt : c.relTarget len (w32 e) = (c.pc + len + e) % 2 ^ 32 := by simp [Core.relTarget, w32]
    have hy : s.setBranch d k len (condition n bits (w32 v) (w32 w)) (c.relTarget len (w32 e)) = y := by
      rw [hcond, htgt, State.setBranch, Nat.mod_mod]
    refine congrArg Host.Outcome.next ?_
    rw [Nat.mod_eq_of_lt hn]
    exact State.opM_intoSlot y y hm hbr (congrArg (MBody.done []) hy) (y.writeArgs_nil ..)
      ((State.putBase_overfull_setCore ..).trans ho) (by rw [State.core_setCore_same]; exact hbe)
      (by rw [State.core_setCore_same]; exact hwt)
  case jump =>
    intro l hm len y t hw hbe hwt ho
    have hy : s.setBranch d k len true (w32 v).toNat = y := State.setBranch_taken (w32 v).isLt
    exact congrArg Host.Outcome.next
      (State.opM_intoSlot y t hm hbr (congrArg (MBody.done [slot len]) hy) (y.writes_ok _ _ _ _ _ hw) ho hbe hwt)
  case enter =>
    intro l len y z
    have quiet {op : Nat} (hm : s.memReady d k op 2 l xs u [v] = true) : z.busErr = false ∧ z.wait = none := by
      obtain ⟨hs, _⟩ := s.memReady_parts _ _ _ _ _ _ _ _ hm
      obtain ⟨_, _, hbe, _, _, hwt, _⟩ := s.core_ready d k _ false hs
      obtain ⟨_, kb, kw, _⟩ := ((s.putBase d k u).core d k).after_keeps len (len + (xs.map Loc.cost).sum + 2)
      have hz : z = ((s.putBase d k u).core d k).after len (len + (xs.map Loc.cost).sum + 2) := State.core_setCore_same ..
      rw [hz, kb, kw, State.putBase_core]
      exact ⟨hbe, hwt⟩
    refine ⟨fun hm => ?_, fun hm hts => ?_⟩
    · obtain ⟨hb, hw⟩ := quiet hm
      exact congrArg Host.Outcome.next ((State.opM_then hm hbr rfl).trans (State.enterStack_quiet hb hw))
    · obtain ⟨hb, hw⟩ := quiet hm
      have hp : (y.pushReturn d k).core d k = { z with hot := { z.hot with ts := 0xFFFFFFF0 :: BitVec.ofNat 32 z.pc :: z.hot.ts } } :=
        State.core_setCore_same ..
      refine congrArg Host.Outcome.next ((State.opM_then hm hbr (if_neg (Nat.not_lt.2 hts))).trans
        ((State.enterStack_quiet (by rw [hp]; exact hb) (by rw [hp]; exact hw)).trans ?_))
      rw [State.enterStack, hp, State.pushReturn, State.setCore_setCore]
      rfl

end Sys2Proof.Machine

namespace Sys2Proof.Machine

/-! ### Block instructions (R105, R106, R541) -/

section
variable {s : State} {d k op sz lc : Nat} {l : List Arg}

/-- Outside a delay slot, with no bus error pending and no entry that waits, a core goes on at the next parcel. -/
theorem State.advance_quiet {len : Nat} (hbr : (s.core d k).br = none) (hbe : (s.core d k).busErr = false)
    (hwt : (s.core d k).wait = none) : (s.advance d k len none).boundary d k = s.after d k len 0 := by
  have ha : s.advance d k len none = s.after d k len 0 := by
    rw [State.advance, State.after, ← Core.goOn_br, hbr]
    rfl
  obtain ⟨_, kb, kw, _⟩ := (s.core d k).after_keeps len 0
  rw [ha, State.boundary_quiet _ _ _ (by rw [State.after, State.core_setCore_same, kb, hbe])
    (by rw [State.after, State.core_setCore_same, kw, hwt])]

/-- A block instruction that starts finds its count, outside a delay slot and with nothing to be entered. -/
theorem State.blockBegun_starts {n : Nat} (h : s.blockReady d k op sz l lc n = true) :
    let y := s.blockBegun d k (argsLen l)
    (y.core d k).br = none ∧ (y.core d k).busErr = false ∧ (y.core d k).wait = none ∧ y.localWord d k lc = .ok n y := by
  simp only [State.blockReady, Bool.and_eq_true, decide_eq_true_eq, Bool.not_eq_true'] at h
  obtain ⟨⟨⟨⟨⟨⟨⟨⟨⟨⟨hs, hbr⟩, _⟩, _⟩, hram⟩, _⟩, _⟩, _⟩, _⟩, hecc⟩, hn⟩ := h
  obtain ⟨_, _, hbe, _, _, hwt, _⟩ := s.core_ready d k _ false hs
  intro y
  have hload : y.load (.lram d k) lc 4 = n := hn
  rw [show y.core d k = _ from State.core_setCore_same .., State.localWord_good y d k lc hram hecc, hload]
  exact ⟨hbr, hbe, hwt, rfl⟩

variable {cost : Nat} {run : Nat → State → Except (Nat × State) (State × (Nat → State → Elem))} {elem : Nat → State → Elem}

/-- A block instruction with a count of 0 completes at once (R105). -/
theorem State.blockM_zero (h : s.blockReady d k op sz l lc 0 = true) :
    s.blockM d k op sz l cost none run = (s.blockBegun d k (argsLen l)).after d k (argsLen l) 0 := by
  obtain ⟨hbr, hbe, hwt, _⟩ := State.blockBegun_starts h
  rw [s.blockM_ready d k op sz l cost run lc 0 h, if_pos rfl, State.advance_quiet hbr hbe hwt]

/-- A block instruction with a count of 1 completes with its one element, which leaves the count 0 (R106). -/
theorem State.blockM_last {t : State} (h : s.blockReady d k op sz l lc 1 = true)
    (hr : run lc (s.blockBegun d k (argsLen l)) = .ok (s.blockBegun d k (argsLen l), elem))
    (he : elem 1 (s.blockBegun d k (argsLen l)) = .next t) (hc : t.core d k = (s.blockBegun d k (argsLen l)).core d k)
    (hram : t.ramBehind d k = false) (hecc : t.eccGood (.lram d k) lc 4 = true) (h0 : t.load (.lram d k) lc 4 = 0) :
    s.blockM d k op sz l cost none run = t.after d k (argsLen l) cost := by
  obtain ⟨hbr, hbe, hwt, hn⟩ := State.blockBegun_starts h
  rw [s.blockM_one d k op sz l cost run lc _ elem h hr]
  exact State.elements_one _ t d k lc cost _ _ elem hn he (by rw [hc, hbr]) (by rw [hc, hbe]) (by rw [hc, hwt]) hram hecc h0

/-- A block instruction of which the one element is found completes before it (R106). -/
theorem State.blockM_found (h : s.blockReady d k op sz l lc 1 = true)
    (hr : run lc (s.blockBegun d k (argsLen l)) = .ok (s.blockBegun d k (argsLen l), elem))
    (he : elem 1 (s.blockBegun d k (argsLen l)) = .found (s.blockBegun d k (argsLen l))) :
    s.blockM d k op sz l cost none run = (s.blockBegun d k (argsLen l)).after d k (argsLen l) 0 := by
  obtain ⟨hbr, hbe, hwt, hn⟩ := State.blockBegun_starts h
  rw [s.blockM_one d k op sz l cost run lc _ elem h hr, State.elements_found _ _ d k lc cost elem hn he]
  exact State.advance_quiet hbr hbe hwt

theorem State.crcInto_done {lr n v e : Nat} (h : s.localWord d k lr = .ok e s) :
    s.crcInto d k lr n v = .ok [(lr, crc32cRaw e (leBytes n v))] s := by rw [State.crcInto, h]

end

/-- Settles O14: a count of 0 completes at once (`State.blockM_zero`), a count of 1 with its element (`State.blockM_last`,
`State.element_next`), or, where a pair differs, before it (`State.blockM_found`). -/
theorem blockInstructions : Obligations.BlockInstructions := by
  unfold Obligations.BlockInstructions
  intro s d k sz lc lr p q r c xs u v e word pin pout val put zeroed at0
  have zero {op cost : Nat} {l : List Arg} {i : Instr} {run : Nat → State → Except (Nat × State) (State × (Nat → State → Elem))}
      (hi : exec i s = .next (s.blockM d k op sz l cost none run)) : at0 op l i :=
    fun h => hi.trans (congrArg _ (State.blockM_zero h))
  have last {op cost : Nat} {l : List Arg} {i : Instr} {run : Nat → State → Except (Nat × State) (State × (Nat → State → Elem))}
      {elem : Nat → State → Elem} {t : State} (hi : exec i s = .next (s.blockM d k op sz l cost none run))
      (h : s.blockReady d k op sz l lc 1 = true)
      (hr : run lc (s.blockBegun d k (argsLen l)) = .ok (s.blockBegun d k (argsLen l), elem))
      (hz : zeroed (s.blockBegun d k (argsLen l)) t) (he : t.overfull d k = false → elem 1 (s.blockBegun d k (argsLen l)) = .next t) :
      exec i s = .next (t.after d k (argsLen l) cost) := by
    obtain ⟨hc, hov, hram, hecc, h0⟩ := hz
    exact hi.trans (congrArg _ (State.blockM_last h hr (he hov) hc hram hecc h0))
  refine ⟨⟨zero rfl, fun h hel hw hz => ?move⟩, ⟨zero rfl, fun h hv hel hw hz => ?fill⟩, ⟨zero rfl, fun h hr hel he hz => ?crc⟩,
    ⟨zero rfl, fun h hel => ⟨fun hne => ?differ, fun heq hz => ?same⟩⟩⟩
  case move =>
    exact last rfl h rfl hz fun ho => State.element_next (count := 1) (vals := id) (hf := rfl) (hu := rfl) (ho := ho) (h := hel)
      (hw := State.writes_ok _ _ _ _ _ _ hw) ..
  case fill =>
    exact last rfl h (by simp only [hv]; rfl) hz fun ho => State.element_next (count := 1) (vals := fun _ => [v]) (hf := rfl) (hu := rfl)
      (ho := ho) (h := hel) (hw := State.writes_ok _ _ _ _ _ _ hw) ..
  case crc =>
    exact last rfl h (by simp only [hr]; rfl) hz fun ho => State.element_next (count := 1) (vals := fun _ => []) (hf := rfl)
      (hu := State.crcInto_done he) (ho := ho) (h := hel) (hw := State.writeArgs_nil ..) ..
  case differ =>
    exact congrArg Host.Outcome.next (State.blockM_found h rfl (State.element_found (h := hel) (hf := decide_eq_true hne) ..))
  case same =>
    exact last rfl h rfl hz fun ho => State.element_next (count := 1) (vals := fun _ => []) (hf := decide_eq_false (not_not.2 heq))
      (hu := rfl) (ho := ho) (h := hel) (hw := State.writeArgs_nil ..) ..

end Sys2Proof.Machine

namespace Sys2Proof.Machine

/-! ### Data ports (R118, R119, R145, R183, R203, R347) -/

theorem State.eccRead_good (s : State) (m : MemId) (a n : Nat) (h : s.eccGood m a n = true) : s.eccRead m a n = (false, s) := by
  have hr := s.readBytes_good m a n h
  simp only [State.readBytes, Prod.mk.injEq] at hr
  obtain ⟨hbad, hs⟩ := hr
  refine Prod.ext ?_ hs
  by_contra hb
  rw [Bool.not_eq_false] at hb
  simp [hb] at hbad

section
variable {s : State} {d k j w : Nat}

theorem State.lramWrite_eq : s.lramWrite d k w =
    (s.lramWords d k (4 * s.rd (.core d k) CORE_LRAM_ADDR_ADDR) [w]).wr (.core d k) CORE_LRAM_ADDR_ADDR
      (s.rd (.core d k) CORE_LRAM_ADDR_ADDR + 1) := by
  simp [State.lramWrite, State.lramWords]

theorem State.lramRead_good (h : s.eccGood (.lram d k) (4 * s.rd (.core d k) CORE_LRAM_ADDR_ADDR) 4 = true) :
    s.lramRead d k = .word (s.load (.lram d k) (4 * s.rd (.core d k) CORE_LRAM_ADDR_ADDR) 4)
      (s.wr (.core d k) CORE_LRAM_ADDR_ADDR (s.rd (.core d k) CORE_LRAM_ADDR_ADDR + 1)) := by
  simp only [State.lramRead, s.readBytes_good _ _ _ h, State.load]

/-- Both parcels that CORE_ISP_DATA names can be written (R44, R145). -/
theorem State.ispWrite_taken (h : s.iWriteCheck d k (2 * s.rd (.core d k) CORE_ISP_ADDR_ADDR) = none)
    (h' : s.iWriteCheck d k (2 * s.rd (.core d k) CORE_ISP_ADDR_ADDR + 1) = none) :
    s.ispWrite d k w = .taken ((s.iStore d k (2 * s.rd (.core d k) CORE_ISP_ADDR_ADDR) 4 w).2.wr (.core d k) CORE_ISP_ADDR_ADDR
      (s.rd (.core d k) CORE_ISP_ADDR_ADDR + 1)) := by
  simp only [State.ispWrite, h, h', Option.toList_none, List.append_nil]

theorem State.ispRead_good {m : MemId} {o : Nat} (hlt : 2 * s.rd (.core d k) CORE_ISP_ADDR_ADDR < 0x480000)
    (hl : s.iLoc d k (2 * s.rd (.core d k) CORE_ISP_ADDR_ADDR) = some (m, o)) (h : s.eccGood m o 4 = true) :
    s.ispRead d k = .word (s.load m o 4) (s.wr (.core d k) CORE_ISP_ADDR_ADDR (s.rd (.core d k) CORE_ISP_ADDR_ADDR + 1)) := by
  simp only [State.ispRead, if_neg (Nat.not_le.2 hlt), State.iBytes, hl, s.readBytes_good _ _ _ h, State.load]

/-- Outside the tables and the calibration words a write of LANE_SRAM_DATA is written where its address says (R183). -/
theorem State.laneSramWrite_plain (hlo : 0x100000 ≤ 4 * s.rd (.lane d j) LANE_SRAM_ADDR_ADDR)
    (hout : 4 * s.rd (.lane d j) LANE_SRAM_ADDR_ADDR < 0x380000 ∨ 0x380200 ≤ 4 * s.rd (.lane d j) LANE_SRAM_ADDR_ADDR) :
    s.laneSramWrite d j w = .taken ((s.writeBytes (.lsram d j) (4 * s.rd (.lane d j) LANE_SRAM_ADDR_ADDR) (leBytes 4 w)).2.wr (.lane d j)
      LANE_SRAM_ADDR_ADDR (s.rd (.lane d j) LANE_SRAM_ADDR_ADDR + 1)) := by
  have hplace : s.laneAddr d j (4 * s.rd (.lane d j) LANE_SRAM_ADDR_ADDR) = 4 * s.rd (.lane d j) LANE_SRAM_ADDR_ADDR := if_neg (by omega)
  rw [State.laneSramWrite, if_neg (by omega), if_neg (by omega), if_neg (by omega), hplace]
  refine congrArg WriteResult.taken ((if_neg (by omega)).trans ?_)
  rw [State.stepLaneAddr, State.laneWrite, State.rd_writeBytes_lane _ _ _ _ _ _ _ (by decide)]

/-- A write of a calibration word is passed to the lane where its hold has room (R183). -/
theorem State.laneSramWrite_cal (hlo : 4 * s.rd (.lane d j) LANE_SRAM_ADDR_ADDR < 0x100000) (hr : s.holdRoom d j 1 = true) :
    s.laneSramWrite d j w =
      .taken ((s.calWrite d j (4 * s.rd (.lane d j) LANE_SRAM_ADDR_ADDR) (leBytes 4 w)).stepLaneAddr d j) := by
  rw [State.laneSramWrite, if_neg (by omega), if_neg (by omega), if_pos hlo, if_pos hr]

theorem State.laneSramRead_good
    (h : s.eccGood (.lsram d j) (s.laneAddr d j (4 * s.rd (.lane d j) LANE_SRAM_ADDR_ADDR)) 4 = true) :
    s.laneSramRead d j = (s.load (.lsram d j) (s.laneAddr d j (4 * s.rd (.lane d j) LANE_SRAM_ADDR_ADDR)) 4,
      s.wr (.lane d j) LANE_SRAM_ADDR_ADDR (s.rd (.lane d j) LANE_SRAM_ADDR_ADDR + 1)) := by
  simp only [State.laneSramRead, s.eccRead_good _ _ _ h, Bool.false_eq_true, if_false, State.stepLaneAddr]

/-- The hood slot of a lane whose hood is not armed takes a write, and holds no loaded hood any more (R185, R198, R203). -/
theorem State.laneKsWrite_taken (hr : s.is (.lane d j) LANE_KS_ADDR_RUNSLOT = false) (ha : s.rd (.lane d j) LANE_KHOOD_STAT_STATE ≠ 2) :
    s.laneKsWrite d j w = .taken (((s.writeBytes (.ks d j (1 - s.rd (.lane d j) LANE_STAT_SLOT))
      (4 * s.rd (.lane d j) LANE_KS_ADDR_ADDR) (leBytes 4 w)).2.wr (.lane d j) LANE_KS_ADDR_ADDR
        (s.rd (.lane d j) LANE_KS_ADDR_ADDR + 1)).setKhood d j 0) := by
  have hpass : ¬ (s.is (.lane d j) LANE_KS_ADDR_RUNSLOT = true ∨ s.khood d j = 2) := by
    rintro (h | h)
    · rw [hr] at h; cases h
    · exact ha h
  rw [State.laneKsWrite, if_neg hpass]
  refine congrArg (fun n => WriteResult.taken ((State.wr _ (.lane d j) LANE_KS_ADDR_ADDR (n + 1)).setKhood d j 0)) ?_
  exact State.rd_writeBytes_lane _ _ _ _ _ _ _ (by decide)

theorem State.laneKsRead_good (h : s.eccGood (.ks d j (s.ksSlot d j)) (4 * s.rd (.lane d j) LANE_KS_ADDR_ADDR) 4 = true) :
    s.laneKsRead d j = (s.load (.ks d j (s.ksSlot d j)) (4 * s.rd (.lane d j) LANE_KS_ADDR_ADDR) 4,
      s.wr (.lane d j) LANE_KS_ADDR_ADDR (s.rd (.lane d j) LANE_KS_ADDR_ADDR + 1)) := by
  rw [State.laneKsRead, s.eccRead_good _ _ _ h]
  rfl

/-- The place of IRQ_DONE of a core is its own (R347). -/
theorem State.ownDone_irqDone (h : s.hasNode (.core d k) = true) (hd : d < 8) :
    s.ownDone d k ((Blk.irqDie d).base + 0x204 + 0x20 * k) = true := by
  simp only [State.hasNode, Bool.and_eq_true, decide_eq_true_eq] at h
  obtain ⟨hdie, hk⟩ := h
  rw [Nat.add_assoc]
  simp [State.ownDone, s.target_irqDie d (0x204 + 0x20 * k) hdie hd (by omega)]

/-- A core's write of its running level to its own IRQ_DONE ends that level (R347). -/
theorem State.accessWrite_irqDone {a x : Nat} {xs : List Nat} (hcr : s.crownRuns = true) (hr : s.coreRuns d k = true) (ha : a % 4 = 0)
    (ho : s.ownDone d k a = true) (hc : s.ioCheck (.core d k) a true = none) (hh : s.heldOf (.core d k) = [])
    (hp : (s.core d k).prio = x :: xs) (hw : w % 16 = x) :
    s.accessWrite (.core d k) a w = s.setCore d k { s.core d k with prio := xs } := by
  simp [State.accessWrite, hcr, hr, ha, State.coreOut, ho, hc, State.irqDone, hp, hw, hh, State.coreAccess]

end

/-- Settles O19: a port's register is reached (`State.accessWrite_reg`, `State.accessRead_reg`) and acts as the lemmas above say. -/
theorem dataPorts : Obligations.DataPorts := by
  unfold Obligations.DataPorts
  intro s r d k j w b l at_ la ia sa ka c
  have writes {i : Instr} {x : Blk} {o : Nat} {t : State} (hi : exec i s = .next (s.accessWrite r (x.base + o) w))
      (ht : d < 8 → s.ioTarget (x.base + o) = .ok (.reg x o)) (h : at_ x o true) (hr : s.regWrite r x o w = .taken t) :
      exec i s = .next t :=
    hi.trans (congrArg _ (s.accessWrite_reg t r _ w x o h.2 (ht h.1) hr))
  have reads {i : Instr} {x : Blk} {o v : Nat} {t : State} (hi : exec i s = .next (s.accessRead r (x.base + o)))
      (ht : d < 8 → s.ioTarget (x.base + o) = .ok (.reg x o)) (h : at_ x o false) (hr : s.regRead x o = .word v t) :
      exec i s = .next (t.readBy r v) :=
    hi.trans (congrArg _ (s.accessRead_reg t r _ v x o h.2 (ht h.1) hr))
  refine ⟨fun hn => ?core, fun hn => ?lane⟩
  case core =>
    have target {o : Nat} (ho : o < 0x10000) (hd : d < 8) : s.ioTarget (b.base + o) = .ok (.reg b o) := s.target_core d k o hn hd ho
    refine ⟨fun h => writes rfl (target (by decide)) h (congrArg WriteResult.taken State.lramWrite_eq),
      fun h hg => reads rfl (target (by decide)) h (State.lramRead_good hg),
      fun h h0 h1 => writes rfl (target (by decide)) h (State.ispWrite_taken h0 h1), fun h hlt ⟨m, o, hl, hg, hw⟩ => ?_,
      fun x xs hr hd hcr hrun hh hc hp hw => ?_⟩
    · rw [hw]
      exact reads rfl (target (by decide)) h (State.ispRead_good hlt hl hg)
    · subst hr
      have ha : ((Blk.irqDie d).base + 0x204 + 0x20 * k) % 4 = 0 := by simp only [Blk.base]; omega
      exact congrArg Host.Outcome.next (State.accessWrite_irqDone hcr hrun ha (State.ownDone_irqDone hn hd) hc hh hp hw)
  case lane =>
    have target {o : Nat} (ho : o < 0x10000) (hd : d < 8) : s.ioTarget (l.base + o) = .ok (.reg l o) := s.target_lane d j o hn hd ho
    exact ⟨fun h hlo hout => writes rfl (target (by decide)) h (State.laneSramWrite_plain hlo hout),
      fun h hlo hroom => writes rfl (target (by decide)) h (State.laneSramWrite_cal hlo hroom),
      fun h hg _ => reads rfl (target (by decide)) h (congrArg RegRead.of (State.laneSramRead_good hg)),
      fun h hslot harm => writes rfl (target (by decide)) h (State.laneKsWrite_taken hslot harm),
      fun h hg => reads rfl (target (by decide)) h (congrArg RegRead.of (State.laneKsRead_good hg))⟩

end Sys2Proof.Machine

namespace Sys2Proof.Machine

/-! ### Tasks that are enabled and fall due (R135, R136, R138, R143) -/

section
variable {s : State} {d k t : Nat}

@[simp] theorem State.task_wr (s : State) (b : Blk) (f : Field) (v d k t : Nat) : (s.wr b f v).task d k t = s.task d k t := rfl
@[simp] theorem State.setTask_tmb (s : State) (d k t : Nat) (r : TaskRun) : (s.setTask d k t r).tmb = s.tmb := rfl
@[simp] theorem State.setTask_tb (s : State) (d k t : Nat) (r : TaskRun) : (s.setTask d k t r).tb = s.tb := rfl
@[simp] theorem State.rd_setTask (s : State) (d k t : Nat) (r : TaskRun) (b : Blk) (f : Field) : (s.setTask d k t r).rd b f = s.rd b f := rfl
@[simp] theorem State.is_setTask (s : State) (d k t : Nat) (r : TaskRun) (b : Blk) (f : Field) : (s.setTask d k t r).is b f = s.is b f := rfl

@[simp] theorem State.task_setTask_same (s : State) (d k t : Nat) (r : TaskRun) : (s.setTask d k t r).task d k t = r := by
  simp [State.task, State.setTask]

@[simp] theorem State.setTask_setTask (s : State) (d k t : Nat) (q r : TaskRun) :
    (s.setTask d k t q).setTask d k t r = s.setTask d k t r := by
  simp [State.setTask, Tab.set_set]

theorem State.core_setTask (s : State) (d k t : Nat) (r : TaskRun) : (s.setTask d k t r).core d k =
    { s.core d k with tasks := Tab.set (fun n => n) (s.core d k).tasks t {} r } := by
  simp [State.setTask]

/-- No request of the core runs that a change of its reference task could end (R165). -/
theorem State.hoodRefCheck_calm (h : s.rd (.core d k) HOOD_STAT_STATE < 2) : s.hoodRefCheck d k = s :=
  if_neg (by omega)

/-! #### Writes of TASK_CFG (R134, R135) -/

/-- The state in which a write of TASK_CFG has put every field but EN. -/
def State.taskSettings (s : State) (d k t w : Nat) : State :=
  let u := s.wrOf (.core d k) [TASK_CFG_PRIO t, TASK_CFG_SRC t, TASK_CFG_SRCEN t] w
  if s.is (.core d k) (TASK_CFG_EN t) then u else u.wr (.core d k) (TASK_CFG_KIND t) ((TASK_CFG_KIND t).of w)

theorem TASK_CFG_EN_of (t w : Nat) : (TASK_CFG_EN t).of w = w % 2 := by simp [Field.of, bits]

theorem TASK_CFG_KIND_of (t w : Nat) : (TASK_CFG_KIND t).of w = (w.testBit 1).toNat := by
  rw [Nat.toNat_testBit]
  rfl

theorem State.taskCfg_enable {w : Nat} (h : w % 2 = 1) : s.taskCfg d k t w = (s.taskSettings d k t w).taskEnable d k t :=
  if_pos ((TASK_CFG_EN_of t w).trans h)

theorem State.taskCfg_disable {w : Nat} (h : w % 2 = 0) : s.taskCfg d k t w = (s.taskSettings d k t w).taskDisable d k t :=
  if_neg (by rw [TASK_CFG_EN_of, h]; decide)

section
variable {w : Nat}

@[simp] theorem State.taskSettings_task : (s.taskSettings d k t w).task d k t = s.task d k t := by
  unfold State.taskSettings; dsimp only; split <;> rfl

@[simp] theorem State.taskSettings_tmb : (s.taskSettings d k t w).tmb = s.tmb := by
  unfold State.taskSettings; dsimp only; split <;> rfl

/-- Registers beside TASK_CFG keep their values. -/
theorem State.rd_taskSettings {f : Field} (h : f.off ≠ 0x400 + 0x40 * t) : (s.taskSettings d k t w).rd (.core d k) f = s.rd (.core d k) f := by
  unfold State.taskSettings
  dsimp only
  split <;> simp [State.wrOf, State.each, State.rd_wr_off, h]

@[simp] theorem State.rd_taskSettings_en : (s.taskSettings d k t w).rd (.core d k) (TASK_CFG_EN t) = s.rd (.core d k) (TASK_CFG_EN t) := by
  unfold State.taskSettings
  dsimp only
  split <;> simp [State.wrOf, State.each, State.rd_wr_lo]

@[simp] theorem State.is_taskSettings_en : (s.taskSettings d k t w).is (.core d k) (TASK_CFG_EN t) = s.is (.core d k) (TASK_CFG_EN t) := by
  simp [State.is]

/-- KIND takes what is written while EN is 0. -/
theorem State.rd_taskSettings_kind (h : s.is (.core d k) (TASK_CFG_EN t) = false) :
    (s.taskSettings d k t w).rd (.core d k) (TASK_CFG_KIND t) = (w.testBit 1).toNat := by
  simp [State.taskSettings, h, TASK_CFG_KIND_of, Nat.mod_eq_of_lt (Bool.toNat_lt _)]

theorem State.is_taskSettings_kind (h : s.is (.core d k) (TASK_CFG_EN t) = false) :
    (s.taskSettings d k t w).is (.core d k) (TASK_CFG_KIND t) = w.testBit 1 := by
  rw [State.is, State.rd_taskSettings_kind h]; cases w.testBit 1 <;> rfl

end

/-- A task whose settings are in range becomes IDLE, with no due time up to now (R135, R136). -/
theorem State.taskEnable_taken (he : s.is (.core d k) (TASK_CFG_EN t) = false) (h0 : s.rd (.core d k) (TASK_STAT_STATE t) = 0)
    (hr : s.is (.core d k) (TASK_CFG_KIND t) = true ∨
      (25 ≤ s.rd (.core d k) (TASK_PERIOD_PERIOD t) ∧ s.rd (.core d k) (TASK_PHASE_PHASE t) < s.rd (.core d k) (TASK_PERIOD_PERIOD t))) :
    s.taskEnable d k t = ((s.wr (.core d k) (TASK_CFG_EN t) 1).wr (.core d k) (TASK_STAT_STATE t) 1).setTask d k t
      { s.task d k t with seen := s.tmb.count + 999, backs := s.tmb.backs, count := 0 } := by
  have hcfg : ¬ (¬ s.is (.core d k) (TASK_CFG_KIND t) = true ∧
      (s.rd (.core d k) (TASK_PERIOD_PERIOD t) < 25 ∨ s.rd (.core d k) (TASK_PERIOD_PERIOD t) ≤ s.rd (.core d k) (TASK_PHASE_PHASE t))) := by
    rintro ⟨hk, hp⟩
    rcases hr with hr | ⟨hlo, hhi⟩
    · exact hk hr
    · omega
  simp only [State.taskEnable, he, if_neg hcfg]
  simp [State.taskState, State.setTaskState, State.rd_wr_off, h0]

/-- Settings out of range leave the task disabled, with CFGERR (R135). -/
theorem State.taskEnable_refused (he : s.is (.core d k) (TASK_CFG_EN t) = false) (hk : s.is (.core d k) (TASK_CFG_KIND t) = false)
    (hr : s.rd (.core d k) (TASK_PERIOD_PERIOD t) < 25 ∨ s.rd (.core d k) (TASK_PERIOD_PERIOD t) ≤ s.rd (.core d k) (TASK_PHASE_PHASE t)) :
    s.taskEnable d k t = (s.wr (.core d k) (TASK_STAT_CFGERR t) 1).raiseDie d (82 + 4 * k) := by
  simp [State.taskEnable, he, hk, hr]

theorem State.rd_taskDisable_en : (s.taskDisable d k t).rd (.core d k) (TASK_CFG_EN t) = 0 := by
  simp only [State.taskDisable, State.setTaskState]
  split <;> simp [State.rd_wr_off]

theorem State.rd_taskDisable_state : (s.taskDisable d k t).rd (.core d k) (TASK_STAT_STATE t) =
    if s.rd (.core d k) (TASK_STAT_STATE t) ≤ 2 then 0 else s.rd (.core d k) (TASK_STAT_STATE t) := by
  have keep : (s.wr (.core d k) (TASK_CFG_EN t) 0).rd (.core d k) (TASK_STAT_STATE t) = s.rd (.core d k) (TASK_STAT_STATE t) :=
    s.rd_wr_off _ (by simp)
  simp only [State.taskDisable, State.taskState, State.setTaskState, keep]
  split <;> simp [keep]

theorem State.rd_taskDisable_off {f : Field} (h0 : f.off ≠ 0x400 + 0x40 * t) (h1 : f.off ≠ 0x418 + 0x40 * t) :
    (s.taskDisable d k t).rd (.core d k) f = s.rd (.core d k) f := by
  simp only [State.taskDisable, State.setTaskState]
  split <;> simp [State.rd_wr_off, h0, h1]

theorem State.rd_taskEnable_off {f : Field} (h0 : f.off ≠ 0x400 + 0x40 * t) (h1 : f.off ≠ 0x418 + 0x40 * t) :
    (s.taskEnable d k t).rd (.core d k) f = s.rd (.core d k) f := by
  simp only [State.taskEnable, State.setTaskState]
  repeat' split
  all_goals simp [State.rd_raiseDie, State.rd_wr_off, h0, h1]

section
variable {w : Nat} (hn : s.hasNode (.core d k) = true) (ht : t < 16) (hc : s.rd (.core d k) HOOD_STAT_STATE < 2)
include hn ht hc

/-- A write of TASK_CFG with no request of the core under way puts the settings, then EN (R134, R135). -/
theorem exec_taskEnable (hw : w % 2 = 1) : exec (.taskEnable d k t w) s = .next ((s.taskSettings d k t w).taskEnable d k t) := by
  show execTaskEnable d k t w s = _
  rw [execTaskEnable, if_pos ⟨hn, ht, hw⟩, State.taskCfg_enable hw, State.hoodRefCheck_calm]
  rwa [State.rd_taskEnable_off (by simp; omega) (by simp; omega), State.rd_taskSettings (by simp; omega)]

theorem exec_taskDisable (hw : w % 2 = 0) : exec (.taskDisable d k t w) s = .next ((s.taskSettings d k t w).taskDisable d k t) := by
  show execTaskDisable d k t w s = _
  rw [execTaskDisable, if_pos ⟨hn, ht, hw⟩, State.taskCfg_disable hw, State.hoodRefCheck_calm]
  rwa [State.rd_taskDisable_off (by simp; omega) (by simp; omega), State.rd_taskSettings (by simp; omega)]

end

/-! #### Due times (R136, R138, R143) -/

/-- The scheduler of a core runs, and nothing holds its due times back (R138, R144, R166, R327). -/
structure State.Scheduling (s : State) (d k : Nat) : Prop where
  run : s.is (.core d k) CORE_SCHED_RUN = true
  thawed : s.is (.core d k) NODE_CTRL_FRZ = false
  unheld : (s.core d k).hood.hold = none
  eqFree : (s.core d k).eqHold = none

theorem State.Scheduling.setTask (h : s.Scheduling d k) (r : TaskRun) : (s.setTask d k t r).Scheduling d k := by
  obtain ⟨hrun, hfrz, hhold, heq⟩ := h
  exact ⟨hrun, hfrz, by rw [State.core_setTask, hhold], by rw [State.core_setTask, heq]⟩

theorem State.Scheduling.fallDue (h : s.Scheduling d k) (due num : Nat) : s.fallDue d k t due num = s.release d k t due num := by
  simp [State.fallDue, State.eqLate, h.run, h.thawed, h.unheld, h.eqFree]

theorem State.release_idle (h : s.rd (.core d k) (TASK_STAT_STATE t) = 1) (due num : Nat) :
    s.release d k t due num = (s.setTask d k t { s.task d k t with
      due := due, num := num, ord := s.tb + due - s.tmb.count, yielded := false, pos := 0, out := false }).wr (.core d k) (TASK_STAT_STATE t) 2 :=
  if_pos h

theorem State.release_busy (h : s.rd (.core d k) (TASK_STAT_STATE t) ≠ 1) (due num : Nat) :
    s.release d k t due num = s.overrun d k t num :=
  if_neg h

theorem State.eventDue_scheduling (h : s.Scheduling d k) : s.eventDue d k t =
    (s.setTask d k t { s.task d k t with count := (s.task d k t).count + 1 }).release d k t s.tmb.count ((s.task d k t).count % 2 ^ 32) := by
  simp only [State.eventDue, h.run, if_true, (h.setTask _).fallDue]

/-- A single due time that no forward step passed over is taken. -/
theorem State.taskDue_single {l : Nat} (hn : s.hasNode (.core d k) = true) (ht : t < 16) (he : s.is (.core d k) (TASK_CFG_EN t) = true)
    (hk : s.is (.core d k) (TASK_CFG_KIND t) = false) (hl : s.newDues d k t = [l]) (hstep : s.tmb.stepTo ≤ l) (h : s.Scheduling d k) :
    s.taskDue d k t = (s.setTask d k t { s.task d k t with seen := l, backs := s.tmb.backs }).release d k t l (s.dueNum d k t l) := by
  simp only [State.taskDue, hn, ht, he, hk, hl, List.getLast?_singleton, State.each, not_lt.mpr hstep,
    Bool.false_eq_true, not_false_eq_true, and_self, if_true, if_false, (h.setTask _).fallDue]
  rfl

end

/-- Settles O25: a write of TASK_CFG puts the settings and then EN (`exec_taskEnable`, `exec_taskDisable`), which is taken or refused
(`State.taskEnable_taken`, `State.taskEnable_refused`); a due time that nothing holds back is a release (`State.taskDue_single`,
`State.eventDue_scheduling`), which an IDLE task takes and another skips (`State.release_idle`, `State.release_busy`). -/
theorem taskDueTimes : Obligations.TaskDueTimes := by
  unfold Obligations.TaskDueTimes
  intro s d k t w src b r period runs ready num cyclic hnode ht hcalm
  have scheduling (h : runs) : s.Scheduling d k :=
    let ⟨hrun, hfrz, hhold, heq⟩ := h
    ⟨hrun, hfrz, hhold, heq⟩
  have keeps {f : Field} (h : f.off ≠ 0x400 + 0x40 * t) : (s.taskSettings d k t w).rd b f = s.rd b f := State.rd_taskSettings h
  refine ⟨fun hw he h0 hr => ⟨_, exec_taskEnable hnode ht hcalm hw, ?_⟩,
    fun hw he hr => ⟨_, exec_taskEnable hnode ht hcalm (by omega), ?_⟩,
    fun hw => ⟨_, exec_taskDisable hnode ht hcalm hw, State.rd_taskDisable_en, ?_⟩, fun he hk hs hidle => ?_,
    fun l ⟨he, hk, hdues, hstep⟩ hs hidle => ?_, fun l ⟨he, hk, hdues, hstep⟩ hs hbusy => ?_,
    fun hd hsrc hp hc => congrArg Host.Outcome.next (if_pos ⟨hd, hsrc, hp, hc⟩)⟩
  · rw [State.taskEnable_taken (State.is_taskSettings_en.trans he) ((keeps (by simp)).trans h0)
      (by rwa [State.is_taskSettings_kind he, keeps (by simp), keeps (by simp)])]
    simp [State.rd_wr_off, State.rd_wr_lo, b, r, State.rd_taskSettings_kind he]
  · have hk : w.testBit 1 = false := by rw [Nat.testBit_eq_decide_div_mod_eq, decide_eq_false]; omega
    rw [State.taskEnable_refused (State.is_taskSettings_en.trans he) ((State.is_taskSettings_kind he).trans hk)
      (by rwa [keeps (by simp), keeps (by simp)])]
    simp [State.rd_wr_off, b, State.rd_raiseDie]
  · rw [State.rd_taskDisable_state, keeps (by simp)]
  · show execTaskTrig d k t s = _
    rw [execTaskTrig, if_pos ⟨hnode, ht⟩, State.taskTrig, if_pos ⟨by decide, he, hk⟩, State.eventDue_scheduling (scheduling hs),
      State.release_idle (by exact hidle)]
    simp [ready, r, b]
  · show execTaskDue d k t s = _
    rw [execTaskDue, State.taskDue_single hnode ht he hk hdues hstep (scheduling hs), State.release_idle (by exact hidle)]
    simp [ready, r, b, num, period, State.dueNum]
  · show execTaskDue d k t s = _
    rw [execTaskDue, State.taskDue_single hnode ht he hk hdues hstep (scheduling hs), State.release_busy (by exact hbusy)]
    rfl

end Sys2Proof.Machine

namespace Sys2Proof.Machine

/-! ### The scheduler's choice (R138) -/

section
variable {s : State} {d k : Nat}

/-- The order of R138 as one of keys: the higher priority, the earlier due time, no YIELD, the lower number. -/
def State.taskKey (s : State) (d k x : Nat) : Natᵒᵈ ×ₗ Nat ×ₗ Bool ×ₗ Nat :=
  toLex (OrderDual.toDual (s.rd (.core d k) (TASK_CFG_PRIO x)),
    toLex ((s.task d k x).ord, toLex ((s.task d k x).yielded, x)))

theorem State.taskBefore_eq (x y : Nat) : s.taskBefore d k x y = decide (s.taskKey d k x < s.taskKey d k y) := by
  simp [State.taskBefore, State.taskKey, Prod.Lex.toLex_lt_toLex, Bool.lt_iff, Bool.beq_eq_decide_eq]

theorem State.taskKey_injective : Function.Injective (s.taskKey d k) := fun x y h => by
  simp only [State.taskKey, toLex_inj, Prod.mk.injEq] at h
  exact h.2.2.2

theorem State.firstTask_eq_none {l : List Nat} (h : s.firstTask d k l = none) : l = [] := by
  cases l with
  | nil => rfl
  | cons a l => unfold State.firstTask at h; split at h <;> [cases h; (split at h <;> cases h)]

/-- The first task has the least key. -/
theorem State.firstTask_least {l : List Nat} {t : Nat} (h : s.firstTask d k l = some t) :
    t ∈ l ∧ ∀ x ∈ l, s.taskKey d k t ≤ s.taskKey d k x := by
  induction l generalizing t with
  | nil => cases h
  | cons a l ih =>
    unfold State.firstTask at h
    split at h
    next hn =>
      cases h
      simp [State.firstTask_eq_none hn]
    next u hu =>
      obtain ⟨hmem, hle⟩ := ih hu
      simp only [State.taskBefore_eq, decide_eq_true_eq] at h
      split at h <;> cases h
      next hlt => exact ⟨by simp, by simpa using fun x hx => hlt.le.trans (hle x hx)⟩
      next hge => exact ⟨by simp [hmem], by simpa using ⟨not_lt.mp hge, hle⟩⟩

end

/-- Settles O26: the choice has the least key of the tasks (`State.firstTask_least`), and keys tell the tasks apart. -/
theorem schedulerChoice : Obligations.SchedulerChoice := by
  unfold Obligations.SchedulerChoice
  intro s d k t l _ h prio r
  obtain ⟨hmem, hle⟩ := State.firstTask_least h
  refine ⟨hmem, fun x hx hne => ?_⟩
  have hlt : s.taskBefore d k t x = true := by
    rw [State.taskBefore_eq]
    exact decide_eq_true ((hle x hx).lt_of_ne fun e => hne (State.taskKey_injective e).symm)
  simp only [State.taskBefore, Bool.or_eq_true, Bool.and_eq_true, Bool.not_eq_true', beq_iff_eq, decide_eq_true_eq] at hlt
  exact hlt.imp_right fun ⟨hprio, hlater⟩ => ⟨hprio.symm, hlater⟩

end Sys2Proof.Machine

namespace Sys2Proof.Machine

/-! ### Task switches (R138 to R142, R543) -/

section
variable {s : State} {d k : Nat}

theorem State.coreFree_iff : s.coreFree d k = true ↔ s.maySwitch d k = true ∧ (s.core d k).ctx = .idle ∧
    s.rd (.core d k) HOOD_STAT_STATE ≠ 4 ∧ (s.core d k).eqTill ≤ s.tb := by
  simp [State.coreFree, and_assoc]

/-- Past the end of its list a task carries out no further descriptor (R130). -/
theorem State.passDescs_done {t : Nat} (h : s.rd (.core d k) (TASK_IMG_COUNT t) ≤ (s.task d k t).pos) (n : Nat) : s.passDescs d k t n = s := by
  cases n with
  | zero => rfl
  | succ n => simp [State.passDescs, h]

/-! #### Contexts (R141) -/

@[simp] theorem State.core_blurSlot (n d' k' : Nat) : (s.blurSlot d k n).core d' k' = s.core d' k' :=
  State.core_of_side _ _ d' k' (State.writeBytes_side ..)

theorem State.core_saveCtx (n : Nat) : (s.saveCtx d k n).core d k = { s.core d k with
    saved := Tab.set (fun i => i) (s.core d k).saved n none (some { hot := (s.core d k).hot, pc := (s.core d k).pc, form := (s.core d k).form })
    ctx := .idle, blk := false } := by
  simp [State.saveCtx]

theorem State.restoreCtx_saved {n : Nat} {v : Saved} (h : (s.core d k).saved.get n none = some v) (ctx : Ctx) :
    s.restoreCtx d k n ctx = s.setCore d k { s.core d k with
      hot := v.hot, pc := v.pc, form := v.form, br := none, ctx := ctx, saved := Tab.erase (s.core d k).saved n } := by
  simp only [State.restoreCtx, h]

/-! #### Switches -/

/-- A release with nothing to copy in begins as a whole (R140). -/
theorem State.releaseStart_begins {t : Nat} (hf : s.coreFree d k = true) (ht : s.firstTask d k (s.tasksIn d k [2, 4]) = some t)
    (h2 : s.taskState d k t = 2) (h0 : s.rd (.core d k) (TASK_IMG_COUNT t) = 0) (n : Nat) :
    s.releaseStart d k n = s.beginRelease d k t := by
  have hcount : (s.beginRelease d k t).rd (.core d k) (TASK_IMG_COUNT t) = 0 := by
    simp [State.beginRelease, State.setTaskState, State.rd_wr_off, h0]
  have hdone : (s.beginRelease d k t).rd (.core d k) (TASK_IMG_COUNT t) ≤ ((s.beginRelease d k t).task d k t).pos :=
    hcount.trans_le (Nat.zero_le _)
  simp only [State.releaseStart, hf, ht, h2, h0, State.findRefused, State.passDescs_done hdone]
  rfl

theorem State.taskSuspend_saves {t u : Nat} (hctx : (s.core d k).ctx = .task u) (ht : s.firstTask d k (s.tasksIn d k [2]) = some t)
    (hsw : s.maySwitch d k = true) (hp : s.rd (.core d k) (TASK_CFG_PRIO u) < s.rd (.core d k) (TASK_CFG_PRIO t))
    (hdone : s.rd (.core d k) (TASK_IMG_COUNT u) ≤ (s.task d k u).pos) (n : Nat) :
    s.taskSuspend d k n = (s.saveCtx d k u).wr (.core d k) (TASK_STAT_STATE u) 4 := by
  simp only [State.taskSuspend, hctx, ht, hsw, hp, and_self, if_true, State.passDescs_done hdone]
  rfl

theorem State.taskRestore_saved {t : Nat} {v : Saved} (hf : s.coreFree d k = true) (ht : s.firstTask d k (s.tasksIn d k [2, 4]) = some t)
    (h4 : s.taskState d k t = 4) (hv : (s.core d k).saved.get t none = some v) :
    s.taskRestore d k = (s.setCore d k { s.core d k with
      hot := v.hot, pc := v.pc, form := v.form, br := none, ctx := .task t, saved := Tab.erase (s.core d k).saved t }).wr
        (.core d k) (TASK_STAT_STATE t) (if (s.task d k t).out then 5 else 3) := by
  simp only [State.taskRestore, hf, ht, h4, if_true, State.restoreCtx_saved hv]
  rfl

theorem State.copyOutDone_ends {t : Nat} (hctx : (s.core d k).ctx = .task t) (hup : s.coreUp d k = true) (h5 : s.taskState d k t = 5)
    (hdone : s.rd (.core d k) (TASK_IMG_COUNT t) ≤ (s.task d k t).pos) : s.copyOutDone d k = s.endRelease d k t := by
  simp only [State.copyOutDone, hctx, hup, h5, and_self, if_true, State.passDescs_done hdone]

theorem State.backgroundResume_saved {v : Saved} (hf : s.coreFree d k = true) (hl : s.tasksIn d k [2, 3, 4, 5] = [])
    (hv : (s.core d k).saved.get 16 none = some v) : s.backgroundResume d k = s.restoreCtx d k 16 .background :=
  if_pos ⟨hf, by rw [State.hasBackground, hv]; rfl, hl⟩

end

/-- Settles O27: on its conditions each command is the one switch that its equation names (`State.releaseStart_begins`,
`State.taskSuspend_saves`, `State.taskRestore_saved`, `State.copyOutDone_ends`, `State.backgroundResume_saved`). -/
theorem taskSwitches : Obligations.TaskSwitches := by
  unfold Obligations.TaskSwitches
  intro s d k t u n v b c prio slot freed next back
  have free (h : freed) : s.coreFree d k = true := State.coreFree_iff.mpr h
  refine ⟨fun hf ht h2 h0 => ⟨_, congrArg Host.Outcome.next (State.releaseStart_begins (free hf) ht h2 h0 n), ?_⟩,
    fun hctx ht hsw hp hdone => congrArg Host.Outcome.next (State.taskSuspend_saves hctx ht hsw hp hdone n),
    fun hf ht h4 hv => congrArg Host.Outcome.next (State.taskRestore_saved (free hf) ht h4 hv),
    fun hctx hup h5 hdone => congrArg Host.Outcome.next (State.copyOutDone_ends hctx hup h5 hdone),
    fun hctx hrun hsw hl => congrArg Host.Outcome.next (if_pos ⟨hctx, hrun, hsw, hl⟩),
    fun hf hl hv => congrArg Host.Outcome.next ((State.backgroundResume_saved (free hf) hl hv).trans (State.restoreCtx_saved hv _)),
    fun x => State.core_saveCtx x⟩
  simp [State.beginRelease, State.setTaskState, State.rd_wr_off, Core.begun, b, c]

end Sys2Proof.Machine

namespace Sys2Proof.Machine

/-! ### Control hoods (R159 to R167) -/

section
variable {s : State} {d k : Nat} {p : HoodPlan}

/-! #### The request (R159 to R161, R165) -/

theorem State.hoodBlock_none (h : s.rd (.core d k) HOOD_STAT_STATE = 0) : s.hoodBlock d k = s.hoodRes d k 3 := if_pos h

/-- The hood of a core as a write of BLOCK sets it, its wait beginning (R161). -/
def State.hoodAsked (s : State) (d k : Nat) : Hood :=
  { (s.core d k).hood with until_ := s.tb + s.rd (.core d k) HOOD_WAIT_MS * 1000000, look := none, hold := none, atGot := none, miss := none }

theorem State.hoodBlock_single (h1 : s.rd (.core d k) HOOD_STAT_STATE = 1) (hp : s.inPair = false) :
    s.hoodBlock d k = (s.setCore d k { s.core d k with hood := s.hoodAsked d k }).wrs (.core d k)
      [(HOOD_STAT_STATE, 3), (HOOD_CTRL_BLOCK, 1)] := by
  simp [State.hoodBlock, h1, hp, State.hoodAsked]

theorem State.hoodBlock_active {n0 : Nat} (h1 : s.rd (.core d k) HOOD_STAT_STATE = 1) (hp : s.inPair = true) (ha : s.isActive = true)
    (hr : s.refValidTask d k = true) (hn : (s.rd (.core d k) (TASK_RELNUM_NUM (s.rd (.core d k) HOOD_CTRL_REF)) + 2) % 2 ^ 32 = n0) :
    s.hoodBlock d k = ((s.setCore d k { s.core d k with hood := { s.hoodAsked d k with n0 := n0 } }).wrs (.core d k)
      [(HOOD_STAT_STATE, 2), (HOOD_CTRL_BLOCK, 1)]).hsbSend .arm [coreNo d k, s.rd (.core d k) HOOD_DIGEST_CRC, n0] := by
  have hst : s.rd (.core d k) HOOD_STAT_STATE ≠ 0 := by omega
  rw [State.hoodBlock, if_neg hst, if_neg (not_not.mpr h1), if_pos hp, if_neg (not_not.mpr ha), if_neg (not_not.mpr hr), hn]
  rfl

/-- Outside a pair no MISS is sent where a request ends (R165, R166). -/
theorem State.requestEnd_single (hp : s.inPair = false) (result : Nat) :
    s.requestEnd d k result = (s.hoodEnd d k 1 result).endHold d k := by
  simp [State.requestEnd, State.finalMiss, hp]

theorem State.hoodAbort_single (h : s.rd (.core d k) HOOD_STAT_STATE = 2 ∨ s.rd (.core d k) HOOD_STAT_STATE = 3) (hp : s.inPair = false) :
    s.hoodAbort d k = (s.hoodEnd d k 1 0x0B).endHold d k :=
  (if_pos h).trans (State.requestEnd_single hp _)

theorem State.hoodNoGap_single (h3 : s.rd (.core d k) HOOD_STAT_STATE = 3) (hp : s.inPair = false) (ht : (s.core d k).hood.until_ < s.tb) :
    s.hoodNoGap d k = ((s.hoodEnd d k 1 2).endHold d k).offer Ev.HOOD_NO_GAP (.core d k) := by
  rw [State.hoodNoGap, if_pos ⟨h3, ht, by simp [hp]⟩, State.requestEnd_single hp]

/-! #### Blocking (R162, R166) -/

theorem State.blockBegin_plan (h : (s.core d k).hood.plan = some p) :
    s.blockBegin d k = (s.carryOver d k p).wr (.core d k) HOOD_STAT_STATE 4 := by
  simp only [State.blockBegin, h]

theorem State.blocking_ends (h4 : s.rd (.core d k) HOOD_STAT_STATE = 4) (h : (s.core d k).hood.plan = some p) :
    s.blocking d k = (s.exchange d k p).endHold d k := by
  simp only [State.blocking, h4, if_true, State.blockEnd, h]

section
variable (h3 : s.rd (.core d k) HOOD_STAT_STATE = 3)
include h3

theorem State.blocking_single (hp : s.inPair = false) (hg : s.gap d k = true) (ht : s.tb ≤ (s.core d k).hood.until_) :
    s.blocking d k = s.blockBegin d k := by
  simp [State.blocking, h3, hp, hg, ht]

theorem State.blocking_active {n : Nat} (hp : s.inPair = true) (ha : s.isActive = true) (hg : s.gap d k = true)
    (hl : (s.core d k).hood.look = some n) (hr : s.refPast d k n = false) :
    s.blocking d k = (s.blockBegin d k).hsbSend .atN [coreNo d k, n] := by
  simp [State.blocking, h3, hp, ha, hg, hl, hr]

theorem State.blocking_standby (hp : s.inPair = true) (ha : s.isActive = false) (hs : s.standbyReady d k = true) :
    s.blocking d k = s.blockBegin d k := by
  simp [State.blocking, h3, hp, ha, hs]

end

/-! #### Messages (R166, R167) -/

theorem State.hoodArmRx_agreed {digest n0 : Nat} (hs : s.isStandby = true) (h1 : s.rd (.core d k) HOOD_STAT_STATE = 1)
    (hd : s.rd (.core d k) HOOD_DIGEST_CRC = digest) : s.hoodArmRx d k digest n0 =
      ((s.setCore d k { s.core d k with hood := { (s.core d k).hood with n0 := n0, look := none, hold := none, atGot := none, miss := none } }).wr
        (.core d k) HOOD_STAT_STATE 3).hsbSend .reply [coreNo d k, 1] := by
  simp [State.hoodArmRx, hs, h1, hd]

theorem State.hoodArmRx_differs {digest n0 : Nat} (hs : s.isStandby = true)
    (h : s.rd (.core d k) HOOD_STAT_STATE ≠ 1 ∨ s.rd (.core d k) HOOD_DIGEST_CRC ≠ digest) :
    s.hoodArmRx d k digest n0 = (s.hoodRes d k 7).hsbSend .reply [coreNo d k, 0] := by
  rw [State.hoodArmRx, if_pos hs, if_neg (not_and_or.mpr h)]

theorem State.hoodPairMiss_waits {n : Nat} (hl : (s.core d k).hood.look = some n) (hp : s.inPair = true) (ha : s.isActive = true)
    (h3 : s.rd (.core d k) HOOD_STAT_STATE = 3) (ht : s.tb ≤ (s.core d k).hood.until_) (hr : s.refPast d k n = true) :
    s.hoodPairMiss d k =
      (s.setCore d k { s.core d k with hood := { (s.core d k).hood with look := none } }).hsbSend .miss [coreNo d k, n] := by
  simp only [State.hoodPairMiss, hl, hp, ha, h3, hr, and_self, if_true, if_neg (not_lt.mpr ht)]

theorem State.hoodTimeout_goesOn {r : Nat} (hh : (s.core d k).hood.hold = some r) (hs : s.isStandby = true)
    (ha : (s.core d k).hood.atGot = none) (ht : r + 30000 ≤ s.tb) : s.hoodTimeout d k = s.endHold d k := by
  simp only [State.hoodTimeout, hh, hs, ha, ht, and_self, if_true]

theorem State.hoodPairSplit_leaves {n at_ : Nat} (ha : (s.core d k).hood.atGot = some (n, at_)) (hs : s.isStandby = true)
    (h3 : s.rd (.core d k) HOOD_STAT_STATE = 3) (hr : s.standbyReady d k = false)
    (ht : at_ + s.rd (.core d k) (TASK_PERIOD_PERIOD (s.rd (.core d k) HOOD_CTRL_REF)) * 1000 ≤ s.tb) :
    s.hoodPairSplit d k = (((s.hoodEnd d k 1 9).offer Ev.HOOD_PAIR_SPLIT (.core d k)).endHold d k).leavePair := by
  simp only [State.hoodPairSplit, ha, hs, h3, hr, ht, Bool.false_eq_true, not_false_eq_true, and_self, if_true]

section
variable (hs : s.isStandby = true) (h3 : s.rd (.core d k) HOOD_STAT_STATE = 3)
include hs h3

theorem State.hoodAtRx_waiting (n : Nat) : s.hoodAtRx d k n =
    (s.setCore d k { s.core d k with hood := { (s.core d k).hood with atGot := some (n, s.tb) } }).blocking d k :=
  if_pos ⟨hs, h3⟩

theorem State.hoodMissRx_held {n : Nat} (hl : (s.core d k).hood.look = some n) : s.hoodMissRx d k n none = s.endHold d k := by
  simp only [State.hoodMissRx, hs, h3, hl, and_self, if_true]

theorem State.hoodMissRx_early {n : Nat} (hl : (s.core d k).hood.look ≠ some n) : s.hoodMissRx d k n none =
    s.setCore d k { s.core d k with hood := { (s.core d k).hood with miss := some n } } := by
  simp only [State.hoodMissRx, hs, h3, and_self, if_true, if_neg hl]

theorem State.hoodMissRx_final (n r : Nat) : s.hoodMissRx d k n (some r) = (s.hoodEnd d k 1 r).endHold d k := by
  simp only [State.hoodMissRx, hs, h3, and_self, if_true]

end

end

/-- Settles O28: each command acts where the core exists (`own`), each message where it is heard as well (`heard`,
`State.sbRx_heard`), as the equation says that its clause names. A request that waits blocks (`State.blocking_single`,
`State.blocking_active`, `State.blocking_standby`), or ends with its result, the hood loaded (`State.requestEnd_single`). -/
theorem controlHoods : Obligations.ControlHoods := by
  unfold Obligations.ControlHoods
  intro s h d k digest n0 n r at_ p b stat hood until_ first req end_ c half u standby hn
  have own {i : Instr} {t : State} (f : State → State) (hi : exec i s = .next (if s.hasNode (.core d k) then f s else s)) (ht : f s = t) :
      exec i s = .next t :=
    hi.trans (congrArg Host.Outcome.next ((if_pos hn).trans ht))
  have heard {i : Instr} {t : State} (f : State → State) (hi : exec i s = .next (s.sbRx h fun s => if s.hasNode (.core d k) then f s else s))
      (hh : s.hears h = true) (hu : u.hasNode (.core d k) = true) (ht : f u = t) : exec i s = .next t :=
    hi.trans (congrArg Host.Outcome.next ((s.sbRx_heard h _ hh).trans ((if_pos hu).trans ht)))
  refine ⟨fun h0 => own (·.hoodBlock d k) rfl (State.hoodBlock_none h0),
    fun h1 hp => own (·.hoodBlock d k) rfl (State.hoodBlock_single h1 hp),
    fun h1 hp ha hr => own (·.hoodBlock d k) rfl (State.hoodBlock_active h1 hp ha hr rfl),
    fun h23 hp => own (·.hoodAbort d k) rfl (State.hoodAbort_single h23 hp),
    fun h3 hp hg ht hpl => own (·.blocking d k) rfl ((State.blocking_single h3 hp hg ht).trans (State.blockBegin_plan hpl)),
    fun h4 hpl => own (·.blocking d k) rfl (State.blocking_ends h4 hpl),
    fun h3 hp ha hg hl hr hpl => own (·.blocking d k) rfl
      ((State.blocking_active h3 hp ha hg hl hr).trans (by rw [State.blockBegin_plan hpl]; rfl)),
    fun h3 hp ha hs hpl => own (·.blocking d k) rfl ((State.blocking_standby h3 hp ha hs).trans (State.blockBegin_plan hpl)),
    fun h3 hp ht => own (·.hoodNoGap d k) rfl (State.hoodNoGap_single h3 hp ht),
    fun ⟨hh, hu, hs⟩ h1 hd => heard (·.hoodArmRx d k digest (n0 % 2 ^ 32)) rfl hh hu (State.hoodArmRx_agreed hs h1 hd),
    fun ⟨hh, hu, hs⟩ hd => heard (·.hoodArmRx d k digest (n0 % 2 ^ 32)) rfl hh hu (State.hoodArmRx_differs hs hd),
    fun hh hu ha h2 => ?_,
    fun ⟨hh, hu, hs⟩ h3 => ⟨heard (·.hoodAtRx d k n) rfl hh hu (State.hoodAtRx_waiting hs h3 n),
      fun hl => heard (·.hoodMissRx d k n none) rfl hh hu (State.hoodMissRx_held hs h3 hl),
      fun hl => heard (·.hoodMissRx d k n none) rfl hh hu (State.hoodMissRx_early hs h3 hl),
      heard (·.hoodMissRx d k n (some r)) rfl hh hu (State.hoodMissRx_final hs h3 n r)⟩,
    fun hl hp ha h3 ht hr => own (·.hoodPairMiss d k) rfl (State.hoodPairMiss_waits hl hp ha h3 ht hr),
    fun hh hs ha ht => own (·.hoodTimeout d k) rfl (State.hoodTimeout_goesOn hh hs ha ht),
    fun ha hs h3 hr ht => own (·.hoodPairSplit d k) rfl (State.hoodPairSplit_leaves ha hs h3 hr ht)⟩
  have reply (ok : Bool) : exec (.hoodReplyRx h d k ok) s = .next (if ok then u.wr b HOOD_STAT_STATE 3 else u.hoodEnd d k 1 7) :=
    congrArg Host.Outcome.next ((s.sbRx_heard h _ hh).trans (if_pos ⟨hu, ha, h2⟩))
  exact ⟨reply true, reply false⟩

end Sys2Proof.Machine

namespace Sys2Proof.Machine

/-! ### Commands of the host's queues (R156, R206, R226, R232, R233, R375, R379, R454, R484) -/

section
variable {s : State}

/-- A running command completes with what its effect answers (R375). -/
theorem State.runCommand_running {q op res data : Nat} {c : QCmd} {f : QCmd → State → Nat × Nat × State} {t : State}
    (h : s.running q op = some c) (hf : f c s = (res, data, t)) : s.runCommand q op f = t.cmdEnd q 0 res data := by
  simp only [State.runCommand, h, hf]

/-! #### Jobs (R226, R232, R233, R323) -/

theorem State.jobAdmit_admitted {jb : Job} (h : s.job.job = some jb) (n : Nat) :
    s.jobAdmit n false = (7, s.admitResult 7 0 0 0 0) := by
  simp [State.jobAdmit, h]

theorem State.jobAdmit_unreadable {n : Nat} (h : s.job.job = none) (hr : (s.engineRead n descSize).1 = none) :
    s.jobAdmit n false = (6, (s.engineRead n descSize).2.admitResult 6 0 0 0 1) := by
  simp [State.jobAdmit, h, hr]

section
variable {jb : Job} {s0 : Nat}

theorem State.jobStart_none (h : s.job.job = none) : s.jobStart s0 = (3, s) := by
  simp only [State.jobStart, h]

variable (h : s.job.job = some jb)
include h

theorem State.jobStart_otherState (h1 : s.jobState ≠ 1) : s.jobStart s0 = (5, s) := by
  simp only [State.jobStart, h, if_pos h1]

variable (h1 : s.jobState = 1)
include h1

theorem State.jobStart_inTime (hf : s.fillBegun s0 = false) :
    s.jobStart s0 = (1, (s.jobBegin jb s0 (s.startPlace s0)).jobPairUpdate) := by
  simp [State.jobStart, h, h1, hf]

theorem State.jobStart_refused (hf : s.fillBegun s0 = true) (hl : s.lateAllowed jb s0 = false) : s.jobStart s0 = (2, s) := by
  simp [State.jobStart, h, h1, hf, hl]

theorem State.jobStart_late (hf : s.fillBegun s0 = true) (hl : s.lateAllowed jb s0 = true) :
    s.jobStart s0 = (4, (s.lateStart jb s0).jobPairUpdate) := by
  simp [State.jobStart, h, h1, hf, hl]

end

/-! #### Commits (R454) -/

section
variable {q : Nat} {c : QCmd} (h : s.running q 0x40 = some c)
include h

theorem exec_nvsCommit_done (hd : s.commitDone (c.p 0) = true) : exec (.nvsCommit q) s = .next
    (s.cmdEnd q 0 (if s.nvs.failed &&& c.p 0 = 0 then 1 else 4) ((s.nvs.stored &&& c.p 0) + (s.nvs.failed &&& c.p 0) * 2 ^ 32)) := by
  show execNvsCommit q s = _
  simp only [execNvsCommit, h, if_pos hd]

theorem exec_nvsCommit_powerFail (hd : s.commitDone (c.p 0) = false) (hp : s.nvs.pfPhase ≠ .idle) : exec (.nvsCommit q) s = .next
    (s.cmdEnd q 0 3 ((s.nvs.stored &&& c.p 0) + (s.nvs.failed &&& c.p 0) * 2 ^ 32)) := by
  show execNvsCommit q s = _
  simp only [execNvsCommit, h, hd, if_pos hp, Bool.false_eq_true, if_false]

end

end

/-- Settles O49: a running command completes with what its effect answers (`State.runCommand_running`); what a start and an
admission answer the equations of `State.jobStart` and `State.jobAdmit` say, and a commit has its own row's equations. -/
theorem hostCommands : Obligations.HostCommands := by
  unfold Obligations.HostCommands
  intro s q d k n c jb runs ends admitted on scan loaded shown aborted kept
  have completes {i : Instr} {res data : Nat} {t : State} (op : Nat) (f : QCmd → State → Nat × Nat × State)
      (hi : exec i s = .next (s.runCommand q op f)) (hr : runs op) (hf : f c s = (res, data, t)) : exec i s = ends res data t :=
    hi.trans (congrArg Host.Outcome.next (State.runCommand_running hr hf))
  have start {res : Nat} {t : State} (hr : runs 0x11) (ht : s.jobStart (c.p 0) = (res, t)) : exec (.jobStart q) s = ends res 0 t :=
    completes 0x11 _ rfl hr (by simp only [ht])
  refine ⟨fun hr => completes 0 _ rfl hr rfl, fun hr => completes 0x10 _ rfl hr rfl, fun hj => State.jobAdmit_admitted hj n,
    fun hj hb => State.jobAdmit_unreadable hj hb, fun hr hj => start hr (State.jobStart_none hj),
    fun hr hj h1 => start hr (State.jobStart_otherState hj h1), fun hr hj h1 hf => start hr (State.jobStart_inTime hj h1 hf),
    fun hr hj h1 hf hl => start hr (State.jobStart_refused hj h1 hf hl), fun hr hj h1 hf hl => start hr (State.jobStart_late hj h1 hf hl),
    fun hr hj => completes 0x12 _ rfl hr (by simp only [show s.job.job = some jb from hj]; rfl),
    fun hr hj => completes 0x12 _ rfl hr (by simp only [hj]; rfl), fun hr ht => completes 0x20 _ rfl hr (by simp only [ht]; rfl),
    fun hr ht hb => completes 0x30 _ rfl hr (by simp only [show s.targetDie c = some d from ht, hb]; rfl),
    fun hr ht hb => completes 0x30 _ rfl hr (by simp only [show s.targetDie c = some d from ht, hb]; rfl),
    fun hr ht => completes 0x31 _ rfl hr (by simp only [show s.targetDie c = some d from ht]; rfl),
    exec_nvsCommit_done, exec_nvsCommit_powerFail, fun hr => completes 0x50 _ rfl hr rfl, fun hr => completes 0xF0 _ rfl hr rfl⟩

end Sys2Proof.Machine

namespace Sys2Proof.Machine

/-! ### The image service (R126, R128, R151, R153) -/

section
variable {s : State}

theorem IMG_CTRL_PERIOD_of_run (p : Nat) : IMG_CTRL_PERIOD.of (p % 2 ^ 10 + 2 ^ 16) = p % 2 ^ 10 := by
  simp only [Field.of, bits]; omega

theorem IMG_CTRL_PERIOD_of_stop (p : Nat) : IMG_CTRL_PERIOD.of (p % 2 ^ 10) = p % 2 ^ 10 := by
  simp only [Field.of, bits]; omega

theorem IMG_CTRL_RUN_of_run (p : Nat) : IMG_CTRL_RUN.of (p % 2 ^ 10 + 2 ^ 16) = 1 := by
  simp only [Field.of, bits]; omega

theorem IMG_CTRL_RUN_of_stop (p : Nat) : IMG_CTRL_RUN.of (p % 2 ^ 10) = 0 := by
  simp only [Field.of, bits]; omega

/-- The state in which a write of IMG_CTRL has put PERIOD, where it is in range (R128). -/
def State.imgTimed (s : State) (p : Nat) : State :=
  if 5 ≤ p ∧ p ≤ 1000 then s.wr .pkgNode IMG_CTRL_PERIOD p else s

@[simp] theorem State.imgTimed_img (p : Nat) : (s.imgTimed p).img = s.img := by
  unfold State.imgTimed; split <;> rfl

theorem exec_imgRun (w : Nat) : exec (.imgRun w) s = .next ((s.imgTimed (w % 2 ^ 10)).imgRun true) := by
  show execImgRun w s = _
  simp only [execImgRun, State.imgCtrl, IMG_CTRL_PERIOD_of_run, IMG_CTRL_RUN_of_run]
  rfl

theorem exec_imgStop (w : Nat) : exec (.imgStop w) s = .next ((s.imgTimed (w % 2 ^ 10)).imgRun false) := by
  show execImgStop w s = _
  simp only [execImgStop, State.imgCtrl, IMG_CTRL_PERIOD_of_stop, IMG_CTRL_RUN_of_stop]
  rfl

theorem State.imgRun_restarting {run : Bool} (h : s.img.restarting = true) : s.imgRun run = s := if_pos h

theorem State.imgRun_first (h : s.img.restarting = false) (hb : s.img.begun = false) :
    s.imgRun true = { s with img := { s.img with begun := true, restarting := true } } := by
  simp [State.imgRun, h, hb]

theorem State.imgRun_begun {run : Bool} (h : s.img.restarting = false) (hb : s.img.begun = true) :
    s.imgRun run = s.wrB .pkgNode IMG_CTRL_RUN run := by
  simp [State.imgRun, h, hb]

/-! ### The DRAM derate (R234) -/

@[simp] theorem State.raiseDie_job (d n : Nat) : (s.raiseDie d n).job = s.job := by rw [State.raiseDie_only]
@[simp] theorem State.offer_job (code : Nat) (n : Node) (l : List Nat) : (s.offer code n l).job = s.job := by rw [State.offer_only]

theorem State.capEvaluate_idle (h : s.job.job = none) : s.capEvaluate = s := by
  simp only [State.capEvaluate, h]

/-- The refresh rate of a die's DRAM changes (R234). -/
def State.derate (s : State) (d hot limit code : Nat) : State :=
  let t := ((s.setTherm d { s.thermOf d with dramCool := none }).wr (.drc d) DRC_DERATE_HOT hot).wr (.drc d) DRC_LIMIT_MBS limit
  ((t.raiseDie d 72).offer code (.die d)).capEvaluate

section
variable {d hot limit code : Nat} (hj : s.job.job = none)
include hj

theorem State.rd_derate_hot : (s.derate d hot limit code).rd (.drc d) DRC_DERATE_HOT = hot % 2 := by
  rw [State.derate, State.capEvaluate_idle (by simpa using hj)]
  simp [State.rd_offer, State.rd_raiseDie, State.rd_wr_off]

theorem State.rd_derate_limit : (s.derate d hot limit code).rd (.drc d) DRC_LIMIT_MBS = limit % 2 ^ 32 := by
  rw [State.derate, State.capEvaluate_idle (by simpa using hj)]
  simp [State.rd_offer, State.rd_raiseDie]

end

section
variable {d : Nat} {raw16 : Int}

/-- The state in which a reading of a die's DRAM is shown. -/
def State.dramShown (s : State) (d : Nat) (raw16 : Int) : State :=
  s.wr (.drc d) DRC_TEMP_DEGC (ofSigned 8 ((raw16 + s.calEff (8 + d)) / 16))

theorem State.is_dramShown_hot : (s.dramShown d raw16).is (.drc d) DRC_DERATE_HOT = decide (s.rd (.drc d) DRC_DERATE_HOT ≠ 0) := by
  simp [State.is, State.dramShown, State.rd_wr_off, bne, BEq.beq]

theorem State.dramReading_heats (h0 : s.rd (.drc d) DRC_DERATE_HOT = 0) (ht : 85 * 16 < raw16 + s.calEff (8 + d)) :
    s.dramReading d raw16 = (s.dramShown d raw16).derate d 1 538902 Ev.DRAM_HOT := by
  have hot : (s.dramShown d raw16).is (.drc d) DRC_DERATE_HOT = false := by simp [State.is_dramShown_hot, h0]
  simp only [State.dramReading, ← State.dramShown.eq_def, hot, if_pos ht]
  rfl

theorem State.dramReading_stays (h0 : s.rd (.drc d) DRC_DERATE_HOT = 0) (ht : raw16 + s.calEff (8 + d) ≤ 85 * 16) :
    s.dramReading d raw16 = s.dramShown d raw16 := by
  have hot : (s.dramShown d raw16).is (.drc d) DRC_DERATE_HOT = false := by simp [State.is_dramShown_hot, h0]
  simp only [State.dramReading, ← State.dramShown.eq_def, hot, if_neg (not_lt.mpr ht)]
  rfl

theorem State.dramReading_cools {t0 : Nat} (h0 : s.rd (.drc d) DRC_DERATE_HOT ≠ 0) (ht : raw16 + s.calEff (8 + d) ≤ 80 * 16)
    (hc : (s.thermOf d).dramCool = some t0) (hs : t0 + 1000000000 ≤ s.tb) :
    s.dramReading d raw16 = (s.dramShown d raw16).derate d 0 573300 Ev.DRAM_COOL := by
  have hot : (s.dramShown d raw16).is (.drc d) DRC_DERATE_HOT = true := by simp [State.is_dramShown_hot, h0]
  have cool : ((s.dramShown d raw16).thermOf d).dramCool = some t0 := hc
  simp only [State.dramReading, ← State.dramShown.eq_def, hot, if_pos ht, cool, if_pos hs]
  rfl

end

/-! ### The steps of θ (R235, R534) -/

section
variable {d : Nat} {c jmax : Int}

/-- The state in which a reading of a die's case and junctions is shown. -/
def State.caseShown (s : State) (d : Nat) (c jmax : Int) : State :=
  (s.wr (.dieNode d) THERM_STAT_CASE (ofSigned 8 c)).wr (.dieNode d) THERM_STAT_JMAX (ofSigned 8 jmax)

section
variable (hh : s.heldHot d = false) (hj : jmax < 120)
include hh hj

/-- With no junction hot the case temperature alone decides the step (R534). -/
theorem State.caseReading_cold : s.caseReading d c jmax =
    if (s.thermOf d).step < caseStep c then (s.caseShown d c jmax).thetaLower d (caseStep c)
    else if caseStep c < (s.thermOf d).step ∧ c ≤ caseLimit (s.thermOf d).step - 3 then
      (s.caseShown d c jmax).setTherm d { s.thermOf d with coolSince := some ((s.thermOf d).coolSince.getD s.tb) }
    else (s.caseShown d c jmax).setTherm d { s.thermOf d with coolSince := none } := by
  have shown : ¬ (120 ≤ jmax ∧ (s.caseShown d c jmax).hot ≠ []) := fun h => absurd h.1 (not_le.mpr hj)
  have cold : (s.caseShown d c jmax).heldHot d = false := hh
  simp only [State.caseReading, ← State.caseShown.eq_def, if_neg shown, cold]
  rfl

theorem State.caseReading_hotter (hs : (s.thermOf d).step < caseStep c) :
    s.caseReading d c jmax = (s.caseShown d c jmax).thetaLower d (caseStep c) := by
  rw [State.caseReading_cold hh hj, if_pos hs]

theorem State.caseReading_cooler (hs : caseStep c < (s.thermOf d).step) (hc : c ≤ caseLimit (s.thermOf d).step - 3) :
    s.caseReading d c jmax =
      (s.caseShown d c jmax).setTherm d { s.thermOf d with coolSince := some ((s.thermOf d).coolSince.getD s.tb) } := by
  rw [State.caseReading_cold hh hj, if_neg hs.asymm, if_pos ⟨hs, hc⟩]

end

theorem State.thetaLower_idle (h : s.job.job = none) (st : Nat) : s.thetaLower d st =
    (s.setTherm d { s.thermOf d with step := st, coolSince := none }).wr (.dieNode d) THERM_STAT_STEP st :=
  if_pos h

section
variable (hd : s.hasDie d = true)
include hd

theorem exec_thetaRaise {t0 : Nat} (hc : (s.thermOf d).coolSince = some t0) (ht : t0 + 1000000000 ≤ s.tb) : exec (.thetaRaise d) s =
    .next (s.thetaRaise d (caseStep (toSigned 8 (s.rd (.dieNode d) THERM_STAT_CASE)))) := by
  show execThetaRaise d s = _
  simp only [execThetaRaise, hc, if_pos (And.intro hd ht)]

theorem exec_thetaLeadExpiry {st t0 : Nat} {l : List (Nat × Option Nat)} (hl : (s.thermOf d).leads = (st, some t0) :: l)
    (ht : t0 + s.rd .pkgNode CAP_CFG_LEAD * 1000000 ≤ s.tb) :
    exec (.thetaLeadExpiry d) s = .next ((s.wr (.dieNode d) THERM_STAT_STEP st).setLeads d l) := by
  show execThetaLeadExpiry d s = _
  simp only [execThetaLeadExpiry, hl, if_pos (And.intro hd ht)]
  rfl

end

end

/-! ### The cap (R237) -/

theorem State.capRaise_rises {jb : Job} {v : Nat} (hj : s.job.job = some jb) (hv : evalFloor s.tb s.job.evals = some v) (hlt : s.cap < v) :
    s.capRaise = (((s.setCap v).offer Ev.CAP_RAISED .pkg).setCapCause (s.capEval jb).2).wr .pkgNode CAP_CAUSE_HELD
      (decide (v < (s.capEval jb).1)).toNat := by
  simp only [State.capRaise, hj, hv, if_pos hlt]
  rfl

end

/-- Settles O52: IMG_CTRL takes PERIOD and then RUN (`exec_imgRun`, `exec_imgStop`); a DRAM reading that changes the derate is
`State.derate`, after which HOT and the limit read as written; a case reading lowers θ or begins to count the second after which it
returns (`State.caseReading_hotter`, `State.caseReading_cooler`). -/
theorem imageAndRates : Obligations.ImageAndRates := by
  unfold Obligations.ImageAndRates
  intro s w d st t0 v c jmax raw16 l jb i up p period timed on hot limit t16 th shown
  have reads {t : State} (hd : on) (ht : s.dramReading d raw16 = t) : exec (.dramTempReading d raw16) s = .next t :=
    congrArg Host.Outcome.next ((if_pos hd).trans ht)
  have sees {t : State} (hd : on) (ht : s.caseReading d c jmax = t) : exec (.caseTempReading d c jmax) s = .next t :=
    congrArg Host.Outcome.next ((if_pos hd).trans ht)
  have written {i : Nat → Instr} {run : Bool} {t : State} (hi : ∀ w, exec (i w) s = .next ((s.imgTimed (w % 2 ^ 10)).imgRun run))
      (ht : (s.imgTimed p).imgRun run = t) : exec (i w) s = .next t :=
    (hi w).trans (congrArg Host.Outcome.next ht)
  have timed_img : (s.imgTimed p).img = s.img := State.imgTimed_img p
  refine ⟨fun hup hrun ht => congrArg Host.Outcome.next (if_pos ⟨hup, bne_iff_ne.mpr hrun, ht⟩),
    fun hr hb => written exec_imgRun (State.imgRun_first (timed_img ▸ hr) (timed_img ▸ hb)),
    fun hr hb => ⟨written exec_imgRun (State.imgRun_begun (timed_img ▸ hr) (timed_img ▸ hb)),
      written exec_imgStop (State.imgRun_begun (timed_img ▸ hr) (timed_img ▸ hb))⟩,
    fun hr => ⟨written exec_imgRun (State.imgRun_restarting (timed_img ▸ hr)),
      written exec_imgStop (State.imgRun_restarting (timed_img ▸ hr))⟩,
    fun hup hr => ⟨congrArg Host.Outcome.next (if_pos ⟨hup, hr⟩), rfl⟩,
    fun hup hb hr ht => ⟨congrArg Host.Outcome.next (if_pos ⟨hup, hb, Bool.eq_false_iff.mp hr, ht⟩), rfl, rfl⟩,
    fun hd h0 ht hj => ⟨_, reads hd (State.dramReading_heats h0 ht), State.rd_derate_hot hj, State.rd_derate_limit hj⟩,
    fun hd h0 ht => reads hd (State.dramReading_stays h0 ht),
    fun hd h0 ht hc hs hj => ⟨_, reads hd (State.dramReading_cools h0 ht hc hs), State.rd_derate_hot hj, State.rd_derate_limit hj⟩,
    fun hd hh hj hs => sees hd (State.caseReading_hotter hh hj hs), fun hd hh hj hs hc => sees hd (State.caseReading_cooler hh hj hs hc),
    fun hj => State.thetaLower_idle hj st, fun hd hc ht => exec_thetaRaise hd hc ht, fun hd hl ht => exec_thetaLeadExpiry hd hl ht,
    fun hj hv hlt => congrArg Host.Outcome.next (State.capRaise_rises hj hv hlt),
    fun hm ho => congrArg Host.Outcome.next (if_pos ⟨hm, .inl ho⟩)⟩

end Sys2Proof.Machine

namespace Sys2Proof.Machine

/-! ### Plane words (R170 to R178, R188, R190, R196) -/

section
variable {s : State} {d j : Nat} {k : Kern}

/-- A running kernel meets a plane instruction before its E: its lane is clocked and not gated, its next parcel encodes the
instruction, and `bad` says whether that parcel has an uncorrectable error. -/
structure State.Meets (s : State) (d j : Nat) (k : Kern) (op : LaneOp) (bad : Bool) : Prop where
  runs : (s.lane d j).kern = some k
  before : s.ps < s.lineE d j k.line
  ungated : s.laneGated d j = false
  clocked : s.laneClocked d j = true
  decodes : laneDecode (s.load (.ks d j k.slot) (2 * k.pos) 2) = some op
  error : (s.eccRead (.ks d j k.slot) (2 * k.pos) 2).1 = bad

/-! #### One lane cycle -/

section
variable {op : LaneOp} {bad : Bool}

theorem State.laneCycle_decoded (h : laneDecode (s.load (.ks d j k.slot) (2 * k.pos) 2) = some op) :
    s.laneCycle d j k op =
      if (s.eccRead (.ks d j k.slot) (2 * k.pos) 2).1 then (s.eccRead (.ks d j k.slot) (2 * k.pos) 2).2.planeFault d j 0
      else (s.eccRead (.ks d j k.slot) (2 * k.pos) 2).2.laneExec d j k op :=
  if_pos h

section
variable (hk : (s.lane d j).kern = some k) (hg : s.laneGated d j = false) (hc : s.laneClocked d j = true)
include hk hg hc

/-- Up to the end of the deadline cycle a cycle counts, in the deadline cycle itself only where it faults (R190). -/
theorem State.laneStep_clocked (ht : s.ps < s.lineE d j k.line + 1000) : s.laneStep d j op =
    if s.lineE d j k.line ≤ s.ps ∧ ¬ (s.laneCycle d j k op).faulted d j then s else s.laneCycle d j k op := by
  have acts : ¬ (s.laneGated d j ∨ ¬ s.laneClocked d j ∨ s.lineE d j k.line + 1000 ≤ s.ps) := by simp [hg, hc, ht]
  simp only [State.laneStep, hk, if_neg acts]

theorem State.laneStep_before (ht : s.ps < s.lineE d j k.line) : s.laneStep d j op = s.laneCycle d j k op := by
  rw [State.laneStep_clocked hk hg hc (by omega), if_neg fun h => not_le.mpr ht h.1]

theorem State.laneStep_deadline (he : s.lineE d j k.line ≤ s.ps) (ht : s.ps < s.lineE d j k.line + 1000) :
    s.laneStep d j op = if (s.laneCycle d j k op).faulted d j = true then s.laneCycle d j k op else s := by
  rw [State.laneStep_clocked hk hg hc ht]
  cases (s.laneCycle d j k op).faulted d j <;> simp [he]

end

theorem State.Meets.laneStep (h : s.Meets d j k op bad) : s.laneStep d j op =
    if bad then (s.eccRead (.ks d j k.slot) (2 * k.pos) 2).2.planeFault d j 0
    else (s.eccRead (.ks d j k.slot) (2 * k.pos) 2).2.laneExec d j k op := by
  rw [State.laneStep_before h.runs h.ungated h.clocked h.before, State.laneCycle_decoded h.decodes, h.error]

end

/-! #### The effect of each instruction -/

/-- An instruction that works on the stack alone: the kernel goes on with what it makes of the stack. -/
theorem State.laneExec_stackOp {op : LaneOp} {st : List Plane} (h : stackOp op k.stack = some st) :
    s.laneExec d j k op = s.kernNext d j k st := by
  obtain ⟨line, slot, group, pos, stack, acc, step⟩ := k
  unfold State.laneExec
  split
  case h_8 => simp only [h]
  all_goals cases h

section
variable {a b c e : Plane} {st : List Plane}

theorem State.laneExec_loadp (h : k.stack = st) (n : Nat) : s.laneExec d j k (.loadp n) =
    (let x := s.loadPlane d j (srcBuf (s.lineAt k.line).n) n k.group
     if x.2.1 then x.2.2.planeFault d j 2 else x.2.2.kernNext d j k (x.1 :: st)) := by
  rw [← h]
  rfl

theorem State.laneExec_calp (h : k.stack = st) (f : Nat) : s.laneExec d j k (.calp f) =
    (let x := s.calPlane d j f k.group
     if x.2.1 then x.2.2.planeFault d j 1 else x.2.2.kernNext d j k (x.1 :: st)) := by
  rw [← h]
  rfl

theorem State.laneExec_lutp (h : k.stack = a :: b :: c :: e :: st) (i w : Nat) : s.laneExec d j k (.lutp i w) =
    (let x := s.kernelRead d j (lutBase k.slot + 16 * i) 16
     if x.2.1 then x.2.2.planeFault d j 3
     else x.2.2.kernNext d j k ((List.range w).map (fun n => lutPlane x.1 n e c b a) ++ st)) := by
  unfold State.laneExec
  rw [h]

theorem State.laneExec_storep (h : k.stack = a :: st) (q : Nat) : s.laneExec d j k (.storep q) =
    (s.laneWrite d j (outBuf (s.lineAt k.line).n + (8 * k.group + q) * 256) (leBytes 256 a.body)).kernNext d j k st := by
  unfold State.laneExec
  rw [h]

theorem State.laneExec_popcp (h : k.stack = a :: st) (q : Nat) : s.laneExec d j k (.popcp q) =
    s.kernNext d j { k with acc := k.acc.set q (min (k.acc.getD q 0 + popcount a.body 2048) 0xFFFFFFFF) } st := by
  unfold State.laneExec
  rw [h]

theorem State.laneExec_flagp (h : k.stack = a :: st) (n : Nat) : s.laneExec d j k (.flagp n) =
    if a.body ≠ 0 then ((s.kernNext d j k st).orBits (.lane d j) LANE_FLAGS_FLAG (2 ^ n)).raiseDie d (256 + 8 * j + n)
    else s.kernNext d j k st := by
  unfold State.laneExec
  rw [h]

end

/-- GEND of a group that is not the last (R170, R174). -/
theorem State.laneExec_gend_next (h : k.group + 1 < s.rd (.lane d j) LANE_GROUPS_N) : s.laneExec d j k .gend =
    s.setLane d j { s.lane d j with kern := some { k with group := k.group + 1, pos := 0, stack := [] } } :=
  show s.gend d j k = _ from if_pos h

/-- GEND of the last group (R170, R188). -/
theorem State.laneExec_gend_last (h : s.rd (.lane d j) LANE_GROUPS_N ≤ k.group + 1) : s.laneExec d j k .gend =
    ((s.wr (.lane d j) LANE_SLACK_NS
      (min ((s.lineE d j k.line - s.ps) / 1000).toNat (s.rd (.lane d j) LANE_SLACK_NS))).kernelOver d j).handBatt d j k.line false k.acc :=
  show s.gend d j k = _ from if_neg (not_lt.mpr h)

end

/-- Settles O54: a kernel that meets an instruction has its effect, or a plane fault of kind 0 (`State.Meets.laneStep`); an
instruction of the stack alone has that of `stackOp` (`State.laneExec_stackOp`), the others the effects that the equations after
it give; the deadline cycle counts where it faults (`State.laneStep_deadline`). -/
theorem planeWords : Obligations.PlaneWords := by
  unfold Obligations.PlaneWords
  intro s d j n q f i w k a b c e st parcel t met runs goes put line load cal lut late added
  have meets {op : LaneOp} {bad : Bool} (h : met op bad) : s.Meets d j k op bad :=
    let ⟨hk, hb, hg, hc, hd, hp⟩ := h
    ⟨hk, hb, hg, hc, hd, hp⟩
  have executes {ins : Instr} {op : LaneOp} {l : List Plane} {u : State} (hi : exec ins s = .next (s.laneStep d j op)) (h : runs op l)
      (hu : t.laneExec d j k op = u) : exec ins s = .next u :=
    hi.trans (congrArg Host.Outcome.next ((meets h.1).laneStep.trans hu))
  have reshapes {ins : Instr} {op : LaneOp} {l l' : List Plane} (hi : exec ins s = .next (s.laneStep d j op)) (h : runs op l)
      (hs : stackOp op l = some l') : exec ins s = put l' :=
    executes hi h (State.laneExec_stackOp (h.2 ▸ hs))
  exact ⟨fun h => reshapes rfl h rfl, fun h => reshapes rfl h rfl, fun h => reshapes rfl h rfl, fun h => reshapes rfl h rfl,
    fun h => reshapes rfl h rfl, fun h => reshapes rfl h rfl, fun h => reshapes rfl h rfl, fun h => reshapes rfl h rfl,
    fun h => reshapes rfl h rfl, fun h => reshapes rfl h rfl, fun h => reshapes rfl h rfl, fun h => reshapes rfl h rfl,
    fun h => reshapes rfl h rfl, fun h => reshapes rfl h rfl, fun h => reshapes rfl h rfl,
    fun h hn => reshapes rfl h (congrArg (Option.map (· :: st)) hn), fun h => reshapes rfl h rfl, fun h => reshapes rfl h rfl,
    fun h hg => executes rfl h ((State.laneExec_loadp h.2 n).trans (if_neg (Bool.eq_false_iff.mp hg))),
    fun h hb => executes rfl h ((State.laneExec_loadp h.2 n).trans (if_pos hb)),
    fun h hg => executes rfl h ((State.laneExec_calp h.2 f).trans (if_neg (Bool.eq_false_iff.mp hg))),
    fun h hb => executes rfl h ((State.laneExec_calp h.2 f).trans (if_pos hb)),
    fun h hg => executes rfl h ((State.laneExec_lutp h.2 i w).trans (if_neg (Bool.eq_false_iff.mp hg))),
    fun h hb => executes rfl h ((State.laneExec_lutp h.2 i w).trans (if_pos hb)),
    fun h => executes rfl h (State.laneExec_storep h.2 q), fun h => executes rfl h (State.laneExec_popcp h.2 q),
    fun h h0 => executes rfl h ((State.laneExec_flagp h.2 n).trans (if_neg (not_not.mpr h0))),
    fun h h1 => executes rfl h ((State.laneExec_flagp h.2 n).trans (if_pos h1)),
    fun h hn => executes rfl h (State.laneExec_gend_next hn), fun h hn => executes rfl h (State.laneExec_gend_last hn),
    fun h => congrArg Host.Outcome.next ((meets h).laneStep.trans (if_pos rfl)),
    fun hk hg hc he ht => congrArg Host.Outcome.next (State.laneStep_deadline hk hg hc he ht)⟩

end Sys2Proof.Machine

namespace Sys2Proof.Machine

/-! ### Lanes and ingest (R187 to R191, R196, R214 to R224) -/

section
variable {s : State} {d j : Nat}

theorem State.is_eq_false {b : Blk} {f : Field} (h : s.rd b f = 0) : s.is b f = false := by simp [State.is, h]

theorem State.is_eq_true {b : Blk} {f : Field} (h : s.rd b f ≠ 0) : s.is b f = true := by simp [State.is, h]

/-! #### LANE_CTRL (R191, R196, R203) -/

section
variable (h0 : s.rd (.lane d j) LANE_CTRL_RUN = 0)
include h0

theorem State.laneRun_begins (hr : s.runRefused d j = false) : s.laneRun d j = (s.wr (.lane d j) LANE_CTRL_RUN 1).beginLines d j := by
  simp [State.laneRun, State.is_eq_false h0, hr]

theorem State.laneRun_refused (hr : s.runRefused d j = true) : s.laneRun d j = s.wr (.lane d j) LANE_STAT_CFGERR 1 := by
  simp [State.laneRun, State.is_eq_false h0, hr]

end

theorem State.laneStop_admitted (h : s.rd (.lane d j) LANE_BUDGET_CYCLES ≠ 0) : s.laneStop d j = s := if_pos (.inl h)

section
variable (hb : s.rd (.lane d j) LANE_BUDGET_CYCLES = 0) (hr : s.rd (.lane d j) LANE_CTRL_RUN ≠ 0)
include hb hr

theorem State.laneStop_idle (hk : (s.lane d j).kern = none) :
    s.laneStop d j = (s.setLane d j { s.lane d j with runAt := none }).wr (.lane d j) LANE_CTRL_RUN 0 := by
  simp [State.laneStop, hb, State.is_eq_true hr, hk]

theorem State.laneStop_kernel {k : Kern} (hk : (s.lane d j).kern = some k) :
    s.laneStop d j = s.setLane d j { s.lane d j with runAt := none, stopping := true } := by
  simp [State.laneStop, hb, State.is_eq_true hr, hk]

end

theorem State.clearFaulted_faulted (h : s.rd (.lane d j) LANE_STAT_STATE = 3) : s.clearFaulted d j =
    (s.setLane d j { s.lane d j with faultEnd := some s.tmb.count }).wrs (.lane d j) [(LANE_STAT_STATE, 0), (LANE_CTRL_RESUME, 0)] :=
  if_pos (decide_eq_true h)

theorem State.rd_clearFaulted_state (h : s.rd (.lane d j) LANE_STAT_STATE = 3) : (s.clearFaulted d j).rd (.lane d j) LANE_STAT_STATE = 0 := by
  rw [State.clearFaulted_faulted h]
  simp [State.wrs, State.each, State.rd_wr_off]

theorem State.lane_clearFaulted (h : s.rd (.lane d j) LANE_STAT_STATE = 3) :
    (s.clearFaulted d j).lane d j = { s.lane d j with faultEnd := some s.tmb.count } := by
  rw [State.clearFaulted_faulted h]
  simp [State.wrs, State.each]

/-! #### The lane timer (R187 to R190) -/

/-- A kernel starts with its first group, at its first parcel, on an empty stack (R170, R174). -/
theorem State.kernelBegin_kern (i : Nat) : ∃ k, ((s.kernelBegin d j i).lane d j).kern = some k ∧ k.line = i ∧ k.group = 0 ∧ k.pos = 0 ∧
    k.stack = [] :=
  ⟨_, congrArg Lane.kern (State.lane_setLane_same ..), rfl, rfl, rfl, rfl⟩

section
variable (hn : s.hasNode (.lane d j) = true)
include hn

theorem exec_kernelStart {i : Nat} (hi : s.laneNext d j = some i) (hm : s.mayStart d j i = true) :
    exec (.kernelStart d j) s = .next (s.kernelBegin d j i) := by
  show execKernelStart d j s = _
  simp only [execKernelStart, hi, if_pos (And.intro hn hm)]

section
variable (hg : s.laneGated d j = false)
include hg

/-- A kernel that still runs at E is abandoned (R188, R189). -/
theorem exec_kernelDeadline_runs {k : Kern} (hk : (s.lane d j).kern = some k) (he : s.lineE d j k.line ≤ s.ps) :
    exec (.kernelDeadline d j) s = .next ((s.kernelOver d j).blankBatt d j k.line (s.blankReason d j k.line true)) := by
  show execKernelDeadline d j s = _
  simp only [execKernelDeadline, hn, hg, hk, if_pos he, not_true_eq_false, Bool.false_eq_true, or_self, if_false]

/-- A line whose kernel does not run at E gets its blank batt (R189). -/
theorem exec_kernelDeadline_waits {i : Nat} (hk : (s.lane d j).kern = none) (hi : s.blankNext d j = some i) (he : s.lineE d j i ≤ s.ps) :
    exec (.kernelDeadline d j) s = .next (s.blankBatt d j i (s.blankReason d j i false)) := by
  show execKernelDeadline d j s = _
  simp only [execKernelDeadline, hn, hg, hk, hi, if_pos he, not_true_eq_false, Bool.false_eq_true, or_self, if_false]

end

end

/-! #### Ingest (R214 to R218, R221) -/

section
variable {b : DieJob} (hb : s.dieJob d = some b)
include hb

theorem exec_ingWptrWrite_job (w : Nat) : exec (.ingWptrWrite d w) s =
    .next (if 16 * ING_WPTR_OFFSET.of w < b.ring then s.wr (.ing d) ING_WPTR_OFFSET (ING_WPTR_OFFSET.of w) else s) := by
  show execIngWptrWrite d w s = _
  simp only [execIngWptrWrite, hb]

theorem exec_ingestFill_chosen {jb : Job} (hj : s.job.job = some jb) (hc : s.fillChoice d b.lanes = some j) :
    exec (.ingestFill d) s = .next (s.fillLane b jb.length j) := by
  show execIngestFill d s = _
  simp only [execIngestFill, hb, hj, hc]

end

/-! #### Calibration transfers (R222 to R224) -/

/-- The state in which a write of ING_CAL_CTRL has put LANE and MODE. -/
def State.calSet (s : State) (d w : Nat) : State := s.wrOf (.ing d) [ING_CAL_CTRL_LANE, ING_CAL_CTRL_MODE] w

theorem ING_CAL_CTRL_GO_of (w : Nat) : ING_CAL_CTRL_GO.of w = w / 2 ^ 8 % 2 := rfl

section
variable {w : Nat}

theorem State.calCtrl_set (h : ING_CAL_CTRL_GO.of w ≠ 1) : s.calCtrl d w = s.calSet d w := by
  rw [ING_CAL_CTRL_GO_of] at h
  exact if_pos (by rw [ING_CAL_CTRL_GO_of]; omega)

section
variable (h : ING_CAL_CTRL_GO.of w = 1)
include h

theorem State.calCtrl_go : s.calCtrl d w = if (s.ing d).cal.isSome then (s.calSet d w).calResult d 5 else (s.calSet d w).calStart d :=
  if_neg (by omega)

theorem State.calCtrl_busy (hb : (s.ing d).cal.isSome = true) : s.calCtrl d w = (s.calSet d w).calResult d 5 :=
  (State.calCtrl_go h).trans (if_pos hb)

theorem State.calCtrl_starts (hb : ¬ (s.ing d).cal.isSome = true) : s.calCtrl d w = (s.calSet d w).calStart d :=
  (State.calCtrl_go h).trans (if_neg hb)

end

end

@[simp] theorem State.ing_raiseDie (n m i : Nat) : (s.raiseDie n m).ing i = s.ing i := by rw [State.raiseDie_only]; rfl

/-- No transfer runs after one has ended. -/
theorem State.calEnd_cal (c : CalRun) : ((s.calEnd d c).ing d).cal = none := by
  simp [State.calEnd, State.calResult]

theorem exec_calTransferDone_room {c : CalRun} (hc : (s.ing d).cal = some c) (hr : s.holdRoom d c.lane c.recs.length = true) :
    exec (.calTransferDone d) s = .next (s.calEnd d c) := by
  show execCalTransferDone d s = _
  simp only [execCalTransferDone, hc, if_pos hr]

end

/-- Settles O53: a command of a lane that exists (`own`), or of a die's calibration (`written`), acts as the equation says that its
clause names. -/
theorem lanesAndIngest : Obligations.LanesAndIngest := by
  unfold Obligations.LanesAndIngest
  intro s d j w i k b jb c x y on l run place busy go set n
  have own {ins : Instr} {t : State} (f : State → State) (hi : exec ins s = .next (if s.hasNode (.lane d j) then f s else s)) (hn : on)
      (ht : f s = t) : exec ins s = .next t :=
    hi.trans (congrArg Host.Outcome.next ((if_pos hn).trans ht))
  have written {t : State} (hd : s.hasDie d = true) (ht : s.calCtrl d w = t) : exec (.calTransfer d w) s = .next t :=
    congrArg Host.Outcome.next ((if_pos hd).trans ht)
  exact ⟨fun hn h0 hr => own (·.laneRun d j) rfl hn (State.laneRun_begins h0 hr),
    fun hn h0 hr => own (·.laneRun d j) rfl hn (State.laneRun_refused h0 hr),
    fun hn hb => own (·.laneStop d j) rfl hn (State.laneStop_admitted hb),
    fun hn hb hr hk => own (·.laneStop d j) rfl hn (State.laneStop_idle hb hr hk),
    fun hn hb hr hk => own (·.laneStop d j) rfl hn (State.laneStop_kernel hb hr hk),
    fun hn h3 => ⟨_, own (·.clearFaulted d j) rfl hn rfl, State.rd_clearFaulted_state h3, congrArg Lane.faultEnd (State.lane_clearFaulted h3)⟩,
    fun hn hi hm => ⟨exec_kernelStart hn hi hm, State.kernelBegin_kern i⟩,
    fun hn hg hk he => exec_kernelDeadline_runs hn hg hk he, fun hn hg hk hi he => exec_kernelDeadline_waits hn hg hk hi he,
    fun hb => exec_ingWptrWrite_job hb w, fun hb hj hc => exec_ingestFill_chosen hb hj hc,
    fun hj hp he => congrArg Host.Outcome.next (if_pos ⟨hj, hp, he⟩),
    fun hd hb hg => written hd (State.calCtrl_busy hg hb), fun hd hg => written hd (State.calCtrl_set hg),
    fun hd hb hg => written hd (State.calCtrl_starts hg hb), fun hm hc => if_pos ⟨hm, hc⟩,
    fun hc hr => ⟨_, exec_calTransferDone_room hc hr, rfl, State.calEnd_cal c⟩⟩

end Sys2Proof.Machine

namespace Sys2Proof.Machine

/-! ### Kernel hoods (R194, R198 to R202) -/

section
variable {s : State} {d j n : Nat}

/-! #### The LOAD check (R198) -/

/-- The LOAD walk of a lane's hood slot. -/
def State.loadWalked (s : State) (d j : Nat) : Walk :=
  loadWalk (fun p => leNat ((s.mem (.ks d j (s.hoodSlot d j))).getList (2 * p) 2)) 16384 0 [] 0

/-- The state in which LOAD shows what a hood that can be read costs, and its digest. -/
def State.khoodShown (s : State) (d j count : Nat) : State :=
  s.wrs (.lane d j) [(LANE_KHOOD_COST_PERGROUP, count), (LANE_KHOOD_DIGEST_CRC, s.slotDigest d j (s.hoodSlot d j) count)]

theorem State.rd_khoodShown {f : Field} {count : Nat} (hc : f.off ≠ LANE_KHOOD_COST_PERGROUP.off) (hd : f.off ≠ LANE_KHOOD_DIGEST_CRC.off) :
    (s.khoodShown d j count).rd (.lane d j) f = s.rd (.lane d j) f := by
  simp only [State.khoodShown, State.wrs, State.each, State.rd_wr_off _ _ hd, State.rd_wr_off _ _ hc]

section
variable (h2 : s.khood d j ≠ 2)
include h2

theorem State.khoodLoad_bad {pos detail : Nat} (hw : s.loadWalked d j = .bad pos detail)
    (hg : s.eccGood (.ks d j (s.hoodSlot d j)) 0 (2 * (pos + 1)) = true) :
    s.khoodLoad d j = (s.wr (.lane d j) LANE_KHOOD_POS_PARCEL pos).loadRefused d j 2 detail := by
  simp only [State.khoodLoad, if_neg h2, ← State.loadWalked.eq_def, hw, s.eccRead_good _ _ _ hg, Bool.false_eq_true, if_false]

theorem State.khoodLoad_ok {count : Nat} (hw : s.loadWalked d j = .ok count)
    (hk : s.eccGood (.ks d j (s.hoodSlot d j)) 0 (2 * count) = true) (ht : s.eccGood (.lsram d j) (lutBase (s.hoodSlot d j)) 256 = true)
    (hb : s.rd (.lane d j) LANE_BUDGET_CYCLES = 0 ∨ count * s.rd (.lane d j) LANE_GROUPS_N ≤ s.rd (.lane d j) LANE_BUDGET_CYCLES) :
    s.khoodLoad d j = ((s.khoodShown d j count).setKhood d j 1).khoodResult d j 1 := by
  have budget : (s.khoodShown d j count).rd (.lane d j) LANE_BUDGET_CYCLES = s.rd (.lane d j) LANE_BUDGET_CYCLES :=
    State.rd_khoodShown (by decide) (by decide)
  have groups : (s.khoodShown d j count).rd (.lane d j) LANE_GROUPS_N = s.rd (.lane d j) LANE_GROUPS_N :=
    State.rd_khoodShown (by decide) (by decide)
  have fits : ¬ (s.rd (.lane d j) LANE_BUDGET_CYCLES ≠ 0 ∧
      s.rd (.lane d j) LANE_BUDGET_CYCLES < count * s.rd (.lane d j) LANE_GROUPS_N) := by
    rintro ⟨h0, hlt⟩
    exact hb.elim h0 (not_le.mpr hlt)
  simp only [State.khoodLoad, if_neg h2, ← State.loadWalked.eq_def, hw, s.eccRead_good _ _ _ hk, s.eccRead_good _ _ _ ht,
    ← State.khoodShown.eq_def, budget, groups, if_neg fits, Bool.false_eq_true, if_false]

end

/-! #### SWITCH and ABORT (R199, R200) -/

theorem State.khoodSwitchWrite_standby (hs : s.isStandby = true) : s.khoodSwitchWrite d j = s.khoodResult d j 7 := if_pos hs

section
variable (hs : s.isStandby = false)
include hs

theorem State.khoodSwitchWrite_none (h1 : s.khood d j ≠ 1) : s.khoodSwitchWrite d j = s.khoodResult d j 4 := by
  rw [State.khoodSwitchWrite, if_neg (Bool.eq_false_iff.mp hs), if_pos h1]

section
variable (h1 : s.khood d j = 1) (ha : s.hsbState ≠ 3)
include h1 ha

/-- Outside a pair a loaded hood of a stopped lane switches at once. -/
theorem State.khoodSwitchWrite_stopped (hr : s.is (.lane d j) LANE_CTRL_RUN = false) : s.khoodSwitchWrite d j = s.khoodSwitch d j none := by
  rw [State.khoodSwitchWrite, if_neg (Bool.eq_false_iff.mp hs), if_neg (not_not.mpr h1), if_neg ha, if_pos (Bool.eq_false_iff.mp hr)]

/-- Outside a pair a loaded hood of a running lane waits for the next start. -/
theorem State.khoodSwitchWrite_running (hr : s.is (.lane d j) LANE_CTRL_RUN = true) (hat : s.is (.lane d j) LANE_KHOOD_CTRL_AT = false) :
    s.khoodSwitchWrite d j = s.armHood d j none false := by
  rw [State.khoodSwitchWrite, if_neg (Bool.eq_false_iff.mp hs), if_neg (not_not.mpr h1), if_neg ha, if_neg (not_not.mpr hr),
    if_neg (Bool.eq_false_iff.mp hat)]

end

end

theorem State.khoodAbort_armed (h2 : s.khood d j = 2) : s.khoodAbort d j = (s.disarm d j 1).khoodResult d j 0x0B := if_pos h2

theorem exec_khoodSwitchPoint {a : KArm} {t : Int} (ha : (s.lane d j).arm = some a) (hl : a.line = some n)
    (ht : s.switchS d j n = some t) (hp : t ≤ s.ps) (hg : a.paired = true → a.agreed = true) :
    exec (.khoodSwitchPoint d j) s = .next (s.khoodSwitch d j (some n)) := by
  show execKhoodSwitchPoint d j s = _
  simp only [execKhoodSwitchPoint, ha, hl, ht, if_pos (And.intro hp hg)]

/-! #### The paired switch (R202) -/

/-- What a standby does with KARM. -/
def State.karmRx (s : State) (d j n digest cost lead : Nat) : State :=
  if s.khood d j = 1 ∧ s.rd (.lane d j) LANE_KHOOD_DIGEST_CRC = digest ∧ s.rd (.lane d j) LANE_KHOOD_COST_PERGROUP = cost ∧
      s.rd (.lane d j) LANE_LEAD_NS = lead then
    (s.armHood d j (some (n % 2 ^ 32)) true).hsbSend .ack [d, j, n]
  else s.hsbSend .nak [d, j, n]

theorem exec_karmRx {h : SbHdr} (hh : s.hears h = true) (hn : (s.heard h).hasNode (.lane d j) = true) (hs : (s.heard h).isStandby = true)
    (digest cost lead : Nat) : exec (.karmRx h d j n digest cost lead) s = .next ((s.heard h).karmRx d j n digest cost lead) := by
  refine congrArg Host.Outcome.next ((s.sbRx_heard h _ hh).trans (if_neg ?_))
  rintro (h | h)
  · exact h hn
  · exact h hs

section
variable {a : KArm}

theorem State.pairArm_some (ha : (s.lane d j).arm = some a) (hp : a.paired = true) (hl : a.line = some n) : s.pairArm d j = some (a, n) := by
  simp only [State.pairArm, ha, hp, if_true, hl, Option.map_some]

section
variable (hp : s.pairArm d j = some (a, n))
include hp

theorem exec_khoodAckTimeout (ha : s.isActive = true) (hg : a.agreed = false) (ht : s.aheadBy d j n 4000000 = false) :
    exec (.khoodAckTimeout d j) s = .next ((s.pairMismatch d j).hsbSend .kcancel [d, j, n]) := by
  show execKhoodAckTimeout d j s = _
  simp only [execKhoodAckTimeout, hp, ha, hg, ht, Bool.false_eq_true, not_false_eq_true, and_self, if_true]

theorem exec_khoodStandbySplit (hs : s.isStandby = true) (hg : a.agreed = false) (ht : s.aheadBy d j n 1 = false) :
    exec (.khoodStandbySplit d j) s =
      .next ((((s.disarm d j 1).khoodResult d j 9).offer Ev.KHOOD_PAIR_SPLIT (.lane d j)).leavePair) := by
  show execKhoodStandbySplit d j s = _
  simp only [execKhoodStandbySplit, hp, hs, hg, ht, Bool.false_eq_true, not_false_eq_true, and_self, if_true]

end

section
variable {h : SbHdr} (hh : s.hears h = true) (hp : (s.heard h).pairArm d j = some (a, n))
include hh hp

section
variable (ha : (s.heard h).isActive = true) (hg : a.agreed = false)
include ha hg

theorem exec_khoodAckRx (ht : (s.heard h).aheadBy d j n 4000000 = true) :
    exec (.khoodAckRx h d j) s = .next (((s.heard h).agree d j a).hsbSend .kgo [d, j, n]) := by
  show execKhoodAckRx h d j s = _
  simp only [execKhoodAckRx, s.sbRx_heard h _ hh, hp, ha, hg, ht, Bool.false_eq_true, not_false_eq_true, and_self, if_true]

theorem exec_khoodNakRx : exec (.khoodNakRx h d j) s = .next (((s.heard h).pairMismatch d j).hsbSend .kcancel [d, j, n]) := by
  show execKhoodNakRx h d j s = _
  simp only [execKhoodNakRx, s.sbRx_heard h _ hh, hp, ha, hg, Bool.false_eq_true, not_false_eq_true, and_self, if_true]

end

section
variable (hs : (s.heard h).isStandby = true) (ht : (s.heard h).aheadBy d j n 1 = true)
include hs ht

theorem exec_kgoRx : exec (.kgoRx h d j) s = .next ((s.heard h).agree d j a) := by
  show execKgoRx h d j s = _
  simp only [execKgoRx, s.sbRx_heard h _ hh, hp, hs, ht, and_self, if_true]

theorem exec_kcancelRx : exec (.kcancelRx h d j) s = .next ((s.heard h).pairMismatch d j) := by
  show execKcancelRx h d j s = _
  simp only [execKcancelRx, s.sbRx_heard h _ hh, hp, hs, ht, and_self, if_true]

end

end

end

/-! #### Counts (R194) -/

/-- The state in which the first `n` snapshot registers show the published counts. -/
def State.countsShown (s : State) (d j n : Nat) : State :=
  (List.range n).foldl (fun t k => t.wr (.lane d j) (LANE_CNT_COUNT k) ((s.lane d j).counts.getD k 0)) s

theorem State.countsShown_succ : s.countsShown d j (n + 1) =
    (s.countsShown d j n).wr (.lane d j) (LANE_CNT_COUNT n) ((s.lane d j).counts.getD n 0) := by
  simp [State.countsShown, List.range_succ]

theorem State.countsShown_lanes : (s.countsShown d j n).lanes = s.lanes := by
  induction n with
  | zero => rfl
  | succ n ih => rw [State.countsShown_succ, State.wr_lanes, ih]

theorem State.rd_countsShown {i : Nat} (h : i < n) :
    (s.countsShown d j n).rd (.lane d j) (LANE_CNT_COUNT i) = (s.lane d j).counts.getD i 0 % 2 ^ 32 := by
  induction n with
  | zero => omega
  | succ n ih =>
    rw [State.countsShown_succ]
    by_cases e : i = n
    · rw [e, State.rd_wr_same]
    · rw [State.rd_wr_off _ _ (by simp [e]), ih (by omega)]

theorem State.laneCntLine_state : (s.laneCntLine d j).2 = (s.countsShown d j 8).wrs (.lane d j)
    [(LANE_CNT_LINE_LINE, (s.lane d j).cntLine), (LANE_CNT_STAT_BLANK, (s.lane d j).cntBlank.toNat)] := rfl

theorem State.rd_laneCntLine_line : (s.laneCntLine d j).2.rd (.lane d j) LANE_CNT_LINE_LINE = (s.lane d j).cntLine % 2 ^ 32 := by
  rw [State.laneCntLine_state]
  simp [State.wrs, State.each, State.rd_wr_off]

theorem State.rd_laneCntLine_count {i : Nat} (h : i < 8) :
    (s.laneCntLine d j).2.rd (.lane d j) (LANE_CNT_COUNT i) = (s.lane d j).counts.getD i 0 % 2 ^ 32 := by
  rw [State.laneCntLine_state, State.wrs, State.each, State.each, State.each, State.rd_wr_off _ _ (by simp only; omega),
    State.rd_wr_off _ _ (by simp only; omega), State.rd_countsShown h]

theorem State.laneCntLine_lanes : (s.laneCntLine d j).2.lanes = s.lanes := by
  rw [State.laneCntLine_state, State.wrs, State.each, State.each, State.each, State.wr_lanes, State.wr_lanes, State.countsShown_lanes]

end

/-- Settles O29: each command acts where the lane exists (`own`), each message where it is heard (`State.sbRx_heard`), as the
equation says that its clause names; an armed hood of a pair is that of `State.pairArm` (`State.pairArm_some`). -/
theorem kernelHoods : Obligations.KernelHoods := by
  unfold Obligations.KernelHoods
  intro s h d j n count pos detail digest cost lead a b stat slot mem walk budget w arm u armed active mismatch hn
  have own {i : Instr} {t : State} (f : State → State) (hi : exec i s = .next (if s.hasNode (.lane d j) then f s else s)) (ht : f s = t) :
      exec i s = .next t :=
    hi.trans (congrArg Host.Outcome.next ((if_pos hn).trans ht))
  have switches {t : State} (ht : w.khoodSwitchWrite d j = t) : exec (.khoodSwitch d j false) s = .next t :=
    own (fun s => (s.wrB (.lane d j) LANE_KHOOD_CTRL_AT false).khoodSwitchWrite d j) rfl ht
  have pairArm {t : State} : armed t → t.pairArm d j = some (a, n) := fun ⟨ha, hp, hl⟩ => State.pairArm_some ha hp hl
  refine ⟨fun h2 hw hg => own (·.khoodLoad d j) rfl (State.khoodLoad_bad h2 hw hg),
    fun h2 hw hk ht hb => own (·.khoodLoad d j) rfl (State.khoodLoad_ok h2 hw hk ht hb),
    fun hs => switches (State.khoodSwitchWrite_standby hs), fun hs h1 => switches (State.khoodSwitchWrite_none hs h1),
    fun hs h1 ha hr hat => switches (State.khoodSwitchWrite_running hs h1 ha hr hat),
    fun hs h1 ha hr => switches (State.khoodSwitchWrite_stopped hs h1 ha hr),
    fun h2 => own (·.khoodAbort d j) rfl (State.khoodAbort_armed h2),
    fun t ha hl ht hp hg => exec_khoodSwitchPoint ha hl ht hp hg,
    fun hh hu hs => ⟨fun h1 hd hc hl => ?_, fun h1 => ?_⟩,
    fun hh ⟨hr, ha, hg⟩ ht => exec_khoodAckRx hh (pairArm hr) ha hg ht,
    fun hh ⟨hr, ha, hg⟩ => exec_khoodNakRx hh (pairArm hr) ha hg,
    fun hh hr hs ht => ⟨exec_kgoRx hh (pairArm hr) hs ht, exec_kcancelRx hh (pairArm hr) hs ht⟩,
    fun ⟨hr, ha, hg⟩ ht => exec_khoodAckTimeout (pairArm hr) ha hg ht,
    fun hr hs hg ht => exec_khoodStandbySplit (pairArm hr) hs hg ht,
    _, own (fun s => (s.laneCntLine d j).2) rfl rfl, State.rd_laneCntLine_line, fun _ => State.rd_laneCntLine_count,
    State.laneCntLine_lanes⟩
  · exact (exec_karmRx hh hu hs digest cost lead).trans (congrArg Host.Outcome.next (if_pos ⟨h1, hd, hc, hl⟩))
  · exact (exec_karmRx hh hu hs digest cost lead).trans (congrArg Host.Outcome.next (if_neg fun hx => h1 hx.1))

end Sys2Proof.Machine

namespace Sys2Proof.Machine

/-! ### States of a Keati link (R230, R252, R256 to R262, R282) -/

section
variable {s : State} {d m : Nat}

/-! #### LINK_CTRL (R230, R258) -/

theorem State.linkEnable_down (h : s.linkState d m = 0) : s.linkEnable d m = (s.wr (.link d m) LINK_CTRL_EN 1).enterTrain d m :=
  if_pos h

/-- Without an admitted job no LINK check stands against a disable (R230). -/
theorem State.linkDisable_noJob (he : s.rd (.link d m) LINK_CTRL_EN ≠ 0) (hj : s.job.job = none) :
    s.linkDisable d m = (s.wr (.link d m) LINK_CTRL_EN 0).linkDown d m := by
  have enabled : ¬ ¬ s.is (.link d m) LINK_CTRL_EN = true := not_not.mpr (State.is_eq_true he)
  rw [State.linkDisable, if_neg enabled, hj]
  cases s.dieJob d <;> rfl

theorem State.linkRetrain_trains (h : s.linkState d m = 1 ∨ s.linkState d m = 2) :
    s.linkRetrain d m = (s.wr (.link d m) LINK_CTRL_RETRAIN 1).enterTrain d m :=
  if_pos h

theorem State.linkRetrain_waits (h : ¬ (s.linkState d m = 1 ∨ s.linkState d m = 2)) :
    s.linkRetrain d m = s.wr (.link d m) LINK_CTRL_RETRAIN 1 :=
  if_neg h

/-! #### Faults and codewords (R252, R257, R259) -/

theorem State.linkFault_up (h : s.linkState d m = 2) (why : Nat) : s.linkFault d m why = (s.leaveUp d m).setLinkState d m 3 why :=
  if_pos h

theorem State.linkFault_notUp (h : s.linkState d m ≠ 2) (why : Nat) : s.linkFault d m why = s :=
  if_neg h

section
variable (hn : s.hasLink d m = true)
include hn

theorem exec_linkHbTimeout_silent (ht : (s.link d m).lastRx + 1000 * s.rd (.link d m) LINK_CFG_HBTMO ≤ s.tb) :
    exec (.linkHbTimeout d m) s = .next (s.linkFault d m 1) :=
  congrArg Host.Outcome.next (if_pos ⟨hn, ht⟩)

theorem exec_creditResyncTimeout_late
    (h : s.sinceAtLeast (s.link d m).resyncAt 100000 = true ∨ s.sinceAtLeast (s.link d m).txStop 100000 = true) :
    exec (.creditResyncTimeout d m) s = .next (s.linkFault d m 5) :=
  congrArg Host.Outcome.next (if_pos ⟨hn, h⟩)

/-- A receiver that is not DOWN counts what its FEC meets; then the lost lock comes before the count of codewords (R259). -/
theorem exec_linkLockLoss_met (h0 : s.linkState d m ≠ 0) (r : FecReport) : exec (.linkLockLoss d m r) s = .next
    (if r.lock then (s.codewords d m r.corr r.unc).linkFault d m 2
     else if s.rd (.link d m) LINK_CFG_FECTHR ≤ (((s.codewords d m r.corr r.unc).link d m).fec.map Prod.snd).sum then
       (s.codewords d m r.corr r.unc).linkFault d m 3
     else s.codewords d m r.corr r.unc) :=
  congrArg Host.Outcome.next (if_neg (not_or.mpr ⟨not_not.mpr hn, h0⟩))

/-! #### Credits (R256, R257) -/

/-- In UP a header that fails its HCRC starts the credit resync, or starts it again (R257). -/
theorem exec_hcrcFailRx_up (h2 : s.linkState d m = 2) : exec (.hcrcFailRx d m) s = .next
    (((s.bump (.link d m) LINK_HCRCERR_COUNT).setLink d m { s.link d m with resyncAt := some s.tb, full := false }).creditSend d m 1 0 0) :=
  congrArg Host.Outcome.next ((if_neg (not_not.mpr hn)).trans (if_pos h2))

theorem exec_hcrcFailRx_train (h1 : s.linkState d m = 1) : exec (.hcrcFailRx d m) s = .next (s.bump (.link d m) LINK_HCRCERR_COUNT) := by
  have notUp : s.linkState d m ≠ 2 := by omega
  exact congrArg Host.Outcome.next ((if_neg (not_not.mpr hn)).trans ((if_neg notUp).trans (if_pos h1)))

/-- A CREDIT that is due carries the FULL figures while units freed show in those, and else the freed ones (R256, R257). -/
theorem exec_creditTx_due (h2 : s.linkState d m = 2) (hr : (s.link d m).resyncAt = none ∨ (s.link d m).full = true)
    (hd : (s.link d m).owe = true ∨ (s.link d m).lastCredit + 10000 ≤ s.tb) : exec (.creditTx d m) s = .next
    (if (s.link d m).full = true ∧ (s.link d m).owe = true then s.sendFull d m
     else (s.setLink d m (s.link d m).resumed).creditSend d m 0 (s.link d m).freed0 (s.link d m).freed1) :=
  congrArg Host.Outcome.next (if_pos ⟨hn, h2, hr, hd⟩)

end

/-! #### Mailbox and receive FIFO (R254, R256, R282) -/

/-- TYPE and the number of words are those of a frame that the mailbox sends (R282). -/
def State.mailFits (s : State) (d m : Nat) : Prop :=
  (s.rd (.link d m) LINK_TX_CFG_TYPE = 2 ∨ s.rd (.link d m) LINK_TX_CFG_TYPE = 3 ∨ s.rd (.link d m) LINK_TX_CFG_TYPE = 5) ∧
  4 * s.rd (.link d m) LINK_TX_LEN_WORDS ≤ 256 ∧
  lengthOk (s.rd (.link d m) LINK_TX_CFG_TYPE) (4 * s.rd (.link d m) LINK_TX_LEN_WORDS) false = true

/-- The frame that the mailbox registers describe, with its deadline fixed (R246, R287). -/
def State.mailFrame (s : State) (d m : Nat) : TxFrame :=
  { type := s.rd (.link d m) LINK_TX_CFG_TYPE, flags := s.rd (.link d m) LINK_TX_CFG_FLAGS, cls := s.rd (.link d m) LINK_TX_CFG_CLASS
    target := s.rd (.link d m) LINK_TX_CFG_TARGET
    dl := if s.is (.link d m) LINK_TX_LEN_USEDL then s.rd (.link d m) LINK_TX_DL_DEADLINE
      else (s.tmb.count + s.rd (.arb d) ARB_BG_SLACK_NS) % 2 ^ 32
    words := s.mailWords d m }

/-- The three ways, in the order of the check, in which a frame does not fit. -/
theorem State.not_mailFits : ¬ s.mailFits d m ↔
    ¬ (s.rd (.link d m) LINK_TX_CFG_TYPE = 2 ∨ s.rd (.link d m) LINK_TX_CFG_TYPE = 3 ∨ s.rd (.link d m) LINK_TX_CFG_TYPE = 5) ∨
    256 < 4 * s.rd (.link d m) LINK_TX_LEN_WORDS ∨
    ¬ lengthOk (s.rd (.link d m) LINK_TX_CFG_TYPE) (4 * s.rd (.link d m) LINK_TX_LEN_WORDS) false = true := by
  rw [State.mailFits, not_and_or, not_and_or, not_le]

section
variable (hg : s.rd (.link d m) LINK_TX_GO_GO = 0)
include hg

theorem State.mailGo_queues (h2 : s.linkState d m = 2) (hf : s.mailFits d m) : s.mailGo d m =
    (s.setLink d m { s.link d m with mailbox := some (s.mailFrame d m) }).wr (.link d m) LINK_TX_GO_GO 1 :=
  (if_neg (Bool.eq_false_iff.mp (State.is_eq_false hg))).trans
    (if_neg (not_or.mpr ⟨not_not.mpr h2, mt State.not_mailFits.mpr (not_not.mpr hf)⟩))

theorem State.mailGo_refuses (h : s.linkState d m ≠ 2 ∨ ¬ s.mailFits d m) : s.mailGo d m = s.mailboxEnd d m 3 :=
  (if_neg (Bool.eq_false_iff.mp (State.is_eq_false hg))).trans (if_pos (h.imp_right State.not_mailFits.mp))

end

/-- The head frame leaves the receive FIFO (R254). -/
theorem State.rxPop_cons {f : RxFrame} {fs : List RxFrame} (h : (s.link d m).rx = f :: fs) :
    s.rxPop d m = s.setLink d m { (s.link d m).free 1 (creditCost (f.hdr.headD 0 % 2 ^ 16)) with rx := fs } := by
  simp only [State.rxPop, h]

end

/-- Settles O55: a command of a link that exists acts as the equation says that its clause names; a fault of a link in UP is
`State.linkFault_up`, and what the FEC meets is counted before it is judged (`exec_linkLockLoss_met`). -/
theorem linkStates : Obligations.LinkStates := by
  unfold Obligations.LinkStates
  intro s t d m taps corr unc why ready f fs b on l st fault locked counted resync late coded enough ok req told type len dl frame
    fits hn
  have own {i : Instr} {t : State} (f : State → State) (hi : exec i s = .next (if s.hasLink d m then f s else s)) (ht : f s = t) :
      exec i s = .next t :=
    hi.trans (congrArg Host.Outcome.next ((if_pos hn).trans ht))
  have faults {i : Instr} {why : Nat} (h2 : st = 2) (hi : exec i s = .next (s.linkFault d m why)) : exec i s = .next (fault s why) :=
    hi.trans (congrArg Host.Outcome.next (State.linkFault_up h2 why))
  refine ⟨fun h0 => own (·.linkEnable d m) rfl (State.linkEnable_down h0), fun hl => if_pos hl, fun hl => if_neg hl,
    fun he hj => own (·.linkDisable d m) rfl (State.linkDisable_noJob he hj),
    fun hs => own (·.linkRetrain d m) rfl (State.linkRetrain_trains hs),
    fun hs => own (·.linkRetrain d m) rfl (State.linkRetrain_waits hs),
    fun h2 ht => faults h2 (exec_linkHbTimeout_silent hn ht),
    fun h0 => (exec_linkLockLoss_met hn h0 _).trans (congrArg Host.Outcome.next (if_pos rfl)),
    fun h0 he => ?_, fun h0 he => ?_, fun h2 => State.linkFault_up h2 why, fun h2 => State.linkFault_notUp h2 why,
    fun h2 hl => faults h2 (exec_creditResyncTimeout_late hn hl),
    fun h3 he ht => congrArg Host.Outcome.next (if_pos ⟨hn, h3, State.is_eq_true he, ht⟩),
    fun h1 ht => congrArg Host.Outcome.next (if_pos ⟨hn, h1, ht⟩), fun h2 => exec_hcrcFailRx_up hn h2,
    fun h1 => exec_hcrcFailRx_train hn h1, fun h2 ht => congrArg Host.Outcome.next (if_pos ⟨hn, h2, ht⟩),
    fun h2 hf ho => ?_, fun h2 hr hd hx => ?_, fun h1 => congrArg Host.Outcome.next (if_pos ⟨hn, h1⟩),
    fun hg h2 hf => own (·.mailGo d m) rfl (State.mailGo_queues hg h2 hf),
    fun hg hx => own (·.mailGo d m) rfl (State.mailGo_refuses hg hx), fun hr => own (·.rxPop d m) rfl (State.rxPop_cons hr)⟩
  · exact (exec_linkLockLoss_met hn h0 _).trans (congrArg Host.Outcome.next ((if_neg Bool.false_ne_true).trans (if_pos he)))
  · exact (exec_linkLockLoss_met hn h0 _).trans (congrArg Host.Outcome.next ((if_neg Bool.false_ne_true).trans (if_neg he)))
  · exact (exec_creditTx_due hn h2 (.inr hf) (.inl ho)).trans (congrArg Host.Outcome.next (if_pos ⟨hf, ho⟩))
  · exact (exec_creditTx_due hn h2 hr hd).trans (congrArg Host.Outcome.next (if_neg hx))

end Sys2Proof.Machine

namespace Sys2Proof.Machine

/-! ### Frames that a link receives, and arbiters (R252 to R257, R260, R265, R266, R276, R279, R288, R296) -/

/-! #### The checks of a frame (R252, R258) -/

/-- A link in a state takes in the frames of a type: all in UP, and TRAIN frames in TRAIN (R258). -/
def State.hearsType (s : State) (d m ty : Nat) : Prop := s.linkState d m = 2 ∨ (s.linkState d m = 1 ∧ ty = 9)

/-- A frame that passes the checks of R252 on its type, CRC and length. -/
def KFrame.sound (f : KFrame) : Prop :=
  f.len = f.payload.length ∧ f.crcOk = true ∧ lengthOk f.type f.len (f.flags.testBit 0) = true

/-- Only the types that R247 fixes have a row in R248. -/
theorem type_of_lengthOk {ty len : Nat} {blank : Bool} (h : lengthOk ty len blank = true) : ¬ (ty = 0 ∨ 9 < ty) := by
  rintro (rfl | hty)
  · exact Bool.false_ne_true h
  · obtain ⟨k, rfl⟩ := Nat.exists_eq_add_of_le' hty
    exact Bool.false_ne_true h

section
variable {s : State} {d m : Nat} {f : KFrame}

section
variable (heard : s.hearsType d m f.type)
include heard

theorem State.frameRx_reserved (h : f.type = 0 ∨ 9 < f.type) :
    s.frameRx d m f = ((s.headerRx d m).bump (.link d m) LINK_RXBAD_COUNT).freeAtOnce d m f.type f.len :=
  (if_neg (not_not.mpr heard)).trans (if_pos (or_assoc.mp (.inl h)))

/-- A frame of a known type and of the length that its header gives comes to the check of its CRC. -/
theorem State.frameRx_badCrc (ht : ¬ (f.type = 0 ∨ 9 < f.type)) (hl : f.len = f.payload.length) (hc : f.crcOk = false) :
    s.frameRx d m f = ((s.headerRx d m).bump (.link d m) LINK_CRCERR_COUNT).freeAtOnce d m f.type f.len := by
  have known : ¬ (f.type = 0 ∨ 9 < f.type ∨ f.len ≠ f.payload.length) := fun h => (or_assoc.mpr h).elim ht (absurd hl)
  exact (if_neg (not_not.mpr heard)).trans ((if_neg known).trans (if_pos (Bool.eq_false_iff.mp hc)))

variable (hs : f.sound)
include hs

/-- A sound frame comes to the check of its pool. -/
theorem State.frameRx_sound : s.frameRx d m f =
    match poolOf f.type with
    | some p =>
      if ((s.headerRx d m).link d m).overrun p (creditCost f.len) then ((s.headerRx d m).bump (.link d m) LINK_RXBAD_COUNT).linkFault d m 4
      else ((s.headerRx d m).claimRx d m f.claim).frameAct d m f
    | none => ((s.headerRx d m).claimRx d m f.claim).frameAct d m f := by
  obtain ⟨hl, hc, hr⟩ := hs
  have known : ¬ (f.type = 0 ∨ 9 < f.type ∨ f.len ≠ f.payload.length) :=
    fun h => (or_assoc.mpr h).elim (type_of_lengthOk hr) (absurd hl)
  exact (if_neg (not_not.mpr heard)).trans
    ((if_neg known).trans ((if_neg (not_not.mpr hc)).trans (if_neg (not_not.mpr hr))))

theorem State.frameRx_overrun {p : Nat} (hp : poolOf f.type = some p)
    (ho : ((s.headerRx d m).link d m).overrun p (creditCost f.len) = true) :
    s.frameRx d m f = ((s.headerRx d m).bump (.link d m) LINK_RXBAD_COUNT).linkFault d m 4 := by
  rw [State.frameRx_sound heard hs, hp]
  exact if_pos ho

/-- A sound frame whose pool, if it has one, has the units is acted on, once its CLAIM is noted (R253). -/
theorem State.frameRx_acts
    (ho : ∀ p, poolOf f.type = some p → ((s.headerRx d m).link d m).overrun p (creditCost f.len) = false) :
    s.frameRx d m f = ((s.headerRx d m).claimRx d m f.claim).frameAct d m f := by
  rw [State.frameRx_sound heard hs]
  cases hp : poolOf f.type with
  | none => rfl
  | some p => exact if_neg (Bool.eq_false_iff.mp (ho p hp))

end

/-! #### Actions by type (R253, R257, R260) -/

/-- BATT, CWRITE and CREAD frames are refused. -/
theorem State.frameAct_refused (h1 : 1 ≤ f.type) (h3 : f.type ≤ 3) :
    s.frameAct d m f = (s.bump (.link d m) LINK_RXBAD_COUNT).freeAtOnce d m f.type f.len := by
  obtain h | h | h : f.type = 1 ∨ f.type = 2 ∨ f.type = 3 := by omega
  all_goals
    rw [State.frameAct, h]
    rfl

theorem State.creditRx_full (h2 : f.flags.testBit 2 = true) : s.creditRx d m f = s.setLink d m
    { s.link d m with base0 := f.figures.1, base1 := f.figures.2, sent0 := 0, sent1 := 0, got0 := 0, got1 := 0, txStop := none } :=
  if_pos h2

theorem State.creditRx_mark (h2 : f.flags.testBit 2 = false) (h1 : f.flags.testBit 1 = true)
    (hr : (s.link d m).resyncAt.isSome = true) :
    s.creditRx d m f = (s.setLink d m { s.link d m with full := true, freed0 := 0, freed1 := 0 }).sendFull d m :=
  (if_neg (Bool.eq_false_iff.mp h2)).trans ((if_pos h1).trans (if_pos hr))

theorem State.creditRx_resync (h2 : f.flags.testBit 2 = false) (h1 : f.flags.testBit 1 = false) (h0 : f.flags.testBit 0 = true) :
    s.creditRx d m f = (s.setLink d m { s.link d m with txStop := some s.tb }).creditSend d m 2 0 0 :=
  (if_neg (Bool.eq_false_iff.mp h2)).trans ((if_neg (Bool.eq_false_iff.mp h1)).trans (if_pos h0))

/-- Without a flag the figures are those of a normal CREDIT. -/
theorem State.creditRx_normal (h : f.flags = 0) :
    s.creditRx d m f = s.setLink d m { s.link d m with got0 := f.figures.1, got1 := f.figures.2 } := by
  simp only [State.creditRx, h, Nat.zero_testBit, Bool.false_eq_true, if_false]

theorem State.frameAct_train (ht : f.type = 9) (h : s.linkState d m ≠ 2) : s.frameAct d m f = s.trainRx d m f := by
  rw [State.frameAct, ht]
  exact if_neg h

theorem State.frameAct_retrain (ht : f.type = 9) (h : s.linkState d m = 2) :
    s.frameAct d m f = (s.enterTrain d m).trainRx d m f := by
  rw [State.frameAct, ht]
  exact if_pos h

/-! #### Loopback (R282; log entry 173) -/

section
variable (hn : s.hasLink d m = true)
include hn

theorem State.linkRx_plain (h : s.rd (.link d m) LINK_CTRL_LOOP = 0) : s.linkRx d m f = s.frameRx d m f := by
  have plain : s.fromLoop d m f = some s := if_neg (Bool.eq_false_iff.mp (State.is_eq_false h))
  simp only [State.linkRx, plain, hn, if_true]

theorem State.linkRx_looped (h : s.rd (.link d m) LINK_CTRL_LOOP ≠ 0) {fs : List KFrame} (hf : (s.link d m).loop = f :: fs) :
    s.linkRx d m f = (s.setLink d m { s.link d m with loop := fs }).frameRx d m f := by
  have first : s.fromLoop d m f = some (s.setLink d m { s.link d m with loop := fs }) := by
    simp only [State.fromLoop, State.is_eq_true h, hf, if_true]
  simp only [State.linkRx, first, hn, if_true]

end

theorem State.linkRx_foreign (h : s.rd (.link d m) LINK_CTRL_LOOP ≠ 0) (hf : (s.link d m).loop.head? ≠ some f) :
    s.linkRx d m f = s := by
  have kept : s.fromLoop d m f = none := by
    rw [State.fromLoop, if_pos (State.is_eq_true h)]
    cases hl : (s.link d m).loop with
    | nil => rfl
    | cons e es => exact if_neg fun he => hf (by rw [hl, he, List.head?_cons])
  rw [State.linkRx, kept]

/-! #### The transmitter (R265, R266, R280) -/

/-- Late routes have taken the blank frame (R266). -/
def State.lateBlanked (s : State) (d m : Nat) : State := s.each (s.link d m).routes fun t x => t.routeBlank d m x

/-- Then the output buffers of the routes' heads have been checked (R184). -/
def State.routesReady (s : State) (d m : Nat) : State :=
  (s.lateBlanked d m).each (routeHeads ((s.lateBlanked d m).link d m).routes) fun t x => t.battCheck d m x

theorem State.txReady_noReflex (h : ((s.routesReady d m).link d m).reflex = []) : s.txReady d m = s.routesReady d m := by
  rw [State.routesReady, State.lateBlanked] at h ⊢
  simp only [State.txReady, h]

/-- What a free transmitter does with its decision: it starts the frame chosen, or none. -/
def State.startChosen (d m : Nat) : Option TxReq × State → State
  | (some r, t) => (t.txStart d m r).linkHold d m
  | (none, t) => t

theorem exec_linkTxSelect_free (hn : s.hasLink d m = true) (h2 : s.linkState d m = 2) (hw : (s.link d m).wire ≤ 1000 * s.tb) :
    exec (.linkTxSelect d m) s = .next (State.startChosen d m ((s.txReady d m).linkDecide d m)) := by
  have ready : ¬ (¬ s.hasLink d m = true ∨ s.linkState d m ≠ 2 ∨ 1000 * s.tb < (s.link d m).wire) := by simp [hn, h2, hw]
  refine congrArg Host.Outcome.next ((if_neg ready).trans ?_)
  generalize (s.txReady d m).linkDecide d m = choice
  obtain ⟨r, t⟩ := choice
  cases r with
  | none => rfl
  | some r => rfl

theorem State.startChosen_some {choice : Option TxReq × State} {r : TxReq} (h : choice.1 = some r) :
    State.startChosen d m choice = (choice.2.txStart d m r).linkHold d m := by
  rw [show choice = (some r, choice.2) from Prod.ext h rfl, State.startChosen]

theorem State.startChosen_none {choice : Option TxReq × State} (h : choice.1 = none) : State.startChosen d m choice = choice.2 := by
  rw [show choice = (none, choice.2) from Prod.ext h rfl, State.startChosen]

/-! #### The reflex engine (R276) -/

theorem exec_reflexPass_oldest (hd : s.hasDie d = true) (he : s.rd (.rfx d) RFX_CTRL_EN ≠ 0) {g : Trigger} {gs : List Trigger}
    (hg : Tab.get s.rfx d [] = g :: gs) :
    exec (.reflexPass d) s = .next ({ s with rfx := Tab.set (fun k => k) s.rfx d [] gs }.reflexPass d g) := by
  show execReflexPass d s = _
  simp only [execReflexPass, hg, hd, State.is_eq_true he, and_self, if_true]

end

/-! #### Decisions of an arbiter (R288 to R294) -/

/-- What an arbiter's inputs present, each with its number. -/
def State.presentedInputs (s : State) (c : Option Nat) (a : Nat) : List (Nat × ArbReq) :=
  (List.range (arbInputs c a)).filterMap fun i => (presentReq i (s.behind c a)).map fun r => (i, r)

/-- The input that the ranks choose, and whether one was forced. -/
def State.inputPick (s : State) (c : Option Nat) (a : Nat) : Option (Nat × ArbReq) × Bool :=
  s.arbPick (s.rd (arbBlk c) (ARB_LIMIT_LIMIT (arbIdx c a))) (s.rd (arbBlk c) (ARB_STAT_PTR (arbIdx c a))) (arbInputs c a)
    (s.presentedInputs c a)

/-- The request of an input that is granted with it. -/
def State.grantPick (s : State) (c : Option Nat) (a p : Nat) : Option ArbReq × State :=
  s.memberPick c a p ((s.behind c a).filter fun y => decide (y.input = p))

section
variable {s : State} {c : Option Nat} {a : Nat}

theorem State.arbDecide_none (h : (s.inputPick c a).1 = none) : s.arbDecide c a = s := by
  have pick : s.inputPick c a = (none, (s.inputPick c a).2) := Prod.ext h rfl
  rw [State.inputPick, State.presentedInputs] at pick
  rw [State.arbDecide, pick]

theorem State.arbDecide_grants {p : Nat} {q x : ArbReq} (hp : (s.inputPick c a).1 = some (p, q)) (hx : (s.grantPick c a p).1 = some x)
    {g : State}
    (hg : ((s.grantPick c a p).2.arbCount (arbBlk c) (arbIdx c a) (arbInputs c a) p (s.inputPick c a).2 x.dl).arbWaits c a x = g) :
    s.arbDecide c a = (g.setArbiter c a { g.arbiter c a with grant := some (s.tb, x) }).passOn c a x := by
  have pick : s.inputPick c a = (some (p, q), (s.inputPick c a).2) := Prod.ext hp rfl
  have member : s.grantPick c a p = (some x, (s.grantPick c a p).2) := Prod.ext hx rfl
  generalize (s.inputPick c a).2 = forced at pick hg
  generalize (s.grantPick c a p).2 = t at member hg
  rw [State.inputPick, State.presentedInputs] at pick
  rw [State.grantPick] at member
  rw [State.arbDecide, pick]
  dsimp only
  rw [member]
  dsimp only
  rw [hg]

end

/-- Settles O56: a frame of a link out of loopback comes to the checks of R252 (`received`), each of which is a lemma on
`State.frameRx`, and a sound one with room is acted on by its type (`acted`); an arbiter's decision is `State.arbDecide_none`
or `State.arbDecide_grants`. -/
theorem linkFramesAndArbiters : Obligations.LinkFramesAndArbiters := by
  unfold Obligations.LinkFramesAndArbiters
  intro s d m p w a f e es r g gs c arrivals last q x on plain looped up h v good room n k1 k2 choice free b i inputs wait t reqs ins
    pick member granted
  have received {k : Instr} {f : KFrame} {t : State} (hk : exec k s = .next (s.linkRx d m f)) (hp : plain) (ht : s.frameRx d m f = t) :
      exec k s = .next t :=
    hk.trans (congrArg Host.Outcome.next ((State.linkRx_plain hp.1 hp.2).trans ht))
  have acted {k : Instr} {f : KFrame} {t : State} (hk : exec k s = .next (s.linkRx d m f)) (hp : plain)
      (heard : s.hearsType d m f.type) (hs : f.sound)
      (ho : ∀ p, poolOf f.type = some p → (h.link d m).overrun p (creditCost f.len) = false)
      (ht : (h.claimRx d m f.claim).frameAct d m f = t) : exec k s = .next t :=
    received hk hp ((State.frameRx_acts heard hs ho).trans ht)
  have pool1 (hr : room) : ∀ p, some 1 = some p → (h.link d m).overrun p (creditCost f.len) = false :=
    fun _ e => Option.some.inj e ▸ hr
  have noPool {n : Nat} : ∀ p, none = some p → (h.link d m).overrun p n = false := fun _ e => nomatch e
  obtain ⟨full, ⟨markNotFull, mark⟩, notFull, notMark, resync⟩ :
      Nat.testBit 4 2 = true ∧ (Nat.testBit 2 2 = false ∧ Nat.testBit 2 1 = true) ∧
        Nat.testBit 1 2 = false ∧ Nat.testBit 1 1 = false ∧ Nat.testBit 1 0 = true := by decide
  have unaccepted (ht : f.type ≤ 3 ∨ 9 < f.type) : exec (.battRx d m f) s = .next (s.linkRx d m f) :=
    congrArg Host.Outcome.next (if_pos ht)
  have idleFrame (h7 : f.type ≠ 7) : exec (.idleRx d m f) s = .next (s.linkRx d m { f with type := 8 }) := by
    show execIdleRx d m f s = _
    rw [execIdleRx, if_neg h7]
  have transmits (hf : free) : exec (.linkTxSelect d m) s = .next (State.startChosen d m choice) :=
    exec_linkTxSelect_free hf.1.1.1 hf.1.2 hf.2
  have decides {t : State} (ha : s.hasArb c a = true)
      (ht : (if s.arbBusy c a last = true then wait s else (wait (s.endTransfer c a)).arbDecide c a) = t) :
      exec (.arbDecision c a arrivals last) s = .next t :=
    congrArg Host.Outcome.next ((if_pos ha).trans ht)
  refine ⟨fun hu ht => received (unaccepted (ht.imp_left fun h0 => by omega)) hu.1 (State.frameRx_reserved (.inl hu.2) ht),
    fun hu h1 h3 hs ho => acted (unaccepted (.inl h3)) hu.1 (.inl hu.2) hs
      (fun _ hp => by simpa only [hp, Option.getD_some] using ho) (State.frameAct_refused h1 h3),
    fun hu hl hc => received rfl hu.1 (State.frameRx_badCrc (.inl hu.2) (fun h4 => by simp at h4) hl hc),
    fun hu hs hr => acted rfl hu.1 (.inl hu.2) hs (pool1 hr) rfl,
    fun hu hs hr => received rfl hu.1 (State.frameRx_overrun (.inl hu.2) hs rfl (Bool.eq_true_of_not_eq_false hr)),
    fun hu hs hr => acted rfl hu.1 (.inl hu.2) hs (pool1 hr) rfl,
    fun hu hs => acted rfl hu.1 (.inl hu.2) hs noPool (State.creditRx_normal rfl),
    fun hu hs => acted rfl hu.1 (.inl hu.2) hs noPool (State.creditRx_resync notFull notMark resync),
    fun hu hs hr => acted rfl hu.1 (.inl hu.2) hs noPool (State.creditRx_mark markNotFull mark hr),
    fun hu hs => acted rfl hu.1 (.inl hu.2) hs noPool (State.creditRx_full full),
    fun hu h7 hs => acted (idleFrame h7) hu.1 (.inl hu.2) hs noPool rfl,
    fun hp h1 hs hv => acted rfl hp (.inr ⟨h1, rfl⟩) hs noPool
      (State.frameAct_train rfl fun h2 => absurd (hv.symm.trans h2) (by decide)),
    fun hu hs hv => acted rfl hu.1 (.inl hu.2) hs noPool (State.frameAct_retrain rfl hv),
    fun hp hl he => congrArg Host.Outcome.next (he ▸ State.linkRx_looped hp.1 hp.2 (he ▸ hl)),
    fun hp hl => congrArg Host.Outcome.next (State.linkRx_foreign hp.2 hl),
    fun hn => congrArg Host.Outcome.next (if_pos hn), State.txReady_noReflex,
    fun hf hc => (transmits hf).trans (congrArg Host.Outcome.next (State.startChosen_some hc)),
    fun hf hc => (transmits hf).trans (congrArg Host.Outcome.next (State.startChosen_none hc)),
    fun hd he hg => exec_reflexPass_oldest hd he hg,
    fun hd => ⟨congrArg Host.Outcome.next (if_pos hd), congrArg Host.Outcome.next (if_pos hd)⟩,
    fun ha hb => decides ha (if_neg (Bool.eq_false_iff.mp hb)), fun ha hb => decides ha (if_pos hb),
    State.arbDecide_none, fun hp hx => State.arbDecide_grants hp hx rfl⟩

end Sys2Proof.Machine

namespace Sys2Proof.Machine

/-! ### Pair states (R307, R311 to R316, R328, R329, R335) -/

section
variable {s : State}

/-! #### Commands on their conditions, and messages that are heard (R310) -/

theorem next_if_pos {p : Prop} [Decidable p] {t u : State} (h : p) :
    (Host.Outcome.next (if p then t else u) : Host.Outcome State Fault Refusal) = .next t := by rw [if_pos h]

theorem next_if_neg {p : Prop} [Decidable p] {t u : State} (h : ¬ p) :
    (Host.Outcome.next (if p then t else u) : Host.Outcome State Fault Refusal) = .next u := by rw [if_neg h]

theorem next_sbRx {h : SbHdr} (hh : s.hears h = true) (act : State → State) :
    (Host.Outcome.next (s.sbRx h act) : Host.Outcome State Fault Refusal) = .next (act (s.heard h)) := by rw [s.sbRx_heard h act hh]

/-! #### Claims (R307) -/

theorem State.nextClaim_parity : s.nextClaim % 2 = s.ownParity := by
  have : s.ownParity < 2 := Bool.toNat_lt _
  simp only [State.nextClaim]
  split <;> omega

theorem State.lt_nextClaim : max (s.rd .hsb HSB_HC_CLAIM) (s.rd .hsb HSB_CLAIM_CLAIM) < s.nextClaim := by
  simp only [State.nextClaim]
  split <;> omega

theorem State.nextClaim_le : s.nextClaim ≤ max (s.rd .hsb HSB_HC_CLAIM) (s.rd .hsb HSB_CLAIM_CLAIM) + 2 := by
  simp only [State.nextClaim]
  split <;> omega

theorem State.takeClaim_some (hc : s.nextClaim < 2 ^ 32) : s.takeClaim =
    some ((((s.wr .hsb HSB_CLAIM_CLAIM s.nextClaim).wr .hsb HSB_HC_CLAIM s.nextClaim).dirty 28).orBits .nvs NVS_PEND_PEND (2 ^ 28)) :=
  if_pos hc

theorem State.takeClaim_exhausted (hc : 2 ^ 32 ≤ s.nextClaim) : s.takeClaim = none := if_neg (not_lt.mpr hc)

theorem State.becomeActive_claimed {t : State} (ht : s.takeClaim = some t) (st : Nat) : s.becomeActive st = t.setHsbState st := by
  rw [State.becomeActive, ht]

theorem State.becomeActive_exhausted (ht : s.takeClaim = none) (st : Nat) : s.becomeActive st = s.offer Ev.CLAIM_EXHAUSTED .crown := by
  rw [State.becomeActive, ht]

/-! #### Handover (R335) -/

section
variable (h3 : s.hsbState = hsbACTIVE) (hn : s.hsb.handover = none)
include h3 hn

/-- An active unit without a handover asks its peer, if that is ready. -/
theorem State.handover_idle : s.handover = if ¬ s.is .hsb HSB_STAT_PEER_READY then s.handoverFail else
    { s.wr .hsb HSB_CTRL_HANDOVER 1 with hsb := { s.hsb with handover := some (s.handoverLine, false) } }.hsbSend .handover [s.handoverLine] :=
  if_neg (by simp [h3, hn])

theorem State.handover_unready (hp : s.rd .hsb HSB_STAT_PEER_READY = 0) : s.handover = s.handoverFail :=
  (State.handover_idle h3 hn).trans (if_pos (Bool.eq_false_iff.mp (State.is_eq_false hp)))

theorem State.handover_asks (hp : s.rd .hsb HSB_STAT_PEER_READY ≠ 0) : s.handover =
    { s.wr .hsb HSB_CTRL_HANDOVER 1 with hsb := { s.hsb with handover := some (s.handoverLine, false) } }.hsbSend .handover [s.handoverLine] :=
  (State.handover_idle h3 hn).trans (if_neg (not_not.mpr (State.is_eq_true hp)))

end

theorem exec_handackTimeout_late {n : Nat} (h3 : s.hsbState = hsbACTIVE) (hh : s.hsb.handover = some (n, false))
    (ho : s.handoverOpen n = false) : exec .handackTimeout s = .next s.handoverFail := by
  show execHandackTimeout s = _
  simp only [execHandackTimeout, hh]
  exact next_if_pos ⟨h3, Bool.eq_false_iff.mp ho⟩

section
variable {n i : Nat} (hh : s.hsb.handover = some (n, true)) (hi : s.placeOf (n + 2 ^ 32 - 1) = some i)
  (ht : ((s.lineAt i).f : Int) + 500000 ≤ s.ps)
include hh hi ht

theorem State.handoverSwitch_standby (h5 : s.hsbState = hsbSTANDBY) : s.handoverSwitch = s.takeover 3 := by
  simp only [State.handoverSwitch, hh, hi, if_pos ht, if_pos h5]

theorem State.handoverSwitch_active (h3 : s.hsbState = hsbACTIVE) : s.handoverSwitch =
    ({ s.wr .hsb HSB_CTRL_HANDOVER 0 with
      hsb := { s.hsb with handover := none, fullMirror := true, mirrorSeq := s.rd .pkgNode IMG_SEQ_SEQ, mirrors := [] } }.setHsbState
        hsbSTANDBY).readyUpdate := by
  have h5 : s.hsbState ≠ hsbSTANDBY := by simp [h3]
  simp only [State.handoverSwitch, hh, hi, if_pos ht, if_neg h5, if_pos h3]

end

end

/-- Settles O50: the next claim is `State.nextClaim_parity` with its bounds; each event acts on its conditions (`next_if_pos`),
each message where it is heard (`next_sbRx`), and what a handover does is one equation for each of its steps. -/
theorem pairStates : Obligations.PairStates := by
  unfold Obligations.PairStates
  intro s h p n i rev period maps lanes heard u off c seek wait taken waited path dead beat silent e asked due mirrored follower
  have above : max (s.rd .hsb HSB_HC_CLAIM) (s.rd .hsb HSB_CLAIM_CLAIM) < c := State.lt_nextClaim
  have expires (hw : waited) : exec .seekwaitExpiry s = .next (s.becomeActive hsbSOLO) := by
    obtain ⟨h1, hr, ht⟩ := hw
    exact next_if_pos ⟨h1, Bool.eq_false_iff.mp hr, ht⟩
  have joins (hh : heard) (h4 : u.hsbState = hsbJOINING) : exec (.joinRx h rev period maps lanes) s = .next (if e = 0 then u.joinRecords
      else ((u.wrs .hsb [(HSB_JOINERR_DETAIL, e), (HSB_CTRL_EN, 0)]).offer Ev.HSB_MISMATCH .crown [e]).leaveStandby hsbOFF) :=
    (next_sbRx hh _).trans (next_if_pos h4)
  refine ⟨⟨State.nextClaim_parity, (le_max_left _ _).trans_lt above, (le_max_right _ _).trans_lt above, State.nextClaim_le⟩,
    fun hs h0 => next_if_pos ⟨hs, h0⟩, fun h0 => next_if_pos h0, fun h0 => next_if_neg h0,
    fun hw hc => (expires hw).trans (congrArg Host.Outcome.next (State.becomeActive_claimed (State.takeClaim_some hc) _)),
    fun hw hc => (expires hw).trans (congrArg Host.Outcome.next (State.becomeActive_exhausted (State.takeClaim_exhausted hc) _)),
    fun h0 hp ht => next_if_pos ⟨h0, hp, ht⟩, fun hh h5 => (next_sbRx hh _).trans (next_if_pos h5),
    fun hh ha => (next_sbRx hh _).trans (next_if_pos ha), fun hh h4 he => (joins hh h4).trans (next_if_pos he),
    fun hh h4 he => (joins hh h4).trans (next_if_neg he),
    fun ⟨hp, hs, hu, hf, hq⟩ => next_if_pos ⟨hp, hs, hu, Bool.eq_false_iff.mp hf, hq⟩, fun hq => next_if_pos hq,
    fun h3 hn hp => congrArg Host.Outcome.next (State.handover_unready h3 hn hp),
    fun h3 hn hp => congrArg Host.Outcome.next (State.handover_asks h3 hn hp),
    fun hh h5 => (next_sbRx hh _).trans (next_if_pos h5),
    fun hh h3 hn ho => (next_sbRx hh _).trans (next_if_pos ⟨h3, hn, ho⟩), exec_handackTimeout_late,
    fun ⟨hn, hi, ht⟩ h5 => congrArg Host.Outcome.next (State.handoverSwitch_standby hn hi ht h5),
    fun ⟨hn, hi, ht⟩ h3 => congrArg Host.Outcome.next (State.handoverSwitch_active hn hi ht h3)⟩

end Sys2Proof.Machine

namespace Sys2Proof.Machine

/-! ### Shadowing (R306, R317 to R322, R324, R327, R330, R336, R407) -/

section
variable {s : State}

/-! #### Equalisation (R327) -/

/-- EQ(N) or EQSKIP(N) of a core that the standby has. -/
theorem State.eqRx_core {a b n : Nat} {vals : Option (List (Nat × List Nat))} (hs : s.isStandby = true)
    (hn : s.hasNode (.core a (b % 4)) = true) : s.eqRx (4 * a + b % 4) n vals =
    if (s.core a (b % 4)).eqHold = some n then s.eqApply a (b % 4) vals
    else { s with hsb := { s.hsb with
      eqGot := (4 * a + b % 4, n, vals) :: s.hsb.eqGot.filter fun e => decide (e.1 ≠ 4 * a + b % 4) } } := by
  have die : (4 * a + b % 4) / 4 = a := by omega
  have num : (4 * a + b % 4) % 4 = b % 4 := by omega
  simp only [State.eqRx, die, num, hs, hn, not_true_eq_false, or_self, if_false]

/-! #### The job pair and the pages (R320 to R322) -/

theorem exec_jobMsgTx_noJob (h0 : s.hsbState ≠ hsbOFF) (hp : s.portsUp = true) (hj : s.job.job = none) (hk : s.hsb.jobSent ≠ s.jobKey) :
    exec .jobMsgTx s = .next { (s.hsbSend .job s.jobKey).jobPairUpdate with
      hsb := { (s.hsbSend .job s.jobKey).jobPairUpdate.hsb with jobSent := s.jobKey, jobSentAt := s.tb } } := by
  show execJobMsgTx s = _
  simp only [execJobMsgTx, hj]
  exact next_if_pos ⟨h0, hp, .inl hk⟩

theorem exec_pageHash_quiet {p : Nat} {m : MemId} {o : Nat} (h0 : s.hsbState ≠ hsbOFF) (hx : (s.page p).own = none)
    (hw : (s.page p).writtenAt ≠ 0) (ht : (s.page p).writtenAt + 99999 ≤ s.tb) (hl : s.dLoc .engine (65536 * p) = .ok (m, o)) :
    exec (.pageHash p) s = .next (((s.scanBytes m o 65536).2.setPage p
      ({ s.page p with own := some (crc32c (s.scanBytes m o 65536).1) }).judge).readyUpdate.hsbSend .hash
        (twoWords (65536 * p) ++ [crc32c (s.scanBytes m o 65536).1])) := by
  show execPageHash p s = _
  simp only [execPageHash, hl]
  exact next_if_pos ⟨h0, hx, hw, ht⟩

/-! #### The claim exchange line and the keep frames (R336, R407) -/

/-- A frame is lost, and is sent again after 8 recessive bits (R336; log entry 184). -/
def State.clxAgain (s : State) : State := { s.freeBit.2 with field := { s.field with clxNext := s.now + 800 } }

/-- A frame ends on the line, and the drive rule follows (R336, R337). -/
def State.clxSent (s : State) : State :=
  { s.freeBit.2.emit (.clx (clxFrame s.field.keepClaim s.field.keepRole)) with
    field := { s.field with clxNext := s.now + 15200, clxClaim := s.field.keepClaim } }.clxUpdate

/-- A frame that has begun may be lost (log entry 208); otherwise it ends 4.8 µs after it began. -/
theorem exec_clxFrameTx_begun (hs : s.strapped = true) (hp : s.fieldPowered = true) (hb : s.field.clxNext ≤ s.now) : exec .clxFrameTx s =
    .next (if s.freeBit.1 then s.clxAgain else if s.now < s.field.clxNext + 4800 then s.freeBit.2 else s.clxSent) :=
  next_if_neg (by simp [hs, hp, hb])

theorem exec_clxPeerLost_silent {t : Nat} (hs : s.strapped = true) (hp : s.fieldPowered = true) (ha : s.hsb.clxAt = some t)
    (ht : t + 100000 ≤ s.now) (hl : s.rd .sup CLX_STAT_PEERLOST = 0) :
    exec .clxPeerLost s = .next ((s.wr .sup CLX_STAT_PEERLOST 1).raiseCrown 119) := by
  show execClxPeerLost s = _
  simp only [execClxPeerLost, ha]
  exact next_if_pos ⟨hs, hp, ht, Bool.eq_false_iff.mp (State.is_eq_false hl)⟩

theorem State.keepDue_of (hc : s.crownRuns = true) (hp : s.pwr.phase = .on) (hk : s.keepStopped = false)
    (ht : s.img.keepAt + 1000000 ≤ s.now) : s.keepDue = true := by
  simp [State.keepDue, hc, hp, hk, ht]

end

/-- Settles O51: each event acts on its conditions (`next_if_pos`), each message where it is heard (`next_sbRx`); an EQ of a core
of the standby is applied or kept (`State.eqRx_core`), and a claim-exchange frame that has begun is lost, still going out or
sent (`exec_clxFrameTx_begun`). -/
theorem shadowing : Obligations.Shadowing := by
  unfold Obligations.Shadowing
  intro s h a b c whole ok blocks vals dies hashes m o hb heard u standby core x scan hash quiet job told can line lost again t
  refine ⟨fun hh hs => (next_sbRx hh _).trans (next_if_pos hs), fun hh => next_sbRx hh _, fun hh hs hn he => ⟨?_, ?_⟩,
    fun hh hs hn he => ?_, fun hh => next_sbRx hh _, fun ⟨h0, hp, hj, hk⟩ => exec_jobMsgTx_noJob h0 hp hj hk,
    fun hh => next_sbRx hh _, fun hh => next_sbRx hh _, fun ⟨h0, hx, hw, ht⟩ hl => exec_pageHash_quiet h0 hx hw ht hl,
    ⟨rfl, fun hh => s.sbRx_heard h _ hh⟩, fun ⟨hc, hr⟩ ht => next_if_pos ⟨State.is_eq_true hc, hr, ht⟩,
    fun ⟨hc, hr⟩ hs => next_if_pos ⟨hs, State.is_eq_true hc, hr⟩, fun ⟨hs, hp⟩ ht => ?_, fun ⟨hs, hp⟩ hb ht => ?_,
    fun ⟨hs, hp⟩ ht => next_if_pos (.inr (.inr ht)), fun hl => next_if_pos hl,
    fun ⟨hs, hp⟩ ha ht hl => exec_clxPeerLost_silent hs hp ha ht hl,
    fun hc hp hk ht => next_if_pos (State.keepDue_of hc hp hk ht)⟩
  · exact (next_sbRx hh _).trans (congrArg Host.Outcome.next ((State.eqRx_core hs hn).trans (if_pos he)))
  · exact (next_sbRx hh _).trans (congrArg Host.Outcome.next ((State.eqRx_core hs hn).trans (if_pos he)))
  · exact (next_sbRx hh _).trans (congrArg Host.Outcome.next ((State.eqRx_core hs hn).trans (if_neg he)))
  · rw [exec_clxFrameTx_begun hs hp (by omega), if_neg (not_lt.mpr ht)]
    rfl
  · rw [exec_clxFrameTx_begun hs hp hb, if_pos ht]
    rfl

end Sys2Proof.Machine

namespace Sys2Proof.Machine

/-! ### The field watch (R337, R393, R407 to R410) -/

/-! #### Bits of a field -/

theorem testBit_clearBits (v m i : Nat) : (clearBits v m).testBit i = (v.testBit i && !m.testBit i) := by
  simp only [clearBits, Nat.testBit_xor, Nat.testBit_and]
  cases v.testBit i <;> cases m.testBit i <;> rfl

section
variable {s : State}

/-- Writing one bit of a field leaves the others of the field. -/
theorem State.bit_setBit {b : Blk} {f : Field} {i j : Nat} (hj : j < f.width) (v : Bool) :
    (s.setBit b f i v).bit b f j = if i = j then v else s.bit b f j := by
  cases v with
  | true =>
    simp only [State.setBit, if_true, State.orBits, State.bit, State.rd_wr_same, Nat.testBit_mod_two_pow, Nat.testBit_or,
      Nat.testBit_two_pow, hj]
    by_cases e : i = j <;> simp [e]
  | false =>
    simp only [State.setBit, Bool.false_eq_true, if_false, State.clrBits, State.bit, State.rd_wr_same, Nat.testBit_mod_two_pow,
      testBit_clearBits, Nat.testBit_two_pow, hj]
    by_cases e : i = j <;> simp [e]

/-! #### Channels (R400 to R402) -/

/-- A channel that follows its conditions changes its PHASE and PEND at most. -/
theorem State.chanUpdate_cases (c : Nat) : s.chanUpdate c = s ∨
    ∃ p pend, s.chanUpdate c = (s.wr .lsw (LSW_CH_STAT_PHASE c) p).wr .lsw (LSW_CH_STAT_PEND c) pend := by
  simp only [State.chanUpdate]
  split
  · exact .inr ⟨_, _, rfl⟩
  · split
    · split
      · exact .inr ⟨_, _, rfl⟩
      · split
        · exact .inr ⟨_, _, rfl⟩
        · exact .inl rfl
    · split
      · exact .inr ⟨_, _, rfl⟩
      · split <;> exact .inr ⟨_, _, rfl⟩

section
variable {b : Blk} {f : Field} (h : b = .lsw → f.off < 0x104)
include h

theorem State.rd_chanUpdate (c : Nat) : (s.chanUpdate c).rd b f = s.rd b f := by
  have apart (g : Field) (hg : 0x104 ≤ g.off) : f.key b ≠ g.key .lsw := fun e => by
    injection e with hb ho
    exact absurd (h hb) (by omega)
  obtain e | ⟨p, pend, e⟩ := s.chanUpdate_cases c
  · rw [e]
  · rw [e, State.rd_wr_ne _ _ (apart _ (Nat.le_add_right _ _)), State.rd_wr_ne _ _ (apart _ (Nat.le_add_right _ _))]

theorem State.rd_chanUpdateAll : s.chanUpdateAll.rd b f = s.rd b f := State.rd_each _ _ _ _ (fun _ => State.rd_chanUpdate h) s

theorem State.rd_chanCommand (hc : f.key b ≠ LSW_CMD_CMD.key .lsw) (c : Nat) (on : Bool) : (s.chanCommand c on).rd b f = s.rd b f := by
  rw [State.chanCommand, State.rd_chanUpdate h, State.setBit]
  split <;> exact State.rd_wr_ne _ _ hc

end

theorem State.rd_chanUpdateAll_sup (f : Field) : s.chanUpdateAll.rd .sup f = s.rd .sup f := State.rd_chanUpdateAll nofun

theorem State.bit_chanUpdate (c i : Nat) : (s.chanUpdate c).bit .lsw LSW_CMD_CMD i = s.bit .lsw LSW_CMD_CMD i := by
  rw [State.bit, State.rd_chanUpdate (by decide), State.bit]

theorem State.bit_chanCommand {i : Nat} (hi : i < 16) (c : Nat) (on : Bool) :
    (s.chanCommand c on).bit .lsw LSW_CMD_CMD i = if c = i then on else s.bit .lsw LSW_CMD_CMD i := by
  rw [State.chanCommand, State.bit_chanUpdate, State.bit_setBit hi]

@[simp] theorem State.chanUpdate_field (c : Nat) : (s.chanUpdate c).field = s.field := by
  obtain e | ⟨p, pend, e⟩ := s.chanUpdate_cases c <;> rw [e]
  rfl

@[simp] theorem State.chanUpdateAll_field : s.chanUpdateAll.field = s.field := by
  have all (l : List Nat) (t : State) : (t.each l fun u c => u.chanUpdate c).field = t.field := by
    induction l generalizing t with
    | nil => rfl
    | cons c l ih => rw [State.each, ih, State.chanUpdate_field]
  exact all _ s

/-! #### The drive rule and keep frames (R337, R407) -/

/-- Whether the drive rule lets the unit drive (R337). -/
def State.clxDrives (s : State) : Bool :=
  s.field.keepRole && (s.is .sup CLX_STAT_DRIVE || decide (s.rd .sup CLX_OWN_CLAIM ≤ s.field.clxClaim)) &&
    (!s.is .sup CLX_STAT_PEERVALID || decide (s.rd .sup CLX_PEER_CLAIM < s.rd .sup CLX_OWN_CLAIM))

theorem State.rd_clxUpdate_drive : s.clxUpdate.rd .sup CLX_STAT_DRIVE = s.clxDrives.toNat := by
  rw [State.clxUpdate, State.rd_chanUpdateAll_sup, State.wrB, State.rd_wr_same, ← State.clxDrives.eq_def]
  exact Nat.mod_eq_of_lt (Bool.toNat_lt _)

theorem State.rd_clxUpdate {b : Blk} {f : Field} (h : b = .lsw → f.off < 0x104) (hd : f.key b ≠ CLX_STAT_DRIVE.key .sup) :
    s.clxUpdate.rd b f = s.rd b f := by
  rw [State.clxUpdate, State.rd_chanUpdateAll h, State.wrB, State.rd_wr_ne _ _ hd]

@[simp] theorem State.clxUpdate_field : s.clxUpdate.field = s.field := State.chanUpdateAll_field

section
variable {active run : Bool} {claim : Nat}

/-- The state in which a keep frame has been taken and the drive rule has still to follow (R407). -/
def State.keepTaken (s : State) (active : Bool) (claim : Nat) (run : Bool) : State :=
  { s.wr .lsw LSW_STAT_KEEPOK 1 with
    field := { s.field with
      lastKeep := s.now, keepRole := active, keepClaim := claim % 2 ^ 32, keepLineRun := run
      clxNext := if active = s.field.keepRole ∧ claim % 2 ^ 32 = s.field.keepClaim then s.field.clxNext else s.now } }.wrs .sup
    [(CLX_STAT_ROLE, active.toNat), (CLX_OWN_CLAIM, claim % 2 ^ 32)]

theorem State.keepFrame_eq : s.keepFrame active claim run =
    if s.strapped then (s.keepTaken active claim run).clxUpdate else s.keepTaken active claim run := rfl

theorem State.rd_keepFrame {b : Blk} {f : Field} (h : b = .lsw → f.off < 0x104) (hd : f.key b ≠ CLX_STAT_DRIVE.key .sup) :
    (s.keepFrame active claim run).rd b f = (s.keepTaken active claim run).rd b f := by
  rw [State.keepFrame_eq]
  split
  · exact State.rd_clxUpdate h hd
  · rfl

theorem State.keepFrame_field : (s.keepFrame active claim run).field = (s.keepTaken active claim run).field := by
  rw [State.keepFrame_eq]
  split
  · exact State.clxUpdate_field
  · rfl

theorem State.rd_keepTaken_keepok : (s.keepTaken active claim run).rd .lsw LSW_STAT_KEEPOK = 1 := by
  simp only [State.keepTaken, State.wrs, State.each]
  rw [State.rd_wr_blk _ _ _ _ (by decide), State.rd_wr_blk _ _ _ _ (by decide)]
  exact s.rd_wr_same .lsw LSW_STAT_KEEPOK 1

theorem State.rd_keepTaken_role : (s.keepTaken active claim run).rd .sup CLX_STAT_ROLE = active.toNat := by
  simp only [State.keepTaken, State.wrs, State.each]
  rw [State.rd_wr_off _ _ (by decide), State.rd_wr_same]
  exact Nat.mod_eq_of_lt (Bool.toNat_lt _)

theorem State.rd_keepTaken_own : (s.keepTaken active claim run).rd .sup CLX_OWN_CLAIM = claim % 2 ^ 32 := by
  simp only [State.keepTaken, State.wrs, State.each]
  rw [State.rd_wr_same, Nat.mod_mod]

theorem State.rd_keepTaken_sup {f : Field} (hr : f.lo ≠ CLX_STAT_ROLE.lo) (ho : f.key .sup ≠ CLX_OWN_CLAIM.key .sup) :
    (s.keepTaken active claim run).rd .sup f = s.rd .sup f := by
  simp only [State.keepTaken, State.wrs, State.each]
  rw [State.rd_wr_ne _ _ ho, State.rd_wr_lo _ _ hr]
  exact s.rd_wr_blk LSW_STAT_KEEPOK f 1 (by decide : Blk.sup ≠ .lsw)

theorem State.keepTaken_clxDrives : (s.keepTaken active claim run).clxDrives =
    (active && (s.rd .sup CLX_STAT_DRIVE != 0 || decide (claim % 2 ^ 32 ≤ s.field.clxClaim)) &&
      (s.rd .sup CLX_STAT_PEERVALID == 0 || decide (s.rd .sup CLX_PEER_CLAIM < claim % 2 ^ 32))) := by
  simp only [State.clxDrives, State.is, State.rd_keepTaken_own, State.rd_keepTaken_sup (f := CLX_STAT_DRIVE) (by decide) (by decide),
    State.rd_keepTaken_sup (f := CLX_STAT_PEERVALID) (by decide) (by decide),
    State.rd_keepTaken_sup (f := CLX_PEER_CLAIM) (by decide) (by decide), bne, Bool.not_not]
  rfl

theorem State.rd_keepFrame_drive (hs : s.strapped = true) :
    (s.keepFrame active claim run).rd .sup CLX_STAT_DRIVE = (s.keepTaken active claim run).clxDrives.toNat := by
  rw [State.keepFrame_eq, if_pos hs, State.rd_clxUpdate_drive]

end

/-! #### The keep timeout (R408) -/

/-- A channel takes the fail-safe command that LSW_FS holds for it. -/
def State.failSafeChan (fs : Nat) (s : State) (c : Nat) : State :=
  match bits fs (2 * c) 2 with
  | 1 => s.chanCommand c true
  | 2 => s.chanUpdate c
  | _ => s.chanCommand c false

theorem State.failSafe_eq : s.failSafe = (s.wr .lsw LSW_STAT_FAILSAFE 1).each chanNums (State.failSafeChan (s.rd .lsw LSW_FS_FS)) := rfl

/-- The command of a channel under a fail-safe code: 2 leaves it, 1 is on, the others are off (R408). -/
def failSafeBit (code : Nat) (on : Bool) : Bool := if code = 2 then on else decide (code = 1)

theorem State.failSafeChan_command {fs c : Nat} (h : bits fs (2 * c) 2 ≠ 2) :
    s.failSafeChan fs c = s.chanCommand c (decide (bits fs (2 * c) 2 = 1)) := by
  unfold State.failSafeChan
  split
  · next e => rw [e]; rfl
  · next e => exact absurd e h
  · next h1 _ => rw [decide_eq_false h1]

theorem State.failSafeChan_keep {fs c : Nat} (h : bits fs (2 * c) 2 = 2) : s.failSafeChan fs c = s.chanUpdate c := by
  rw [State.failSafeChan, h]
  rfl

theorem State.rd_failSafeChan {b : Blk} {f : Field} (h : b = .lsw → f.off < 0x104) (hc : f.key b ≠ LSW_CMD_CMD.key .lsw) (fs c : Nat) :
    (s.failSafeChan fs c).rd b f = s.rd b f := by
  by_cases h2 : bits fs (2 * c) 2 = 2
  · rw [State.failSafeChan_keep h2, State.rd_chanUpdate h]
  · rw [State.failSafeChan_command h2, State.rd_chanCommand h hc]

theorem State.bit_failSafeChan {i : Nat} (hi : i < 16) (fs c : Nat) : (s.failSafeChan fs c).bit .lsw LSW_CMD_CMD i =
    if c = i then failSafeBit (bits fs (2 * i) 2) (s.bit .lsw LSW_CMD_CMD i) else s.bit .lsw LSW_CMD_CMD i := by
  by_cases h2 : bits fs (2 * c) 2 = 2
  · rw [State.failSafeChan_keep h2, State.bit_chanUpdate]
    split
    · next e => rw [← e, failSafeBit, if_pos h2]
    · rfl
  · rw [State.failSafeChan_command h2, State.bit_chanCommand hi]
    split
    · next e => rw [← e, failSafeBit, if_neg h2]
    · rfl

/-- Channels that take their fail-safe commands each set the bit of their own. -/
theorem State.bit_each_failSafeChan {i : Nat} (hi : i < 16) (fs : Nat) {l : List Nat} (hl : l.Nodup) :
    (s.each l (State.failSafeChan fs)).bit .lsw LSW_CMD_CMD i =
      if i ∈ l then failSafeBit (bits fs (2 * i) 2) (s.bit .lsw LSW_CMD_CMD i) else s.bit .lsw LSW_CMD_CMD i := by
  induction l generalizing s with
  | nil => rfl
  | cons c l ih =>
    obtain ⟨hc, hl⟩ := List.nodup_cons.mp hl
    rw [State.each, ih hl, State.bit_failSafeChan hi]
    by_cases e : c = i
    · subst e
      simp [hc]
    · simp [e, Ne.symm e]

theorem State.bit_failSafe {i : Nat} (hi : i < 16) :
    s.failSafe.bit .lsw LSW_CMD_CMD i = failSafeBit (bits (s.rd .lsw LSW_FS_FS) (2 * i) 2) (s.bit .lsw LSW_CMD_CMD i) := by
  have chan : i ∈ chanNums := List.mem_range.mpr hi
  rw [State.failSafe_eq, State.bit_each_failSafeChan hi (l := chanNums) _ List.nodup_range, if_pos chan, State.bit,
    State.rd_wr_off _ _ (by decide), ← State.bit]

theorem State.rd_failSafe {b : Blk} {f : Field} (h : b = .lsw → f.off < 0x104) (hc : f.key b ≠ LSW_CMD_CMD.key .lsw) :
    s.failSafe.rd b f = (s.wr .lsw LSW_STAT_FAILSAFE 1).rd b f := by
  rw [State.failSafe_eq]
  exact State.rd_each _ _ _ _ (fun _ c => State.rd_failSafeChan h hc _ c) _

theorem State.rd_keepTimeout {b : Blk} (hb : b ≠ .evr) (f : Field) (hk : s.rd .lsw LSW_STAT_KEEPOK ≠ 0)
    (ht : s.field.lastKeep + s.rd .lsw LSW_KEEP_TMO_MS * 1000000 ≤ s.now) :
    s.keepTimeout.rd b f = (s.wr .lsw LSW_STAT_KEEPOK 0).failSafe.rd b f := by
  rw [State.keepTimeout, if_pos ⟨State.is_eq_true hk, ht⟩]
  show State.rd (if s.crownRuns then _ else _) b f = _
  split
  · exact State.rd_offer _ _ _ _ _ _ hb
  · rfl

/-! #### Supply groups (R393) -/

/-- The field of FSUP_STAT that holds a group's state. -/
def groupField (g : Nat) : Field := if g = 0 then FSUP_STAT_G0 else FSUP_STAT_G1

theorem State.supply_eq (g : Nat) : s.supply g = s.rd .sup (groupField g) := by
  simp only [State.supply, groupField]; split <;> rfl

theorem supplyNext_lt (st : Nat) (mv : Int) : supplyNext st mv < 4 := by
  simp only [supplyNext]
  repeat' split
  all_goals decide

theorem State.rd_dinChange_sup (i : Nat) (v : Bool) (f : Field) : (s.dinChange i v).rd .sup f = s.rd .sup f := by
  have set : ((s.setBit .din DIN_STATE_STATE i v).setBit .din DIN_CHG_CHG i true).rd .sup f = s.rd .sup f := by
    rw [State.rd_setBit_blk _ _ _ _ _ _ _ (by decide), State.rd_setBit_blk _ _ _ _ _ _ _ (by decide)]
  simp only [State.dinChange]
  split
  · rfl
  · split
    · exact set
    · exact (State.rd_raiseCrown _ _ _ _ (by decide) (by decide)).trans set

theorem State.rd_groupLost_sup (g : Nat) (f : Field) : (s.groupLost g).rd .sup f = s.rd .sup f := by
  rw [State.groupLost, State.rd_chanUpdateAll_sup]
  refine State.rd_each _ _ _ _ (fun t i => ?_) s
  rw [State.rd_dinChange_sup, State.rd_wr_blk _ _ _ _ (by decide), State.rd_setBit_blk _ _ _ _ _ _ _ (by decide)]

/-- The state in which a group's voltage is shown, and a reading no longer stands alone (R408, R414). -/
def State.supplyShown (s : State) (g raw : Nat) : State :=
  let t := (s.calibrate (2 * g) (2 * g + 1) raw).2.wr .sup (if g = 0 then FSUP_MV0_MV else FSUP_MV1_MV)
    (min (s.calibrate (2 * g) (2 * g + 1) raw).1.toNat 65535)
  { t with field := if g = 0 then { t.field with readOnly0 := false } else { t.field with readOnly1 := false } }

/-- The state that a measured voltage gives a group. -/
def State.supplyRead (s : State) (g raw : Nat) : Nat := supplyNext (s.supply g) (s.calibrate (2 * g) (2 * g + 1) raw).1

/-- A group's new state is shown, raised and recorded (R393). -/
def State.supplyChanged (s : State) (g raw : Nat) : State :=
  (((s.supplyShown g raw).wr .sup (groupField g) (s.supplyRead g raw)).raiseCrown (113 + g)).offer Ev.FIELD_SUPPLY .field
    [g, s.supplyRead g raw, (s.calibrate (2 * g) (2 * g + 1) raw).1.toNat]

section
variable {g raw : Nat}

theorem State.supplyMeasured_same (h : s.supply g = s.supplyRead g raw) : s.supplyMeasured g raw =
    if s.supplyRead g raw = 2 ∧ ¬ s.missing g then (s.supplyShown g raw).groupLost g else s.supplyShown g raw := if_pos h

theorem State.supplyMeasured_change (h : s.supply g ≠ s.supplyRead g raw) : s.supplyMeasured g raw =
    if s.supplyRead g raw = 2 then (s.supplyChanged g raw).groupLost g else (s.supplyChanged g raw).chanUpdateAll := if_neg h

theorem State.rd_supplyShown : (s.supplyShown g raw).rd .sup (groupField g) = s.supply g := by
  have state : (groupField g).off ≠ (if g = 0 then FSUP_MV0_MV else FSUP_MV1_MV).off := by
    unfold groupField; split <;> decide
  rw [State.supply_eq]
  exact State.rd_wr_off _ _ state

theorem State.rd_supplyChanged : (s.supplyChanged g raw).rd .sup (groupField g) = s.supplyRead g raw % 4 := by
  have wide : 2 ^ (groupField g).width = 4 := by unfold groupField; split <;> rfl
  rw [State.supplyChanged, State.rd_offer _ _ _ _ _ _ (by decide), State.rd_raiseCrown _ _ _ _ (by decide) (by decide), State.rd_wr_same, wide]

/-- A measured group takes the state of its voltage. -/
theorem State.supply_supplyMeasured : (s.supplyMeasured g raw).supply g = s.supplyRead g raw % 4 := by
  rw [State.supply_eq]
  by_cases h : s.supply g = s.supplyRead g raw
  · have shown : (s.supplyShown g raw).rd .sup (groupField g) = s.supplyRead g raw % 4 := by
      rw [State.rd_supplyShown, h]
      exact (Nat.mod_eq_of_lt (supplyNext_lt _ _)).symm
    rw [State.supplyMeasured_same h]
    split
    · rw [State.rd_groupLost_sup, shown]
    · exact shown
  · rw [State.supplyMeasured_change h]
    split
    · rw [State.rd_groupLost_sup, State.rd_supplyChanged]
    · rw [State.rd_chanUpdateAll_sup, State.rd_supplyChanged]

end

end

/-- Settles O37: a keep frame is taken (`State.keepTaken`) and then the drive rule follows, which changes DRIVE and the channels
alone (`State.rd_keepFrame`); the timeout gives each channel its code's command (`State.bit_failSafe`). -/
theorem fieldWatch : Obligations.FieldWatch := by
  unfold Obligations.FieldWatch
  intro s active run claim g raw c k l own late code
  refine ⟨⟨_, rfl, ?_, ?_, ?_, ?_, ?_, ?_, fun hs => ?_⟩, fun ⟨hk, ht⟩ => ⟨_, rfl, ?_, ?_, fun hc => ?_⟩,
    fun hk => ⟨_, next_if_pos (State.is_eq_true hk), s.rd_wr_same .lsw LSW_STAT_FAILSAFE 0, rfl⟩,
    fun hk => next_if_neg (Bool.eq_false_iff.mp (State.is_eq_false hk)),
    fun hg => ⟨_, next_if_pos hg, State.supply_supplyMeasured⟩⟩
  · exact (State.rd_keepFrame (by decide) (by decide)).trans State.rd_keepTaken_keepok
  · rw [State.keepFrame_field]; rfl
  · rw [State.keepFrame_field]; rfl
  · rw [State.keepFrame_field]; rfl
  · exact (State.rd_keepFrame (by decide) (by decide)).trans State.rd_keepTaken_role
  · exact (State.rd_keepFrame (by decide) (by decide)).trans State.rd_keepTaken_own
  · exact (State.rd_keepFrame_drive hs).trans (congrArg Bool.toNat State.keepTaken_clxDrives)
  · show State.rd s.keepTimeout .lsw LSW_STAT_KEEPOK = 0
    rw [State.rd_keepTimeout (by decide) _ hk ht, State.rd_failSafe (by decide) (by decide), State.rd_wr_lo _ _ (by decide)]
    exact s.rd_wr_same _ _ _
  · show State.rd s.keepTimeout .lsw LSW_STAT_FAILSAFE = 1
    rw [State.rd_keepTimeout (by decide) _ hk ht, State.rd_failSafe (by decide) (by decide)]
    exact State.rd_wr_same _ _ _ _
  · show State.bit s.keepTimeout .lsw LSW_CMD_CMD c = _
    rw [State.bit, State.rd_keepTimeout (by decide) _ hk ht, ← State.bit, State.bit_failSafe hc, State.bit,
      State.rd_wr_off _ _ (by decide), State.rd_wr_off _ _ (by decide)]
    rfl

end Sys2Proof.Machine

namespace Sys2Proof.Machine

/-! ### The presented level (R342, R344) -/

section
variable {s : State}

theorem mem_onesOf {v i : Nat} : i ∈ onesOf v ↔ i < 32 ∧ v.testBit i = true := by
  simp only [onesOf, List.mem_filter, List.mem_range]

theorem State.mem_openSources {c : Option Nat} {src : Nat} : src ∈ s.openSources c ↔
    src < 512 ∧ s.bit (ctlBlk c) (IRQ_PEND_PEND (src / 32)) (src % 32) = true ∧
      s.bit (ctlBlk c) (IRQ_EN_EN (src / 32)) (src % 32) = true := by
  simp only [State.openSources, List.mem_flatMap, List.mem_range, List.mem_map, mem_onesOf, Nat.testBit_and, Bool.and_eq_true,
    State.bit]
  constructor
  · rintro ⟨w, hw, i, ⟨hi, hb⟩, rfl⟩
    rw [show (32 * w + i) / 32 = w by omega, show (32 * w + i) % 32 = i by omega]
    exact ⟨by omega, hb⟩
  · rintro ⟨hs, hb⟩
    exact ⟨src / 32, by omega, src % 32, ⟨by omega, hb⟩, by omega⟩

/-- The levels at which the controllers of a core's die and of the crown deliver their open sources to it. -/
def State.offeredLevels (s : State) (d k : Nat) : List Nat :=
  [none, some d].flatMap fun c => (s.openSources c).map (s.delivered c d k)

theorem State.presented_eq_max (d k : Nat) : s.presented d k = (s.offeredLevels d k).max?.getD 0 := by
  calc s.presented d k = (s.offeredLevels d k).foldl max 0 := by
        simp only [State.presented, State.offeredLevels, List.foldl_flatMap, List.foldl_map]
    _ = (s.offeredLevels d k).max?.getD 0 := by rw [List.foldl_max, Nat.zero_max]

theorem State.mem_offeredLevels {d k l : Nat} : l ∈ s.offeredLevels d k ↔
    ∃ c src, (c = none ∨ c = some d) ∧ src ∈ s.openSources c ∧ s.delivered c d k src = l := by
  simp only [State.offeredLevels, List.mem_flatMap, List.mem_map, List.mem_cons, List.not_mem_nil, or_false]
  exact ⟨fun ⟨c, hc, src, h⟩ => ⟨c, src, hc, h⟩, fun ⟨c, src, hc, h⟩ => ⟨c, hc, src, h⟩⟩

end

/-- Settles O17: the presented level is the greatest of the levels offered (`State.presented_eq_max`), and what is offered are the
levels of the open sources of the two controllers (`State.mem_offeredLevels`). -/
theorem presentedLevel : Obligations.PresentedLevel := by
  unfold Obligations.PresentedLevel
  intro s d k offers
  rw [State.presented_eq_max]
  refine ⟨fun c src ⟨hc, hopen⟩ => ?_, ?_⟩
  · exact List.le_max?_getD_of_mem (State.mem_offeredLevels.2 ⟨c, src, hc, State.mem_openSources.2 hopen, rfl⟩)
  · cases hm : (s.offeredLevels d k).max? with
    | none => exact .inl rfl
    | some l =>
      obtain ⟨c, src, hc, hopen, hl⟩ := State.mem_offeredLevels.1 (List.max?_mem hm)
      exact .inr ⟨c, src, ⟨hc, State.mem_openSources.1 hopen⟩, hl⟩

end Sys2Proof.Machine

namespace Sys2Proof.Machine

/-! ### Interrupt registers (R340, R346) -/

section
variable {s : State}

/-! #### Bits of a register -/

theorem State.wr_mod (b : Blk) (f : Field) (v : Nat) : s.wr b f (v % 2 ^ f.width) = s.wr b f v := by
  simp only [State.wr, Nat.mod_mod]

/-- A write is told by what the field then reads as. -/
theorem State.wr_rd_wr (b : Blk) (f : Field) (v : Nat) : s.wr b f ((s.wr b f v).rd b f) = s.wr b f v := by
  rw [State.rd_wr_same, State.wr_mod]

theorem State.bit_orBits {b : Blk} {f : Field} {i : Nat} (hi : i < f.width) (m : Nat) :
    (s.orBits b f m).bit b f i = (s.bit b f i || m.testBit i) := by
  simp only [State.bit, State.orBits, State.rd_wr_same, Nat.testBit_mod_two_pow, Nat.testBit_or, hi, decide_true, Bool.true_and]

theorem State.bit_clrBits {b : Blk} {f : Field} {i : Nat} (hi : i < f.width) (m : Nat) :
    (s.clrBits b f m).bit b f i = (s.bit b f i && !m.testBit i) := by
  simp only [State.bit, State.clrBits, State.rd_wr_same, Nat.testBit_mod_two_pow, testBit_clearBits, hi, decide_true, Bool.true_and]

theorem State.rd_setBit_off {b b' : Blk} {f g : Field} (i : Nat) (v : Bool) (h : g.off ≠ f.off) :
    (s.setBit b f i v).rd b' g = s.rd b' g := by
  cases v <;> exact s.rd_wr_off _ h

/-! #### Sources that become pending -/

theorem State.rd_raiseAt_off {b : Blk} {g : Field} {src : Nat} (hp : g.off ≠ (IRQ_PEND_PEND (src / 32)).off)
    (hw : g.off ≠ (IRQ_WAKE_WAKE (src / 32)).off) : (s.raiseAt b src).rd b g = s.rd b g := by
  simp only [State.raiseAt]
  split
  · rw [State.rd_setBit_off _ _ hw, State.rd_setBit_off _ _ hp]
  · rw [State.rd_setBit_off _ _ hp]

theorem State.bit_raiseAt {b : Blk} {src j : Nat} (hj : j < 32) : (s.raiseAt b src).bit b (IRQ_PEND_PEND (src / 32)) j =
    if src % 32 = j then true else s.bit b (IRQ_PEND_PEND (src / 32)) j := by
  have wake : (IRQ_PEND_PEND (src / 32)).off ≠ (IRQ_WAKE_WAKE (src / 32)).off := by dsimp only; omega
  rw [← State.bit_setBit (f := IRQ_PEND_PEND (src / 32)) hj]
  simp only [State.raiseAt]
  split
  · rw [State.bit, State.rd_setBit_off _ _ wake, State.bit]
  · rfl

theorem State.rd_sendMsix {b : Blk} (f : Field) (v : Nat) (h : b ≠ .host) : (s.sendMsix v).rd b f = s.rd b f := by
  simp only [State.sendMsix]
  split
  · rfl
  · split
    · exact State.rd_setBit_blk _ _ _ _ _ _ _ h
    · rfl

/-- A source of a controller becomes pending, as IRQ_PEND_SET has it. -/
def State.raiseSource (s : State) : Option Nat → Nat → State
  | none => s.raiseCrown
  | some d => s.raiseDie d

theorem State.irqPendSet_eq (c : Option Nat) (w v : Nat) :
    s.irqPendSet c w v = s.each (onesOf v) fun t i => t.raiseSource c (32 * w + i) := by
  cases c <;> rfl

/-- In its own controller a source that becomes pending changes the pending and wake bits alone, whatever the host is sent. -/
theorem State.rd_raiseSource (c : Option Nat) (n : Nat) (f : Field) :
    (s.raiseSource c n).rd (ctlBlk c) f = (s.raiseAt (ctlBlk c) n).rd (ctlBlk c) f := by
  cases c with
  | none =>
    show (s.raiseCrown n).rd .irqCrown f = (s.raiseAt .irqCrown n).rd .irqCrown f
    simp only [State.raiseCrown]
    split
    · exact State.rd_sendMsix f _ (by decide)
    · rfl
  | some d => rfl

theorem State.raiseSource_mems (c : Option Nat) (n : Nat) : (s.raiseSource c n).mems = s.mems := by
  cases c with
  | none => rw [State.raiseSource, State.raiseCrown_only]
  | some d => exact s.raiseDie_mems d n

theorem State.raiseSource_cores (c : Option Nat) (n : Nat) : (s.raiseSource c n).cores = s.cores := by
  cases c with
  | none => rw [State.raiseSource, State.raiseCrown_only]
  | some d => rw [State.raiseSource, State.raiseDie_only]

theorem State.bit_raiseSource (c : Option Nat) {w i j : Nat} (hi : i < 32) (hj : j < 32) :
    (s.raiseSource c (32 * w + i)).bit (ctlBlk c) (IRQ_PEND_PEND w) j =
      if i = j then true else s.bit (ctlBlk c) (IRQ_PEND_PEND w) j := by
  have set := State.bit_raiseAt (s := s) (b := ctlBlk c) (src := 32 * w + i) hj
  rw [show (32 * w + i) / 32 = w by omega, show (32 * w + i) % 32 = i by omega] at set
  rw [← set, State.bit, State.rd_raiseSource, State.bit]

theorem State.rd_raiseSource_en (c : Option Nat) {w i : Nat} (hw : w < 16) (hi : i < 32) :
    (s.raiseSource c (32 * w + i)).rd (ctlBlk c) (IRQ_EN_EN w) = s.rd (ctlBlk c) (IRQ_EN_EN w) := by
  rw [State.rd_raiseSource]
  exact State.rd_raiseAt_off (by dsimp only; omega) (by dsimp only; omega)

/-! #### A written word of pending bits -/

theorem State.bit_each_raiseSource (c : Option Nat) {w j : Nat} (hj : j < 32) {l : List Nat} (hl : ∀ i ∈ l, i < 32) :
    (s.each l fun t i => t.raiseSource c (32 * w + i)).bit (ctlBlk c) (IRQ_PEND_PEND w) j =
      (s.bit (ctlBlk c) (IRQ_PEND_PEND w) j || decide (j ∈ l)) := by
  induction l generalizing s with
  | nil => simp [State.each]
  | cons i l ih =>
    obtain ⟨hi, hl⟩ := List.forall_mem_cons.1 hl
    rw [State.each, ih hl, State.bit_raiseSource c hi hj]
    by_cases e : i = j
    · simp [e]
    · simp [e, Ne.symm e]

theorem State.rd_each_raiseSource_en (c : Option Nat) {w : Nat} (hw : w < 16) {l : List Nat} (hl : ∀ i ∈ l, i < 32) :
    (s.each l fun t i => t.raiseSource c (32 * w + i)).rd (ctlBlk c) (IRQ_EN_EN w) = s.rd (ctlBlk c) (IRQ_EN_EN w) := by
  induction l generalizing s with
  | nil => rfl
  | cons i l ih =>
    obtain ⟨hi, hl⟩ := List.forall_mem_cons.1 hl
    rw [State.each, ih hl, State.rd_raiseSource_en c hw hi]

theorem State.bit_irqPendSet (c : Option Nat) (w v : Nat) {j : Nat} (hj : j < 32) :
    (s.irqPendSet c w v).bit (ctlBlk c) (IRQ_PEND_PEND w) j = (s.bit (ctlBlk c) (IRQ_PEND_PEND w) j || v.testBit j) := by
  rw [State.irqPendSet_eq, State.bit_each_raiseSource c hj fun _ h => (mem_onesOf.1 h).1]
  simp [mem_onesOf, hj]

theorem State.rd_irqPendSet_en (c : Option Nat) {w : Nat} (hw : w < 16) (v : Nat) :
    (s.irqPendSet c w v).rd (ctlBlk c) (IRQ_EN_EN w) = s.rd (ctlBlk c) (IRQ_EN_EN w) := by
  rw [State.irqPendSet_eq]
  exact State.rd_each_raiseSource_en c hw fun _ h => (mem_onesOf.1 h).1

theorem State.irqPendSet_mems (c : Option Nat) (w v : Nat) : (s.irqPendSet c w v).mems = s.mems := by
  rw [State.irqPendSet_eq]
  exact State.each_mems _ _ (fun _ _ => State.raiseSource_mems c _) s

theorem State.irqPendSet_cores (c : Option Nat) (w v : Nat) : (s.irqPendSet c w v).cores = s.cores := by
  rw [State.irqPendSet_eq]
  exact State.each_cores _ _ (fun _ _ => State.raiseSource_cores c _) s

end

/-- Settles O21: IRQ_PEND_SET raises the sources of the written bits one after another (`State.bit_irqPendSet`); the other three
write one field (`State.bit_orBits`, `State.bit_clrBits`), so the write of what it then reads as is the whole change. -/
theorem interruptRegisters : Obligations.InterruptRegisters := by
  unfold Obligations.InterruptRegisters
  intro s c w v i hc hw hi b pend en
  have there : (s.hasCtl c && decide (w < 16)) = true := by rw [hc, decide_eq_true hw]; rfl
  refine ⟨⟨_, next_if_pos there, State.bit_irqPendSet c w v hi, ?_, State.irqPendSet_mems c w v, State.irqPendSet_cores c w v⟩,
    ⟨_, next_if_pos there, State.bit_clrBits hi v, (State.wr_rd_wr ..).symm⟩,
    ⟨_, next_if_pos there, State.bit_orBits hi v, (State.wr_rd_wr ..).symm⟩,
    ⟨_, next_if_pos there, State.bit_clrBits hi v, (State.wr_rd_wr ..).symm⟩⟩
  exact congrArg (Nat.testBit · i) (State.rd_irqPendSet_en c hw v)

end Sys2Proof.Machine

namespace Sys2Proof.Machine

/-! ### The watchdog (R353 to R359) -/

section
variable {s : State}

/-! #### The NMI at every scan core (R355, R356) -/

/-- The NMI is raised at one scan core. -/
def State.nmiAt (s : State) (c : Nat × Nat) : State := s.setCore c.1 c.2 { s.core c.1 c.2 with nmi := true }

theorem State.raiseNmi_eq : s.raiseNmi = s.each s.coresList State.nmiAt := rfl

theorem State.nmi_nmiAt (c : Nat × Nat) (d k : Nat) :
    ((s.nmiAt c).core d k).nmi = (decide ((d, k) = c) || (s.core d k).nmi) := by
  by_cases h : (d, k) = c
  · subst h
    simp [State.nmiAt]
  · rw [State.nmiAt, State.core_setCore_ne _ _ _ _ _ _ h, decide_eq_false h, Bool.false_or]

theorem State.nmi_each_nmiAt (l : List (Nat × Nat)) (d k : Nat) :
    ((s.each l State.nmiAt).core d k).nmi = (decide ((d, k) ∈ l) || (s.core d k).nmi) := by
  induction l generalizing s with
  | nil => simp [State.each]
  | cons c l ih =>
    rw [State.each, ih, State.nmi_nmiAt]
    simp only [List.mem_cons, Bool.decide_or, Bool.or_assoc, Bool.or_left_comm]

theorem State.nmi_raiseNmi {d k : Nat} (h : (d, k) ∈ s.coresList) : (s.raiseNmi.core d k).nmi = true := by
  rw [State.raiseNmi_eq, State.nmi_each_nmiAt, decide_eq_true h, Bool.true_or]

theorem State.raiseNmi_wdt : s.raiseNmi.wdt = s.wdt := by
  have all (l : List (Nat × Nat)) (t : State) : (t.each l State.nmiAt).wdt = t.wdt := by
    induction l generalizing t with
    | nil => rfl
    | cons c l ih => rw [State.each, ih, State.nmiAt, State.setCore_wdt]
  exact all _ s

/-! #### Expiry (R355) -/

theorem State.sbEmit_only (p : Nat) (m : SbMsg) : s.sbEmit p m = { s with hsb := (s.sbEmit p m).hsb, out := (s.sbEmit p m).out } := by
  rw [State.sbEmit]
  rfl

/-- RESIGN changes the transmitters of the standby links and what leaves the package. -/
theorem State.resign_only (cause : Nat) : s.resign cause = { s with hsb := (s.resign cause).hsb, out := (s.resign cause).out } := by
  simp only [State.resign]
  split
  · rw [State.sbEmit_only (s := State.sbEmit ..), State.sbEmit_only (s := s)]
  · rfl

theorem State.coresList_of_straps {t : State} (h : t.straps = s.straps) : t.coresList = s.coresList := by
  rw [State.coresList, State.coresList, State.diesList, State.diesList, h]

/-- The registers of an expiry, and its time. -/
def State.wdtExpired (s : State) (missing : Nat) : State :=
  { (((((s.wr .wdt WDT_STAT_EXPIRED 1).wr .wdt WDT_STAT_RUN 0).wr .wdt WDT_MISSED_MISSED missing).bump .wdt
    WDT_RESET_COUNT_COUNT).dirty 28) with wdt := { s.wdt with expiredAt := s.now } }

theorem State.wdtExpire_eq (missing : Nat) :
    s.wdtExpire missing = (((s.wdtExpired missing).resign 1).raiseNmi).offer Ev.WDT_EXPIRED .crown [missing] := rfl

theorem State.wdtExpire_wdt (missing : Nat) : (s.wdtExpire missing).wdt = { s.wdt with expiredAt := s.now } := by
  rw [State.wdtExpire_eq, State.offer_only]
  show ((s.wdtExpired missing).resign 1).raiseNmi.wdt = _
  rw [State.raiseNmi_wdt, State.resign_only]
  rfl

theorem State.nmi_wdtExpire (missing : Nat) {d k : Nat} (h : (d, k) ∈ s.coresList) :
    ((s.wdtExpire missing).core d k).nmi = true := by
  rw [State.wdtExpire_eq, State.core_offer]
  have straps : ((s.wdtExpired missing).resign 1).straps = s.straps := by
    rw [State.resign_only]
    rfl
  exact State.nmi_raiseNmi (State.coresList_of_straps straps ▸ h)

/-! #### Check-ins (R353) and the end of a period (R354) -/

section
variable {r : Req} {w : Nat}

theorem State.wdtKick_right (hk : WDT_KICK_KEY.of w = 0x5A) (ht : s.bit .wdt WDT_TASKEN_EN (WDT_KICK_TASK.of w) = true)
    (ho : s.wdtOwner r (WDT_KICK_TASK.of w) = true) : s.wdtKick r w =
      if s.is .wdt WDT_STAT_EXPIRED then s else s.setBit .wdt WDT_DONE_DONE (WDT_KICK_TASK.of w) true :=
  if_pos ⟨hk, ht, ho⟩

theorem State.wdtKick_wrong (h : WDT_KICK_KEY.of w ≠ 0x5A ∨ s.bit .wdt WDT_TASKEN_EN (WDT_KICK_TASK.of w) = false ∨
    s.wdtOwner r (WDT_KICK_TASK.of w) = false) : s.wdtKick r w = (s.wr .wdt WDT_STAT_BADKICK 1).raiseCrown 193 := by
  refine if_neg fun ⟨hk, ht, ho⟩ => ?_
  rcases h with h | h | h
  · exact h hk
  · exact Bool.eq_false_iff.mp h ht
  · exact Bool.eq_false_iff.mp h ho

end

/-- A period ends in an expiry where a required task has not checked in, and else in the next period. -/
theorem State.wdtPeriodEnd_due (hc : s.crownRuns = true) (hr : s.is .wdt WDT_STAT_RUN = true)
    (ht : s.wdt.start + s.rd .wdt WDT_PERIOD_US * 1000 ≤ s.now) : s.wdtPeriodEnd =
      if clearBits (s.wdt.required &&& s.rd .wdt WDT_TASKEN_EN) (s.rd .wdt WDT_DONE_DONE) ≠ 0 then
        s.wdtExpire (clearBits (s.wdt.required &&& s.rd .wdt WDT_TASKEN_EN) (s.rd .wdt WDT_DONE_DONE))
      else { s.wr .wdt WDT_DONE_DONE 0 with
        wdt := { s.wdt with start := s.wdt.start + s.rd .wdt WDT_PERIOD_US * 1000, required := s.rd .wdt WDT_TASKEN_EN,
                            halfDone := false } } :=
  if_pos ⟨hc, hr, ht⟩

theorem State.wdtHalf_due (hc : s.crownRuns = true) (hr : s.is .wdt WDT_STAT_RUN = true) (hh : s.wdt.halfDone = false)
    (ht : s.wdt.start + s.rd .wdt WDT_PERIOD_US * 500 ≤ s.now) : s.wdtHalf =
      if clearBits (s.rd .wdt WDT_TASKEN_EN) (s.rd .wdt WDT_DONE_DONE) ≠ 0 then
        { s with wdt := { s.wdt with halfDone := true } }.raiseCrown 192
      else { s with wdt := { s.wdt with halfDone := true } } :=
  if_pos ⟨hc, hr, Bool.eq_false_iff.mp hh, ht⟩

end

/-- Settles O22: a check-in is right or wrong (`State.wdtKick_right`, `State.wdtKick_wrong`), a period that ends is followed by the
next or expires (`State.wdtPeriodEnd_due`), and an expiry raises the NMI at each scan core (`State.nmi_wdtExpire`). -/
theorem watchdog : Obligations.Watchdog := by
  unfold Obligations.Watchdog
  intro s r w n period required missing due half
  have next {t u : State} (h : t = u) : (.next t : Host.Outcome State Fault Refusal) = .next u := congrArg Host.Outcome.next h
  refine ⟨fun he => next (if_neg (Bool.eq_false_iff.mp he)), fun he => next (if_pos he),
    fun hx hk ht ho => next ((State.wdtKick_right hk ht ho).trans (if_neg (Bool.eq_false_iff.mp hx))),
    fun hx hk ht ho => next ((State.wdtKick_right hk ht ho).trans (if_pos hx)),
    fun h => next (State.wdtKick_wrong h),
    fun hd ht hm => next ((State.wdtPeriodEnd_due hd.1 hd.2 ht).trans (if_neg (not_not_intro hm))),
    fun hd ht hm => ⟨_, next ((State.wdtPeriodEnd_due hd.1 hd.2 ht).trans (if_pos hm)), State.wdtExpire_wdt _,
      fun d k hdk => State.nmi_wdtExpire _ hdk⟩,
    fun hd hh ht => next ((State.wdtHalf_due hd.1 hd.2 hh ht).trans (ite_not ..)),
    fun hc hx ht => next_if_pos ⟨hc, hx, ht⟩⟩

end Sys2Proof.Machine

namespace Sys2Proof.Machine

/-! ### Shared: what raising a source and recording an event leave (R340, R341, R466) -/

theorem Field.key_ne_of_off {f g : Field} {b b' : Blk} (h : f.off ≠ g.off) : f.key b ≠ g.key b' := fun e => by
  injection e with _ ho
  exact h ho

theorem Field.key_ne_of_blk {f g : Field} {b b' : Blk} (h : b ≠ b') : f.key b ≠ g.key b' := fun e => by
  injection e with hb
  exact h hb

section
variable {s : State}

@[simp] theorem State.canOf_raiseCrown (n c : Nat) : (s.raiseCrown n).canOf c = s.canOf c := by
  rw [State.raiseCrown_only]
  rfl

@[simp] theorem State.canOf_offer (code : Nat) (n : Node) (l : List Nat) (c : Nat) : (s.offer code n l).canOf c = s.canOf c := by
  rw [State.offer_only]
  rfl

end

/-! ### The CAN FD controllers (R415 to R427) -/

section
variable {s : State} {c : Nat}

/-! #### Error counts and the error state (R422) -/

@[simp] theorem State.canOf_setErrst (e k : Nat) : (s.setErrst c e).canOf k = s.canOf k := by
  simp only [State.setErrst]
  split
  · rfl
  · split
    · simp
    · split <;> simp

theorem State.rd_setErrst_errst {e : Nat} (he : e < 4) : (s.setErrst c e).rd (.can c) CAN_STAT_ERRST = e := by
  have set : ((s.wr (.can c) CAN_STAT_ERRST e).raiseCrown (122 + 8 * c)).rd (.can c) CAN_STAT_ERRST = e := by
    rw [State.rd_raiseCrown _ _ _ _ (by nofun) (by nofun), State.rd_wr_same]
    exact Nat.mod_eq_of_lt he
  simp only [State.setErrst]
  split
  · assumption
  · split
    · rw [State.rd_offer _ _ _ _ _ _ (by nofun), set]
    · split
      · rw [State.rd_offer _ _ _ _ _ _ (by nofun), set]
      · exact set

/-- A change of the error state leaves every other register but those of the interrupt controller, the host port and the recorder. -/
theorem State.rd_setErrst {b : Blk} {f : Field} (h : f.key b ≠ CAN_STAT_ERRST.key (.can c)) (hi : b ≠ .irqCrown) (hh : b ≠ .host)
    (he : b ≠ .evr) (e : Nat) : (s.setErrst c e).rd b f = s.rd b f := by
  have set : ((s.wr (.can c) CAN_STAT_ERRST e).raiseCrown (122 + 8 * c)).rd b f = s.rd b f := by
    rw [State.rd_raiseCrown _ _ _ _ hi hh, State.rd_wr_ne _ _ h]
  simp only [State.setErrst]
  split
  · rfl
  · split
    · rw [State.rd_offer _ _ _ _ _ _ he, set]
    · split
      · rw [State.rd_offer _ _ _ _ _ _ he, set]
      · exact set

theorem errState_lt (tec rec_ : Nat) : errState tec rec_ < 4 := by
  simp only [errState]
  split
  · decide
  · split <;> decide

section
variable {tec rec_ : Nat}

@[simp] theorem State.canOf_setCounts (k : Nat) : (s.setCounts c tec rec_).canOf k = s.canOf k := by
  rw [State.setCounts, State.canOf_setErrst]
  rfl

theorem State.rd_setCounts_errst : (s.setCounts c tec rec_).rd (.can c) CAN_STAT_ERRST = errState tec rec_ :=
  State.rd_setErrst_errst (errState_lt ..)

theorem State.rd_setCounts_tec : (s.setCounts c tec rec_).rd (.can c) CAN_ERRCNT_TEC = min tec 255 := by
  rw [State.setCounts, State.rd_setErrst (Field.key_ne_of_off (by decide)) (by nofun) (by nofun) (by nofun), State.rd_wr_lo _ _ (by decide),
    State.rd_wr_same]
  exact Nat.mod_eq_of_lt (by dsimp only; omega)

theorem State.rd_setCounts_rec : (s.setCounts c tec rec_).rd (.can c) CAN_ERRCNT_REC = min rec_ 255 := by
  rw [State.setCounts, State.rd_setErrst (Field.key_ne_of_off (by decide)) (by nofun) (by nofun) (by nofun), State.rd_wr_same]
  exact Nat.mod_eq_of_lt (by dsimp only; omega)

theorem State.rd_setCounts_lasterr : (s.setCounts c tec rec_).rd (.can c) CAN_ERRCNT_LASTERR = s.rd (.can c) CAN_ERRCNT_LASTERR := by
  rw [State.setCounts, State.rd_setErrst (Field.key_ne_of_off (by decide)) (by nofun) (by nofun) (by nofun), State.rd_wr_lo _ _ (by decide),
    State.rd_wr_lo _ _ (by decide)]

theorem State.rd_setCounts_nomatch : (s.setCounts c tec rec_).rd (.can c) CAN_NOMATCH_COUNT = s.rd (.can c) CAN_NOMATCH_COUNT := by
  rw [State.setCounts, State.rd_setErrst (Field.key_ne_of_off (by decide)) (by nofun) (by nofun) (by nofun), State.rd_wr_off _ _ (by decide),
    State.rd_wr_off _ _ (by decide)]

theorem State.rd_setCounts_hsb (f : Field) : (s.setCounts c tec rec_).rd .hsb f = s.rd .hsb f := by
  rw [State.setCounts, State.rd_setErrst (Field.key_ne_of_blk (by nofun)) (by nofun) (by nofun) (by nofun), State.rd_wr_blk _ _ _ _ (by nofun),
    State.rd_wr_blk _ _ _ _ (by nofun)]

end

/-! #### Message objects -/

@[simp] theorem State.canObj_setCanObj_same (o : Nat) (x : CanObj) : (s.setCanObj c o x).canObj c o = x := by
  rw [State.canObj, State.setCanObj, State.canOf_setCan_same]
  exact Tab.get_set_same ..

theorem State.canObj_of_canOf {t : State} (h : t.canOf c = s.canOf c) (o : Nat) : t.canObj c o = s.canObj c o := by
  rw [State.canObj, State.canObj, h]

theorem State.canMatch_of_canOf {t : State} (h : t.canOf c = s.canOf c) (f : CanFrame) : t.canMatch c f = s.canMatch c f := by
  simp only [State.canMatch, State.canObj_of_canOf h]

theorem State.isPeerHeartbeat_of {t : State} (h : t.canOf c = s.canOf c) (hr : ∀ f, t.rd .hsb f = s.rd .hsb f) (f : CanFrame) :
    t.isPeerHeartbeat c f = s.isPeerHeartbeat c f := by
  simp only [State.isPeerHeartbeat, State.isHeartbeatObj, State.is, State.canObj_of_canOf h, hr]

/-! #### Joining and leaving the bus (R416, R422) -/

/-- The state with the written bits of CAN_CTRL. -/
def State.canCtrlSet (s : State) (c w : Nat) : State :=
  ((s.wr (.can c) CAN_CTRL_LISTEN (CAN_CTRL_LISTEN.of w)).wr (.can c) CAN_CTRL_FDEN (CAN_CTRL_FDEN.of w)).wr (.can c) CAN_CTRL_EN
    (CAN_CTRL_EN.of w)

/-- Stopping the frames that have begun changes no register. -/
theorem State.rd_canStop (l : List Nat) (b : Blk) (f : Field) : (s.each l fun u o =>
    if (u.canObj c o).begun then u.setCanObj c o { u.canObj c o with begun := false } else u).rd b f = s.rd b f := by
  refine State.rd_each _ _ _ _ (fun t o => ?_) s
  split <;> rfl

theorem State.canCtrl_stays {w : Nat} (h : ¬ (CAN_CTRL_EN.of w = 0 ∧ s.is (.can c) CAN_CTRL_EN = true)) :
    s.canCtrl c w = s.canCtrlSet c w := if_neg h

theorem State.canCtrl_leaves {w : Nat} (h : CAN_CTRL_EN.of w = 0 ∧ s.is (.can c) CAN_CTRL_EN = true) : s.canCtrl c w =
    ((s.canCtrlSet c w).each canObjNums fun u o =>
      if (u.canObj c o).begun then u.setCanObj c o { u.canObj c o with begun := false } else u).setErrst c 3 := if_pos h

theorem State.rd_canCtrl {w : Nat} {f : Field} (h : f.off ≠ 4) : (s.canCtrl c w).rd (.can c) f = (s.canCtrlSet c w).rd (.can c) f := by
  by_cases hl : CAN_CTRL_EN.of w = 0 ∧ s.is (.can c) CAN_CTRL_EN = true
  · rw [State.canCtrl_leaves hl, State.rd_setErrst (Field.key_ne_of_off h) (by nofun) (by nofun) (by nofun), State.rd_canStop]
  · rw [State.canCtrl_stays hl]

theorem CAN_CTRL_of (w : Nat) :
    CAN_CTRL_EN.of w = w % 2 ∧ CAN_CTRL_LISTEN.of w = w / 2 % 2 ∧ CAN_CTRL_FDEN.of w = w / 4 % 2 := by
  simp [Field.of, bits]

theorem State.rd_canCtrlSet (w : Nat) : (s.canCtrlSet c w).rd (.can c) CAN_CTRL_EN = w % 2 ∧
    (s.canCtrlSet c w).rd (.can c) CAN_CTRL_LISTEN = w / 2 % 2 ∧ (s.canCtrlSet c w).rd (.can c) CAN_CTRL_FDEN = w / 4 % 2 := by
  obtain ⟨he, hl, hf⟩ := CAN_CTRL_of w
  refine ⟨?_, ?_, ?_⟩
  · rw [State.canCtrlSet, State.rd_wr_same, he]
    exact Nat.mod_mod ..
  · rw [State.canCtrlSet, State.rd_wr_lo _ _ (by decide), State.rd_wr_lo _ _ (by decide), State.rd_wr_same, hl]
    exact Nat.mod_mod ..
  · rw [State.canCtrlSet, State.rd_wr_lo _ _ (by decide), State.rd_wr_same, hf]
    exact Nat.mod_mod ..

/-- A controller that has integrated, or recovered, is error active with its counts at 0 (R422). -/
theorem State.setCounts_active : (s.setCounts c 0 0).rd (.can c) CAN_STAT_ERRST = 0 ∧ (s.setCounts c 0 0).rd (.can c) CAN_ERRCNT_TEC = 0 ∧
    (s.setCounts c 0 0).rd (.can c) CAN_ERRCNT_REC = 0 :=
  ⟨State.rd_setCounts_errst, State.rd_setCounts_tec, State.rd_setCounts_rec⟩

/-! #### A valid frame (R417, R418, R425) -/

/-- The state in which a valid frame has lowered the receive count (R422). -/
def State.canHeard (s : State) (c : Nat) : State :=
  if 127 < s.rd (.can c) CAN_ERRCNT_REC then
    s.freeNat.2.setCounts c (s.rd (.can c) CAN_ERRCNT_TEC) (119 + s.freeNat.1 % 9)
  else s.setCounts c (s.rd (.can c) CAN_ERRCNT_TEC) (s.rd (.can c) CAN_ERRCNT_REC - 1)

theorem State.canHeard_eq : ∃ n r, s.canHeard c = { s with free := n }.setCounts c (s.rd (.can c) CAN_ERRCNT_TEC) r := by
  rw [State.canHeard]
  split
  · exact ⟨_, _, rfl⟩
  · exact ⟨s.free, _, rfl⟩

theorem State.canOf_canHeard : (s.canHeard c).canOf c = s.canOf c := by
  obtain ⟨n, r, e⟩ := s.canHeard_eq (c := c)
  rw [e, State.canOf_setCounts]
  rfl

theorem State.rd_canHeard_nomatch : (s.canHeard c).rd (.can c) CAN_NOMATCH_COUNT = s.rd (.can c) CAN_NOMATCH_COUNT := by
  obtain ⟨n, r, e⟩ := s.canHeard_eq (c := c)
  rw [e, State.rd_setCounts_nomatch]
  rfl

theorem State.isPeerHeartbeat_canHeard (f : CanFrame) : (s.canHeard c).isPeerHeartbeat c f = s.isPeerHeartbeat c f := by
  refine State.isPeerHeartbeat_of State.canOf_canHeard (fun g => ?_) f
  obtain ⟨n, r, e⟩ := s.canHeard_eq (c := c)
  rw [e, State.rd_setCounts_hsb]
  rfl

/-- A frame goes to the object chosen for it, or is counted. -/
def State.canTaken (s : State) (c : Nat) (f : CanFrame) : Option Nat → State
  | some o => (s.setCanObj c o ((s.canObj c o).take f)).raiseCrown (120 + 8 * c)
  | none => s.bump (.can c) CAN_NOMATCH_COUNT

section
variable {f : CanFrame} (hr : f.remote = false) (hp : s.isPeerHeartbeat c f = false)
include hr hp

theorem State.canFrameRx_eq : s.canFrameRx c f = (s.canHeard c).canTaken c f (s.canMatch c f) := by
  rw [← State.canMatch_of_canOf State.canOf_canHeard]
  rw [← State.isPeerHeartbeat_canHeard] at hp
  exact (if_neg (Bool.eq_false_iff.mp hr)).trans (if_neg (Bool.eq_false_iff.mp hp))

end

theorem exec_canFrameRx {f : CanFrame} (hl : s.canLive c = true) (hf : s.is (.can c) CAN_CTRL_FDEN = true ∨ f.fdf = false) :
    exec (.canFrameRx c f) s = .next (s.canFrameRx c f) :=
  next_if_pos (by rcases hf with h | h <;> simp [hl, h])

end

/-- Settles O30: what leaves the bus and what joins it sets the error state (`State.rd_setErrst_errst`, `State.setCounts_active`), the
counts set it too (`State.rd_setCounts_errst`), and a valid frame finds its object before and after the counts alike
(`State.canFrameRx_eq`). -/
theorem canReception : Obligations.CanReception := by
  unfold Obligations.CanReception
  intro s c w kind o f eight b tec rec_ n taken active hc
  obtain ⟨en, listen, fden⟩ := State.rd_canCtrlSet (s := s) (c := c) w
  refine ⟨⟨_, next_if_pos hc, ?_, ?_, ?_, fun h0 he => ?_⟩, fun he h3 => ⟨_, next_if_pos ⟨hc, he, h3⟩, State.setCounts_active⟩,
    fun he h2 => ⟨_, next_if_pos ⟨hc, he, h2⟩, State.setCounts_active⟩, fun ⟨hl, hf, hr, hp⟩ hm => ?_,
    fun ⟨hl, hf, hr, hp⟩ hm => ?_, fun hl => ⟨_, next_if_pos hl, ?_, State.rd_setCounts_tec, State.rd_setCounts_rec,
      State.rd_setCounts_errst⟩, next_if_pos hc⟩
  · rw [State.rd_canCtrl (by decide), en]
  · rw [State.rd_canCtrl (by decide), listen]
  · rw [State.rd_canCtrl (by decide), fden]
  · rw [State.canCtrl_leaves ⟨(CAN_CTRL_of w).1.trans h0, he⟩]
    exact State.rd_setErrst_errst (by decide)
  · refine ⟨_, exec_canFrameRx hl hf, ?_⟩
    rw [State.canFrameRx_eq hr hp, hm, State.canTaken, State.canObj_of_canOf (State.canOf_raiseCrown ..), State.canObj_setCanObj_same,
      State.canObj_of_canOf State.canOf_canHeard]
  · refine ⟨_, exec_canFrameRx hl hf, ?_⟩
    rw [State.canFrameRx_eq hr hp, hm, State.canTaken]
    refine ⟨State.canOf_canHeard, ?_⟩
    rw [State.bump, State.rd_wr_same, State.rd_canHeard_nomatch]
  · rw [State.rd_setCounts_lasterr, State.rd_wr_same]
    rfl

end Sys2Proof.Machine

namespace Sys2Proof.Machine

/-! ### CAN arbitration (R419) -/

section
variable {s : State} {c : Nat}

/-- Of the object chosen so far and the next one, the one to start. -/
def State.canBetter (s : State) (c : Nat) (b : Option Nat) (o : Nat) : Option Nat :=
  if s.canReady c o then
    match b with
    | none => some o
    | some p => if s.arbKey c o < s.arbKey c p then some o else some p
  else b

theorem State.canChoice_eq : s.canChoice c = canObjNums.foldl (s.canBetter c) none := rfl

/-- Object `o` wins against every object below `n` that may be sent. -/
def State.canWins (s : State) (c n o : Nat) : Prop :=
  o < n ∧ s.canReady c o = true ∧
    ∀ p < n, s.canReady c p = true → s.arbKey c o < s.arbKey c p ∨ (s.arbKey c o = s.arbKey c p ∧ o ≤ p)

/-- What the choice among the objects below `n` says: its winner, or that none may be sent. -/
def State.canChosen (s : State) (c n : Nat) : Option Nat → Prop
  | some o => s.canWins c n o
  | none => ∀ p < n, s.canReady c p = false

theorem State.canWins_keeps {n o : Nat} (h : s.canWins c n o)
    (hn : s.canReady c n = true → s.arbKey c o ≤ s.arbKey c n) : s.canWins c (n + 1) o := by
  obtain ⟨ho, hr, hw⟩ := h
  refine ⟨by omega, hr, fun p hp hpr => ?_⟩
  obtain hp | rfl := Nat.lt_succ_iff_lt_or_eq.mp hp
  · exact hw p hp hpr
  · have := hn hpr
    omega

theorem State.canWins_new {n : Nat} (hr : s.canReady c n = true) (h : ∀ p < n, s.canReady c p = true → s.arbKey c n < s.arbKey c p) :
    s.canWins c (n + 1) n := by
  refine ⟨by omega, hr, fun p hp hpr => ?_⟩
  obtain hp | rfl := Nat.lt_succ_iff_lt_or_eq.mp hp
  · exact .inl (h p hp hpr)
  · exact .inr ⟨rfl, le_rfl⟩

theorem State.canChosen_better {n : Nat} {b : Option Nat} (h : s.canChosen c n b) : s.canChosen c (n + 1) (s.canBetter c b n) := by
  unfold State.canBetter
  by_cases hr : s.canReady c n = true
  · rw [if_pos hr]
    match b, h with
    | none, h => exact State.canWins_new hr fun p hp hpr => absurd hpr (by simp [h p hp])
    | some o, h =>
      obtain ⟨ho, hor, hw⟩ := h
      by_cases hk : s.arbKey c n < s.arbKey c o
      · simp only [if_pos hk]
        exact State.canWins_new hr fun p hp hpr => by have := hw p hp hpr; omega
      · simp only [if_neg hk]
        exact State.canWins_keeps ⟨ho, hor, hw⟩ fun _ => by omega
  · rw [if_neg hr]
    match b, h with
    | none, h =>
      intro p hp
      obtain hp | rfl := Nat.lt_succ_iff_lt_or_eq.mp hp
      · exact h p hp
      · exact Bool.eq_false_iff.mpr hr
    | some o, h => exact State.canWins_keeps h fun hn => absurd hn hr

theorem State.canChosen_range (n : Nat) : s.canChosen c n ((List.range n).foldl (s.canBetter c) none) := by
  induction n with
  | zero => exact fun p hp => absurd hp (Nat.not_lt_zero p)
  | succ n ih =>
    rw [List.range_succ, List.foldl_append]
    exact State.canChosen_better ih

end

/-- Settles O32: by induction on the objects looked at, the object chosen so far wins against those that may be sent
(`State.canChosen_range`). -/
theorem canArbitration : Obligations.CanArbitration := by
  unfold Obligations.CanArbitration
  intro s c o h
  have chosen := State.canChosen_range (s := s) (c := c) 128
  have found : (List.range 128).foldl (s.canBetter c) none = some o := h
  rwa [found] at chosen

/-! ### Steps of the machine -/

/-- Settles O57: a step looks at the front of the queue. -/
theorem stepRunsTheCommand : Obligations.StepRunsTheCommand := by
  unfold Obligations.StepRunsTheCommand
  exact ⟨fun c cs s => rfl, fun s => rfl⟩

end Sys2Proof.Machine

namespace Sys2Proof.Machine

/-! ### CAN transmission (R415, R418 to R422, R426) -/

section
variable {s : State} {c : Nat}

theorem State.canBegun_none (h : s.canBegun c = none) : (canObjNums.any fun o => (s.canObj c o).begun) = false := by
  rw [State.canBegun, List.find?_eq_none] at h
  exact List.any_eq_false.mpr h

@[simp] theorem State.canBuf_setCanObj (o : Nat) (x : CanObj) : ((s.setCanObj c o x).canOf c).buf = (s.canOf c).buf := by
  rw [State.setCanObj, State.canOf_setCan_same]

/-- The frame of the best pending object begins (R418, R419). -/
theorem exec_canTxStart {o : Nat} (hl : s.canLive c = true) (hp : s.portsUp = true) (hn : s.is (.can c) CAN_CTRL_LISTEN = false)
    (hb : s.canBegun c = none) (ho : s.canChoice c = some o) : exec (.canTxStart c) s =
      .next ((s.setCanObj c o { s.canObj c o with begun := true, sofTs := s.canTsc }).emit (s.canFrameOf c o)) := by
  show execCanTxStart c s = _
  rw [execCanTxStart, ho]
  exact next_if_pos (by rw [hl, hp, hn, State.canBegun_none hb]; rfl)

section
variable {o : Nat} (hc : c < 4) (hb : s.canBegun c = some o)
include hc hb

/-- The state in which the frame of object `o` has been sent and its request is over. -/
theorem exec_canTxDone : exec (.canTxDone c) s = .next ((((s.setCanObj c o { (s.canObj c o).endAttempt with
    txreq := false, result := 1, ts := (s.canObj c o).sofTs })).setCounts c (s.rd (.can c) CAN_ERRCNT_TEC - 1)
      (s.rd (.can c) CAN_ERRCNT_REC)).raiseCrown (121 + 8 * c)) := by
  show execCanTxDone c s = _
  rw [execCanTxDone, hb]
  exact next_if_pos hc

theorem exec_canTxRetry (kind : Nat) (noInc : Bool) : exec (.canTxRetry c kind noInc) s =
    .next (if kind = 0 then s.setCanObj c o (s.canObj c o).endAttempt else
      ((s.setCanObj c o (s.canObj c o).endAttempt).wr (.can c) CAN_ERRCNT_LASTERR kind).setCounts c
        (s.rd (.can c) CAN_ERRCNT_TEC + if noInc then 0 else 8) (s.rd (.can c) CAN_ERRCNT_REC)) := by
  show execCanTxRetry c kind noInc s = _
  rw [execCanTxRetry, hb]
  exact next_if_pos hc

end

theorem CanObj.endAttempt_begun (x : CanObj) : x.endAttempt.begun = false := by
  unfold CanObj.endAttempt
  split <;> rfl

theorem CanObj.endAttempt_txreq (x : CanObj) : x.endAttempt.txreq = x.txreq := by
  unfold CanObj.endAttempt
  split <;> rfl

theorem CanObj.endAttempt_data {x : CanObj} (h : x.heldWrite = none) : x.endAttempt.data = x.data := by
  rw [CanObj.endAttempt, h]

theorem State.canSelect_obj {o : Nat} (ho : o < 2 ^ 7) : (s.canSelect c o).rd (.can c) CAN_OBJSEL_OBJ = o :=
  (s.rd_wr_same (.can c) CAN_OBJSEL_OBJ o).trans (Nat.mod_eq_of_lt ho)

theorem State.canSelect_buf (o : Nat) : ((s.canSelect c o).canOf c).buf = s.canObj c o := by
  rw [State.canSelect, State.canBuf_setCanObj, State.canOf_setCan_same]

/-! #### The commands of the buffer (R417, R420, R421, R426) -/

theorem State.canWrite_free (hf : s.canClash c (s.canSel c) (s.canOf c).buf = false) : s.canWrite c =
    if (s.canObj c (s.canSel c)).begun then
      s.setCanObj c (s.canSel c) { s.canObj c (s.canSel c) with heldWrite := some (s.canOf c).buf.pack }
    else s.setCanObj c (s.canSel c) ((s.canObj c (s.canSel c)).write (s.canOf c).buf) := by
  simp only [State.canWrite, hf, Bool.false_eq_true, if_false]

theorem State.canWrite_clash (hf : s.canClash c (s.canSel c) (s.canOf c).buf = true) (hb : (s.canObj c (s.canSel c)).begun = false) :
    s.canWrite c = (s.wr (.can c) CAN_STAT_CFGERR 1).setCanObj c (s.canSel c)
      { (s.canObj c (s.canSel c)).write (s.canOf c).buf with en := false } := by
  have hb' : ((s.wr (.can c) CAN_STAT_CFGERR 1).canObj c (s.canSel c)).begun = false := hb
  simp only [State.canWrite, hf, if_true, hb', Bool.false_eq_true, if_false]
  rfl

end

/-- Settles O31: a frame begins (`exec_canTxStart`), is sent (`exec_canTxDone`) or tried again (`exec_canTxRetry`), and the commands act
on the selected object (`State.canWrite_free`, `State.canWrite_clash`). -/
theorem canTransmission : Obligations.CanTransmission := by
  unfold Obligations.CanTransmission
  intro s c o kind p noInc b tec rec_ x fd n y buf put hc
  refine ⟨fun hl hp hn hb ho => exec_canTxStart hl hp hn hb ho, rfl, fun hb => ⟨_, exec_canTxDone hc hb, ?_, ?_⟩,
    fun hb => exec_canTxRetry hc hb 0 noInc, fun hb hk => ⟨_, (exec_canTxRetry hc hb kind noInc).trans (next_if_neg hk), ?_, ?_,
      State.rd_setCounts_tec, State.rd_setCounts_errst⟩,
    fun _ => ⟨CanObj.endAttempt_begun x, CanObj.endAttempt_txreq x, CanObj.endAttempt_data⟩,
    ⟨_, next_if_pos hc, State.canSelect_obj (Nat.mod_lt _ (by decide)), State.canSelect_buf _, State.canObj_setCanObj_same ..⟩,
    fun hf hb => ?_, fun hf hb => ?_, fun hf hb => ⟨_, (next_if_pos hc).trans (congrArg Host.Outcome.next (State.canWrite_clash hf hb)), ?_,
      State.canObj_setCanObj_same ..⟩, ?_, ?_⟩
  · rw [State.canObj_of_canOf (State.canOf_raiseCrown ..), State.canObj_of_canOf (State.canOf_setCounts _), State.canObj_setCanObj_same]
  · rw [State.rd_raiseCrown _ _ _ _ (by nofun) (by nofun), State.rd_setCounts_tec]
  · rw [State.canObj_of_canOf (State.canOf_setCounts _), State.canObj_of_canOf (State.canOf_wr ..), State.canObj_setCanObj_same]
  · rw [State.rd_setCounts_lasterr, State.rd_wr_same]
    rfl
  · exact (next_if_pos hc).trans (congrArg Host.Outcome.next ((State.canWrite_free hf).trans (if_neg (Bool.eq_false_iff.mp hb))))
  · exact (next_if_pos hc).trans (congrArg Host.Outcome.next ((State.canWrite_free hf).trans (if_pos hb)))
  · exact s.rd_wr_same (.can c) CAN_STAT_CFGERR 1
  · exact (next_if_pos hc).trans (apply_ite Host.Outcome.next ..)
  · refine (next_if_pos hc).trans ((apply_ite Host.Outcome.next ..).trans ?_)
    exact congrArg (ite _ _) (apply_ite Host.Outcome.next ..)

end Sys2Proof.Machine

namespace Sys2Proof.Machine

/-! ### The real-time clock (R428 to R435) -/

section
variable {s : State}

@[simp] theorem State.raiseCrown_rtc (n : Nat) : (s.raiseCrown n).rtc = s.rtc := by rw [State.raiseCrown_only]

/-! #### Loads and shifts (R430, R431) -/

theorem State.rtcMove_time (v : Nat) : (s.rtcMove v).time = v % 2 ^ 64 := by rw [State.rtcMove, rtcMod]

/-- Fields do not depend on the clock's own state. -/
theorem State.rd_withRtc (r : Rtc) (b : Blk) (f : Field) : State.rd { s with rtc := r } b f = s.rd b f := rfl

/-- The registers of a load: the request and a shift end, and the time is valid (R430). -/
def State.rtcLoaded (s : State) : State :=
  s.wrs .rtc [(RTC_CTRL_SET, 0), (RTC_SHIFT_UNITS, 0), (RTC_STAT_SHBUSY, 0), (RTC_STAT_VALID, 1), (RTC_STAT_RETLATCH, 0)]

/-- The time that a load gives the clock (R430). -/
def State.rtcSetTime (s : State) : Nat :=
  (s.rd .rtc RTC_SETFRAC_FRAC + s.rd .rtc RTC_SETSEC_LO_SEC * 2 ^ 16 + s.rd .rtc RTC_SETSEC_HI_SEC * 2 ^ 48) / 2 * 2

theorem State.rtcLoad_asked (h : s.rd .rtc RTC_CTRL_SET ≠ 0) :
    s.rtcLoad = { s.rtcLoaded with rtc := s.rtcMove s.rtcSetTime } :=
  if_pos (State.is_eq_true h)

theorem State.rd_rtcLoaded : s.rtcLoaded.rd .rtc RTC_CTRL_SET = 0 ∧ s.rtcLoaded.rd .rtc RTC_SHIFT_UNITS = 0 ∧
    s.rtcLoaded.rd .rtc RTC_STAT_SHBUSY = 0 ∧ s.rtcLoaded.rd .rtc RTC_STAT_VALID = 1 ∧ s.rtcLoaded.rd .rtc RTC_STAT_RETLATCH = 0 := by
  simp only [State.rtcLoaded, State.wrs, State.each]
  refine ⟨?_, ?_, ?_, ?_, State.rd_wr_same ..⟩
  · rw [State.rd_wr_off _ _ (by decide), State.rd_wr_off _ _ (by decide), State.rd_wr_off _ _ (by decide),
      State.rd_wr_off _ _ (by decide)]
    exact State.rd_wr_same ..
  · rw [State.rd_wr_off _ _ (by decide), State.rd_wr_off _ _ (by decide), State.rd_wr_off _ _ (by decide)]
    exact State.rd_wr_same ..
  · rw [State.rd_wr_lo _ _ (by decide), State.rd_wr_lo _ _ (by decide)]
    exact State.rd_wr_same ..
  · rw [State.rd_wr_lo _ _ (by decide)]
    exact State.rd_wr_same ..

theorem State.rtcLoad_time (h : s.rd .rtc RTC_CTRL_SET ≠ 0) : s.rtcLoad.rtc.time = s.rtcSetTime % 2 ^ 64 := by
  rw [State.rtcLoad_asked h]
  exact State.rtcMove_time _

theorem State.rd_rtcLoad (h : s.rd .rtc RTC_CTRL_SET ≠ 0) (f : Field) : s.rtcLoad.rd .rtc f = s.rtcLoaded.rd .rtc f := by
  rw [State.rtcLoad_asked h, State.rd_withRtc]

theorem State.rtcShift_starts {w : Nat} (hb : s.is .rtc RTC_STAT_SHBUSY = false) (hw : w % 2 ^ 16 ≠ 0) :
    s.rtcShift w = (s.wr .rtc RTC_SHIFT_UNITS (w % 2 ^ 16)).wr .rtc RTC_STAT_SHBUSY 1 := by
  have units : RTC_SHIFT_UNITS.of w = w % 2 ^ 16 := by simp [Field.of, bits]
  rw [State.rtcShift, units, if_neg (not_or.mpr ⟨Bool.eq_false_iff.mp hb, hw⟩)]

theorem State.rtcShift_ignored {w : Nat} (h : s.is .rtc RTC_STAT_SHBUSY = true ∨ w % 2 ^ 16 = 0) : s.rtcShift w = s := by
  have units : RTC_SHIFT_UNITS.of w = w % 2 ^ 16 := by simp [Field.of, bits]
  rw [State.rtcShift, units, if_pos h]

/-- The registers of a shift's last tick (R431). -/
def State.rtcShiftEnded (s : State) : State := (s.wr .rtc RTC_SHIFT_UNITS 0).wr .rtc RTC_STAT_SHBUSY 0

theorem State.rd_rtcShiftEnded :
    s.rtcShiftEnded.rd .rtc RTC_SHIFT_UNITS = 0 ∧ s.rtcShiftEnded.rd .rtc RTC_STAT_SHBUSY = 0 := by
  rw [State.rtcShiftEnded, State.rd_wr_same, State.rd_wr_off _ _ (by decide), State.rd_wr_same]
  exact ⟨rfl, rfl⟩

theorem State.rtcTick_last {n : Nat} (hb : s.is .rtc RTC_STAT_SHBUSY = true)
    (hu : (s.rtcUnits = 1 ∧ n = 3) ∨ (s.rtcUnits = -1 ∧ n = 1)) :
    s.rtcTick = { s.rtcShiftEnded with rtc := s.rtcMove ((s.rtc.time + n) / 2 * 2) } := by
  have ended : s.rtcShiftEnded.is .rtc RTC_STAT_SHBUSY = false := State.is_eq_false (State.rd_wr_same ..)
  obtain ⟨hu, rfl⟩ | ⟨hu, rfl⟩ := hu
  · simp only [State.rtcTick, hb, hu, if_true]
    show { s.rtcShiftEnded with
      rtc := s.rtcMove (if s.rtcShiftEnded.is .rtc RTC_STAT_SHBUSY then s.rtc.time + 3 else (s.rtc.time + 3) / 2 * 2) } = _
    rw [ended]
    rfl
  · simp only [State.rtcTick, hb, hu, if_true]
    show { s.rtcShiftEnded with
      rtc := s.rtcMove (if s.rtcShiftEnded.is .rtc RTC_STAT_SHBUSY then s.rtc.time + 1 else (s.rtc.time + 1) / 2 * 2) } = _
    rw [ended]
    rfl

theorem State.rtcTick_time {n : Nat} (hb : s.is .rtc RTC_STAT_SHBUSY = true)
    (hu : (s.rtcUnits = 1 ∧ n = 3) ∨ (s.rtcUnits = -1 ∧ n = 1)) : s.rtcTick.rtc.time = (s.rtc.time + n) / 2 * 2 % 2 ^ 64 := by
  rw [State.rtcTick_last hb hu]
  exact State.rtcMove_time _

theorem State.rd_rtcTick {n : Nat} (hb : s.is .rtc RTC_STAT_SHBUSY = true)
    (hu : (s.rtcUnits = 1 ∧ n = 3) ∨ (s.rtcUnits = -1 ∧ n = 1)) (f : Field) :
    s.rtcTick.rd .rtc f = s.rtcShiftEnded.rd .rtc f := by
  rw [State.rtcTick_last hb hu, State.rd_withRtc]

theorem State.rtcUnits_last (h : s.rd .rtc RTC_SHIFT_UNITS = 1 ∨ s.rd .rtc RTC_SHIFT_UNITS = 0xFFFF) :
    (s.rtcUnits = 1 ∧ (if s.rd .rtc RTC_SHIFT_UNITS = 1 then 3 else 1) = 3) ∨
      (s.rtcUnits = -1 ∧ (if s.rd .rtc RTC_SHIFT_UNITS = 1 then 3 else 1) = 1) := by
  rw [State.rtcUnits]
  rcases h with h | h <;> rw [h] <;> decide

theorem exec_rtcShiftDone (hb : s.is .rtc RTC_STAT_SHBUSY = true) (hu : s.rtcUnits = 1 ∨ s.rtcUnits = -1) :
    exec .rtcShiftDone s = .next s.rtcTick :=
  next_if_pos ⟨hb, by rcases hu with h | h <;> rw [h] <;> rfl⟩

/-! #### Alarms (R432, R433) -/

section
variable {k : Nat}

/-- An exact alarm fires: it shows FIRED, its EN clears, and lateness is shown and recorded (R432, R433). -/
def State.almFiredExact (s : State) (k : Nat) : State :=
  let t := (s.wr .rtc (ALM_CTRL_FIRED k) 1).wr .rtc (ALM_CTRL_EN k) 0
  (if s.rtc.late k then
    ({ t with rtc := t.rtc.setLate k false }.wr .rtc (ALM_CTRL_LATE k) 1).offer Ev.ALM_LATE .field [k] else t).raiseCrown (115 + k)

/-- A masked alarm fires: it shows FIRED, and its match has begun (R432). -/
def State.almFiredMasked (s : State) (k : Nat) : State :=
  { s.wr .rtc (ALM_CTRL_FIRED k) 1 with rtc := s.rtc.setPrev k true }.raiseCrown (115 + k)

theorem State.rd_almFiredExact : (s.almFiredExact k).rd .rtc (ALM_CTRL_FIRED k) = 1 ∧ (s.almFiredExact k).rd .rtc (ALM_CTRL_EN k) = 0 ∧
    (s.almFiredExact k).rd .rtc (ALM_CTRL_LATE k) = if s.rtc.late k then 1 else s.rd .rtc (ALM_CTRL_LATE k) := by
  have fired : ((s.wr .rtc (ALM_CTRL_FIRED k) 1).wr .rtc (ALM_CTRL_EN k) 0).rd .rtc (ALM_CTRL_FIRED k) = 1 := by
    rw [State.rd_wr_lo _ _ (by simp), State.rd_wr_same]
    rfl
  have off : ((s.wr .rtc (ALM_CTRL_FIRED k) 1).wr .rtc (ALM_CTRL_EN k) 0).rd .rtc (ALM_CTRL_EN k) = 0 := by
    rw [State.rd_wr_same]
    rfl
  simp only [State.almFiredExact]
  rw [State.rd_raiseCrown _ _ _ _ (by decide) (by decide), State.rd_raiseCrown _ _ _ _ (by decide) (by decide),
    State.rd_raiseCrown _ _ _ _ (by decide) (by decide)]
  by_cases hl : s.rtc.late k = true
  · simp only [if_pos hl]
    rw [State.rd_offer _ _ _ _ _ _ (by decide), State.rd_offer _ _ _ _ _ _ (by decide), State.rd_offer _ _ _ _ _ _ (by decide),
      State.rd_wr_lo _ _ (by simp), State.rd_wr_lo _ _ (by simp)]
    exact ⟨fired, off, State.rd_wr_same ..⟩
  · simp only [if_neg hl]
    refine ⟨fired, off, ?_⟩
    rw [State.rd_wr_lo _ _ (by simp), State.rd_wr_lo _ _ (by simp)]

theorem Rtc.prev_setPrev (r : Rtc) (v : Bool) : (r.setPrev k v).prev k = v := by
  by_cases h : k = 0 <;> simp [Rtc.prev, Rtc.setPrev, h]

theorem State.almFiredMasked_shown : (s.almFiredMasked k).rd .rtc (ALM_CTRL_FIRED k) = 1 ∧
    (s.almFiredMasked k).rd .rtc (ALM_CTRL_EN k) = s.rd .rtc (ALM_CTRL_EN k) ∧ (s.almFiredMasked k).rtc.prev k = true := by
  rw [State.almFiredMasked, State.rd_raiseCrown _ _ _ _ (by decide) (by decide), State.rd_raiseCrown _ _ _ _ (by decide) (by decide),
    State.raiseCrown_rtc]
  exact ⟨s.rd_wr_same .rtc (ALM_CTRL_FIRED k) 1, s.rd_wr_lo (f := ALM_CTRL_FIRED k) (f' := ALM_CTRL_EN k) 1 (by decide : 0 ≠ 1),
    Rtc.prev_setPrev ..⟩

section
variable (hk : k < 2) (he : s.rd .rtc (ALM_CTRL_EN k) ≠ 0) (hf : s.rtc.fresh k = false)
include hk he hf

theorem State.alarmFire_exact (hx : s.almMask k = 0) (ht : s.almVal k ≤ s.rtc.time) : s.alarmFire k =
    if (s.is .rtc (ALM_CTRL_WAKE k) && s.is .wake WAKE_CFG_RTCEN) = true then (s.almFiredExact k).wakeEvent 1
    else s.almFiredExact k := by
  simp only [State.alarmFire, hx, hf, ht, State.is_eq_true he, decide_true, if_true, Bool.not_false, Bool.and_self, Bool.true_and, hk,
    and_self]
  rfl

theorem State.alarmFire_masked (hx : ¬ s.almMask k = 0) (hm : s.almMatch k s.rtc.time = true) (hp : s.rtc.prev k = false) :
    s.alarmFire k =
      if (s.is .rtc (ALM_CTRL_WAKE k) && s.is .wake WAKE_CFG_RTCEN) = true then (s.almFiredMasked k).wakeEvent 1
      else s.almFiredMasked k := by
  simp only [State.alarmFire, hx, hf, hm, hp, State.is_eq_true he, decide_false, Bool.false_eq_true, if_false, Bool.not_false,
    Bool.and_self, Bool.false_and, hk, and_self, if_true]
  rfl

end
end

/-! #### The retention latch (R434) -/

theorem Tab.find_filter {κ α : Type} [DecidableEq κ] (p : κ → Bool) (t : Tab κ α) (k : κ) :
    Tab.find (t.filter fun e => p e.1) k = if p k = true then Tab.find t k else none := by
  induction t with
  | nil => simp [Tab.find]
  | cons e t ih =>
    by_cases hp : p e.1 = true
    · rw [List.filter_cons, if_pos hp, Tab.find, ih, Tab.find]
      by_cases hk : e.1 = k
      · simp [← hk, hp]
      · simp [hk]
    · rw [List.filter_cons, if_neg hp, ih, Tab.find]
      by_cases hk : e.1 = k
      · simp [← hk, hp]
      · simp [hk]

theorem State.rd_filterRegs (p : RegKey → Bool) (b : Blk) (f : Field) :
    State.rd { s with regs := s.regs.filter fun e => p e.1 } b f = if p (f.key b) = true then s.rd b f else f.reset := by
  simp only [State.rd, Tab.get, Tab.find_filter]
  split <;> rfl

theorem State.rd_retentionLatch (b : Blk) (f : Field) : s.retentionLatch.rd b f = if b = .rtc then f.reset else s.rd b f := by
  show State.rd { s with regs := s.regs.filter fun e => decide (e.1.blk ≠ Blk.rtc) } b f = _
  rw [State.rd_filterRegs fun k => decide (k.blk ≠ Blk.rtc)]
  by_cases h : b = .rtc <;> simp [Field.key, h]

end

/-- Settles O33: a load and a shift's last tick set the registers and the time (`State.rtcLoad_asked`, `State.rtcTick_last`), a due alarm
fires (`State.alarmFire_exact`, `State.alarmFire_masked`), and the retention latch filters the block's registers out
(`State.rd_retentionLatch`). -/
theorem realTimeClock : Obligations.RealTimeClock := by
  unfold Obligations.RealTimeClock
  intro s w k mv r busy exact_ woken
  have fires {u : State} (h : s.alarmFire k =
      if (s.is .rtc (ALM_CTRL_WAKE k) && s.is .wake WAKE_CFG_RTCEN) = true then u.wakeEvent 1 else u) :
      exec (.alarmFire k) s = woken u := by
    simp only [Bool.and_eq_true] at h
    exact congrArg Host.Outcome.next h
  refine ⟨rfl, fun h => ⟨s.rtcLoad, rfl, State.rtcLoad_time h, ?_⟩,
    fun hb hw => ⟨_, congrArg Host.Outcome.next (State.rtcShift_starts hb hw), rfl, ?_, State.rd_wr_same ..⟩,
    fun h => congrArg Host.Outcome.next (State.rtcShift_ignored h), fun hb hu => ?_, rfl, rfl,
    fun hk he hf hx ht => ⟨_, fires (State.alarmFire_exact hk he hf hx ht), State.rd_almFiredExact⟩,
    fun hk he hf hx hm hp => ⟨_, fires (State.alarmFire_masked hk he hf hx hm hp), State.almFiredMasked_shown⟩, rfl,
    ⟨_, rfl, rfl, fun f => (State.rd_retentionLatch ..).trans (if_pos rfl),
      fun b f hb => (State.rd_retentionLatch ..).trans (if_neg hb)⟩⟩
  · simp only [State.rd_rtcLoad h]
    exact State.rd_rtcLoaded
  · rw [State.rd_wr_off _ _ (by decide), State.rd_wr_same, Nat.mod_mod]
  · have last := State.rtcUnits_last hu
    refine ⟨s.rtcTick, exec_rtcShiftDone hb (last.imp And.left And.left), State.rtcTick_time hb last, ?_⟩
    rw [State.rd_rtcTick hb last, State.rd_rtcTick hb last]
    exact State.rd_rtcShiftEnded

end Sys2Proof.Machine

namespace Sys2Proof.Machine

/-! ### Package time and lines (R438 to R446) -/

section
variable {s : State}

@[simp] theorem State.raiseCrown_tmb (n : Nat) : (s.raiseCrown n).tmb = s.tmb := by rw [State.raiseCrown_only]
@[simp] theorem State.offer_tmb (code : Nat) (n : Node) (l : List Nat) : (s.offer code n l).tmb = s.tmb := by rw [State.offer_only]

theorem State.rd_withTmb (m : Tmb) (b : Blk) (f : Field) : State.rd { s with tmb := m } b f = s.rd b f := rfl

theorem ofSigned_lt (w : Nat) (i : Int) : ofSigned w i < 2 ^ w := by
  have pos : (0 : Int) < 2 ^ w := by positivity
  have lt := Int.emod_lt_of_pos i pos
  have nonneg := Int.emod_nonneg i pos.ne'
  rw [ofSigned]
  zify
  rwa [Int.toNat_of_nonneg nonneg]

/-! #### Valid and qualified references (R441) -/

theorem State.refQual_congr {t : State} (h : ∀ f ∈ [TMB_STAT_ENCQUAL, TMB_STAT_PTPQUAL], t.rd .tmb f = s.rd .tmb f) (q : Nat) :
    t.refQual q = s.refQual q := by
  rw [State.refQual, State.refQual, State.is, State.is, State.is, State.is, h _ (by simp), h _ (by simp)]

theorem State.refValid_congr {t : State} (h : ∀ f ∈ [TMB_STAT_ENCVAL, TMB_STAT_PTPVAL], t.rd .tmb f = s.rd .tmb f) (q : Nat) :
    t.refValid q = s.refValid q := by
  rw [State.refValid, State.refValid, State.is, State.is, State.is, State.is, h _ (by simp), h _ (by simp)]

/-- Qualification writes the reference's own bit of TMB_STAT. -/
theorem State.rd_setQual {f : Field} (h : f.lo ≠ 9) (h' : f.lo ≠ 11) (r : Nat) (v : Bool) : (s.setQual r v).rd .tmb f = s.rd .tmb f := by
  simp only [State.setQual]
  split
  · exact State.rd_wr_lo _ _ h
  · split
    · exact State.rd_wr_lo _ _ h'
    · rfl

theorem State.refQual_setQual {r : Nat} (hr : r = 1 ∨ r = 2) (v : Bool) (q : Nat) :
    (s.setQual r v).refQual q = if q = r then v else s.refQual q := by
  have bit (v : Bool) : (v.toNat % 2 ^ 1 != 0) = v := by cases v <;> rfl
  obtain rfl | rfl := hr
  · by_cases h2 : q = 2
    · subst h2
      exact congrArg (· != 0) (State.rd_wr_lo _ _ (by decide))
    · by_cases h1 : q = 1
      · subst h1
        exact (congrArg (· != 0) (State.rd_wr_same ..)).trans (bit v)
      · simp [State.refQual, h1, h2]
  · by_cases h2 : q = 2
    · subst h2
      exact (congrArg (· != 0) (State.rd_wr_same ..)).trans (bit v)
    · by_cases h1 : q = 1
      · subst h1
        exact congrArg (· != 0) (State.rd_wr_lo _ _ (by decide))
      · simp [State.refQual, h1, h2]

theorem State.setSince_regs (r t : Nat) : (s.setSince r t).regs = s.regs := by
  simp only [State.setSince]
  split
  · rfl
  · split <;> rfl

@[simp] theorem State.rd_setSince (r t : Nat) (b : Blk) (f : Field) : (s.setSince r t).rd b f = s.rd b f :=
  State.rd_of_regs (State.setSince_regs r t) b f

theorem State.setQual_tmb (r : Nat) (v : Bool) : (s.setQual r v).tmb = s.tmb := by
  simp only [State.setQual]
  split
  · rfl
  · split <;> rfl

/-- A count of the timebase that no switch of the reference touches: the time, its rate, and the next line. -/
def Tmb.steady (m m' : Tmb) : Prop := m.count = m'.count ∧ m.rate = m'.rate ∧ m.nextF = m'.nextF

theorem State.setSince_steady (r t : Nat) : (s.setSince r t).tmb.steady s.tmb := by
  simp only [State.setSince]
  split
  · exact ⟨rfl, rfl, rfl⟩
  · split <;> exact ⟨rfl, rfl, rfl⟩

theorem Tmb.steady.trans {a b c : Tmb} (h : a.steady b) (h' : b.steady c) : a.steady c :=
  ⟨h.1.trans h'.1, h.2.1.trans h'.2.1, h.2.2.trans h'.2.2⟩

theorem Tmb.steady.of_eq {a b : Tmb} (h : a = b) : a.steady b := h ▸ ⟨rfl, rfl, rfl⟩

/-! #### The end of a switch (R443) -/

/-- A reference that has not stayed qualified begins its qualification again. -/
def State.requalify (target : Nat) (kept : List Nat) (u : State) (r : Nat) : State :=
  if r = target ∨ r ∈ kept then u else (u.setQual r false).setSince r u.tb

/-- REF takes the target, and the switch is over. -/
def State.switched (s : State) (target : Nat) : State :=
  (((s.wr .tmb TMB_STAT_REF target).wr .tmb TMB_STAT_SWITCHING 0).wr .tmb TMB_STAT_HOLDOVER 0).bump .tmb TMB_SWCNT_COUNT

theorem State.finishSwitch_eq (target : Nat) : s.finishSwitch target =
    (((s.switched target).requalify target s.tmb.kept 1).requalify target s.tmb.kept 2).offer Ev.REF_SWITCH .crown [target] := rfl

section
variable {target : Nat} {kept : List Nat}

theorem State.rd_requalify {f : Field} (h : f.lo ≠ 9) (h' : f.lo ≠ 11) (r : Nat) :
    (s.requalify target kept r).rd .tmb f = s.rd .tmb f := by
  rw [State.requalify]
  split
  · rfl
  · rw [State.rd_setSince, State.rd_setQual h h']

theorem State.requalify_steady (r : Nat) : (s.requalify target kept r).tmb.steady s.tmb := by
  rw [State.requalify]
  split
  · exact .of_eq rfl
  · exact State.setSince_steady .. |>.trans (.of_eq (State.setQual_tmb ..))

theorem State.refQual_requalify {r : Nat} (hr : r = 1 ∨ r = 2) (h : r ∉ kept → s.refQual r = false) (q : Nat) :
    (s.requalify target kept r).refQual q = s.refQual q := by
  rw [State.requalify]
  split
  · rfl
  · next hk =>
    rw [State.refQual_congr (fun f _ => State.rd_setSince ..), State.refQual_setQual hr]
    split
    · next e => rw [e, h fun hm => hk (.inr hm)]
    · rfl

end

theorem State.rd_switched {target : Nat} {f : Field} (h : f.lo ∉ [0, 4, 5]) : (s.switched target).rd .tmb f = s.rd .tmb f := by
  simp only [List.mem_cons, List.not_mem_nil, or_false, not_or] at h
  obtain ⟨h0, h4, h5⟩ := h
  rw [State.switched, State.bump, State.rd_wr_lo _ _ h0, State.rd_wr_lo _ _ h5, State.rd_wr_lo _ _ h4, State.rd_wr_lo _ _ h0]

theorem State.rd_switched_ref (target : Nat) : (s.switched target).rd .tmb TMB_STAT_REF = target % 4 := by
  rw [State.switched, State.bump, State.rd_wr_off _ _ (by decide), State.rd_wr_lo _ _ (by decide), State.rd_wr_lo _ _ (by decide),
    State.rd_wr_same]
  rfl

/-- The bits of TMB_STAT that a switch changes: REF, TARGET, SWITCHING, HOLDOVER and the qualifications. -/
def switchBits : List Nat := [0, 2, 4, 5, 9, 11]

theorem State.rd_finishSwitch {target : Nat} {f : Field} (h : f.lo ∉ switchBits) : (s.finishSwitch target).rd .tmb f = s.rd .tmb f := by
  simp only [switchBits, List.mem_cons, List.not_mem_nil, or_false, not_or] at h
  obtain ⟨h0, -, h4, h5, h9, h11⟩ := h
  rw [State.finishSwitch_eq, State.rd_offer _ _ _ _ _ _ (by decide), State.rd_requalify h9 h11, State.rd_requalify h9 h11,
    State.rd_switched (by simp [h0, h4, h5])]

theorem State.rd_finishSwitch_ref (target : Nat) : (s.finishSwitch target).rd .tmb TMB_STAT_REF = target % 4 := by
  rw [State.finishSwitch_eq, State.rd_offer _ _ _ _ _ _ (by decide), State.rd_requalify (by decide) (by decide),
    State.rd_requalify (by decide) (by decide), State.rd_switched_ref]

theorem State.finishSwitch_steady (target : Nat) : (s.finishSwitch target).tmb.steady s.tmb := by
  rw [State.finishSwitch_eq, State.offer_tmb]
  exact (State.requalify_steady 2).trans (State.requalify_steady 1)

/-- A switch leaves qualified what was so from its start. -/
theorem State.refQual_finishSwitch {target : Nat} (h : ∀ r, r = 1 ∨ r = 2 → r ∉ s.tmb.kept → s.refQual r = false) (q : Nat) :
    (s.finishSwitch target).refQual q = s.refQual q := by
  have base (q : Nat) : (s.switched target).refQual q = s.refQual q :=
    State.refQual_congr (fun f hf => State.rd_switched (by simp only [List.mem_cons, List.not_mem_nil, or_false] at hf; rcases hf with rfl | rfl <;> decide)) q
  have one (q : Nat) : ((s.switched target).requalify target s.tmb.kept 1).refQual q = s.refQual q :=
    (State.refQual_requalify (.inl rfl) (fun hk => (base 1).trans (h 1 (.inl rfl) hk)) q).trans (base q)
  rw [State.finishSwitch_eq, State.refQual_congr fun f _ => State.rd_offer _ _ _ _ _ _ (by decide),
    State.refQual_requalify (.inr rfl) (fun hk => (one 2).trans (h 2 (.inr rfl) hk)), one]

/-! #### The start of a switch (R443) -/

/-- The state in which a switch starts: what is qualified now is remembered. -/
def State.keptNow (s : State) : State := { s with tmb := { s.tmb with kept := [1, 2].filter s.refQual } }

/-- Lines that are steered to a new reference: a switch runs, and the held period goes on. -/
def State.switching (s : State) (target : Nat) : State :=
  let ps := s.tmb.periods
  { s.keptNow.wrs .tmb [(TMB_STAT_TARGET, target), (TMB_STAT_SWITCHING, 1), (TMB_STAT_HOLDOVER, 1)] with
    tmb := { s.keptNow.tmb with heldP := if ps = [] then s.rd .tmb TMB_PNOM_PS else ps.sum / ps.length, swLines := 0, swGood := 0 } }

section
variable {target : Nat}

theorem State.startSwitch_lines (h : s.is .tmb TMB_CTRL_LINEEN = true) :
    s.startSwitch target = ((s.switching target).raiseCrown 160).raiseCrown 161 := if_pos h

theorem State.startSwitch_free (h : s.is .tmb TMB_CTRL_LINEEN = false) :
    s.startSwitch target = ((s.keptNow.wr .tmb TMB_STAT_TARGET target).finishSwitch target).raiseCrown 160 :=
  if_neg (Bool.eq_false_iff.mp h)

theorem State.rd_switching {f : Field} (h : f.lo ∉ [2, 4, 5]) : (s.switching target).rd .tmb f = s.rd .tmb f := by
  simp only [List.mem_cons, List.not_mem_nil, or_false, not_or] at h
  obtain ⟨h2, h4, h5⟩ := h
  rw [State.switching, State.rd_withTmb]
  simp only [State.wrs, State.each]
  rw [State.rd_wr_lo _ _ h5, State.rd_wr_lo _ _ h4, State.rd_wr_lo _ _ h2]
  rfl

theorem State.rd_startSwitch {f : Field} (h : f.lo ∉ switchBits) : (s.startSwitch target).rd .tmb f = s.rd .tmb f := by
  by_cases hl : s.is .tmb TMB_CTRL_LINEEN = true
  · rw [State.startSwitch_lines hl, State.rd_raiseCrown _ _ _ _ (by decide) (by decide), State.rd_raiseCrown _ _ _ _ (by decide) (by decide),
      State.rd_switching (by simp [switchBits] at h; simp [h])]
  · rw [State.startSwitch_free (Bool.eq_false_iff.mpr hl), State.rd_raiseCrown _ _ _ _ (by decide) (by decide), State.rd_finishSwitch h,
      State.rd_wr_lo _ _ (by simp [switchBits] at h; simp [h])]
    rfl

theorem State.startSwitch_steady : (s.startSwitch target).tmb.steady s.tmb := by
  by_cases hl : s.is .tmb TMB_CTRL_LINEEN = true
  · rw [State.startSwitch_lines hl, State.raiseCrown_tmb, State.raiseCrown_tmb]
    exact ⟨rfl, rfl, rfl⟩
  · rw [State.startSwitch_free (Bool.eq_false_iff.mpr hl), State.raiseCrown_tmb]
    exact (State.finishSwitch_steady target).trans ⟨rfl, rfl, rfl⟩

theorem State.refQual_startSwitch (q : Nat) : (s.startSwitch target).refQual q = s.refQual q := by
  by_cases hl : s.is .tmb TMB_CTRL_LINEEN = true
  · refine State.refQual_congr (fun f hf => ?_) q
    rw [State.startSwitch_lines hl, State.rd_raiseCrown _ _ _ _ (by decide) (by decide), State.rd_raiseCrown _ _ _ _ (by decide) (by decide)]
    refine State.rd_switching ?_
    simp only [List.mem_cons, List.not_mem_nil, or_false] at hf
    rcases hf with rfl | rfl <;> decide
  · have asked (q : Nat) : (s.keptNow.wr .tmb TMB_STAT_TARGET target).refQual q = s.refQual q := by
      refine State.refQual_congr (fun f hf => State.rd_wr_lo _ _ ?_) q
      simp only [List.mem_cons, List.not_mem_nil, or_false] at hf
      rcases hf with rfl | rfl <;> decide
    rw [State.startSwitch_free (Bool.eq_false_iff.mpr hl), State.refQual_congr fun f _ => State.rd_raiseCrown _ _ _ _ (by decide) (by decide),
      State.refQual_finishSwitch (fun r hr hk => ?_), asked]
    have kept : r ∉ [1, 2].filter s.refQual := hk
    rw [asked]
    rcases hr with rfl | rfl <;> simpa using kept

theorem State.refValid_startSwitch (q : Nat) : (s.startSwitch target).refValid q = s.refValid q := by
  refine State.refValid_congr (fun f hf => State.rd_startSwitch ?_) q
  simp only [List.mem_cons, List.not_mem_nil, or_false] at hf
  rcases hf with rfl | rfl <;> decide

/-- With no lines to steer, REF moves at once. -/
theorem State.rd_startSwitch_ref (h : s.is .tmb TMB_CTRL_LINEEN = false) : (s.startSwitch target).rd .tmb TMB_STAT_REF = target % 4 := by
  rw [State.startSwitch_free h, State.rd_raiseCrown _ _ _ _ (by decide) (by decide), State.rd_finishSwitch_ref]

end

/-! #### A reference is lost (R441, R443) -/

section
variable {r : Nat}

/-- The state in which a reference is neither valid nor qualified any more. -/
def State.refDropped (s : State) (r : Nat) : State :=
  let t := if r = 2 then (s.wr .tmb TMB_STAT_ENCVAL 0).wr .tmb TMB_STAT_ENCQUAL 0 else (s.wr .tmb TMB_STAT_PTPVAL 0).wr .tmb TMB_STAT_PTPQUAL 0
  { t with tmb := { t.tmb with kept := t.tmb.kept.filter (· ≠ r) } }

theorem State.loseRef_eq : s.loseRef r =
    if s.is .tmb TMB_STAT_FOLLOW then s.refDropped r
    else if s.is .tmb TMB_STAT_SWITCHING then
      if s.rd .tmb TMB_STAT_TARGET = r then ((s.refDropped r).wr .tmb TMB_STAT_HOLDOVER 1).wr .tmb TMB_STAT_TARGET 0 else s.refDropped r
    else if s.rd .tmb TMB_STAT_REF = r then (s.refDropped r).startSwitch (s.refDropped r).bestRef
    else s.refDropped r := rfl

theorem State.loseRef_cases : s.loseRef r = s.refDropped r ∨
    s.loseRef r = ((s.refDropped r).wr .tmb TMB_STAT_HOLDOVER 1).wr .tmb TMB_STAT_TARGET 0 ∨
    s.loseRef r = (s.refDropped r).startSwitch (s.refDropped r).bestRef := by
  rw [State.loseRef_eq]
  split
  · exact .inl rfl
  · split
    · split
      · exact .inr (.inl rfl)
      · exact .inl rfl
    · split
      · exact .inr (.inr rfl)
      · exact .inl rfl

theorem State.loseRef_present (hf : s.is .tmb TMB_STAT_FOLLOW = false) (hs : s.is .tmb TMB_STAT_SWITCHING = false)
    (hr : s.rd .tmb TMB_STAT_REF = r) : s.loseRef r = (s.refDropped r).startSwitch (s.refDropped r).bestRef :=
  (if_neg (Bool.eq_false_iff.mp hf)).trans ((if_neg (Bool.eq_false_iff.mp hs)).trans (if_pos hr))

theorem State.refQual_loseRef (q : Nat) : (s.loseRef r).refQual q = (s.refDropped r).refQual q := by
  obtain e | e | e := s.loseRef_cases (r := r)
  · rw [e]
  · rw [e]
    refine State.refQual_congr (fun f hf => ?_) q
    simp only [List.mem_cons, List.not_mem_nil, or_false] at hf
    rcases hf with rfl | rfl <;> rw [State.rd_wr_lo _ _ (by decide), State.rd_wr_lo _ _ (by decide)]
  · rw [e, State.refQual_startSwitch]

theorem State.refValid_loseRef (q : Nat) : (s.loseRef r).refValid q = (s.refDropped r).refValid q := by
  obtain e | e | e := s.loseRef_cases (r := r)
  · rw [e]
  · rw [e]
    refine State.refValid_congr (fun f hf => ?_) q
    simp only [List.mem_cons, List.not_mem_nil, or_false] at hf
    rcases hf with rfl | rfl <;> rw [State.rd_wr_lo _ _ (by decide), State.rd_wr_lo _ _ (by decide)]
  · rw [e, State.refValid_startSwitch]

theorem State.refDropped_steady : (s.refDropped r).tmb.steady s.tmb := by
  simp only [State.refDropped]
  split <;> exact ⟨rfl, rfl, rfl⟩

theorem State.loseRef_steady : (s.loseRef r).tmb.steady s.tmb := by
  obtain e | e | e := s.loseRef_cases (r := r)
  · rw [e]
    exact State.refDropped_steady
  · rw [e]
    exact State.refDropped_steady
  · rw [e]
    exact State.startSwitch_steady.trans State.refDropped_steady

theorem State.refDropped_lost (hr : r = 1 ∨ r = 2) : (s.refDropped r).refValid r = false ∧ (s.refDropped r).refQual r = false := by
  have cleared {t : State} {f g : Field} (h : f.lo ≠ g.lo) :
      ((t.wr .tmb f 0).wr .tmb g 0).is .tmb f = false ∧ ((t.wr .tmb f 0).wr .tmb g 0).is .tmb g = false := by
    refine ⟨State.is_eq_false ?_, State.is_eq_false ?_⟩
    · rw [State.rd_wr_lo _ _ h, State.rd_wr_same, Nat.zero_mod]
    · rw [State.rd_wr_same, Nat.zero_mod]
  obtain rfl | rfl := hr
  · exact cleared (t := s) (f := TMB_STAT_PTPVAL) (g := TMB_STAT_PTPQUAL) (by decide)
  · exact cleared (t := s) (f := TMB_STAT_ENCVAL) (g := TMB_STAT_ENCQUAL) (by decide)

theorem State.rd_refDropped {f : Field} (h : f.lo ∉ [8, 9, 10, 11]) : (s.refDropped r).rd .tmb f = s.rd .tmb f := by
  simp only [List.mem_cons, List.not_mem_nil, or_false, not_or] at h
  obtain ⟨h8, h9, h10, h11⟩ := h
  rw [State.refDropped, State.rd_withTmb]
  split
  · rw [State.rd_wr_lo _ _ h9, State.rd_wr_lo _ _ h8]
  · rw [State.rd_wr_lo _ _ h11, State.rd_wr_lo _ _ h10]

theorem State.bestRef_congr {t : State} (h : ∀ q, t.refQual q = s.refQual q) : t.bestRef = s.bestRef := by
  rw [State.bestRef, State.bestRef, h, h]

theorem State.bestRef_lt : s.bestRef < 4 := by
  rw [State.bestRef]
  split
  · decide
  · split <;> decide

/-- A lost reference that was the present one gives way to the best that is left. -/
theorem State.rd_loseRef_ref (hf : s.is .tmb TMB_STAT_FOLLOW = false) (hs : s.is .tmb TMB_STAT_SWITCHING = false)
    (hl : s.is .tmb TMB_CTRL_LINEEN = false) (hr : s.rd .tmb TMB_STAT_REF = r) :
    (s.loseRef r).rd .tmb TMB_STAT_REF = (s.loseRef r).bestRef := by
  have off : (s.refDropped r).is .tmb TMB_CTRL_LINEEN = false := (congrArg (· != 0) (State.rd_refDropped (by decide))).trans hl
  rw [State.bestRef_congr State.refQual_loseRef, State.loseRef_present hf hs hr, State.rd_startSwitch_ref off]
  exact Nat.mod_eq_of_lt State.bestRef_lt

/-! #### A reference qualifies (R441, R443) -/

theorem exec_refQualified (hr : r = 1 ∨ r = 2) (hv : s.refValid r = true) (hq : s.refQual r = false)
    (ht : s.refSince r + 64000000 ≤ s.tb) : exec (.refQualified r) s = .next (if ¬ s.is .tmb TMB_STAT_FOLLOW ∧
      ¬ s.is .tmb TMB_STAT_SWITCHING ∧ s.rd .tmb TMB_STAT_REF < r then (s.setQual r true).startSwitch r else s.setQual r true) :=
  next_if_pos ⟨hr, hv, Bool.eq_false_iff.mp hq, ht⟩

theorem State.refQual_qualified (hr : r = 1 ∨ r = 2) : ((s.setQual r true).startSwitch r).refQual r = true := by
  rw [State.refQual_startSwitch, State.refQual_setQual hr, if_pos rfl]

/-- With no lines to steer, a better reference is taken at once. -/
theorem State.rd_qualified_ref (hr : r = 1 ∨ r = 2) (hl : s.is .tmb TMB_CTRL_LINEEN = false) :
    ((s.setQual r true).startSwitch r).rd .tmb TMB_STAT_REF = r := by
  have off : (s.setQual r true).is .tmb TMB_CTRL_LINEEN = false :=
    (congrArg (· != 0) (State.rd_setQual (by decide) (by decide) ..)).trans hl
  rw [State.rd_startSwitch_ref off]
  rcases hr with rfl | rfl <;> rfl

end

/-! #### The count (R438, R439) -/

theorem State.tbStep_count (v : Nat) : (s.tbStep v).tmb.count = v % 2 ^ 64 := by
  rw [State.tbStep, State.offer_tmb]
  dsimp only
  split
  · rfl
  · split <;> rfl

theorem State.tbStep_rate (v : Nat) : (s.tbStep v).tmb.rate = s.tmb.rate := by
  rw [State.tbStep, State.offer_tmb]
  dsimp only
  split
  · rfl
  · split <;> rfl

section
variable {ofs : Int}

/-- The state in which the offset is shown and removed or disciplined (R438, R439). -/
def State.ptpTaken (s : State) (ofs : Int) : State :=
  let t := s.wr .tmb TMB_PTPOFS_NS (ofSigned 32 (max (-(2 ^ 31 : Int)) (min (2 ^ 31 - 1) ofs)))
  if decide (1000000 < ofs.natAbs) && !s.jobAdmitted then
    { t with tmb := { t.tmb with rate := 0 } }.tbStep (ofSigned 64 ((s.tmb.count : Int) - ofs))
  else
    let b : Nat := if decide (1000000 < ofs.natAbs) then 100000 else 200000
    { t.freeNat.2 with tmb := { t.tmb with rate := (t.freeNat.1 % (2 * b + 1) : Int) - b } }

/-- An offset of at most 1 µs makes PTP a valid reference, and a greater one loses it (R441). -/
def State.ptpJudged (s : State) (ofs : Int) : State :=
  if ofs.natAbs ≤ 1000 then s.makeValid 1 else if s.refValid 1 then s.loseRef 1 else s

theorem State.ptpMessage_eq : s.ptpMessage ofs = (s.ptpTaken ofs).ptpJudged ofs := rfl

theorem State.makeValid_steady : (s.makeValid 1).tmb.steady s.tmb := by
  rw [State.makeValid]
  split
  · exact .of_eq rfl
  · exact State.setSince_steady ..

theorem State.refValid_makeValid : (s.makeValid 1).refValid 1 = true := by
  rw [State.makeValid]
  split
  · assumption
  · rw [State.refValid_congr fun f _ => State.rd_setSince ..]
    exact congrArg (· != 0) (State.rd_wr_same s .tmb TMB_STAT_PTPVAL 1)

theorem State.ptpJudged_steady : (s.ptpJudged ofs).tmb.steady s.tmb := by
  rw [State.ptpJudged]
  split
  · exact State.makeValid_steady
  · split
    · exact State.loseRef_steady
    · exact .of_eq rfl

theorem State.refValid_ptpJudged : (s.ptpJudged ofs).refValid 1 = decide (ofs.natAbs ≤ 1000) := by
  rw [State.ptpJudged]
  split
  · next h => rw [State.refValid_makeValid, decide_eq_true h]
  · next h =>
    rw [decide_eq_false h]
    split
    · rw [State.refValid_loseRef]
      exact (State.refDropped_lost (.inl rfl)).1
    · next hv => exact Bool.eq_false_iff.mpr hv

/-- A great offset is stepped away while no job is admitted. -/
theorem State.ptpTaken_far (hf : 1000000 < ofs.natAbs) (hj : s.jobAdmitted = false) :
    (s.ptpTaken ofs).tmb.count = ofSigned 64 (s.tmb.count - ofs) ∧ (s.ptpTaken ofs).tmb.rate = 0 := by
  rw [State.ptpTaken, if_pos (by simp [hf, hj]), State.tbStep_count, State.tbStep_rate, Nat.mod_eq_of_lt (ofSigned_lt ..)]
  exact ⟨rfl, rfl⟩

/-- A smaller one, or one in a job, leaves the count and is disciplined within its bound. -/
theorem State.ptpTaken_near (h : ¬ 1000000 < ofs.natAbs ∨ s.jobAdmitted = true) : (s.ptpTaken ofs).tmb.count = s.tmb.count ∧
    (s.ptpTaken ofs).tmb.rate.natAbs ≤ if 1000000 < ofs.natAbs then 100000 else 200000 := by
  have within (n b : Nat) : ((n % (2 * b + 1) : Int) - b).natAbs ≤ b := by
    have lt := Int.emod_lt_of_pos (n : Int) (by omega : (0 : Int) < 2 * b + 1)
    have nonneg := Int.emod_nonneg (n : Int) (by omega : (2 * b + 1 : Int) ≠ 0)
    omega
  rw [State.ptpTaken, if_neg (by rcases h with h | h <;> simp [h])]
  refine ⟨rfl, ?_⟩
  simp only [decide_eq_true_eq]
  exact within ..

theorem State.macFrame_tmb : s.macFrame.tmb = s.tmb := by rw [State.macFrame, State.raiseCrown_tmb, State.raiseCrown_tmb]

theorem State.jobAdmitted_macFrame : s.macFrame.jobAdmitted = s.jobAdmitted := by
  rw [State.jobAdmitted, State.macFrame, State.rd_raiseCrown _ _ _ _ (by decide) (by decide),
    State.rd_raiseCrown _ _ _ _ (by decide) (by decide), ← State.jobAdmitted]

end
end

/-- Settles O34: a PTP message's offset is removed or disciplined (`State.ptpTaken_far`, `State.ptpTaken_near`) and judged
(`State.refValid_ptpJudged`); a switch of the reference keeps what is qualified (`State.refQual_startSwitch`) and, with no lines to steer,
sets REF (`State.rd_startSwitch_ref`). -/
theorem packageTime : Obligations.PackageTime := by
  unfold Obligations.PackageTime
  intro s ofs r m far still
  have message (hp : s.is .tmb TMB_CTRL_PTPEN = true) : exec (.ptpMessage ofs) s = .next ((s.macFrame.ptpTaken ofs).ptpJudged ofs) :=
    next_if_pos hp
  refine ⟨fun hj => next_if_pos hj, fun hj => ⟨_, next_if_neg (Bool.eq_false_iff.mp hj), State.tbStep_count _⟩, rfl,
    fun hp hj hf => ⟨_, message hp, ?_⟩, fun hp h => ⟨_, message hp, ?_⟩, fun hr hv hb => ⟨next_if_pos (by rw [hv, hb]; rfl), ?_, ?_, ?_⟩,
    fun hr hv hq ht => ?_⟩
  · obtain ⟨count, rate, -⟩ := State.ptpJudged_steady (s := s.macFrame.ptpTaken ofs) (ofs := ofs)
    obtain ⟨stepped, still⟩ := State.ptpTaken_far hf (State.jobAdmitted_macFrame.trans hj)
    rw [State.macFrame_tmb] at stepped
    exact ⟨count.trans stepped, rate.trans still, State.refValid_ptpJudged.trans (decide_eq_false (by omega))⟩
  · obtain ⟨count, rate, -⟩ := State.ptpJudged_steady (s := s.macFrame.ptpTaken ofs) (ofs := ofs)
    obtain ⟨kept, bound⟩ := State.ptpTaken_near (h.imp_right State.jobAdmitted_macFrame.trans)
    rw [State.macFrame_tmb] at kept
    exact ⟨count.trans kept, rate ▸ bound, State.refValid_ptpJudged⟩
  · exact (State.refValid_loseRef r).trans (State.refDropped_lost hr).1
  · exact (State.refQual_loseRef r).trans (State.refDropped_lost hr).2
  · exact fun ⟨hf, hs, hl⟩ hp => State.rd_loseRef_ref hf hs hl hp
  · by_cases hb : ¬ s.is .tmb TMB_STAT_FOLLOW = true ∧ ¬ s.is .tmb TMB_STAT_SWITCHING = true ∧ s.rd .tmb TMB_STAT_REF < r
    · refine ⟨_, (exec_refQualified hr hv hq ht).trans (next_if_pos hb), State.refQual_qualified hr, fun ⟨hf, hs, hl⟩ => ?_⟩
      rw [State.rd_qualified_ref hr hl, max_eq_left hb.2.2.le]
    · refine ⟨_, (exec_refQualified hr hv hq ht).trans (next_if_neg hb), (State.refQual_setQual hr _ _).trans (if_pos rfl),
        fun ⟨hf, hs, hl⟩ => ?_⟩
      have best : r ≤ s.rd .tmb TMB_STAT_REF := by
        by_contra hlt
        exact hb ⟨Bool.eq_false_iff.mp hf, Bool.eq_false_iff.mp hs, not_le.mp hlt⟩
      rw [State.rd_setQual (by decide) (by decide), max_eq_right best]

end Sys2Proof.Machine

namespace Sys2Proof.Machine

/-! ### The line generator (R440, R442, R443, R446) -/

section
variable {s : State}

/-! #### Enabling and disabling (R440) -/

theorem State.renumber_tmb (n : Nat) : (s.renumber n).tmb = { s.tmb with nextN := n } := by
  simp only [State.renumber]
  split
  · next h => rw [← h]
  · split <;> rfl

theorem State.renumber_regs (n : Nat) : (s.renumber n).regs = s.regs := by
  simp only [State.renumber]
  split
  · rfl
  · split <;> rfl

/-- The instant from which the first line is looked for: the announcement time and 1 µs after the write, in ps (R440). -/
def State.firstAfter (s : State) : Nat := (s.tmb.count + s.rd .tmb TMB_ANN_NS + 1000) * 1000

/-- The F of the first line, if it is fixed by the write (R440). -/
def State.firstF (s : State) : Option Nat :=
  if s.rd .tmb TMB_STAT_REF = 0 then some s.firstAfter
  else if s.rd .tmb TMB_STAT_REF = 2 ∧ s.encStopped then none
  else (s.grid (s.rd .tmb TMB_STAT_REF)).map fun g => gridAfter g.1 g.2 s.firstAfter

theorem State.lineEnable_off (h : s.rd .tmb TMB_CTRL_LINEEN = 0) :
    s.lineEnable = { (s.wr .tmb TMB_CTRL_LINEEN 1).renumber (s.rd .tmb TMB_LINE_NEXT_LINE) with
      tmb := { ((s.wr .tmb TMB_CTRL_LINEEN 1).renumber (s.rd .tmb TMB_LINE_NEXT_LINE)).tmb with nextF := s.firstF, periods := [] } } :=
  if_neg (Bool.eq_false_iff.mp (State.is_eq_false h))

theorem State.firstF_free (h : s.rd .tmb TMB_STAT_REF = 0) : s.firstF = some s.firstAfter := if_pos h

theorem State.firstF_stopped (h : s.rd .tmb TMB_STAT_REF = 2) (he : s.encStopped = true) : s.firstF = none := by
  rw [State.firstF, if_neg (by omega), if_pos ⟨h, he⟩]

theorem State.firstF_grid {o p : Nat} (hg : s.grid (s.rd .tmb TMB_STAT_REF) = some (o, p))
    (h : ¬ (s.rd .tmb TMB_STAT_REF = 2 ∧ s.encStopped = true)) : s.firstF = some (gridAfter o p s.firstAfter) := by
  have steered : s.rd .tmb TMB_STAT_REF ≠ 0 := fun h0 => by rw [h0] at hg; cases hg
  rw [State.firstF, if_neg steered, if_neg h, hg, Option.map_some]

theorem State.lineRun_cases (on : Bool) : s.lineRun on = s ∨
    s.lineRun on = ((s.wrB .tmb TMB_STAT_LINERUN on).raiseCrown 162).offer (if on then Ev.LINE_START else Ev.LINE_STOP) .crown := by
  rw [State.lineRun]
  split
  · exact .inl rfl
  · exact .inr rfl

theorem State.lineRun_lines (on : Bool) : (s.lineRun on).lines = s.lines ∧ (s.lineRun on).tmb = s.tmb := by
  obtain e | e := s.lineRun_cases on
  · rw [e]
    exact ⟨rfl, rfl⟩
  · rw [e, State.offer_only, State.raiseCrown_only]
    exact ⟨rfl, rfl⟩

theorem State.rd_lineRun {f : Field} (h : f.lo ≠ 6) (on : Bool) : (s.lineRun on).rd .tmb f = s.rd .tmb f := by
  obtain e | e := s.lineRun_cases on
  · rw [e]
  · rw [e, State.rd_offer _ _ _ _ _ _ (by decide), State.rd_raiseCrown _ _ _ _ (by decide) (by decide), State.wrB, State.rd_wr_lo _ _ h]

theorem State.rd_lineRun_off : (s.lineRun false).rd .tmb TMB_STAT_LINERUN = 0 := by
  rw [State.lineRun]
  split
  · next h => simpa [State.is] using h
  · rw [State.rd_offer _ _ _ _ _ _ (by decide), State.rd_raiseCrown _ _ _ _ (by decide) (by decide), State.wrB, State.rd_wr_same]
    rfl

theorem State.finishSwitch_lines (target : Nat) : (s.finishSwitch target).lines = s.lines := by
  have each (kept : List Nat) (u : State) (r : Nat) : (u.requalify target kept r).lines = u.lines := by
    simp only [State.requalify, State.setSince, State.setQual]
    repeat' split
    all_goals rfl
  rw [State.finishSwitch_eq, State.offer_only]
  exact (each _ _ 2).trans (each _ _ 1)

/-- The generator is off, and no line is fixed (R440). -/
def State.linesOff (s : State) : State :=
  { s.wr .tmb TMB_CTRL_LINEEN 0 with tmb := { s.tmb with nextF := none } }.lineRun false

theorem State.lineDisable_on (h : s.rd .tmb TMB_CTRL_LINEEN ≠ 0) : s.lineDisable =
    if s.is .tmb TMB_STAT_SWITCHING then (s.linesOff.finishSwitch (s.rd .tmb TMB_STAT_TARGET)).raiseCrown 160 else s.linesOff :=
  if_pos (State.is_eq_true h)

theorem State.rd_linesOff : s.linesOff.rd .tmb TMB_CTRL_LINEEN = 0 ∧ s.linesOff.rd .tmb TMB_STAT_LINERUN = 0 ∧
    s.linesOff.rd .tmb TMB_STAT_REF = s.rd .tmb TMB_STAT_REF := by
  refine ⟨?_, State.rd_lineRun_off, ?_⟩
  · rw [State.linesOff, State.rd_lineRun (by decide), State.rd_withTmb, State.rd_wr_same]
    rfl
  · rw [State.linesOff, State.rd_lineRun (by decide), State.rd_withTmb, State.rd_wr_off _ _ (by decide)]

theorem State.linesOff_kept : s.linesOff.lines = s.lines ∧ s.linesOff.tmb.nextF = none := by
  obtain ⟨lines, tmb⟩ := State.lineRun_lines (s := { s.wr .tmb TMB_CTRL_LINEEN 0 with tmb := { s.tmb with nextF := none } }) false
  exact ⟨lines, congrArg Tmb.nextF tmb⟩

/-- Disabling stops the lines and completes a switch to its target. -/
theorem State.lineDisable_stops (h : s.rd .tmb TMB_CTRL_LINEEN ≠ 0) : s.lineDisable.rd .tmb TMB_CTRL_LINEEN = 0 ∧
    s.lineDisable.tmb.nextF = none ∧ s.lineDisable.rd .tmb TMB_STAT_LINERUN = 0 ∧ s.lineDisable.lines = s.lines ∧
    s.lineDisable.rd .tmb TMB_STAT_REF =
      if s.rd .tmb TMB_STAT_SWITCHING = 0 then s.rd .tmb TMB_STAT_REF else s.rd .tmb TMB_STAT_TARGET % 4 := by
  obtain ⟨lineen, linerun, ref⟩ := State.rd_linesOff (s := s)
  obtain ⟨lines, nextF⟩ := State.linesOff_kept (s := s)
  rw [State.lineDisable_on h]
  by_cases hs : s.rd .tmb TMB_STAT_SWITCHING = 0
  · rw [if_neg (Bool.eq_false_iff.mp (State.is_eq_false hs)), if_pos hs]
    exact ⟨lineen, nextF, linerun, lines, ref⟩
  · rw [if_pos (State.is_eq_true hs), if_neg hs]
    obtain ⟨-, -, still⟩ := s.linesOff.finishSwitch_steady (s.rd .tmb TMB_STAT_TARGET)
    have shown (f : Field) : ((s.linesOff.finishSwitch (s.rd .tmb TMB_STAT_TARGET)).raiseCrown 160).rd .tmb f =
        (s.linesOff.finishSwitch (s.rd .tmb TMB_STAT_TARGET)).rd .tmb f := State.rd_raiseCrown _ _ _ _ (by decide) (by decide)
    rw [shown, shown, shown, State.rd_finishSwitch (by decide), State.rd_finishSwitch (by decide), State.rd_finishSwitch_ref,
      State.raiseCrown_tmb, State.raiseCrown_only]
    exact ⟨lineen, still.trans nextF, linerun, (State.finishSwitch_lines _).trans lines, rfl⟩

/-! #### Announcing a line (R440, R446) -/

theorem State.showLine_tmb (n f : Nat) : (s.showLine n f).tmb = s.tmb := (State.lineRun_lines true).2

theorem State.nextPeriod_count (f : Nat) : (s.nextPeriod f).2.tmb.count = s.tmb.count := by
  have ends {p : Prop} [Decidable p] {t : State} (target : Nat) (h : t.tmb.count = s.tmb.count) :
      (if p then t.finishSwitch target else t).tmb.count = s.tmb.count := by
    split
    · exact (t.finishSwitch_steady target).1.trans h
    · exact h
  simp only [State.nextPeriod]
  split
  · split
    · rfl
    · split
      · exact ends 0 rfl
      · split
        · rfl
        · exact ends _ rfl
  · split <;> rfl

/-- The state after the generator has announced a line at `f`: the next line's number and instant are fixed. -/
def State.generated (s : State) (f : Nat) : State :=
  let x := (s.showLine s.tmb.nextN f).nextPeriod f
  { x.2 with tmb := { x.2.tmb with
      nextF := some (f + max x.1 1000000), nextN := (s.tmb.nextN + 1) % 2 ^ 32,
      periods := (max x.1 1000000 :: x.2.tmb.periods).take 16 } }

/-- The F of the next line: fixed before, or the first instant that can still be announced (R440, R442). -/
def State.lineF (s : State) : Nat :=
  s.tmb.nextF.getD
    (match s.grid (s.rd .tmb TMB_STAT_REF) with
      | none => s.tmb.count * 1000 + s.rd .tmb TMB_ANN_NS * 1000
      | some (o, p) => gridAfter o p (s.tmb.count * 1000 + s.rd .tmb TMB_ANN_NS * 1000))

theorem State.generate_eq : s.generate =
    if ¬ s.is .tmb TMB_CTRL_LINEEN ∨ s.is .tmb TMB_STAT_FOLLOW then (none, s)
    else if ¬ s.is .tmb TMB_STAT_SWITCHING ∧ s.rd .tmb TMB_STAT_REF = 2 ∧ s.encStopped then
      (none, { s with tmb := { s.tmb with nextF := none } }.lineRun false)
    else if s.tmb.count * 1000 + s.rd .tmb TMB_ANN_NS * 1000 < s.lineF then
      (none, { s with tmb := { s.tmb with nextF := some s.lineF } })
    else (some (s.tmb.nextN, s.lineF), s.generated s.lineF) := by
  unfold State.generate
  refine ite_congr rfl (fun _ => rfl) fun _ => ite_congr rfl (fun _ => rfl) fun _ => ?_
  exact ite_congr rfl (fun _ => rfl) fun _ => Prod.ext rfl (by rw [State.generated]; rfl)

theorem State.generate_some {n f : Nat} (h : s.generate.1 = some (n, f)) : n = s.tmb.nextN ∧ s.generate.2 = s.generated f := by
  rw [State.generate_eq] at h ⊢
  split at h
  · cases h
  · next h₁ =>
    split at h
    · cases h
    · next h₂ =>
      split at h
      · cases h
      · next h₃ =>
        cases h
        rw [if_neg h₁, if_neg h₂, if_neg h₃]
        exact ⟨rfl, rfl⟩

theorem State.generated_next (f : Nat) : (s.generated f).tmb.count = s.tmb.count ∧
    (s.generated f).tmb.nextN = (s.tmb.nextN + 1) % 2 ^ 32 := by
  refine ⟨?_, rfl⟩
  show ((s.showLine s.tmb.nextN f).nextPeriod f).2.tmb.count = s.tmb.count
  rw [State.nextPeriod_count, State.showLine_tmb]

theorem State.capExceeded_kept (f : Nat) : (s.capExceeded f).lines = s.lines ∧ (s.capExceeded f).tmb = s.tmb := by
  have seen : (((s.bump .pkgNode CAP_EXCEED_COUNT).offer Ev.CAP_EXCEEDED .pkg).raiseCrown 177).lines = s.lines ∧
      (((s.bump .pkgNode CAP_EXCEED_COUNT).offer Ev.CAP_EXCEEDED .pkg).raiseCrown 177).tmb = s.tmb := by
    rw [State.raiseCrown_only, State.offer_only]
    exact ⟨rfl, rfl⟩
  rw [State.capExceeded]
  split
  · split
    · exact seen
    · split
      · exact seen
      · exact ⟨rfl, rfl⟩
  · exact ⟨rfl, rfl⟩

/-- The state after a line has been announced, and an active unit has sent it to its standby (R317, R440). -/
def State.lineSent (s : State) (n f : Nat) : State :=
  if (s.announce n f).hsbState = hsbACTIVE then (s.announce n f).hsbSend .line ([n] ++ twoWords f) else s.announce n f

theorem State.lineSent_shown (n f : Nat) : (s.lineSent n f).lines = s.lines ++ [{ n := n, f := f, at_ := s.tmb.count }] ∧
    (s.lineSent n f).job.lastF = some f ∧ (s.lineSent n f).tmb = s.tmb := by
  have announced : (s.announce n f).lines = s.lines ++ [{ n := n, f := f, at_ := s.tmb.count }] ∧
      (s.announce n f).job.lastF = some f ∧ (s.announce n f).tmb = s.tmb := by
    obtain ⟨lines, tmb⟩ := s.capExceeded_kept f
    refine ⟨?_, rfl, tmb⟩
    rw [State.announce, lines]
  rw [State.lineSent]
  split
  · rw [State.hsbSend_only]
    exact announced
  · exact announced

theorem exec_lineAnnounce_some {n f : Nat} (h : s.generate.1 = some (n, f)) :
    exec .lineAnnounce s = .next (s.generate.2.lineSent n f) := by
  have due : s.generate = (some (n, f), s.generate.2) := Prod.ext h rfl
  show execLineAnnounce s = _
  rw [execLineAnnounce, due]
  rfl

theorem exec_lineAnnounce_none (h : s.generate.1 = none) : exec .lineAnnounce s = .next s.generate.2 := by
  have idle : s.generate = (none, s.generate.2) := Prod.ext h rfl
  show execLineAnnounce s = _
  rw [execLineAnnounce, idle]

end

/-- Settles O35: the first line is fixed by the reference (`State.firstF_free`, `State.firstF_grid`), disabling ends the lines
(`State.lineDisable_stops`), and an announced line takes the generator's number and F (`State.generate_some`, `State.lineSent_shown`). -/
theorem lineGenerator : Obligations.LineGenerator := by
  unfold Obligations.LineGenerator
  intro s t m t0
  refine ⟨fun h0 => ⟨s.lineEnable, rfl, ?_⟩, fun h1 => ⟨s.lineDisable, rfl, State.lineDisable_stops h1⟩, fun n f hg => ?_,
    exec_lineAnnounce_none⟩
  · rw [State.lineEnable_off h0, State.rd_withTmb, State.rd_of_regs (State.renumber_regs _), State.rd_wr_same]
    exact ⟨rfl, congrArg Tmb.nextN (State.renumber_tmb _), rfl, State.firstF_free, State.firstF_stopped, fun o p => State.firstF_grid⟩
  · obtain ⟨hn, ht⟩ := State.generate_some hg
    obtain ⟨count, next⟩ := State.generated_next (s := s) f
    obtain ⟨lines, lastF, tmb⟩ := State.lineSent_shown (s := s.generate.2) n f
    refine ⟨_, exec_lineAnnounce_some hg, ?_, lastF, hn, ?_, tmb⟩
    · rw [lines, (congrArg (fun u : State => u.tmb.count) ht).trans count]
    · rw [hn, ← next, ← ht]

end Sys2Proof.Machine

namespace Sys2Proof.Machine

/-! ### Load switches (R399 to R405) -/

section
variable {s t : State} {c : Nat}

@[simp] theorem State.raiseCrown_field (n : Nat) : (s.raiseCrown n).field = s.field := by rw [State.raiseCrown_only]
@[simp] theorem State.offer_field (code : Nat) (n : Node) (l : List Nat) : (s.offer code n l).field = s.field := by rw [State.offer_only]
@[simp] theorem State.raiseCrown_straps (n : Nat) : (s.raiseCrown n).straps = s.straps := by rw [State.raiseCrown_only]

/-! #### Commands (R399) -/

theorem State.each_fixed {α : Type} {l : List α} {f : State → α → State} (h : ∀ a, f s a = s) : s.each l f = s := by
  induction l with
  | nil => rfl
  | cons a l ih => rw [State.each, h, ih]

theorem State.lswCommand_safe (h : s.is .lsw LSW_STAT_FAILSAFE = true) (on : Bool) : s.lswCommand c on = s := if_pos h

theorem State.lswCommand_free (h : s.is .lsw LSW_STAT_FAILSAFE = false) (on : Bool) : s.lswCommand c on = s.chanCommand c on :=
  if_neg (Bool.eq_false_iff.mp h)

/-- Commands for several channels set the bit of each. -/
theorem State.bit_each_lswCommand (h : s.is .lsw LSW_STAT_FAILSAFE = false) (hc : c < 16) (l : List Nat) (on : Bool) :
    (s.each l fun t k => t.lswCommand k on).bit .lsw LSW_CMD_CMD c = if c ∈ l then on else s.bit .lsw LSW_CMD_CMD c := by
  induction l generalizing s with
  | nil => rfl
  | cons k l ih =>
    have free : (s.chanCommand k on).is .lsw LSW_STAT_FAILSAFE = false :=
      (congrArg (· != 0) (State.rd_chanCommand (by decide) (by decide) k on)).trans h
    rw [State.each, State.lswCommand_free h, ih free, State.bit_chanCommand hc]
    by_cases e : k = c
    · simp [e]
    · simp [e, Ne.symm e]

/-- The channels that a written word names. -/
theorem mem_chanNums_filter {w : Nat} (hc : c < 16) : c ∈ chanNums.filter (fun k => w.testBit k) ↔ w.testBit c = true := by
  rw [List.mem_filter]
  exact and_iff_right (List.mem_range.mpr hc)

/-! #### What a channel's phase depends on (R400) -/

/-- The supply groups, the drive rule and the straps are the same. -/
structure State.SameSupply (t s : State) : Prop where
  sup : ∀ f, t.rd .sup f = s.rd .sup f
  field : t.field = s.field
  straps : t.straps = s.straps

theorem State.SameSupply.missing (h : t.SameSupply s) (g : Nat) : t.missing g = s.missing g := by
  rw [State.missing, State.missing, State.supply, State.supply, h.sup, h.sup, h.field]

theorem State.SameSupply.chanDrives (h : t.SameSupply s) (hc : t.rd .lsw LSW_CMD_CMD = s.rd .lsw LSW_CMD_CMD)
    (hl : t.rd .lsw (LSW_CH_STAT_LATCHED c) = s.rd .lsw (LSW_CH_STAT_LATCHED c)) : t.chanDrives c = s.chanDrives c := by
  rw [State.chanDrives, State.chanDrives, h.missing, State.strapped, State.strapped, h.straps, State.bit, State.bit, hc, State.is, State.is,
    State.is, State.is, hl, h.sup]

theorem State.SameSupply.trans {u : State} (h : u.SameSupply t) (h' : t.SameSupply s) : u.SameSupply s :=
  ⟨fun f => (h.sup f).trans (h'.sup f), h.field.trans h'.field, h.straps.trans h'.straps⟩

theorem State.sameSupply_wr (f : Field) (v : Nat) : (s.wr .lsw f v).SameSupply s :=
  ⟨fun _ => State.rd_wr_blk _ _ _ _ (by decide), rfl, rfl⟩

theorem State.sameSupply_chanDiag (f : Field) : (s.chanDiag c f).SameSupply s := by
  rw [State.chanDiag]
  split
  · exact ⟨fun _ => rfl, rfl, rfl⟩
  · refine ⟨fun g => ?_, ?_, ?_⟩
    · rw [State.rd_offer _ _ _ _ _ _ (by decide), State.rd_raiseCrown _ _ _ _ (by decide) (by decide), State.rd_wr_blk _ _ _ _ (by decide)]
    · rw [State.offer_field, State.raiseCrown_field, State.wr_field]
    · rw [State.offer_straps, State.raiseCrown_straps, State.wr_straps]

/-! #### Diagnostics (R404) -/

theorem State.rd_chanDiag_ne {f g : Field} (h : g.key .lsw ≠ f.key .lsw) : (s.chanDiag c f).rd .lsw g = s.rd .lsw g := by
  rw [State.chanDiag]
  split
  · rfl
  · rw [State.rd_offer _ _ _ _ _ _ (by decide), State.rd_raiseCrown _ _ _ _ (by decide) (by decide), State.rd_wr_ne _ _ h]

theorem Field.key_ne_of_lo {f g : Field} {b b' : Blk} (h : f.lo ≠ g.lo) : f.key b ≠ g.key b' := fun e => by
  injection e with _ _ hl
  exact h hl

theorem State.rd_chanDiag_set {f : Field} (h : f.width = 1) : (s.chanDiag c f).rd .lsw f ≠ 0 := by
  rw [State.chanDiag]
  split
  · next hs => simpa [State.is] using hs
  · rw [State.rd_offer _ _ _ _ _ _ (by decide), State.rd_raiseCrown _ _ _ _ (by decide) (by decide), State.rd_wr_same, h]
    decide

/-! #### Phases (R400 to R402) -/

/-- A channel takes a phase. -/
def State.setPhase (s : State) (c p pend : Nat) : State := (s.wr .lsw (LSW_CH_STAT_PHASE c) p).wr .lsw (LSW_CH_STAT_PEND c) pend

theorem State.rd_setPhase {p pend : Nat} : (s.setPhase c p pend).rd .lsw (LSW_CH_STAT_PHASE c) = p % 8 ∧
    (s.setPhase c p pend).rd .lsw (LSW_CH_STAT_PEND c) = pend % 2 := by
  rw [State.setPhase, State.rd_wr_lo _ _ (by simp), State.rd_wr_same, State.rd_wr_same]
  exact ⟨rfl, rfl⟩

/-- A channel that follows its conditions changes its PHASE and PEND alone. -/
theorem State.rd_chanUpdate_lo {b : Blk} {f : Field} (h0 : f.lo ≠ 0) (h3 : f.lo ≠ 3) : (s.chanUpdate c).rd b f = s.rd b f := by
  obtain e | ⟨p, pend, e⟩ := s.chanUpdate_cases c
  · rw [e]
  · rw [e, State.rd_wr_lo _ _ h3, State.rd_wr_lo _ _ h0]

/-- The phase of a channel whose output has fallen (R402, R406). -/
def State.restPhase (s : State) (c : Nat) : Nat :=
  if s.missing (chanGroup c) then phHELDOFF else if s.chanDrives c then phTURNON else phOFF

theorem State.chanUpdate_off (h : s.rd .lsw (LSW_CH_STAT_PHASE c) = phOFF) : s.chanUpdate c = s.setPhase c (s.restPhase c) 0 := by
  simp only [State.chanUpdate, h, State.restPhase]
  split
  · rfl
  · split
    · rfl
    · rfl

/-- A channel that no longer drives, and whose supply is there, turns off. -/
theorem State.chanUpdate_stops (hm : s.missing (chanGroup c) = false) (hd : s.chanDrives c = false)
    (h : s.rd .lsw (LSW_CH_STAT_PHASE c) = phTURNON ∨ s.rd .lsw (LSW_CH_STAT_PHASE c) = phON) :
    s.chanUpdate c = s.setPhase c phTURNOFF 0 := by
  simp only [State.chanUpdate, hm, hd, Bool.false_eq_true, if_false, h, if_true]
  rfl

theorem State.turnedOff_rest : (s.turnedOff c).rd .lsw (LSW_CH_STAT_PHASE c) = s.restPhase c ∧
    (s.turnedOff c).rd .lsw (LSW_CH_STAT_PEND c) = 0 := by
  have off := (State.rd_setPhase (s := s) (c := c) (p := phOFF) (pend := 0)).1
  have same : (s.setPhase c phOFF 0).SameSupply s := (State.sameSupply_wr ..).trans (State.sameSupply_wr ..)
  have rest : (s.setPhase c phOFF 0).restPhase c = s.restPhase c := by
    have drives : (s.setPhase c phOFF 0).chanDrives c = s.chanDrives c := same.chanDrives
      (by rw [State.setPhase, State.rd_wr_lo _ _ (by simp), State.rd_wr_off _ _ (by dsimp only; omega)])
      (by rw [State.setPhase, State.rd_wr_lo _ _ (by simp), State.rd_wr_lo _ _ (by simp)])
    rw [State.restPhase, State.restPhase, same.missing, drives]
  have lt : s.restPhase c % 8 = s.restPhase c := by
    rw [State.restPhase]
    split
    · rfl
    · split <;> rfl
  show (State.chanUpdate (s.setPhase c phOFF 0) c).rd .lsw _ = _ ∧ (State.chanUpdate (s.setPhase c phOFF 0) c).rd .lsw _ = _
  rw [State.chanUpdate_off off, rest]
  exact ⟨State.rd_setPhase.1.trans lt, State.rd_setPhase.2⟩

theorem State.turnedOff_diag {f : Field} (h0 : f.lo ≠ 0) (h3 : f.lo ≠ 3) : (s.turnedOff c).rd .lsw f = s.rd .lsw f := by
  rw [State.turnedOff, State.rd_chanUpdate_lo h0 h3, State.rd_wr_lo _ _ h3, State.rd_wr_lo _ _ h0]

/-! #### Trips (R404) -/

/-- A trip sets its bit and LATCHED, and the channel follows. -/
def State.tripped (s : State) (c : Nat) (f : Field) : State := ((s.chanDiag c f).wr .lsw (LSW_CH_STAT_LATCHED c) 1).chanUpdate c

section
variable {f : Field} (hw : f.width = 1) (hl : f.lo = 8 ∨ f.lo = 9)

include hw hl in
theorem State.rd_tripped_bit : (s.tripped c f).rd .lsw f ≠ 0 := by
  rw [State.tripped, State.rd_chanUpdate_lo (by omega) (by omega), State.rd_wr_lo _ _ (by dsimp only; omega)]
  exact State.rd_chanDiag_set hw

theorem State.rd_latched : ((s.chanDiag c f).wr .lsw (LSW_CH_STAT_LATCHED c) 1).rd .lsw (LSW_CH_STAT_LATCHED c) = 1 :=
  State.rd_wr_same ..

theorem State.rd_tripped_latched : (s.tripped c f).rd .lsw (LSW_CH_STAT_LATCHED c) = 1 := by
  rw [State.tripped, State.rd_chanUpdate_lo (by simp) (by simp), State.rd_latched]

theorem State.chanDrives_latched (h : s.rd .lsw (LSW_CH_STAT_LATCHED c) = 1) : s.chanDrives c = false := by
  simp [State.chanDrives, State.is, h]

theorem State.chanDrives_tripped : (s.tripped c f).chanDrives c = false := State.chanDrives_latched State.rd_tripped_latched

include hl in
theorem State.rd_tripped_phase (hm : s.missing (chanGroup c) = false)
    (hp : s.rd .lsw (LSW_CH_STAT_PHASE c) = phTURNON ∨ s.rd .lsw (LSW_CH_STAT_PHASE c) = phON) :
    (s.tripped c f).rd .lsw (LSW_CH_STAT_PHASE c) = phTURNOFF := by
  have phase : ((s.chanDiag c f).wr .lsw (LSW_CH_STAT_LATCHED c) 1).rd .lsw (LSW_CH_STAT_PHASE c) = s.rd .lsw (LSW_CH_STAT_PHASE c) := by
    rw [State.rd_wr_lo _ _ (by simp), State.rd_chanDiag_ne (Field.key_ne_of_lo (by dsimp only; omega))]
  have supply := ((State.sameSupply_wr (s := s.chanDiag c f) (LSW_CH_STAT_LATCHED c) 1).trans (State.sameSupply_chanDiag f)).missing (chanGroup c)
  rw [State.tripped, State.chanUpdate_stops (supply.trans hm) (State.chanDrives_latched State.rd_latched) (phase ▸ hp)]
  exact State.rd_setPhase.1

end

theorem State.missing_of_chanDrives (h : s.chanDrives c = true) : s.missing (chanGroup c) = false := by
  simp only [State.chanDrives, Bool.and_eq_true, Bool.not_eq_true'] at h
  exact h.1.2

theorem exec_ocTrip {ms : Nat} (hc : c < 16) (hd : s.chanDrives c = true)
    (hp : s.rd .lsw (LSW_CH_STAT_PHASE c) = phTURNON ∨ s.rd .lsw (LSW_CH_STAT_PHASE c) = phON)
    (hb : s.rd .lsw (LSW_CH_CFG_OCBLANK c) ≤ ms) : exec (.ocTrip c ms) s = .next (s.tripped c (LSW_CH_STAT_OC c)) :=
  next_if_pos ⟨hc, hd, by simpa [State.chanOn] using hp, hb⟩

/-! #### Clearing (R405) -/

/-- A bit that a written 1 clears. -/
def State.clearIf (s : State) (p : Prop) [Decidable p] (f : Field) : State := if p then s.wr .lsw f 0 else s

theorem State.rd_clearIf_same {p : Prop} [Decidable p] {f : Field} : (s.clearIf p f).rd .lsw f = if p then 0 else s.rd .lsw f := by
  rw [State.clearIf]
  split
  · rw [State.rd_wr_same, Nat.zero_mod]
  · rfl

theorem State.rd_clearIf_lo {p : Prop} [Decidable p] {f g : Field} (h : g.lo ≠ f.lo) : (s.clearIf p f).rd .lsw g = s.rd .lsw g := by
  rw [State.clearIf]
  split
  · exact State.rd_wr_lo _ _ h
  · rfl

/-- The diagnostics of a channel after a write that clears some. -/
def State.diagCleared (s : State) (c w : Nat) (cool : Bool) : State :=
  (((s.clearIf ((LSW_CH_STAT_OC c).of w = 1) (LSW_CH_STAT_OC c)).clearIf ((LSW_CH_STAT_OT c).of w = 1 ∧ cool) (LSW_CH_STAT_OT c)).clearIf
    ((LSW_CH_STAT_OPEN c).of w = 1) (LSW_CH_STAT_OPEN c)).clearIf ((LSW_CH_STAT_SHORT c).of w = 1) (LSW_CH_STAT_SHORT c)

theorem State.diagClear_eq {w : Nat} {cool : Bool} : s.diagClear c w cool =
    if (s.diagCleared c w cool).is .lsw (LSW_CH_STAT_OC c) ∨ (s.diagCleared c w cool).is .lsw (LSW_CH_STAT_OT c) then s.diagCleared c w cool
    else ((s.diagCleared c w cool).wr .lsw (LSW_CH_STAT_LATCHED c) 0).chanUpdate c := rfl

section
variable {w : Nat} {cool : Bool}

theorem LSW_CH_STAT_of (w : Nat) : ((LSW_CH_STAT_OC c).of w = 1 ↔ w.testBit 8 = true) ∧ ((LSW_CH_STAT_OT c).of w = 1 ↔ w.testBit 9 = true) := by
  simp [Field.of, bits, Nat.testBit_eq_decide_div_mod_eq]

theorem State.rd_diagCleared_oc : (s.diagCleared c w cool).rd .lsw (LSW_CH_STAT_OC c) =
    if w.testBit 8 then 0 else s.rd .lsw (LSW_CH_STAT_OC c) := by
  rw [State.diagCleared, State.rd_clearIf_lo (by simp), State.rd_clearIf_lo (by simp), State.rd_clearIf_lo (by simp), State.rd_clearIf_same]
  simp only [(LSW_CH_STAT_of w).1]

theorem State.rd_diagCleared_ot : (s.diagCleared c w cool).rd .lsw (LSW_CH_STAT_OT c) =
    if w.testBit 9 && cool then 0 else s.rd .lsw (LSW_CH_STAT_OT c) := by
  rw [State.diagCleared, State.rd_clearIf_lo (by simp), State.rd_clearIf_lo (by simp), State.rd_clearIf_same, State.rd_clearIf_lo (by simp)]
  simp only [(LSW_CH_STAT_of w).2, Bool.and_eq_true]

theorem State.rd_diagCleared_latched : (s.diagCleared c w cool).rd .lsw (LSW_CH_STAT_LATCHED c) = s.rd .lsw (LSW_CH_STAT_LATCHED c) := by
  rw [State.diagCleared, State.rd_clearIf_lo (by simp), State.rd_clearIf_lo (by simp), State.rd_clearIf_lo (by simp), State.rd_clearIf_lo (by simp)]

/-- After a clear only LATCHED and the phase may have changed besides, and LATCHED goes with both trips (R405). -/
theorem State.rd_diagClear {f : Field} (h0 : f.lo ≠ 0) (h3 : f.lo ≠ 3) (hl : f.lo ≠ 12) :
    (s.diagClear c w cool).rd .lsw f = (s.diagCleared c w cool).rd .lsw f := by
  rw [State.diagClear_eq]
  split
  · rfl
  · rw [State.rd_chanUpdate_lo h0 h3, State.rd_wr_lo _ _ hl]

theorem State.rd_diagClear_latched : (s.diagClear c w cool).rd .lsw (LSW_CH_STAT_LATCHED c) =
    if (s.diagCleared c w cool).rd .lsw (LSW_CH_STAT_OC c) = 0 ∧ (s.diagCleared c w cool).rd .lsw (LSW_CH_STAT_OT c) = 0 then 0
    else s.rd .lsw (LSW_CH_STAT_LATCHED c) := by
  rw [State.diagClear_eq]
  by_cases h : (s.diagCleared c w cool).rd .lsw (LSW_CH_STAT_OC c) = 0 ∧ (s.diagCleared c w cool).rd .lsw (LSW_CH_STAT_OT c) = 0
  · rw [if_pos h, if_neg (by simp [State.is, h]), State.rd_chanUpdate_lo (by simp) (by simp), State.rd_wr_same]
    rfl
  · rw [if_neg h, if_pos (by simpa [State.is, ← imp_iff_not_or] using h), State.rd_diagCleared_latched]

end

/-! #### OPEN and SHORT (R404, R406) -/

theorem exec_openDetect {ma : Nat} (hc : c < 16) (hp : s.rd .lsw (LSW_CH_STAT_PHASE c) = phON) (hm : s.missing (chanGroup c) = false)
    (he : s.is .lsw (LSW_CH_CFG_OPENEN c) = true) : exec (.openDetect c ma) s = .next
      (if (s.calibrate 6 7 ma).1 < 10 then (s.calibrate 6 7 ma).2.chanDiag c (LSW_CH_STAT_OPEN c) else (s.calibrate 6 7 ma).2) :=
  next_if_pos ⟨hc, hp, he, Bool.eq_false_iff.mp hm⟩

theorem State.rd_calibrate (g o raw : Nat) (b : Blk) (f : Field) : (s.calibrate g o raw).2.rd b f = s.rd b f := rfl

theorem exec_turnoffTimeout (hc : c < 16) (hp : s.rd .lsw (LSW_CH_STAT_PHASE c) = phTURNOFF) : exec (.turnoffTimeout c) s = .next
    ((if s.is .lsw (LSW_CH_CFG_SHORTEN c) = true ∧ ¬ s.heldOff = true then s.chanDiag c (LSW_CH_STAT_SHORT c) else s).turnedOff c) :=
  next_if_pos ⟨hc, hp⟩

theorem State.restPhase_chanDiag {f : Field} (hl : f.lo = 11) : (s.chanDiag c f).restPhase c = s.restPhase c := by
  have same := State.sameSupply_chanDiag (s := s) (c := c) f
  have drives : (s.chanDiag c f).chanDrives c = s.chanDrives c := same.chanDrives
    (State.rd_chanDiag_ne (Field.key_ne_of_lo (by dsimp only; omega))) (State.rd_chanDiag_ne (Field.key_ne_of_lo (by dsimp only; omega)))
  rw [State.restPhase, State.restPhase, same.missing, drives]

end

/-- Settles O36: commands set their bits (`State.bit_each_lswCommand`), a fallen output takes its rest (`State.turnedOff_rest`), a trip
turns the channel off (`State.rd_tripped_phase`), and a clear takes LATCHED with both trips (`State.rd_diagClear_latched`). -/
theorem loadSwitches : Obligations.LoadSwitches := by
  unfold Obligations.LoadSwitches
  intro s c w ma ms cool x phase safe up rest short low wet hot hc
  have shorts (h : ¬ short) : ¬ (s.is .lsw (LSW_CH_CFG_SHORTEN c) = true ∧ ¬ s.heldOff = true) := by
    simpa only [Bool.not_eq_true] using h
  refine ⟨fun hs => ⟨?_, ?_⟩, fun hs => ⟨⟨_, rfl, ?_⟩, ⟨_, rfl, ?_⟩⟩, fun hp => next_if_pos ⟨hc, hp⟩,
    fun hp => ⟨_, next_if_pos ⟨hc, hp⟩, State.turnedOff_rest⟩, fun hp => ⟨_, exec_turnoffTimeout hc hp, ?_, fun h => ?_, fun h => ?_⟩,
    fun hd hp hb => ⟨_, exec_ocTrip hc hd hp hb, State.rd_tripped_bit rfl (.inl rfl), State.rd_tripped_latched, State.chanDrives_tripped,
      State.rd_tripped_phase (.inl rfl) (State.missing_of_chanDrives hd) hp⟩,
    ⟨s.tripped c (LSW_CH_STAT_OT c), next_if_pos hc, State.rd_tripped_bit rfl (.inr rfl), State.rd_tripped_latched,
      State.chanDrives_tripped, fun hm hp => State.rd_tripped_phase (.inr rfl) hm hp⟩,
    fun hp hm he => ⟨_, exec_openDetect hc hp hm he, ?_, fun h => ?_, fun h => ?_⟩,
    fun hp hm hs => ⟨s.chanDiag c (LSW_CH_STAT_SHORT c), ?_, State.rd_chanDiag_set rfl, ?_⟩,
    ⟨_, next_if_pos hc, ?_, ?_, ?_⟩⟩
  · exact congrArg Host.Outcome.next (State.each_fixed fun k => State.lswCommand_safe hs true)
  · exact congrArg Host.Outcome.next (State.each_fixed fun k => State.lswCommand_safe hs false)
  · rw [State.bit_each_lswCommand hs hc]
    by_cases hb : w.testBit c = true <;> simp [mem_chanNums_filter hc, hb]
  · rw [State.bit_each_lswCommand hs hc]
    by_cases hb : w.testBit c = true <;> simp [mem_chanNums_filter hc, hb]
  · refine State.turnedOff_rest.1.trans ?_
    split
    · exact State.restPhase_chanDiag rfl
    · rfl
  · rw [if_pos ⟨h.1, Bool.eq_false_iff.mp h.2⟩]
    exact (State.turnedOff_diag (by simp) (by simp)).trans_ne (State.rd_chanDiag_set rfl)
  · rw [if_neg (shorts h)]
    exact State.turnedOff_diag (by simp) (by simp)
  · show State.rd (ite _ _ _) .lsw _ = _
    split
    · rw [State.rd_chanDiag_ne (Field.key_ne_of_lo (by simp)), State.rd_calibrate]
      exact hp
    · exact (State.rd_calibrate ..).trans hp
  · rw [if_pos h]
    exact State.rd_chanDiag_set rfl
  · rw [if_neg h]
    rfl
  · exact next_if_pos ⟨hc, hp, hs.1, Bool.eq_false_iff.mp hs.2, Bool.eq_false_iff.mp hm⟩
  · exact (State.rd_chanDiag_ne (Field.key_ne_of_lo (by simp))).trans hp
  · exact (State.rd_diagClear (by simp) (by simp) (by simp)).trans State.rd_diagCleared_oc
  · exact (State.rd_diagClear (by simp) (by simp) (by simp)).trans State.rd_diagCleared_ot
  · show State.rd _ .lsw _ = _
    rw [State.rd_diagClear_latched, State.rd_diagCleared_oc, State.rd_diagCleared_ot]
    have gone (p : Bool) (n : Nat) : (if p then 0 else n) = 0 ↔ (p = true ∨ n = 0) := by cases p <;> simp
    simp only [gone]
    rfl

end Sys2Proof.Machine

namespace Sys2Proof.Machine

/-! ### Digital inputs (R395 to R398) -/

section
variable {s t u : State} {i : Nat}

/-! #### What an input shows -/

/-- An input shows the same in both states, and its sampling stands alike. -/
structure State.SameInput (i : Nat) (t s : State) : Prop where
  count : t.rd .din (DIN_FILT_COUNT i) = s.rd .din (DIN_FILT_COUNT i)
  max : t.rd .din (DIN_FILT_MAX i) = s.rd .din (DIN_FILT_MAX i)
  raw : t.bit .din DIN_RAW_RAW i = s.bit .din DIN_RAW_RAW i
  state : t.bit .din DIN_STATE_STATE i = s.bit .din DIN_STATE_STATE i
  valid : t.bit .din DIN_VALID_VALID i = s.bit .din DIN_VALID_VALID i
  fast : t.isFast i = s.isFast i
  missing : t.missing (inputGroup i) = s.missing (inputGroup i)
  next : t.field.nextSample = s.field.nextSample

theorem State.SameInput.refl (i : Nat) (s : State) : s.SameInput i s := ⟨rfl, rfl, rfl, rfl, rfl, rfl, rfl, rfl⟩

theorem State.SameInput.trans (h : u.SameInput i t) (h' : t.SameInput i s) : u.SameInput i s :=
  ⟨h.count.trans h'.count, h.max.trans h'.max, h.raw.trans h'.raw, h.state.trans h'.state, h.valid.trans h'.valid, h.fast.trans h'.fast,
    h.missing.trans h'.missing, h.next.trans h'.next⟩

/-- Of the steps of several inputs one input sees its own alone. -/
theorem State.SameInput.each {f : State → Nat → State} (hf : ∀ (v : State) (j : Nat), j ≠ i → (f v j).SameInput i v) {l : List Nat}
    (hi : i ∈ l) (hl : l.Nodup) : ∃ v, v.SameInput i s ∧ (s.each l f).SameInput i (f v i) := by
  have others (l : List Nat) (hn : i ∉ l) (v : State) : (v.each l f).SameInput i v := by
    induction l generalizing v with
    | nil => exact .refl i v
    | cons j l ih =>
      rw [List.mem_cons, not_or] at hn
      exact (ih hn.2 _).trans (hf v j (Ne.symm hn.1))
  induction l generalizing s with
  | nil => cases hi
  | cons j l ih =>
    obtain ⟨hj, hl⟩ := List.nodup_cons.mp hl
    by_cases e : j = i
    · subst e
      exact ⟨s, .refl j s, others l hj _⟩
    · obtain ⟨v, hv, hs⟩ := ih (s := f s j) ((List.mem_cons.mp hi).resolve_left (Ne.symm e)) hl
      exact ⟨v, hv.trans (hf s j e), hs⟩

/-! #### A change of state (R396) -/

/-- The registers of an input's change: its state and its change bit. -/
def State.dinShown (s : State) (j : Nat) (v : Bool) : State := (s.setBit .din DIN_STATE_STATE j v).setBit .din DIN_CHG_CHG j true

theorem State.dinChange_same {j : Nat} {v : Bool} (h : s.bit .din DIN_STATE_STATE j = v) : s.dinChange j v = s := if_pos h

/-- The state in which an input's change is shown and marked for the next refresh (R411). -/
def State.dinMarked (s : State) (j : Nat) (v : Bool) : State :=
  { s.dinShown j v with field := { (s.dinShown j v).field with chgSince := (s.dinShown j v).field.chgSince ||| 2 ^ j } }

theorem State.dinChange_changes {j : Nat} {v : Bool} (h : s.bit .din DIN_STATE_STATE j ≠ v) : s.dinChange j v =
    if s.isFast j then s.dinMarked j v else (s.dinMarked j v).raiseCrown (64 + j) := if_neg h

theorem State.dinShown_field (j : Nat) (v : Bool) : (s.dinShown j v).field = s.field := by cases v <;> rfl

theorem State.rd_dinChange (j : Nat) (v : Bool) (b : Blk) (f : Field) (hi : b ≠ .irqCrown) (hh : b ≠ .host) :
    (s.dinChange j v).rd b f = if s.bit .din DIN_STATE_STATE j = v then s.rd b f else (s.dinShown j v).rd b f := by
  by_cases h : s.bit .din DIN_STATE_STATE j = v
  · rw [State.dinChange_same h, if_pos h]
  · rw [State.dinChange_changes h, if_neg h]
    split
    · rfl
    · exact State.rd_raiseCrown _ _ _ _ hi hh

theorem State.rd_dinChange_off (j : Nat) (v : Bool) {b : Blk} {f : Field} (hi : b ≠ .irqCrown) (hh : b ≠ .host)
    (h8 : f.off ≠ 8) (h10 : f.off ≠ 0x10) : (s.dinChange j v).rd b f = s.rd b f := by
  rw [State.rd_dinChange j v b f hi hh, State.dinShown, State.rd_setBit_off _ _ h10, State.rd_setBit_off _ _ h8]
  split <;> rfl

theorem State.bit_dinChange (j : Nat) (v : Bool) (hi : i < 32) :
    (s.dinChange j v).bit .din DIN_STATE_STATE i = if j = i then v else s.bit .din DIN_STATE_STATE i := by
  have shown : (s.dinShown j v).bit .din DIN_STATE_STATE i = if j = i then v else s.bit .din DIN_STATE_STATE i := by
    rw [State.dinShown, State.bit, State.rd_setBit_off _ _ (by decide)]
    exact State.bit_setBit hi v
  rw [State.bit, State.rd_dinChange j v _ _ (by decide) (by decide)]
  split
  · next h =>
    by_cases e : j = i
    · rw [if_pos e, ← e]
      exact h
    · rw [if_neg e, State.bit]
  · exact shown

theorem State.dinChange_field (j : Nat) (v : Bool) : (s.dinChange j v).field.nextSample = s.field.nextSample ∧
    (s.dinChange j v).field.readOnly0 = s.field.readOnly0 ∧ (s.dinChange j v).field.readOnly1 = s.field.readOnly1 := by
  have marked : (s.dinMarked j v).field.nextSample = s.field.nextSample ∧
      (s.dinMarked j v).field.readOnly0 = s.field.readOnly0 ∧ (s.dinMarked j v).field.readOnly1 = s.field.readOnly1 := by
    rw [State.dinMarked, State.dinShown_field]
    exact ⟨rfl, rfl, rfl⟩
  by_cases h : s.bit .din DIN_STATE_STATE j = v
  · rw [State.dinChange_same h]
    exact ⟨rfl, rfl, rfl⟩
  · rw [State.dinChange_changes h]
    split
    · exact marked
    · rwa [State.raiseCrown_field]

theorem State.missing_congr {g : Nat} (hs : ∀ f, t.rd .sup f = s.rd .sup f) (h0 : t.field.readOnly0 = s.field.readOnly0)
    (h1 : t.field.readOnly1 = s.field.readOnly1) : t.missing g = s.missing g := by
  rw [State.missing, State.missing, State.supply, State.supply, hs, hs, h0, h1]

theorem State.SameInput.dinChange {j : Nat} (hi : i < 32) (hj : j ≠ i) (v : Bool) : (s.dinChange j v).SameInput i s := by
  obtain ⟨next, r0, r1⟩ := s.dinChange_field j v
  refine ⟨?_, ?_, ?_, ?_, ?_, ?_, State.missing_congr (fun f => State.rd_dinChange_sup j v f) r0 r1, next⟩
  · exact State.rd_dinChange_off j v (by decide) (by decide) (by dsimp only; omega) (by dsimp only; omega)
  · exact State.rd_dinChange_off j v (by decide) (by decide) (by dsimp only; omega) (by dsimp only; omega)
  · rw [State.bit, State.rd_dinChange_off j v (by decide) (by decide) (by decide) (by decide), State.bit]
  · rw [State.bit_dinChange j v hi, if_neg hj]
  · rw [State.bit, State.rd_dinChange_off j v (by decide) (by decide) (by decide) (by decide), State.bit]
  · rw [State.isFast, State.bit, State.rd_dinChange_off j v (by decide) (by decide) (by decide) (by decide), State.isFast, State.bit]

theorem State.SameInput.setRaw {j : Nat} (hi : i < 32) (hj : j ≠ i) (v : Bool) : (s.setBit .din DIN_RAW_RAW j v).SameInput i s := by
  refine ⟨State.rd_setBit_off _ _ (by dsimp only; omega), State.rd_setBit_off _ _ (by dsimp only; omega),
    (State.bit_setBit hi v).trans (if_neg hj), ?_, ?_, ?_, State.missing_congr (fun f => State.rd_setBit_blk _ _ _ _ _ _ _ (by decide)) ?_ ?_, ?_⟩
  · rw [State.bit, State.rd_setBit_off _ _ (by decide), State.bit]
  · rw [State.bit, State.rd_setBit_off _ _ (by decide), State.bit]
  · rw [State.isFast, State.bit, State.rd_setBit_off _ _ (by decide), State.isFast, State.bit]
  all_goals cases v <;> rfl

theorem State.bit_setBit_off {f g : Field} {j : Nat} (v : Bool) (h : g.off ≠ f.off) :
    (s.setBit .din f j v).bit .din g i = s.bit .din g i := congrArg (·.testBit i) (State.rd_setBit_off j v h)

theorem State.SameInput.setValid {j : Nat} (hi : i < 32) (hj : j ≠ i) (v : Bool) : (s.setBit .din DIN_VALID_VALID j v).SameInput i s := by
  refine ⟨State.rd_setBit_off _ _ (by dsimp only; omega), State.rd_setBit_off _ _ (by dsimp only; omega), State.bit_setBit_off _ (by decide),
    State.bit_setBit_off _ (by decide), (State.bit_setBit hi v).trans (if_neg hj),
    congrArg (decide (i < 4) && ·) (State.bit_setBit_off _ (by decide)),
    State.missing_congr (fun f => State.rd_setBit_blk _ _ _ _ _ _ _ (by decide)) ?_ ?_, ?_⟩
  all_goals cases v <;> rfl

/-! #### A sample (R394, R395, R397) -/

/-- A write of another input's counter. -/
theorem State.SameInput.wrCount {j : Nat} (hj : j ≠ i) (n : Nat) : (s.wr .din (DIN_FILT_COUNT j) n).SameInput i s := by
  have other (g : Field) (h : g.lo ≠ 16) : (s.wr .din (DIN_FILT_COUNT j) n).rd .din g = s.rd .din g := State.rd_wr_lo _ _ h
  refine ⟨State.rd_wr_off _ _ (by dsimp only; omega), other _ (by simp),
    congrArg (·.testBit i) (other _ (by simp)), congrArg (·.testBit i) (other _ (by simp)),
    congrArg (·.testBit i) (other _ (by simp)), congrArg (fun x : Nat => decide (i < 4) && x.testBit i) (other DIN_CFG_FAST (by simp)),
    State.missing_congr (fun f => State.rd_wr_blk _ _ _ _ (by decide)) rfl rfl, rfl⟩

/-- What a sample makes of an input's counter (R395). -/
def State.filtCount (s : State) (j : Nat) (raw : Bool) : Nat :=
  if raw then min (s.rd .din (DIN_FILT_COUNT j) + 1) (s.rd .din (DIN_FILT_MAX j)) else s.rd .din (DIN_FILT_COUNT j) - 1

/-- The state in which the counter has stepped and RAW shows the level. -/
def State.dinCounted (s : State) (j : Nat) (raw : Bool) : State :=
  (s.wr .din (DIN_FILT_COUNT j) (s.filtCount j raw)).setBit .din DIN_RAW_RAW j raw

section
variable {j : Nat} {raw : Bool}

theorem State.dinStep_fast (h : s.isFast j = true) : s.dinStep j raw = s := if_pos h

theorem State.dinStep_missing (h : s.isFast j = false) (hm : s.missing (inputGroup j) = true) :
    s.dinStep j raw = s.setBit .din DIN_RAW_RAW j raw := (if_neg (Bool.eq_false_iff.mp h)).trans (if_pos hm)

theorem State.dinStep_filtered (h : s.isFast j = false) (hm : s.missing (inputGroup j) = false) : s.dinStep j raw =
    if s.filtCount j raw = s.rd .din (DIN_FILT_MAX j) then ((s.dinCounted j raw).setBit .din DIN_VALID_VALID j true).dinChange j true
    else if s.filtCount j raw = 0 then ((s.dinCounted j raw).setBit .din DIN_VALID_VALID j true).dinChange j false
    else s.dinCounted j raw := (if_neg (Bool.eq_false_iff.mp h)).trans (if_neg (Bool.eq_false_iff.mp hm))

theorem State.SameInput.dinStep (hi : i < 32) (hj : j ≠ i) : (s.dinStep j raw).SameInput i s := by
  have counted : (s.dinCounted j raw).SameInput i s := (State.SameInput.setRaw hi hj raw).trans (.wrCount hj _)
  have ended (v : Bool) : (((s.dinCounted j raw).setBit .din DIN_VALID_VALID j true).dinChange j v).SameInput i s :=
    (State.SameInput.dinChange hi hj v).trans ((State.SameInput.setValid hi hj true).trans counted)
  cases hf : s.isFast j with
  | true =>
    rw [State.dinStep_fast hf]
    exact .refl i s
  | false =>
    cases hm : s.missing (inputGroup j) with
    | true =>
      rw [State.dinStep_missing hf hm]
      exact .setRaw hi hj raw
    | false =>
      rw [State.dinStep_filtered hf hm]
      split
      · exact ended true
      · split
        · exact ended false
        · exact counted

theorem State.setBit_field (b : Blk) (f : Field) (k : Nat) (v : Bool) : (s.setBit b f k v).field = s.field := by cases v <;> rfl

/-- A step leaves the next sample where it is. -/
theorem State.dinStep_next : (s.dinStep j raw).field.nextSample = s.field.nextSample := by
  have counted : (s.dinCounted j raw).field.nextSample = s.field.nextSample := congrArg FieldDie.nextSample (State.setBit_field ..)
  have ended (v : Bool) : (((s.dinCounted j raw).setBit .din DIN_VALID_VALID j true).dinChange j v).field.nextSample = s.field.nextSample :=
    (State.dinChange_field j v).1.trans ((congrArg FieldDie.nextSample (State.setBit_field ..)).trans counted)
  cases hf : s.isFast j with
  | true => rw [State.dinStep_fast hf]
  | false =>
    cases hm : s.missing (inputGroup j) with
    | true => rw [State.dinStep_missing hf hm, State.setBit_field]
    | false =>
      rw [State.dinStep_filtered hf hm]
      split
      · exact ended true
      · split
        · exact ended false
        · exact counted

/-- A step of an input that is not fast, of a missing group. -/
theorem State.dinStep_missing_shown (hi : i < 32) (h : s.isFast i = false) (hm : s.missing (inputGroup i) = true) :
    (s.dinStep i raw).rd .din (DIN_FILT_COUNT i) = s.rd .din (DIN_FILT_COUNT i) ∧ (s.dinStep i raw).bit .din DIN_RAW_RAW i = raw ∧
    (s.dinStep i raw).bit .din DIN_STATE_STATE i = s.bit .din DIN_STATE_STATE i ∧
    (s.dinStep i raw).bit .din DIN_VALID_VALID i = s.bit .din DIN_VALID_VALID i := by
  rw [State.dinStep_missing h hm]
  exact ⟨State.rd_setBit_off _ _ (by dsimp only; omega), (State.bit_setBit hi raw).trans (if_pos rfl), State.bit_setBit_off _ (by decide),
    State.bit_setBit_off _ (by decide)⟩

/-- What an input shows once its counter has stepped. -/
theorem State.dinCounted_shown (hi : i < 32) : (s.dinCounted i raw).rd .din (DIN_FILT_COUNT i) = s.filtCount i raw % 2 ^ 12 ∧
    (s.dinCounted i raw).bit .din DIN_RAW_RAW i = raw ∧ (s.dinCounted i raw).bit .din DIN_STATE_STATE i = s.bit .din DIN_STATE_STATE i ∧
    (s.dinCounted i raw).bit .din DIN_VALID_VALID i = s.bit .din DIN_VALID_VALID i :=
  ⟨(State.rd_setBit_off _ _ (by dsimp only; omega)).trans (State.rd_wr_same ..), (State.bit_setBit hi raw).trans (if_pos rfl),
    (State.bit_setBit_off _ (by decide)).trans (congrArg (·.testBit i) (State.rd_wr_lo _ _ (by simp))),
    (State.bit_setBit_off _ (by decide)).trans (congrArg (·.testBit i) (State.rd_wr_lo _ _ (by simp)))⟩

/-- What an input shows once its counter has reached an end: it is valid, in the state of that end. -/
theorem State.dinEnded_shown (hi : i < 32) (v : Bool) :
    let u := (t.setBit .din DIN_VALID_VALID i true).dinChange i v
    u.rd .din (DIN_FILT_COUNT i) = t.rd .din (DIN_FILT_COUNT i) ∧ u.bit .din DIN_RAW_RAW i = t.bit .din DIN_RAW_RAW i ∧
    u.bit .din DIN_STATE_STATE i = v ∧ u.bit .din DIN_VALID_VALID i = true := by
  refine ⟨?_, ?_, (State.bit_dinChange i v hi).trans (if_pos rfl), ?_⟩
  · rw [State.rd_dinChange_off i v (by decide) (by decide) (by dsimp only; omega) (by dsimp only; omega),
      State.rd_setBit_off _ _ (by dsimp only; omega)]
  · rw [State.bit, State.rd_dinChange_off i v (by decide) (by decide) (by decide) (by decide)]
    exact State.bit_setBit_off _ (by decide)
  · rw [State.bit, State.rd_dinChange_off i v (by decide) (by decide) (by decide) (by decide)]
    exact (State.bit_setBit hi true).trans (if_pos rfl)

/-- A step of an input that is not fast, of a group that is present: the state follows where the counter reaches an end. -/
theorem State.dinStep_filtered_shown (hi : i < 32) (h : s.isFast i = false) (hm : s.missing (inputGroup i) = false) :
    (s.dinStep i raw).rd .din (DIN_FILT_COUNT i) = s.filtCount i raw % 2 ^ 12 ∧ (s.dinStep i raw).bit .din DIN_RAW_RAW i = raw ∧
    (s.dinStep i raw).bit .din DIN_STATE_STATE i = (if s.filtCount i raw = s.rd .din (DIN_FILT_MAX i) then true
      else if s.filtCount i raw = 0 then false else s.bit .din DIN_STATE_STATE i) ∧
    (s.dinStep i raw).bit .din DIN_VALID_VALID i =
      (s.bit .din DIN_VALID_VALID i || s.filtCount i raw == s.rd .din (DIN_FILT_MAX i) || s.filtCount i raw == 0) := by
  obtain ⟨count, level, state, valid⟩ := State.dinCounted_shown (s := s) (raw := raw) hi
  have ended (v : Bool) := State.dinEnded_shown (t := s.dinCounted i raw) hi v
  rw [State.dinStep_filtered h hm]
  by_cases hx : s.filtCount i raw = s.rd .din (DIN_FILT_MAX i)
  · obtain ⟨c, r, st, va⟩ := ended true
    simp only [if_pos hx]
    exact ⟨c.trans count, r.trans level, st, va.trans (by simp [hx])⟩
  · by_cases h0 : s.filtCount i raw = 0
    · obtain ⟨c, r, st, va⟩ := ended false
      simp only [if_neg hx, if_pos h0]
      exact ⟨c.trans count, r.trans level, st, va.trans (by simp [h0])⟩
    · simp only [if_neg hx, if_neg h0]
      refine ⟨count, level, state, ?_⟩
      rw [valid, beq_false_of_ne hx, beq_false_of_ne h0, Bool.or_false, Bool.or_false]

end

/-- The state in which the next sample is scheduled. -/
def State.sampleDue (s : State) : State := { s with field := { s.field with nextSample := s.now + 1000 * s.rd .din DIN_PERIOD_US } }

theorem State.dinSample_eq (raw : Nat) : s.dinSample raw = s.sampleDue.each (List.range 32) fun t j => t.dinStep j (raw.testBit j) := rfl

/-- To one input a sample of all of them is its own step. -/
theorem State.dinSample_own (hi : i < 32) (raw : Nat) :
    ∃ v : State, v.SameInput i s.sampleDue ∧ (s.dinSample raw).SameInput i (v.dinStep i (raw.testBit i)) :=
  State.SameInput.each (s := s.sampleDue) (fun _ _ hj => State.SameInput.dinStep hi hj) (List.mem_range.mpr hi) (List.nodup_range ..)

theorem State.SameInput.filtCount {raw : Bool} (h : t.SameInput i s) : t.filtCount i raw = s.filtCount i raw := by
  rw [State.filtCount, State.filtCount, h.count, h.max]

/-! #### A fast input (R398) -/

/-- The registers of the inputs are the same. -/
structure State.SameInputs (t s : State) : Prop where
  rd : ∀ f, t.rd .din f = s.rd .din f

theorem State.sameInputs_raiseCrown (n : Nat) : (s.raiseCrown n).SameInputs s :=
  ⟨fun _ => State.rd_raiseCrown _ _ _ _ (by decide) (by decide)⟩

theorem State.sameInputs_offer (code : Nat) (n : Node) (l : List Nat) : (s.offer code n l).SameInputs s :=
  ⟨fun _ => State.rd_offer _ _ _ _ _ _ (by decide)⟩

theorem State.sameInputs_wr {b : Blk} (h : Blk.din ≠ b) (f : Field) (v : Nat) : (s.wr b f v).SameInputs s :=
  ⟨fun _ => State.rd_wr_blk _ _ _ _ h⟩

theorem State.SameInputs.trans (h : u.SameInputs t) (h' : t.SameInputs s) : u.SameInputs s := ⟨fun f => (h.rd f).trans (h'.rd f)⟩

theorem State.SameInputs.of_regs (h : t.regs = s.regs) : t.SameInputs s := ⟨fun f => State.rd_of_regs h .din f⟩

theorem State.sameInputs_rfxPush (d : Nat) (g : Trigger) : (s.rfxPush d g).SameInputs s := by
  rw [State.rfxPush]
  split
  · exact ⟨fun _ => rfl⟩
  · dsimp only
    split
    · exact ⟨fun _ => rfl⟩
    · exact (State.sameInputs_offer ..).trans ((State.sameInputs_wr (by nofun) _ _).trans (State.sameInputs_wr (by nofun) _ _))

theorem State.sameInputs_setQual (r : Nat) (v : Bool) : (s.setQual r v).SameInputs s := by
  simp only [State.setQual]
  split
  · exact State.sameInputs_wr (by decide) _ _
  · split
    · exact State.sameInputs_wr (by decide) _ _
    · exact ⟨fun _ => rfl⟩

theorem State.sameInputs_requalify (target : Nat) (kept : List Nat) (r : Nat) : (s.requalify target kept r).SameInputs s := by
  rw [State.requalify]
  split
  · exact ⟨fun _ => rfl⟩
  · exact (State.SameInputs.of_regs (State.setSince_regs ..)).trans (State.sameInputs_setQual ..)

theorem State.sameInputs_switched (target : Nat) : (s.switched target).SameInputs s := by
  have wr {v : State} (f : Field) (n : Nat) : (v.wr .tmb f n).SameInputs v := State.sameInputs_wr (by decide) f n
  exact (wr _ _).trans ((wr _ _).trans ((wr _ _).trans (wr _ _)))

theorem State.sameInputs_finishSwitch (target : Nat) : (s.finishSwitch target).SameInputs s := by
  rw [State.finishSwitch_eq]
  exact (State.sameInputs_offer ..).trans ((State.sameInputs_requalify ..).trans ((State.sameInputs_requalify ..).trans (State.sameInputs_switched _)))

theorem State.sameInputs_keptNow : s.keptNow.SameInputs s := ⟨fun _ => rfl⟩

theorem State.sameInputs_switching (target : Nat) : (s.switching target).SameInputs s := by
  have wr {v : State} (f : Field) (n : Nat) : (v.wr .tmb f n).SameInputs v := State.sameInputs_wr (by decide) f n
  refine ⟨fun f => ?_⟩
  rw [State.switching, State.rd_withTmb]
  exact ((wr _ _).trans ((wr _ _).trans ((wr _ _).trans State.sameInputs_keptNow))).rd f

theorem State.sameInputs_startSwitch (target : Nat) : (s.startSwitch target).SameInputs s := by
  have wr {v : State} (f : Field) (n : Nat) : (v.wr .tmb f n).SameInputs v := State.sameInputs_wr (by decide) f n
  cases hl : s.is .tmb TMB_CTRL_LINEEN with
  | true =>
    rw [State.startSwitch_lines hl]
    exact (State.sameInputs_raiseCrown _).trans ((State.sameInputs_raiseCrown _).trans (State.sameInputs_switching _))
  | false =>
    rw [State.startSwitch_free hl]
    exact (State.sameInputs_raiseCrown _).trans ((State.sameInputs_finishSwitch _).trans ((wr _ _).trans State.sameInputs_keptNow))

theorem State.sameInputs_refDropped (r : Nat) : (s.refDropped r).SameInputs s := by
  have wr {v : State} (f : Field) (n : Nat) : (v.wr .tmb f n).SameInputs v := State.sameInputs_wr (by decide) f n
  refine ⟨fun f => ?_⟩
  rw [State.refDropped, State.rd_withTmb]
  split
  · exact ((wr _ _).trans (wr _ _)).rd f
  · exact ((wr _ _).trans (wr _ _)).rd f

theorem State.sameInputs_loseRef (r : Nat) : (s.loseRef r).SameInputs s := by
  have wr {v : State} (f : Field) (n : Nat) : (v.wr .tmb f n).SameInputs v := State.sameInputs_wr (by decide) f n
  obtain e | e | e := s.loseRef_cases (r := r)
  · exact e ▸ State.sameInputs_refDropped r
  · rw [e]
    exact (wr _ _).trans ((wr _ _).trans (State.sameInputs_refDropped r))
  · rw [e]
    exact (State.sameInputs_startSwitch _).trans (State.sameInputs_refDropped r)

theorem State.sameInputs_encoderEdge (input : Nat) (level : Bool) (atPs : Nat) : (s.encoderEdge input level atPs).SameInputs s := by
  have error {v : State} (hv : v.SameInputs s) : (if v.refValid 2 then v.loseRef 2 else v).SameInputs s := by
    split
    · exact (State.sameInputs_loseRef 2).trans hv
    · exact hv
  simp only [State.encoderEdge]
  split
  · exact error ((State.sameInputs_wr (b := .tmb) (by decide) _ _).trans ⟨fun _ => rfl⟩)
  · exact ⟨fun _ => rfl⟩

theorem State.sameInputs_each {α : Type} {l : List α} {f : State → α → State} (h : ∀ (v : State) a, (f v a).SameInputs v) :
    (s.each l f).SameInputs s := by
  induction l generalizing s with
  | nil => exact ⟨fun _ => rfl⟩
  | cons a l ih => exact ih.trans (h s a)

/-- The registers of a fast input once it takes its level. -/
def State.fastTaken (s : State) (i : Nat) (level : Bool) : State :=
  (((s.dinChange i level).setBit .din DIN_RAW_RAW i level).setBit .din DIN_VALID_VALID i true).bump .din (DIN_FASTCNT_COUNT i)

theorem State.fastEdge_taken {level : Bool} (hf : s.isFast i = true) (hm : s.missing (inputGroup i) = false)
    (hl : s.bit .din DIN_STATE_STATE i ≠ level) (atPs : Nat) : (s.fastEdge i level atPs).SameInputs (s.fastTaken i level) := by
  have taken : s.isFast i ∧ ¬ s.missing (inputGroup i) ∧ s.bit .din DIN_STATE_STATE i ≠ level := ⟨hf, by simp [hm], hl⟩
  have pushed (g : Trigger) : ((s.fastTaken i level).each s.diesList fun u d => u.rfxPush d g).SameInputs (s.fastTaken i level) :=
    State.sameInputs_each fun _ _ => State.sameInputs_rfxPush ..
  rw [State.fastEdge, if_pos taken]
  dsimp only
  split
  · exact (State.sameInputs_encoderEdge ..).trans (pushed _)
  · exact pushed _

theorem State.fastTaken_shown {level : Bool} (hi : i < 32) (hl : s.bit .din DIN_STATE_STATE i ≠ level) :
    (s.fastTaken i level).bit .din DIN_STATE_STATE i = level ∧ (s.fastTaken i level).bit .din DIN_CHG_CHG i = true ∧
    (s.fastTaken i level).rd .din (DIN_FASTCNT_COUNT i) = min (s.rd .din (DIN_FASTCNT_COUNT i) + 1) (2 ^ 32 - 1) := by
  have rest {f : Field} (hc : f.off ≠ 0xa0 + 4 * i) (hr : f.off ≠ 0xc) (hv : f.off ≠ 0x14) :
      (s.fastTaken i level).rd .din f = (s.dinChange i level).rd .din f := by
    rw [State.fastTaken, State.bump, State.rd_wr_off _ _ hc, State.rd_setBit_off _ _ hv, State.rd_setBit_off _ _ hr]
  refine ⟨?_, ?_, ?_⟩
  · rw [State.bit, rest (by dsimp only; omega) (by decide) (by decide)]
    exact (State.bit_dinChange i level hi).trans (if_pos rfl)
  · rw [State.bit, rest (by dsimp only; omega) (by decide) (by decide), State.rd_dinChange i level _ _ (by decide) (by decide), if_neg hl]
    exact (State.bit_setBit hi true).trans (if_pos rfl)
  · rw [State.fastTaken, State.bump, State.rd_wr_same, State.rd_setBit_off _ _ (by dsimp only; omega), State.rd_setBit_off _ _ (by dsimp only; omega),
      State.rd_dinChange_off i level (by decide) (by decide) (by dsimp only; omega) (by dsimp only; omega)]
    exact Nat.mod_eq_of_lt (by dsimp only; omega)

/-! #### FILT_MAX (R395) -/

theorem filtMax_of (i w : Nat) : (DIN_FILT_MAX i).of w = w % 2 ^ 12 := by simp [Field.of, bits]

theorem State.dinFilt_sets {w : Nat} (h : w % 2 ^ 12 ≠ 0) : s.dinFilt i w =
    (s.wr .din (DIN_FILT_MAX i) (w % 2 ^ 12)).wr .din (DIN_FILT_COUNT i) (if s.bit .din DIN_STATE_STATE i then w % 2 ^ 12 else 0) := by
  rw [State.dinFilt, filtMax_of, if_neg h]

theorem State.dinFilt_zero {w : Nat} (h : w % 2 ^ 12 = 0) : s.dinFilt i w = s := by rw [State.dinFilt, filtMax_of, if_pos h]

end

/-- Settles O38: a sample is each input's own step (`State.dinSample_own`, `State.dinStep_filtered_shown`), and an edge of a fast input
reaches no other register of the inputs (`State.fastEdge_taken`). -/
theorem digitalInputs : Obligations.DigitalInputs := by
  unfold Obligations.DigitalInputs
  intro s i w raw at_ level bit mx n n' due hi
  have sampled (h : due) : exec (.dinSample raw) s = .next (s.dinSample raw) := next_if_pos h
  refine ⟨fun hd hf hm => ⟨_, sampled hd, ?_⟩, fun hd hf hm => ⟨_, sampled hd, ?_⟩, fun hw => ⟨_, next_if_pos hi, ?_⟩,
    fun hw => (next_if_pos hi).trans (congrArg _ (State.dinFilt_zero hw)), fun hf hm hl => ⟨_, rfl, ?_⟩⟩
  · obtain ⟨v, hv, hu⟩ := State.dinSample_own (s := s) hi raw
    obtain ⟨count, level, state, valid⟩ :=
      State.dinStep_missing_shown (raw := raw.testBit i) hi (hv.fast.trans hf) (hv.missing.trans hm)
    exact ⟨hu.count.trans (count.trans hv.count), hu.raw.trans level, hu.state.trans (state.trans hv.state),
      hu.valid.trans (valid.trans hv.valid)⟩
  · obtain ⟨v, hv, hu⟩ := State.dinSample_own (s := s) hi raw
    obtain ⟨count, level, state, valid⟩ :=
      State.dinStep_filtered_shown (raw := raw.testBit i) hi (hv.fast.trans hf) (hv.missing.trans hm)
    rw [hv.filtCount] at count state valid
    rw [hv.max, hv.state] at state
    rw [hv.max, hv.valid] at valid
    exact ⟨hu.next.trans (State.dinStep_next.trans hv.next), hu.count.trans count, hu.raw.trans level, hu.state.trans state, hu.valid.trans valid⟩
  · have state (f : Field) (h : f.off ≠ 0x20 + 4 * i) : (s.dinFilt i w).rd .din f = s.rd .din f := by
      rw [State.dinFilt_sets hw, State.rd_wr_off _ _ h, State.rd_wr_off _ _ h]
    refine ⟨?_, ?_, congrArg (·.testBit i) (state _ (by dsimp only; omega))⟩
    · rw [State.dinFilt_sets hw, State.rd_wr_lo _ _ (by simp), State.rd_wr_same, Nat.mod_mod]
    · rw [State.dinFilt_sets hw, State.rd_wr_same]
      split
      · exact Nat.mod_mod ..
      · rfl
  · have taken := State.fastEdge_taken hf hm hl at_
    obtain ⟨state, chg, count⟩ := State.fastTaken_shown hi hl
    exact ⟨(congrArg (·.testBit i) (taken.rd _)).trans state, (congrArg (·.testBit i) (taken.rd _)).trans chg, (taken.rd _).trans count⟩

end Sys2Proof.Machine

namespace Sys2Proof.Machine

/-! ### The event recorder (R464 to R467) -/

section
variable {s : State}

@[simp] theorem State.raiseCrown_recorder (n : Nat) : (s.raiseCrown n).recorder = s.recorder := by rw [State.raiseCrown_only]
@[simp] theorem State.dirty_recorder (n : Nat) : (s.dirty n).recorder = s.recorder := rfl
@[simp] theorem State.wholeGood_recorder (m : MemId) (a n : Nat) : (s.wholeGood m a n).recorder = s.recorder := rfl
@[simp] theorem State.evrOverrun_recorder : s.evrOverrun.recorder = s.recorder := by simp [State.evrOverrun]

/-! #### Taking a record (R466) -/

/-- The recorder once a record has been accepted: the record in its slot, and the next SEQ (R464, R466). -/
def State.recorded (s : State) (r : Offered) (supp : Nat) : Recorder :=
  let seq := s.recorder.next
  let old := s.recorder.oldest
  { s.recorder with
    slots := Tab.set (fun k => k) s.recorder.slots (seq % 16384) [0, 0, 0, 0, 0, 0, 0, 0] (recordWords seq supp s.recorder.pwrcnt r)
    next := seqNext seq
    oldest := if old % 16384 = seq % 16384 ∧ old ≠ seq then seqNext old else old }

/-- An accepted record changes the recorder as `State.recorded` says; the rest is in registers, marks and sources. -/
theorem State.accept_recorder (r : Offered) (supp : Nat) : (s.accept r supp).recorder = s.recorded r supp := by
  have raised (p : Prop) [Decidable p] (n : Nat) (t : State) : (if p then t.raiseCrown n else t).recorder = t.recorder := by
    split <;> simp
  have overrun (p : Prop) [Decidable p] (t : State) : (if p then t.evrOverrun else t).recorder = t.recorder := by
    split <;> simp
  have cursor (p : Prop) [Decidable p] (t : State) (v : Nat) :
      (if p then t.wr .evr EVR_CURSOR_SEQ v else t).recorder = t.recorder := by split <;> rfl
  simp only [State.accept]
  rw [raised, overrun, State.dirty_recorder, State.wholeGood_recorder, cursor]
  rfl

theorem State.takeRecord_low {r : Offered} (h : r.code / 2 ^ 12 < s.rd .evr EVR_CFG_MINSEV) : s.takeRecord r = s := if_pos h

theorem State.takeRecord_limited {r : Offered} (h : s.rd .evr EVR_CFG_MINSEV ≤ r.code / 2 ^ 12)
    (hl : s.is .evr (EVR_RATE_EN (r.code % 256)) = true ∧ s.rd .evr (EVR_RATE_TOKENS (r.code % 256)) = 0) :
    s.takeRecord r = (s.bump .evr (EVR_SUP_COUNT (r.code % 256))).bump .evr EVR_SUPCNT_COUNT :=
  (if_neg (by omega)).trans (if_pos (by simpa using hl))

/-- The state in which a record's bucket has given its token and what it had suppressed. -/
def State.granted (s : State) (b : Nat) : State :=
  (if s.is .evr (EVR_RATE_EN b) then s.wr .evr (EVR_RATE_TOKENS b) (s.rd .evr (EVR_RATE_TOKENS b) - 1) else s).wr .evr (EVR_SUP_COUNT b) 0

theorem State.granted_recorder (b : Nat) : (s.granted b).recorder = s.recorder := by
  rw [State.granted]
  split <;> rfl

theorem State.takeRecord_accepts {r : Offered} (h : s.rd .evr EVR_CFG_MINSEV ≤ r.code / 2 ^ 12)
    (hl : ¬ (s.is .evr (EVR_RATE_EN (r.code % 256)) = true ∧ s.rd .evr (EVR_RATE_TOKENS (r.code % 256)) = 0)) :
    s.takeRecord r = (s.granted (r.code % 256)).accept r (s.rd .evr (EVR_SUP_COUNT (r.code % 256))) :=
  (if_neg (by omega)).trans (if_neg (by simpa using hl))

theorem State.takeRecord_recorder {r : Offered} (h : s.rd .evr EVR_CFG_MINSEV ≤ r.code / 2 ^ 12)
    (hl : ¬ (s.is .evr (EVR_RATE_EN (r.code % 256)) = true ∧ s.rd .evr (EVR_RATE_TOKENS (r.code % 256)) = 0)) :
    (s.takeRecord r).recorder = s.recorded r (s.rd .evr (EVR_SUP_COUNT (r.code % 256))) := by
  rw [State.takeRecord_accepts h hl, State.accept_recorder, State.recorded, State.granted_recorder, State.recorded]

theorem State.slot_of_recorder {m : Recorder} (h : s.recorder = m) (n : Nat) : s.slot n = Tab.get m.slots n [0, 0, 0, 0, 0, 0, 0, 0] :=
  h ▸ rfl

theorem State.recorded_same (r : Offered) (supp : Nat) :
    Tab.get (s.recorded r supp).slots (s.recorder.next % 16384) [0, 0, 0, 0, 0, 0, 0, 0] =
      recordWords s.recorder.next supp s.recorder.pwrcnt r := Tab.get_set_same ..

theorem State.recorded_ne {n : Nat} (r : Offered) (supp : Nat) (h : n ≠ s.recorder.next % 16384) :
    Tab.get (s.recorded r supp).slots n [0, 0, 0, 0, 0, 0, 0, 0] = s.slot n := Tab.get_set_ne _ _ _ _ _ h

/-- The state in which the record at the front of the hold has left it. -/
def State.holding (s : State) (rs : List Offered) : State := { s with recorder := { s.recorder with hold := rs } }

theorem State.eventOffer_takes {r : Offered} {rs : List Offered} (h : s.recorder.hold = r :: rs) (h0 : s.recorder.lost = 0) :
    s.eventOffer = (s.holding rs).takeRecord r := by
  have none : ¬ (rs = [] ∧ s.recorder.lost ≠ 0) := fun hl => hl.2 h0
  rw [State.eventOffer, h]
  exact if_neg none

/-! #### The read window (R467) -/

/-- What a read of EVR_WIN7 makes of the state once the word has been returned. -/
theorem State.evrWin7_read (hc : s.evrCursor ≠ s.recorder.next) (hg : s.eccGood .evr (32 * (s.evrCursor % 16384) + 28) 4 = true) :
    s.evrWin7.2 = if (s.slot (s.evrCursor % 16384)).getD 0 0 = s.evrCursor then s.wr .evr EVR_CURSOR_SEQ (seqNext s.evrCursor)
      else (s.wr .evr EVR_CURSOR_SEQ s.recorder.oldest).evrOverrun := by
  have read : s.evrRead 7 = (some (s.evrWin 7), s) := by
    rw [State.evrRead, if_neg hc, State.eccRead_good _ _ _ _ hg]
    rfl
  rw [State.evrWin7]
  simp only [read, if_neg hc]
  split <;> rfl

end

/-- Settles O23: what taking a record does by its severity and its bucket (`State.takeRecord_low`, `State.takeRecord_limited`,
`State.takeRecord_recorder`), and what a read of the last window word does to the cursor (`State.evrWin7_read`). -/
theorem eventRecorder : Obligations.EventRecorder := by
  unfold Obligations.EventRecorder
  intro s r rs b v sev k seq limited t step c good
  have taken (h : s.recorder.hold = r :: rs) (h0 : s.recorder.lost = 0) : exec .eventOffer s = .next (t.takeRecord r) :=
    congrArg Host.Outcome.next (State.eventOffer_takes h h0)
  refine ⟨fun hs h h0 => (taken h h0).trans (congrArg _ (State.takeRecord_low (s := t) hs)),
    fun hs hl h h0 => (taken h h0).trans (congrArg _ (State.takeRecord_limited (s := t) hs hl)),
    fun hs hl h h0 => ⟨_, taken h h0, ?_⟩, fun hb hr ht => next_if_pos ⟨hb, hr, ht⟩,
    fun hc hg hw => congrArg _ ((State.evrWin7_read hc hg).trans (if_pos hw)),
    fun hc hg hw => congrArg _ ((State.evrWin7_read hc hg).trans (if_neg hw)), fun hv h h' => ?_, fun hv h => ?_⟩
  · have recorder := State.takeRecord_recorder (s := t) hs hl
    refine ⟨congrArg Recorder.hold recorder, congrArg Recorder.next recorder, ?_, fun n hn => ?_⟩
    · rw [State.slot_of_recorder recorder]
      exact State.recorded_same ..
    · rw [State.slot_of_recorder recorder]
      exact State.recorded_ne _ _ hn
  · show Host.Outcome.next (s.evrCursorWrite (v % 2 ^ 32)) = _
    rw [Nat.mod_eq_of_lt hv]
    exact congrArg _ (if_pos ⟨h, h'⟩)
  · show Host.Outcome.next (s.evrCursorWrite (v % 2 ^ 32)) = _
    rw [Nat.mod_eq_of_lt hv]
    exact congrArg _ (if_neg fun ⟨h1, h2⟩ => by omega)

end Sys2Proof.Machine

namespace Sys2Proof.Machine

/-! ### Retained stores (R451 to R455) -/

/-! #### Cells that are moved -/

theorem Tab.find_append {κ α : Type} [DecidableEq κ] (t u : Tab κ α) (k : κ) : Tab.find (t ++ u) k = (Tab.find t k).or (Tab.find u k) := by
  induction t with
  | nil => rfl
  | cons e t ih =>
    rw [List.cons_append, Tab.find, Tab.find, ih]
    split <;> rfl

/-- A slice holds the cells of its range, moved to 0. -/
theorem Cells.find_slice (m : Cells) (lo n k : Nat) : Tab.find (Cells.slice m lo n) k = if k < n then Tab.find m (lo + k) else none := by
  induction m with
  | nil => simp [Cells.slice, Tab.find]
  | cons e m ih =>
    by_cases h : lo ≤ e.1 ∧ e.1 < lo + n
    · have step : Cells.slice (e :: m) lo n = (e.1 - lo, e.2) :: Cells.slice m lo n := by simp [Cells.slice, h]
      have same : e.1 - lo = k ↔ k < n ∧ e.1 = lo + k := by omega
      rw [step, Tab.find, Tab.find, ih]
      by_cases hk : k < n <;> simp [same, hk]
    · have step : Cells.slice (e :: m) lo n = Cells.slice m lo n := by simp [Cells.slice, h]
      have other : k < n → e.1 ≠ lo + k := by omega
      rw [step, ih, Tab.find]
      by_cases hk : k < n <;> simp [hk, other]

section
variable {s : State}

/-- A memory whose first `n` cells are replaced reads as the new ones there. -/
theorem State.byte_putSlice {m : MemId} {n o : Nat} (c : Cells) (ho : o < n) : (s.putSlice m 0 n c).byte m o = c.get o := by
  have new : (c.slice 0 n).map (fun e => (e.1 + 0, e.2)) = c.slice 0 n := List.map_id _
  have low : (s.mem m).filter (fun e => decide (e.1 < 0)) = [] := by simp
  rw [State.byte, State.putSlice, State.mem_setMem_same, new, low, List.nil_append, Cells.get, Tab.get, Tab.find_append,
    Cells.find_slice, if_pos ho, Nat.zero_add, Tab.find_filter (fun a => decide (0 + n ≤ a)),
    if_neg (by simpa using ho), Option.or_none]
  rfl

/-- What an engine reads of the retained store changes marks alone. -/
theorem State.scan_ret (o n : Nat) : s.scan .ret o n = { s with ecc := (s.scan .ret o n).ecc } := by
  have report (l : List Nat) (t : State) : (t.each l fun t w => t.eccReport .ret w) = t := by
    induction l generalizing t with
    | nil => rfl
    | cons w l ih => exact ih t
  have correct (l : List Nat) (t : State) :
      (t.each l fun t w => t.eccCorrect .ret w) = { t with ecc := (t.each l fun t w => t.eccCorrect .ret w).ecc } := by
    induction l generalizing t with
    | nil => rfl
    | cons w l ih => exact ih (t.eccCorrect .ret w)
  rw [State.scan, report]
  exact correct _ s

/-- A copy out of the retained store changes a memory and marks alone. -/
theorem State.copyMem_ret (m : MemId) (o o' n : Nat) : s.copyMem .ret m o o' n =
    { s with mems := ((s.scan .ret o n).putSlice m o' n ((s.mem .ret).slice o n)).mems, ecc := (s.copyMem .ret m o o' n).ecc } := by
  have marked (l : List Nat) (t : State) :
      (t.each l fun t w => t.setEcc m w .uncorrectable) = { t with ecc := (t.each l fun t w => t.setEcc m w .uncorrectable).ecc } := by
    induction l generalizing t with
    | nil => rfl
    | cons w l ih => exact ih _
  rw [State.copyMem, marked]
  dsimp only
  rw [State.wholeGood, State.putSlice, State.scan_ret]
  rfl

theorem State.byte_copyMem_ret {m : MemId} {n x o : Nat} (hx : x < n) :
    (s.copyMem .ret m o 0 n).byte m x = s.byte .ret (o + x) := by
  rw [State.copyMem_ret]
  refine (State.byte_putSlice (s := s.scan .ret o n) _ hx).trans ?_
  rw [Cells.get, Tab.get, Cells.find_slice, if_pos hx]
  rfl

/-! #### A store starts (R452) -/

/-- The invalid copy that a store of a segment begins with (R452, R453). -/
def State.snapshot (s : State) (g : Nat) : NvCopy :=
  { valid := false, gen := s.nextGen g, owned := s.ownedItems g, extra := s.extraItems g,
    targets := if g = 28 then s.nvs.targets else [], rest := if g = 0 then s.rest else {} }

/-- The state in which the snapshot lies in the target bank. -/
def State.snapped (s : State) (g : Nat) : State :=
  (s.setCopy (s.targetBank g) g (s.snapshot g)).copyMem .ret (.nv (s.targetBank g) g) (g * 0x10000) 0 0x10000

/-- The state in which the engine shows the segment that it stores. -/
def State.storing (s : State) (g : Nat) : State :=
  (((s.snapped g).setBit .nvs NVS_DIRTY_DIRTY g false).wr .nvs NVS_STAT_BUSY 1).wr .nvs NVS_STAT_SEG g

section
variable {g : Nat} {why : StoreWhy}

theorem State.startStore_eq (hg : g < 31) : s.startStore g why =
    { s.storing g with nvs := { (s.storing g).nvs with
      run := some { seg := g, bank := s.targetBank g, gen := s.nextGen g, why := why } } } := by
  have tail : ¬ (g = 31 ∧ why ≠ .powerFail) := fun h => absurd h.1 (by omega)
  rw [State.startStore, if_neg tail]
  rfl

theorem State.snapped_nvs : (s.snapped g).nvs = (s.setCopy (s.targetBank g) g (s.snapshot g)).nvs := by
  rw [State.snapped, State.copyMem_ret]

theorem State.storing_nvs : (s.storing g).nvs = (s.setCopy (s.targetBank g) g (s.snapshot g)).nvs := State.snapped_nvs

theorem State.copyOf_congr {t : State} {b : Nat} (h : t.nvs.copies = s.nvs.copies) : t.copyOf b g = s.copyOf b g := by
  rw [State.copyOf, State.copyOf, h]

theorem State.copyOf_setCopy_same (b : Nat) (c : NvCopy) : (s.setCopy b g c).copyOf b g = c := Tab.get_set_same ..

theorem State.copyOf_setCopy_ne {b b' : Nat} (h : b' ≠ b) (c : NvCopy) : (s.setCopy b g c).copyOf b' g = s.copyOf b' g :=
  Tab.get_set_ne _ _ _ _ _ (by simpa using h)

theorem State.targetBank_other : 1 - s.targetBank g ≠ s.targetBank g := by
  rw [State.targetBank]
  split_ifs <;> decide

theorem State.startStore_copies (hg : g < 31) :
    (s.startStore g why).nvs.copies = (s.setCopy (s.targetBank g) g (s.snapshot g)).nvs.copies := by
  rw [State.startStore_eq hg]
  have kept : (s.storing g).nvs.copies = _ := congrArg Nvs.copies State.storing_nvs
  exact kept

theorem State.startStore_dirty (hg : g < 31) : (s.startStore g why).bit .nvs NVS_DIRTY_DIRTY g = false := by
  have shown : (s.storing g).bit .nvs NVS_DIRTY_DIRTY g = ((s.snapped g).setBit .nvs NVS_DIRTY_DIRTY g false).bit .nvs NVS_DIRTY_DIRTY g := by
    rw [State.bit, State.storing, State.rd_wr_off _ _ (by decide), State.rd_wr_off _ _ (by decide), State.bit]
  rw [State.startStore_eq hg]
  exact shown.trans ((State.bit_setBit (show g < 32 by omega) false).trans (if_pos rfl))

theorem State.byte_startStore (hg : g < 31) {o : Nat} (ho : o < 0x10000) :
    (s.startStore g why).byte (.nv (s.targetBank g) g) o = s.byte .ret (g * 0x10000 + o) := by
  rw [State.startStore_eq hg]
  exact State.byte_copyMem_ret (s := s.setCopy (s.targetBank g) g (s.snapshot g)) ho

end

/-! #### The end of a store (R452) -/

section
variable {r : StoreRun} {vhold : Nat}

theorem State.programDone_good (h : s.nvs.run = some r) : s.programDone true vhold =
    (let t := ((s.setCopy r.bank r.seg { s.copyOf r.bank r.seg with valid := true }).wr .nvs (NVS_GEN_GEN r.seg) r.gen).countStored
      (2 ^ r.seg)
    (if r.why = .pounce then (t.raiseCrown 118).offer Ev.POUNCE_REWRITE .field [r.seg, r.bank] else t).storeEnded r) := by
  rw [State.programDone, h]
  rfl

/-- The state in which a failed read-back is judged: in a power failure the energy has been read anew. -/
def State.judging (s : State) (vhold : Nat) : State := if decide (s.nvs.pfPhase ≠ .idle) = true then s.readVhold vhold else s

/-- The state in which a segment has failed for good. -/
def State.segFailed (s : State) (r : StoreRun) (pf : Bool) : State :=
  { (s.orBits .nvs NVS_FAILMASK_FAIL (2 ^ r.seg)).wr .nvs NVS_STAT_FAIL 1 with
    nvs := { s.nvs with failed := s.nvs.failed ||| 2 ^ r.seg, pfKeepInc := s.nvs.pfKeepInc || pf } }

theorem State.programDone_bad (h : s.nvs.run = some r) : s.programDone false vhold =
    if r.second then (((s.judging vhold).segFailed r (decide (s.nvs.pfPhase ≠ .idle))).offer Ev.NVS_FAIL .field).storeEnded r
    else if decide (s.nvs.pfPhase ≠ .idle) = true ∧ ¬ (s.judging vhold).energyOk = true then
      { (s.judging vhold).pfStop with nvs := { (s.judging vhold).pfStop.nvs with run := none } }.wr .nvs NVS_STAT_BUSY 0
    else { s.judging vhold with nvs := { (s.judging vhold).nvs with run := some { r with second := true } } } := by
  rw [State.programDone, h]
  rfl

end

/-! #### Banks (R452) -/

section
variable {g : Nat}

theorem State.targetBank_both (ha : (s.copyOf 0 g).valid = true) (hz : (s.copyOf 1 g).valid = true) :
    s.targetBank g = if genNewer (s.copyOf 1 g).gen (s.copyOf 0 g).gen then 0 else 1 := by simp [State.targetBank, ha, hz]

theorem State.targetBank_low (ha : (s.copyOf 0 g).valid = false) (hz : (s.copyOf 1 g).valid = true) : s.targetBank g = 0 := by
  simp [State.targetBank, ha, hz]

theorem State.targetBank_high (hz : (s.copyOf 1 g).valid = false) : s.targetBank g = 1 := by simp [State.targetBank, hz]

end

/-! #### The engine takes a segment (R451) -/

theorem State.storeNext_commanded {vhold g : Nat} {clean : List Nat} (hr : s.nvs.run = none) (hc : s.nvs.recalled = true)
    (hp : s.pwr.phase = .on) (hf : s.nvs.pfPhase = .idle) (hw : s.pwr.resetWaits = none)
    (hd : s.splitDirty (State.storeNext.onesOf32 (s.rd .nvs NVS_PEND_PEND)) = (clean, some g)) : s.storeNext vhold =
      ((((s.clrBits .nvs NVS_PEND_PEND (segMask clean)).countStored (segMask clean)).clrBits .nvs NVS_PEND_PEND (2 ^ g)).startStore g
        .commanded) := by
  rw [State.storeNext, hr, hc, hp, hf, hw]
  simp only [hd]
  rfl

end

/-- Settles O39: a store's snapshot (`State.startStore_eq`, `State.byte_startStore`), its end by the read-back (`State.programDone_good`,
`State.programDone_bad`), and the bank it goes to. -/
theorem retainedStores : Obligations.RetainedStores := by
  unfold Obligations.RetainedStores
  intro s w vhold g clean r why weak b n ready counted due weakCount queue stored failed u pf read passed other a z
  have run {good : Bool} {t : State} (h : s.programDone good vhold = t) : exec (.segmentProgramDone good vhold) s = .next t :=
    congrArg Host.Outcome.next h
  refine ⟨rfl, fun ⟨hr, hc, hp, hf, hw⟩ hd => ?_, fun hg => ⟨?_, ?_, ?_, ?_, State.startStore_dirty hg, fun o ho => State.byte_startStore hg ho⟩,
    State.targetBank_both, State.targetBank_low, State.targetBank_high, fun h hw => run ((State.programDone_good h).trans ?_),
    fun h hw => run ((State.programDone_good h).trans ?_), fun h hs he => run ((State.programDone_bad h).trans ?_),
    fun h hs hp he => run ((State.programDone_bad h).trans ?_), fun h hs => run ((State.programDone_bad h).trans ?_), ?_, ?_⟩
  · have still : ¬ s.pwr.phase = .napEntry := by simp [hp]
    show Host.Outcome.next (State.storeNext (if _ then _ else s) vhold) = _
    rw [if_neg still, State.storeNext_commanded hr hc hp hf hw hd]
  · exact congrArg (fun t : State => t.nvs.run) (State.startStore_eq hg)
  · exact congrArg NvCopy.valid ((State.copyOf_congr (State.startStore_copies hg)).trans (State.copyOf_setCopy_same ..))
  · exact congrArg NvCopy.gen ((State.copyOf_congr (State.startStore_copies hg)).trans (State.copyOf_setCopy_same ..))
  · exact (State.copyOf_congr (State.startStore_copies hg)).trans (State.copyOf_setCopy_ne State.targetBank_other _)
  · exact congrArg (State.storeEnded · r) (if_neg hw)
  · exact congrArg (State.storeEnded · r) (if_pos hw)
  · refine (if_neg (Bool.eq_false_iff.mp hs)).trans (if_neg fun ⟨hp, hn⟩ => hn ?_)
    rw [State.judging, if_pos hp]
    exact he hp
  · refine (if_neg (Bool.eq_false_iff.mp hs)).trans (if_pos ⟨hp, ?_⟩)
    rw [State.judging, if_pos hp]
    exact Bool.eq_false_iff.mp he
  · exact if_pos hs
  · intro ⟨he, hc, hp, hn, hs, ht⟩
    exact next_if_pos ⟨State.is_eq_true he, hc, hp, hn, Bool.eq_false_iff.mp (State.is_eq_false hs), ht⟩
  · exact fun hq => if_neg fun ⟨_, hn, _⟩ => hq hn

end Sys2Proof.Machine

namespace Sys2Proof.Machine

/-! ### Power failure (R456, R501 to R505) -/

section
variable {s : State} {mv t0 : Nat}

@[simp] theorem State.raiseCrown_pwr (n : Nat) : (s.raiseCrown n).pwr = s.pwr := by rw [State.raiseCrown_only]

/-! #### Warnings (R501, R502) -/

/-- The registers of a warning. -/
def State.warnSeen (s : State) (mv : Nat) : State := s.wrs .sup [(SUP_SENSE_MV, mv), (SUP_STAT_PWR_WARN, 1), (SUP_STAT_WARNNOW, 1)]

/-- The warning goes on from its first start (R502). -/
def State.warnAgain (s : State) : Bool := match s.pwr.warnStart with | some t0 => decide (s.now < t0 + 50000) | none => false

/-- The state once a reading below the level has been taken, with whether an earlier warning goes on. -/
def State.warnTaken (s : State) (mv : Nat) (again : Bool) : State :=
  let t := if again then s.warnSeen mv else (s.warnSeen mv).raiseCrown 112
  if again then { t with pwr := { t.pwr with warnMin := min t.pwr.warnMin mv, warnEnd := none } }
  else { t with pwr := { t.pwr with warnStart := some s.now, warnMin := mv, warnEnd := none } }

theorem State.warnBegin_eq : s.warnBegin mv = s.warnTaken mv s.warnAgain := rfl

theorem State.warnBegin_again (h : s.pwr.warnStart = some t0) (ht : s.now < t0 + 50000) : s.warnBegin mv =
    { s.warnSeen mv with pwr := { s.pwr with warnMin := min s.pwr.warnMin mv, warnEnd := none } } := by
  have again : s.warnAgain = true := by
    rw [State.warnAgain, h]
    exact decide_eq_true ht
  rw [State.warnBegin_eq, again]
  rfl

theorem State.warnBegin_anew (h : ∀ t, s.pwr.warnStart = some t → t + 50000 ≤ s.now) : s.warnBegin mv =
    { (s.warnSeen mv).raiseCrown 112 with pwr := { s.pwr with warnStart := some s.now, warnMin := mv, warnEnd := none } } := by
  have anew : s.warnAgain = false := by
    rw [State.warnAgain]
    cases e : s.pwr.warnStart with
    | none => rfl
    | some t0 => exact decide_eq_false (by have := h t0 e; omega)
  have start : ((s.warnSeen mv).raiseCrown 112).pwr = s.pwr := State.raiseCrown_pwr _
  rw [State.warnBegin_eq, anew, ← start]
  rfl

/-- The state in which a warning has ended at a reading. -/
def State.warnOver (s : State) (mv : Nat) : State :=
  { s.wrs .sup [(SUP_SENSE_MV, mv), (SUP_STAT_WARNNOW, 0)] with pwr := { s.pwr with warnEnd := some s.now } }

/-- A reading 20 mV above the warning level ends the warning, and a dip shorter than 50 µs is recorded (R502). -/
theorem exec_pwrWarnEnd (h : s.pwr.warnStart = some t0) (hs : s.supervised = true) (hw : s.is .sup SUP_STAT_WARNNOW = true)
    (hm : s.rd .sup SUP_WARNCFG_MV + 20 ≤ mv) : exec (.pwrWarnEnd mv) s = .next (if s.now < t0 + 50000 then
      (s.warnOver mv).offer Ev.PWR_DIP .field [(s.now - t0) / 1000, s.pwr.warnMin] else s.warnOver mv) := by
  show execPwrWarnEnd mv s = _
  have risen : (s.supervised && s.is .sup SUP_STAT_WARNNOW && decide (s.rd .sup SUP_WARNCFG_MV + 20 ≤ mv)) = true := by
    rw [hs, hw, decide_eq_true hm]
    rfl
  simp only [execPwrWarnEnd, h, if_pos risen]
  rfl

end

/-- Settles O43: each row of a power failure is the outcome of its guard; a warning begins or goes on (`State.warnBegin_anew`,
`State.warnBegin_again`), and a dip is recorded (`exec_pwrWarnEnd`). -/
theorem powerFailure : Obligations.PowerFailure := by
  unfold Obligations.PowerFailure
  intro s mv rails n t0 stop warned low seen shown again ended risen due running stopped told p
  have warning (h : low) : exec (.pwrWarn mv) s = .next (if s.is .sup SUP_STAT_WARNNOW then
      { s.wr .sup SUP_SENSE_MV mv with pwr := { s.pwr with warnMin := min s.pwr.warnMin mv } } else s.warnBegin mv) :=
    next_if_pos (by rw [h.1, decide_eq_true h.2]; rfl)
  have starts (h : due) (m : Option Nat) : exec (.powerfailStore m) s = .next (s.pfStart.pfGoOn m) :=
    (next_if_neg h.2.1).trans (next_if_pos (by rw [h.1, h.2.2]; rfl))
  have ends (h : stopped) {u : State} (hu : (if rails % 256 = 0 then
      ({ told with nvs := { s.nvs with restartValid := s.nvs.restartValid && !s.pfinc } }.doReset 8) else s.railsOut rails) = u) :
      exec (.powerfailStoreEnd rails) s = .next u := (next_if_pos h).trans (congrArg _ hu)
  have inStore (h : running) {u : State} (hu : (if rails.testBit 7 then s.railsOut (rails ||| s.rd .sup SUP_RAIL_RESET)
      else if rails.testBit 1 then (s.orBits .sup SUP_RAIL_RESET rails).crownLost 1
      else if rails.testBit 6 then (s.orBits .sup SUP_RAIL_RESET rails).crownLost 6 else s.orBits .sup SUP_RAIL_RESET rails) = u) :
      exec (.railResetInStore rails) s = .next u := (next_if_pos h).trans (congrArg _ hu)
  refine ⟨fun hl hw => (warning hl).trans (congrArg _ (if_pos hw)),
    fun hl hw ha => (warning hl).trans (congrArg _ ((if_neg hw).trans (State.warnBegin_again ha.1 ha.2))),
    fun hl hw ha => (warning hl).trans (congrArg _ ((if_neg hw).trans (State.warnBegin_anew ha))),
    fun ⟨h, hs, hw, hm⟩ ht => (exec_pwrWarnEnd h hs hw hm).trans (congrArg _ (if_neg (by omega))),
    fun ⟨h, hs, hw, hm⟩ ht => (exec_pwrWarnEnd h hs hw hm).trans (congrArg _ (if_pos ht)), fun hd => starts hd none, fun hd => starts hd (some n),
    fun hr hc => (next_if_pos hr).trans (next_if_pos hc), ⟨rfl, rfl, rfl⟩, fun hs hr => ends hs (if_pos hr), fun hs hr => ends hs (if_neg hr),
    fun hr h7 => inStore hr (if_pos h7), fun hr h7 h1 => inStore hr ((if_neg (Bool.eq_false_iff.mp h7)).trans (if_pos h1)),
    fun hr h7 h1 h6 => inStore hr ((if_neg (Bool.eq_false_iff.mp h7)).trans ((if_neg (Bool.eq_false_iff.mp h1)).trans
      (if_neg (Bool.eq_false_iff.mp h6))))⟩

end Sys2Proof.Machine

namespace Sys2Proof.Machine

/-! ### Firmware transfers and activation (R479 to R485) -/

section
variable {s : State} {k : Nat} {bs : List Byte}

/-! #### Transfers (R479) -/

/-- The transfer that a BEGIN with good arguments opens: the recorded one goes on, or a new one begins (R479). -/
def State.transferOpened (s : State) (xid frags : Nat) : State :=
  if s.upd.xfer = some (xid, frags) then
    let t := s.offer Ev.UPD_XFER_BEGIN .crown [xid, frags, 1]
    if s.mapFull then (if s.rd .upd UPD_STAT_STATE = 4 then t else if s.rd .upd UPD_STAT_STATE = 5 then t.updState 2 else t.updState 3)
    else t.updState 2
  else
    let t := ((s.clearMap.wr .upd UPD_XFER_XID xid).wr .upd UPD_FRAGS_COUNT frags).dirty 30
    let t := { t with upd := { t.upd with xfer := some (xid, frags), writing := none, parts := [] } }
    (t.offer Ev.UPD_XFER_BEGIN .crown [xid, frags, 0]).updState 1

/-- A BEGIN over the host's path with good arguments is not refused. -/
theorem State.updBegin_open {xid frags : Nat} (hp : s.svcPath = false) (h1 : s.rd .upd UPD_STAT_STATE ≠ 1)
    (h3 : s.rd .upd UPD_STAT_STATE ≠ 3) (ht : s.rd .upd UPD_STAT_TRIAL = 0) (hf : 1 ≤ frags ∧ frags ≤ 16384) :
    s.updBegin false xid frags = (1, s.transferOpened xid frags) := by
  have path : ¬ false ≠ s.svcPath := by simp [hp]
  have trial : ¬ s.is .upd UPD_STAT_TRIAL = true := Bool.eq_false_iff.mp (State.is_eq_false ht)
  rw [State.updBegin, if_neg path, if_neg (by omega), if_neg trial, if_neg (by omega), State.transferOpened]
  split <;> rfl

/-! #### Fragments (R480 to R482) -/

theorem State.fragRefusal_none (hp : s.svcPath = false) (hs : s.rd .upd UPD_STAT_STATE = 2) (hk : k < s.xferFrags)
    (hw : s.upd.writing = none) : s.fragRefusal false k = none := by
  have path : ¬ false ≠ s.svcPath := by simp [hp]
  have inside : ¬ (s.rd .upd UPD_STAT_STATE ≠ 2 ∨ s.xferFrags ≤ k) := by omega
  rw [State.fragRefusal, if_neg path, if_neg inside, if_neg (by simp [hw])]

/-- A fragment for a blank sector is on its way into it. -/
theorem State.updFragment_blank (h : s.fragRefusal false k = none) (hm : s.mapBit k = false) (hb : s.sectorBlank k = true) :
    s.updFragment false k bs = (none, { s with upd := { s.upd with writing := some (k, bs) } }) := by
  simp only [State.updFragment, h, hm, hb, Bool.false_eq_true, if_false, not_true]

theorem State.updErase_taken (h : s.fragRefusal false k = none) : s.updErase false k = (1, if s.mapBit k then
    (((s.eraseSector k).setBit .upd (UPD_MAP_MAP (k / 32)) (k % 32) false).wr .upd UPD_HAVE_COUNT (s.rd .upd UPD_HAVE_COUNT - 1)).dirty 30
    else s.eraseSector k) := by
  simp only [State.updErase, h]

/-- The state in which a fragment lies in its sector and its bit is set (R480). -/
def State.fragPut (s : State) (k : Nat) (bs : List Byte) : State :=
  ((({ s with upd := { s.upd with writing := none } }.programSector k bs).setBit .upd (UPD_MAP_MAP (k / 32)) (k % 32) true).bump .upd
    UPD_HAVE_COUNT).dirty 30

theorem State.fragmentDone_good (hp : s.svcPath = false) (hw : s.upd.writing = some (k, bs)) : s.fragmentDone true =
    (if (s.fragPut k bs).mapFull then ((s.fragPut k bs).offer Ev.UPD_XFER_COMPLETE .crown [(s.fragPut k bs).xferXid]).updState 3
      else s.fragPut k bs).updResult 1 := by
  rw [State.fragmentDone, hw, hp]
  rfl

/-! #### Activation (R485) -/

/-- The state in which the staging bank has been selected, on trial (R485). -/
def State.activated (s : State) (svc : Bool) : State :=
  let t := { s with upd := { s.upd with bootsel := s.stagingBank, act := some { boot := s.upd.bootsel, trial := 0, svc := svc } } }
  let t := ((t.setTrial 1).wr .upd UPD_TRIALSTAT_BOOTS 0).wr .upd UPD_TRIALSTAT_RUNSEC 0
  ((t.dirty 30).requestStore (2 ^ 30)).offer Ev.UPD_ACTIVATED .crown [s.stagingBank, s.imgVersion s.stagingBank]

section
variable (h4 : s.rd .upd UPD_STAT_STATE = 4) (ht : s.rd .upd UPD_STAT_TRIAL = 0) (svc : Bool)
include h4 ht

theorem State.activate_gated {c : Nat} (hg : s.gateCode = some c) : s.activate svc = s.actRefuse svc c := by
  have trial : ¬ s.is .upd UPD_STAT_TRIAL = true := Bool.eq_false_iff.mp (State.is_eq_false ht)
  rw [State.activate, if_neg (by simp [h4]), if_neg trial, hg]

theorem State.activate_open (hg : s.gateCode = none) : s.activate svc = s.activated svc := by
  have trial : ¬ s.is .upd UPD_STAT_TRIAL = true := Bool.eq_false_iff.mp (State.is_eq_false ht)
  rw [State.activate, if_neg (by simp [h4]), if_neg trial, hg, State.activated]

end

/-- The state in which no activation is under way. -/
def State.actEnded (s : State) : State := { s with upd := { s.upd with act := none } }

section
variable {a : ActReq} (ha : s.upd.act = some a) (hs : a.svc = false) (hp : s.bit .nvs NVS_PEND_PEND 30 = false)
  (hr : (s.nvs.run.map fun r => r.seg) ≠ some 30)
include ha hs hp hr

theorem State.activateRecheck_gated {c : Nat} (hg : s.gateCode = some c) : s.activateRecheck =
    ((({ s with upd := { s.upd with act := none, bootsel := a.boot } }.setTrial a.trial).dirty 30).requestStore
      (2 ^ 30)).actRefuse false c := by
  have stored : ¬ (s.bit .nvs NVS_PEND_PEND 30 = true ∨ (s.nvs.run.map fun r => r.seg) = some 30) := by simp [hp, hr]
  rw [State.activateRecheck, ha]
  simp only [if_neg stored, hs, hg]

theorem State.activateRecheck_open (hg : s.gateCode = none) : s.activateRecheck = (s.actEnded.updResult 1).packageReset 6 := by
  have stored : ¬ (s.bit .nvs NVS_PEND_PEND 30 = true ∨ (s.nvs.run.map fun r => r.seg) = some 30) := by simp [hp, hr]
  rw [State.activateRecheck, ha]
  simp only [if_neg stored, hs, hg, Bool.false_eq_true, if_false]
  rw [State.actEnded]

end

end

/-- Settles O40: the row of each command and event under its guard, `State.updBegin_open`, `State.updFragment_blank`,
`State.updErase_taken`, `State.fragmentDone_good`, `State.activate_open` and `State.activateRecheck_open`. -/
theorem firmwareTransfers : Obligations.FirmwareTransfers := by
  unfold Obligations.FirmwareTransfers
  intro s k c bs a n state xid frags i own open_ taken r idle put fresh begun erased chosen trial stored free back
  have begins (h : open_) : exec .updBegin s = .next ((s.transferOpened xid frags).updResult 1) := by
    obtain ⟨hp, h1, h3, ht, hf⟩ := h
    show Host.Outcome.next ((s.updBegin false xid frags).2.updResult (s.updBegin false xid frags).1) = _
    rw [State.updBegin_open hp h1 h3 ht hf]
  have erases (h : taken) {u : State} (hu : s.updErase false i = (1, u)) : exec .updErase s = .next (u.updResult 1) := by
    show Host.Outcome.next ((s.updErase false i).2.updResult (s.updErase false i).1) = _
    rw [hu]
  refine ⟨fun h hx => (begins h).trans ?_, fun h hx hm => (begins h).trans ?_, fun h => next_if_pos h, fun ⟨hp, hs, hk, hw⟩ hm hb => ?_,
    fun h hm => erases h ?_, fun h hm => erases h ?_, fun hp hw hm => ?_, fun hp hw hm => ?_, fun hs hw => next_if_pos ⟨hs, hw⟩,
    fun hs ht hg => ?_, fun hs ht hg => ?_, fun ⟨ha, hs, hp, hr⟩ hg => ?_, fun ⟨ha, hs, hp, hr⟩ hg => ?_⟩
  · rw [State.transferOpened, if_neg hx]
  · have lacking : ¬ s.mapFull = true := Bool.eq_false_iff.mp hm
    rw [State.transferOpened, if_pos hx, if_neg lacking]
  · show Host.Outcome.next (match (s.updFragment false i s.fragBuf).1 with
      | some c => (s.updFragment false i s.fragBuf).2.updResult c
      | none => (s.updFragment false i s.fragBuf).2) = _
    rw [State.updFragment_blank (State.fragRefusal_none hp hs hk hw) hm hb]
  · obtain ⟨hp, hs, hk, hw⟩ := h
    rw [State.updErase_taken (State.fragRefusal_none hp hs hk hw), if_neg (Bool.eq_false_iff.mp hm)]
  · obtain ⟨hp, hs, hk, hw⟩ := h
    rw [State.updErase_taken (State.fragRefusal_none hp hs hk hw), if_pos hm]
  · exact congrArg Host.Outcome.next ((State.fragmentDone_good hp hw).trans (congrArg (State.updResult · 1) (if_neg (Bool.eq_false_iff.mp hm))))
  · exact congrArg Host.Outcome.next ((State.fragmentDone_good hp hw).trans (congrArg (State.updResult · 1) (if_pos hm)))
  · exact congrArg Host.Outcome.next (State.activate_gated hs ht false hg)
  · exact congrArg Host.Outcome.next (State.activate_open hs ht false hg)
  · exact congrArg Host.Outcome.next (State.activateRecheck_open ha hs hp hr hg)
  · exact congrArg Host.Outcome.next (State.activateRecheck_gated ha hs hp hr hg)

end Sys2Proof.Machine

namespace Sys2Proof.Machine

/-! ### Firmware trials (R478, R483, R486 to R489) -/

section
variable {s : State} {op index xid : Nat} {f : State → State}

/-- A service-port request with a good CRC, while the package is on, is answered with its own result (R483). -/
theorem State.svcRequest_on (h : s.pwr.phase = .on) (needXid : Bool) : s.svcRequest true op index xid needXid f =
    if needXid = true ∧ s.upd.xfer.map Prod.fst ≠ some xid then s.svcReply op 4 index xid else f s := by
  simp [State.svcRequest, h]

theorem State.svcRequest_mine (h : s.pwr.phase = .on) (hx : s.upd.xfer.map Prod.fst = some xid) :
    s.svcRequest true op index xid true f = f s :=
  (State.svcRequest_on h true).trans (if_neg fun hn => hn.2 hx)

theorem State.svcRequest_other (h : s.pwr.phase = .on) (hx : ¬ s.upd.xfer.map Prod.fst = some xid) :
    s.svcRequest true op index xid true f = s.svcReply op 4 index xid :=
  (State.svcRequest_on h true).trans (if_pos ⟨rfl, hx⟩)

theorem State.svcRequest_begin (h : s.pwr.phase = .on) : s.svcRequest true op index xid false f = f s :=
  (State.svcRequest_on h false).trans (if_neg (by simp))

theorem confirmKey_of (w : Nat) : UPD_CONFIRM_KEY.of w = w % 256 := by simp [Field.of, bits]

end

/-- Settles O41: a request while the package is on is answered by its own row (`State.svcRequest_mine`, `State.svcRequest_other`), and
a trial's end is decided by the held bit and the web gate. -/
theorem firmwareTrials : Obligations.FirmwareTrials := by
  unfold Obligations.FirmwareTrials
  intro s w part index xid data n up mine b e trial held sv ended due
  have running (h : due) : s.is .upd UPD_STAT_TRIAL = true ∧ s.upd.act = none ∧ ¬ s.is .upd UPD_TRIALSTAT_HELD = true ∧
      s.rd .upd UPD_TRIAL_SECONDS ≤ s.rd .upd UPD_TRIALSTAT_RUNSEC := by
    obtain ⟨ht, ha, hh, hs⟩ := h
    exact ⟨State.is_eq_true ht, ha, Bool.eq_false_iff.mp (State.is_eq_false (not_not.mp hh)), hs⟩
  have gated (h : due) : exec .trialExpiry s =
      .next (if s.gateWeb then (s.wr .upd UPD_TRIALSTAT_HELD 1).offer Ev.UPD_TRIAL_HELD .crown else s.fallback) := next_if_pos (running h)
  have activates (hp : up) {x : Nat} (hm : s.upd.xfer.map Prod.fst = some x) : exec (.svcActivate true x) s =
      .next (if s.svcPath then s.activate true else s.svcReply 5 5 0 x) := congrArg Host.Outcome.next (State.svcRequest_mine hp hm)
  refine ⟨fun hp => congrArg _ (State.svcRequest_begin hp), fun hp hm => congrArg _ (State.svcRequest_mine hp hm),
    fun hp hm => congrArg _ (State.svcRequest_mine hp hm), fun hp hm => congrArg _ (State.svcRequest_mine hp hm),
    fun hp hm hs => (activates hp hm).trans (congrArg _ (if_pos hs)), fun hp hm => congrArg _ (State.svcRequest_other hp hm),
    rfl, fun hk => next_if_pos (hk.imp_left fun h => Bool.eq_false_iff.mp (State.is_eq_false h)),
    fun hw ht => next_if_pos ⟨(confirmKey_of w).trans hw, State.is_eq_true ht⟩,
    fun hd hg => (gated hd).trans (congrArg _ (if_neg (Bool.eq_false_iff.mp hg))), fun hd hg => (gated hd).trans (congrArg _ (if_pos hg)),
    fun ht hh hg => next_if_pos ⟨State.is_eq_true ht, State.is_eq_true hh, Bool.eq_false_iff.mp hg⟩⟩

end Sys2Proof.Machine

namespace Sys2Proof.Machine

/-! ### Keys and random numbers (R477, R491 to R493) -/

/-- The first number that passes leads the numbers that pass. -/
theorem filter_range_first {p : Nat → Bool} {i n : Nat} (hi : i < n) (hp : p i = true) (hn : ∀ j < i, p j = false) :
    ∃ l, (List.range n).filter p = i :: l := by
  obtain ⟨m, rfl⟩ : ∃ m, n = i + (m + 1) := ⟨n - i - 1, by omega⟩
  have below : (List.range i).filter p = [] := List.filter_eq_nil_iff.mpr fun j hj => by simp [hn j (List.mem_range.mp hj)]
  refine ⟨((List.range m).map (i + ·.succ)).filter p, ?_⟩
  rw [List.range_add, List.filter_append, below, List.nil_append, List.range_succ_eq_map, List.map_cons, Nat.add_zero,
    List.filter_cons_of_pos hp, List.map_map]
  rfl

section
variable {s : State} {r : Req} {i : Nat}

/-! #### Keys (R477) -/

/-- The key that CRY_KDATA gives the selected slot, among the keys. -/
def State.keysWith (s : State) (k : Nat) : Tab Nat (List Nat) :=
  Tab.set (fun k => k) s.cry.keys k [] (s.kdata (if k = 4 then 8 else 12))

/-- The state in which a slot has been programmed. -/
def State.keyed (s : State) (k : Nat) : State := { s with cry := { s.cry with keys := s.keysWith k } }.setBit .cry CRY_KSTAT_PROG k true

/-- What a requester that may program a slot meets. -/
theorem State.keyProgram_allowed {k : Nat} (hk : s.rd .cry CRY_KSEL_SLOT = k) (hr : keyAllowed r = true) (hs : k ≤ 4) (good : Bool) :
    s.keyProgram r good = if s.slotTaken k then s.keyResult 2
      else if good then ((s.keyed k).keyResult 1).offer Ev.KEY_PROGRAMMED .crown [k]
      else { s with cry := { s.cry with dead := s.cry.dead ||| 2 ^ k } }.keyResult 4 := by
  subst hk
  exact if_neg (by simp [hr]; omega)

theorem State.keyRevoke_good (h : s.bit .cry CRY_KSTAT_REVOKED i = false)
    (hi : i ≠ s.rd .cry CRY_KSTAT_RUNSLOT ∨ s.is .upd UPD_STAT_RECOVERY = true) :
    s.keyRevoke i = ((s.setBit .cry CRY_KSTAT_REVOKED i true).keyResult 1).offer Ev.KEY_REVOKED .crown [i] :=
  (if_neg (Bool.eq_false_iff.mp h)).trans (if_neg fun ⟨he, hn⟩ => hi.elim (fun h => h he) hn)

/-- A word with one bit names one slot. -/
theorem filter_testBit_two_pow : ∀ i < 4, ((List.range 4).filter fun j => (2 ^ i).testBit j) = [i] := by decide

/-! #### Requests (R492) -/

theorem State.trngAcq_first (hi : i < 4) (h0 : s.rd .cry (TRNG_SLOT_STAT_OWNED i) = 0)
    (hn : ∀ j < i, s.rd .cry (TRNG_SLOT_STAT_OWNED j) ≠ 0) : s.trngAcq = (i, s.wr .cry (TRNG_SLOT_STAT_OWNED i) 1) := by
  obtain ⟨l, hl⟩ := filter_range_first (p := fun j => !s.is .cry (TRNG_SLOT_STAT_OWNED j)) hi (by simp [State.is_eq_false h0])
    fun j hj => by simp [State.is_eq_true (hn j hj)]
  rw [State.trngAcq, hl]

/-! #### Health tests (R493) -/

/-- The state in which a failed health test shows: the pending requests have failed, and the failure is counted. -/
def State.trngShown (s : State) (apt : Bool) : State :=
  let t := s.each s.trngPending fun t i => (t.wr .cry (TRNG_SLOT_STAT_PEND i) 0).wr .cry (TRNG_SLOT_STAT_FAIL i) 1
  let t := (t.wr .cry (if apt then TRNG_STAT_APT else TRNG_STAT_RCT) 1).wr .cry TRNG_STAT_FAILS (s.rd .cry TRNG_STAT_FAILS + 1)
  (t.offer Ev.TRNG_FAIL .crown [if apt then 2 else 1, s.trngPending.length]).raiseCrown 202

theorem State.trngFail_active {apt : Bool} (h : s.rd .cry TRNG_STAT_STATE = trngSTART ∨ s.rd .cry TRNG_STAT_STATE = trngRUN) :
    s.trngFail apt = if s.rd .cry TRNG_STAT_FAILS + 1 ≤ 3 then (s.trngShown apt).wr .cry TRNG_STAT_STATE trngSTART
      else ((s.trngShown apt).wr .cry TRNG_STAT_STATE trngLATCHED).offer Ev.TRNG_LATCHED .crown [s.rd .cry TRNG_STAT_FAILS + 1] :=
  if_pos h

theorem State.trngShown_shows (apt : Bool) :
    (s.trngShown apt).rd .cry TRNG_STAT_FAILS = (s.rd .cry TRNG_STAT_FAILS + 1) % 2 ^ TRNG_STAT_FAILS.width ∧
    (s.trngShown apt).rd .cry (if apt then TRNG_STAT_APT else TRNG_STAT_RCT) = 1 := by
  have shown (f : Field) : (s.trngShown apt).rd .cry f = _ :=
    (State.rd_raiseCrown _ _ _ _ (by decide) (by decide)).trans (State.rd_offer _ _ _ _ _ _ (by decide))
  refine ⟨(shown _).trans (State.rd_wr_same ..), (shown _).trans ?_⟩
  rw [State.rd_wr_lo _ _ (by cases apt <;> decide), State.rd_wr_same]
  cases apt <;> rfl

/-- A health test that fails restarts the generator, the fourth time latches it, and shows (R493). -/
theorem State.trngFail_shows {apt : Bool} (h : s.rd .cry TRNG_STAT_STATE = trngSTART ∨ s.rd .cry TRNG_STAT_STATE = trngRUN) :
    (s.trngFail apt).rd .cry TRNG_STAT_STATE = (if s.rd .cry TRNG_STAT_FAILS < 3 then trngSTART else trngLATCHED) ∧
    ∀ f : Field, f.lo ≠ 0 → (s.trngFail apt).rd .cry f = (s.trngShown apt).rd .cry f := by
  rw [State.trngFail_active h]
  by_cases hf : s.rd .cry TRNG_STAT_FAILS < 3
  · rw [if_pos hf, if_pos (show s.rd .cry TRNG_STAT_FAILS + 1 ≤ 3 from hf)]
    exact ⟨State.rd_wr_same .., fun f h0 => State.rd_wr_lo _ _ h0⟩
  · rw [if_neg hf, if_neg (show ¬ s.rd .cry TRNG_STAT_FAILS + 1 ≤ 3 from hf)]
    refine ⟨?_, fun f h0 => ?_⟩
    · rw [State.rd_offer _ _ _ _ _ _ (by decide)]
      exact State.rd_wr_same ..
    · rw [State.rd_offer _ _ _ _ _ _ (by decide), State.rd_wr_lo _ _ h0]

end

/-- Settles O42: programming and revoking by `State.keyProgram_allowed` and `State.keyRevoke_good`, the slots by
`State.trngAcq_first`, a failed health test by `State.trngFail_shows`. -/
theorem keysAndRandomNumbers : Obligations.KeysAndRandomNumbers := by
  unfold Obligations.KeysAndRandomNumbers
  intro s r i apt n slot crown keys result st
  have programs (hr : crown) (hs : slot ≤ 4) (good : Bool) : exec (.keyProgram r good) s = _ :=
    congrArg Host.Outcome.next (State.keyProgram_allowed rfl hr hs good)
  refine ⟨fun hr => congrArg _ (if_pos (.inl (by simp [hr]))), fun hr hs ht => (programs hr hs true).trans (congrArg _ (if_pos ht)),
    fun hr hs ht => (programs hr hs true).trans (congrArg _ (if_neg (Bool.eq_false_iff.mp ht))),
    fun hr hs ht => (programs hr hs false).trans (congrArg _ (if_neg (Bool.eq_false_iff.mp ht))), fun hr hi hv hs => ?_,
    fun hi h0 hn => ?_, fun hi hs => ?_, fun hi hs => ?_, fun hi => next_if_pos hi,
    fun hi hs hp => next_if_pos ⟨hi, hs, State.is_eq_true hp⟩, fun hs => next_if_pos hs, fun hs => ?_, fun hs ht => next_if_pos ⟨hs, ht⟩⟩
  · refine (next_if_pos hr).trans ?_
    rw [filter_testBit_two_pow i hi]
    exact congrArg _ (State.keyRevoke_good hv hs)
  · have first := State.trngAcq_first hi h0 hn
    exact ⟨congrArg Host.Outcome.next (congrArg Prod.snd first), congrArg Prod.fst first⟩
  · exact (next_if_pos hi).trans (next_if_neg hs)
  · exact (next_if_pos hi).trans (next_if_pos hs)
  · obtain ⟨state, others⟩ := State.trngFail_shows (apt := apt) hs
    obtain ⟨fails, test⟩ := State.trngShown_shows (s := s) apt
    refine ⟨_, rfl, state, (others _ (by decide)).trans fails, State.is_eq_true ?_⟩
    rw [others _ (by cases apt <;> decide), test]
    decide

end Sys2Proof.Machine

namespace Sys2Proof.Machine

/-! ### Resets and boots (R506 to R510, R535) -/

section
variable {s : State}

theorem State.resign_nvs (c : Nat) : (s.resign c).nvs = s.nvs := by rw [State.resign_only]
theorem State.resign_pwr (c : Nat) : (s.resign c).pwr = s.pwr := by rw [State.resign_only]

/-! #### The package reset (R507) -/

/-- A reset source of a running package, with its cause: the reset comes at once, or waits for the stores it needs (R507). -/
theorem State.packageReset_on (h : s.pwr.phase = .on) (cause : Nat) : s.packageReset cause =
    if s.nvs.run = none ∧ s.nvs.mustStore = 0 then (s.resign 2).doReset cause
    else { s.resign 2 with pwr := { (s.resign 2).pwr with resetWaits := some (min cause (s.pwr.resetWaits.getD cause)) } } := by
  have running : ¬ (s.pwr.phase = .reset ∨ s.pwr.phase = .off ∨ s.pwr.phase = .nap) := by simp [h]
  rw [State.packageReset, if_neg running]
  dsimp only
  rw [State.resign_nvs, State.resign_pwr]

/-! #### Temperature (R535) -/

/-- The state in which every warning of a hot junction has ended. -/
def State.warnsCleared (s : State) : State :=
  (s.each (([Node.crown, .field] ++ s.diesList.map Node.die).filter fun n => decide (hotKey n ∈ s.hot)) fun t n =>
    t.wr n.blk NODE_STATUS_OWN_WARN 0).each s.diesList fun t d => t.wr (.dieNode d) THERM_STAT_HOT 0

/-- The state in which THERM_N is released. -/
def State.thermReleased (s : State) : State :=
  { s.warnsCleared with hot := [], hotCool := none, pwr := { s.warnsCleared.pwr with thermN := true } }

theorem exec_thermClear {t0 : Nat} (hh : s.hot ≠ []) (hc : s.hotCool = some t0) (ht : t0 + 1000000000 ≤ s.tb) :
    exec .thermClear s = .next s.thermReleased := by
  show execThermClear s = _
  rw [execThermClear, hc]
  exact next_if_pos ⟨hh, ht⟩

end

/-- Settles O44: a reset source of a running package by `State.packageReset_on`, each other row by its own guard. -/
theorem resetsAndBoots : Obligations.ResetsAndBoots := by
  unfold Obligations.ResetsAndBoots
  intro s rails c island d t0 x pair unit ringEn ringHead settled on r shown u v k w hotter jmax hotDie
  have rail (hr : r ≠ 0) (hp : s.pwr.phase = .on ∨ s.pwr.phase = .reset) (hw : s.warnDue = false) : exec (.railReset rails) s =
      .next (if s.pwr.phase = .reset then s.offerAtBoot Ev.RAIL_FAULT .field [r] else s.railReset r) :=
    next_if_neg fun h => by
      rcases h with h | h | h | h | h
      · exact hr h
      · simp [h] at hp
      · simp [h] at hp
      · simp [h] at hp
      · simp [hw] at h
  refine ⟨rfl, ⟨rfl, rfl, rfl⟩, fun hp hs => congrArg _ ((State.packageReset_on hp 3).trans (if_pos hs)),
    fun hp hr hw => congrArg _ ((State.packageReset_on hp 3).trans ?_), fun hr hp hw h7 => (rail hr (.inl hp) hw).trans ?_,
    fun hr hp hw => (rail hr (.inr hp) hw).trans (congrArg _ (if_pos hp)),
    fun hp => ⟨next_if_pos hp, rfl, rfl⟩, fun hi hb => next_if_pos ⟨hi, hb⟩, fun hd hi hb => next_if_pos ⟨hd, hi, hb⟩,
    fun hx => ⟨next_if_pos (decide_eq_true hx), next_if_pos (decide_eq_true hx)⟩,
    fun hx hd => next_if_pos (Bool.and_eq_true _ _ ▸ ⟨hd, decide_eq_true hx⟩), fun hh hc ht => ?_⟩
  · have busy : ¬ (s.nvs.run = none ∧ s.nvs.mustStore = 0) := fun h => hr h.1
    rw [if_neg busy, hw]
    rfl
  · have running : ¬ s.pwr.phase = .reset := fun h => absurd (hp.symm.trans h) (by decide)
    rw [if_neg running]
    exact congrArg _ (if_neg (Bool.eq_false_iff.mp h7))
  · exact ⟨s.thermReleased, exec_thermClear hh hc ht, rfl, rfl⟩

end Sys2Proof.Machine

namespace Sys2Proof.Machine

/-! ### Nap and wake (R499, R500, R511 to R514) -/

section
variable {s : State} {src : Nat}

/-- A wake source during nap entry, or while PWR_EN_MAIN has to stay low, is latched (R512). -/
theorem State.wakeEvent_early (h : s.pwr.phase = .napEntry ∨ (s.pwr.phase = .nap ∧ s.now < s.pwr.napAt + 20000000)) :
    s.wakeEvent src = { s with pwr := { s.pwr with latchedWake := s.pwr.latchedWake ||| src } } := if_pos h

theorem State.wakeEvent_late (h : s.pwr.phase = .nap) (ht : s.pwr.napAt + 20000000 ≤ s.now) : s.wakeEvent src = s.wakeStart src := by
  have entered : ¬ (s.pwr.phase = .napEntry ∨ (s.pwr.phase = .nap ∧ s.now < s.pwr.napAt + 20000000)) := by
    simp [h]
    omega
  exact (if_neg entered).trans (if_pos h)

theorem State.wakeEvent_on (h : s.pwr.phase = .on) : s.wakeEvent src = s := by
  simp [State.wakeEvent, h]

end

/-- Settles O45: what a wake source does by the phase (`State.wakeEvent_early`, `State.wakeEvent_late`, `State.wakeEvent_on`), and each
source under its enable. -/
theorem napAndWake : Obligations.NapAndWake := by
  unfold Obligations.NapAndWake
  intro s l src vfield x early late samples t u v
  have off {f : Field} (h : x f = 0) : ¬ s.is .wake f = true := Bool.eq_false_iff.mp (State.is_eq_false h)
  exact ⟨fun hp h0 hd hr => ⟨next_if_pos ⟨hp, h0, hd, hr⟩, rfl, rfl, rfl, rfl⟩, State.wakeEvent_early,
    fun ⟨hp, ht⟩ => ⟨State.wakeEvent_late hp ht, rfl, rfl⟩, State.wakeEvent_on, fun h => next_if_pos (State.is_eq_true h),
    fun h => next_if_neg (off h), fun h => next_if_pos (State.is_eq_true h), fun h => next_if_neg (off h),
    fun hp h => next_if_pos ⟨hp, State.is_eq_true h⟩, fun ⟨hp, ht⟩ h => next_if_pos ⟨hp, h, ht⟩, rfl⟩

end Sys2Proof.Machine

namespace Sys2Proof.Machine

/-! ### Ring enumeration (R382 to R384, R388, R391) -/

section
variable {s : State} {p : Nat}

theorem State.isHead_straps (h : s.isHead = true) : s.straps.ringHead = true := by
  simp only [State.isHead, Bool.and_eq_true] at h
  exact h.2

theorem State.ringCounts_of (h : s.rd .ring RING_STAT_STATE = 1 ∨ s.rd .ring RING_STAT_STATE = 5 ∨ s.rd .ring RING_STAT_STATE = 6) :
    s.ringCounts = true := by simpa [State.ringCounts] using h

/-! #### ENUM (R383) -/

/-- An ENUM without another head's number reaches the head. -/
theorem exec_enumRx_head {count : Nat} (ho : s.ringOn = true) (hh : s.straps.ringHead = true) (other : Bool) :
    exec (.enumRx count other) s = .next (if other then
        if s.ring.dup then s else { (s.setRing 1).offer Ev.RING_DUP_HEAD .pkg with ring := { s.ring with dup := true } }
      else if s.ringCounts ∧ s.ring.enumAt ≠ none ∧ s.ring.dup = false then s.enumDone count else s) :=
  (next_if_neg (by simp [ho])).trans (next_if_pos hh)

/-! #### Ports (R388) -/

theorem State.ringPortDown_up (ho : s.ringOn = true) (hp : p < 2) (hu : s.rd .ring (ringPort p) ≠ 0) : s.ringPortDown p 0 =
    if s.rd .ring RING_STAT_STATE = 2 then
      ((((s.wr .ring (ringPort p) 0).setRing 3).bump .ring RING_WRAPCNT_COUNT).offer Ev.RING_WRAP .pkg)
    else if s.rd .ring RING_STAT_STATE = 3 then (s.wr .ring (ringPort p) 0).setRing 4
    else s.wr .ring (ringPort p) 0 := by
  rw [State.ringPortDown, if_pos ⟨ho, hp, State.is_eq_true hu⟩, ite_self]
  rfl

theorem exec_ringPortRecovered (ho : s.ringOn = true) (hp : p < 2) (hu : s.rd .ring (ringPort p) = 0) :
    exec (.ringPortRecovered p) s = .next (if (s.wr .ring (ringPort p) 1).is .ring (ringPort (1 - p)) then
        if s.rd .ring RING_STAT_STATE = 3 ∨ s.rd .ring RING_STAT_STATE = 4 then (s.wr .ring (ringPort p) 1).enumerate
        else s.wr .ring (ringPort p) 1
      else if s.rd .ring RING_STAT_STATE = 4 then (s.wr .ring (ringPort p) 1).setRing 3 else s.wr .ring (ringPort p) 1) :=
  next_if_pos ⟨ho, hp, State.is_eq_false hu⟩

/-! #### Frames that pass (R384, R388) -/

section
variable {name : String} {header payload : List Nat} (ho : s.ringOn = true) (hp : p < 2)
include ho hp

theorem exec_ringFramePassOn_bad : exec (.ringFramePassOn p name header payload false) s = .next (s.ringCrcBad p) :=
  (next_if_neg (by simp [ho]; omega)).trans (next_if_pos rfl)

theorem exec_ringFramePassOn_good : exec (.ringFramePassOn p name header payload true) s =
    .next (let t := if bits (header.getD 0 0) 24 8 = 7 then s else s.ringHeard
      if bits (header.getD 0 0) 16 8 = s.rd .ring RING_POS_POS ∨ bits (header.getD 0 0) 8 8 = s.rd .ring RING_POS_POS then t
      else t.ringEmit (if t.is .ring (ringPort (1 - p)) then 1 - p else p) name (header ++ payload)) :=
  (next_if_neg (by simp [ho]; omega)).trans (next_if_neg (by simp))

end

/-- The instants of the frames that failed on a port, with this one (R388). -/
def State.crcFails (s : State) (p : Nat) : List Nat := (s.tb :: s.ring.crcs p).take 16

/-- The state in which a frame's failure is counted. -/
def State.crcCounted (s : State) (p : Nat) : State :=
  { s with ring := s.ring.setCrcs p (s.crcFails p) }.bump .ring (if p = 0 then RING_ERRCNT_PORT0 else RING_ERRCNT_PORT1)

theorem State.ringCrcBad_few (h : ∀ a, (s.crcFails p)[15]? = some a → a + 1000000 ≤ s.tb) : s.ringCrcBad p = s.crcCounted p := by
  show (match (s.crcFails p)[15]? with | some a => _ | none => s.crcCounted p) = _
  cases e : (s.crcFails p)[15]? with
  | none => rfl
  | some a => exact if_neg (not_lt.mpr (h a e))

theorem State.ringCrcBad_many {a : Nat} (h : (s.crcFails p)[15]? = some a) (ha : s.tb < a + 1000000) :
    s.ringCrcBad p = { s.crcCounted p with ring := (s.crcCounted p).ring.setCrcs p [] }.ringPortDown p 0 := by
  show (match (s.crcFails p)[15]? with | some a => _ | none => s.crcCounted p) = _
  rw [h]
  exact if_pos ha

end

/-- Settles O46: an ENUM at the head (`exec_enumRx_head`), ports that go down and recover (`State.ringPortDown_up`,
`exec_ringPortRecovered`), and frames that pass or fail (`exec_ringFramePassOn_good`, `State.ringCrcBad_many`). -/
theorem ringEnumeration : Obligations.RingEnumeration := by
  unfold Obligations.RingEnumeration
  intro s count p name header payload r st head n counts back found again port other down up fails failed mine heard
  have counted (h : back) : exec (.enumRx count false) s = .next (s.enumDone count) := by
    obtain ⟨⟨hh, ho⟩, hc, he, hd⟩ := h
    exact (exec_enumRx_head ho (State.isHead_straps hh) false).trans ((next_if_neg (by decide)).trans (next_if_pos ⟨State.ringCounts_of hc, he, hd⟩))
  have recovers (h : port) (hu : r (ringPort p) = 0) := exec_ringPortRecovered h.1 h.2 hu
  refine ⟨fun ⟨hh, ho⟩ hc he => next_if_pos ?_, fun h h16 h64 => ?_, fun h h64 => ?_, fun h h16 h5 => ?_, fun h h16 h5 => ?_,
    fun ⟨hh, ho⟩ hd => (exec_enumRx_head ho (State.isHead_straps hh) true).trans ((next_if_pos rfl).trans
      (next_if_neg (Bool.eq_false_iff.mp hd))), fun ho hh => ?_,
    fun ⟨hh, ho⟩ => next_if_pos (by rw [hh, ho]; rfl), fun ⟨ho, hp⟩ hu h2 => congrArg _ ((State.ringPortDown_up ho hp hu).trans (if_pos h2)),
    fun ⟨ho, hp⟩ hu h3 => congrArg _ ((State.ringPortDown_up ho hp hu).trans ?_), fun h hu hb hst => ?_, fun h hu hb h4 => ?_,
    fun ⟨ho, hp⟩ hf => (exec_ringFramePassOn_bad ho hp).trans (congrArg _ (State.ringCrcBad_few hf)),
    fun a ⟨ho, hp⟩ hf ha => (exec_ringFramePassOn_bad ho hp).trans (congrArg _ (State.ringCrcBad_many hf ha)),
    fun hh h1 hp => if_pos ⟨hh, h1, hp⟩, fun ⟨ho, hp⟩ hm => (exec_ringFramePassOn_good ho hp).trans (congrArg _ (if_pos hm)),
    fun ⟨ho, hp⟩ hm => (exec_ringFramePassOn_good ho hp).trans (congrArg _ (if_neg hm))⟩
  · rw [hh, ho, State.ringCounts_of hc]
    rcases he with he | he
    · rw [he]
      rfl
    · rw [he, Bool.or_true]
      rfl
  · exact (counted h).trans (congrArg _ ((if_neg (not_lt.mpr h16)).trans (if_neg (not_lt.mpr h64))))
  · have many : ¬ n < 16 := by omega
    exact (counted h).trans (congrArg _ ((if_neg many).trans (if_pos h64)))
  · exact (counted h).trans (congrArg _ ((if_pos h16).trans (if_neg h5)))
  · exact (counted h).trans (congrArg _ ((if_pos h16).trans (if_pos h5)))
  · exact (next_if_neg (by simp [ho])).trans (next_if_neg (Bool.eq_false_iff.mp hh))
  · have flat : ¬ s.rd .ring RING_STAT_STATE = 2 := by
      rw [show s.rd .ring RING_STAT_STATE = 3 from h3]
      decide
    exact (if_neg flat).trans (if_pos h3)
  · exact (recovers h hu).trans (congrArg _ ((if_pos hb).trans (if_pos hst)))
  · exact (recovers h hu).trans (congrArg _ ((if_neg (Bool.eq_false_iff.mp hb)).trans (if_pos h4)))

end Sys2Proof.Machine

namespace Sys2Proof.Machine

/-! ### Ring transactions (R384 to R389) -/

section
variable {s : State} {src tag : Nat} {r : RingReq}

/-! #### Requests that reach a member (R385, R386) -/

theorem State.hostPath_clear {p : Posted} {now : State → State} (h : s.heldOf .host = []) : s.hostPath p now = now s := if_pos h

theorem State.hostPath_held {p : Posted} {now : State → State} (h : s.heldOf .host ≠ []) :
    s.hostPath p now = s.setHeld .host (s.heldOf .host ++ [p]) := if_neg h

/-- A request to a member is taken where its address is a word's. -/
theorem State.member_taken {a : Nat} (ho : s.ringOn = true) (hh : s.straps.ringHead = false) (ha : a % 4 = 0) :
    ¬ (!s.ringMember || decide (a % 4 ≠ 0)) = true := by
  simp [State.ringMember, ho, hh, ha]

/-! #### Answers (R384, R387) -/

/-- An answer to a read of the head goes to the host, or to the core that asked. -/
theorem exec_ringRespRx (hr : s.hasRing = true) (h : s.ringReq src tag 1 = some r) (data : List Nat) :
    exec (.ringRespRx src tag data) s =
      .next (if r.q = 0 then s.hostAnswer r data else if r.got = [] ∧ r.words ≠ 0 then s.coreAnswer r data else s) := by
  refine (next_if_neg (by simp [hr])).trans ?_
  rw [h]

theorem State.hostAnswer_last {d : Nat} (h : r.words ≤ r.got.length + 1) :
    s.hostAnswer r [d] = (s.ringAnswered r).hostWords (r.got ++ [d % 2 ^ 32]) := if_neg (by simpa using h)

theorem State.hostAnswer_more {d : Nat} (h : r.got.length + 1 < r.words) : s.hostAnswer r [d] =
    ((s.ringAnswered r).ringSend "READ" 1 r.member 0 (s.ringAnswered r).ring.tag (r.addr + 4) []).ringAwait
      [{ r with tag := (s.ringAnswered r).ring.tag, at_ := (s.ringAnswered r).tb, addr := r.addr + 4, got := r.got ++ [d % 2 ^ 32] }] :=
  if_pos (by simpa using h)

/-- CPL belongs to a command, or to a CHECK where no command has its tag. -/
theorem exec_ringCplRx_command {status result data : Nat} (hr : s.hasRing = true) (h : s.ringReq src tag 4 = some r) :
    exec (.ringCplRx src tag status result data) s = .next ((s.ringAnswered r).cmdEnd r.q (status % 256) (result % 256) data) := by
  refine (next_if_neg (by simp [hr])).trans ?_
  rw [h]

theorem exec_ringCplRx_check {status result data : Nat} (hr : s.hasRing = true) (h : s.ringReq src tag 8 = some r)
    (hn : s.ringReq src tag 4 = none) : exec (.ringCplRx src tag status result data) s = .next (s.checkAnswer r (result % 256)) := by
  refine (next_if_neg (by simp [hr])).trans ?_
  rw [h, hn]

/-! #### Timeouts (R388) -/

/-- A frame without an answer for RING_TMO ends by its kind. -/
theorem exec_ringTimeout (hf : (s.ring.reqs.find? fun r => decide (r.member = src ∧ r.tag = tag)) = some r)
    (ht : r.at_ + 1000 * s.rd .ring RING_TMO_US ≤ s.tb) : exec (.ringTimeout src tag) s =
      .next (if r.kind = 1 then
          if r.q = 0 then (s.ringAnswered r).emit (.hostRead true []) else if r.got = [] then (s.ringAnswered r).ringFailed r else s
        else if r.kind = 4 then (s.ringAnswered r).cmdEnd r.q 5 0 0
        else match s.ring.ctl with
          | none => s.ringAnswered r
          | some (w, _) => { s with ring := { s.ring with ctl := some (w, true) } }.checkAnswer r 0) := by
  show execRingTimeout src tag s = _
  rw [execRingTimeout, hf]
  exact next_if_neg (not_lt.mpr ht)

end

/-- Settles O47: a member's requests under `State.member_taken`, the head's answers by `exec_ringRespRx`, `exec_ringCplRx_command` and
`exec_ringCplRx_check`, a late frame by `exec_ringTimeout`. -/
theorem ringTransactions : Obligations.RingTransactions := by
  unfold Obligations.RingTransactions
  intro s t src tag a w q d status result data slack entry r member aligned m resp got asked free taken code cpl late
  have reads (h : aligned) : exec (.ringReadRx src tag a) s = .next (m.hostPath (.frame src tag a) fun t => t.frameRead src tag a) :=
    next_if_neg (State.member_taken h.1.1 h.1.2 h.2)
  have checks (h : member) : exec (.ringCheckRx src tag w) s =
      .next (if code = 0 then { cpl with ring := { cpl.ring with check := some w } } else cpl) := next_if_pos h
  refine ⟨fun h hc => (reads h).trans (congrArg _ (State.hostPath_clear hc)), fun h hc => (reads h).trans (congrArg _ (State.hostPath_held hc)),
    fun h => ?_, fun h => ?_, fun h => next_if_neg (State.member_taken h.1.1 h.1.2 h.2),
    fun ⟨hr, h⟩ h0 hw => (exec_ringRespRx hr h [d]).trans ((next_if_pos h0).trans (congrArg _ (State.hostAnswer_last hw))),
    fun ⟨hr, h⟩ h0 => (exec_ringRespRx hr h []).trans (next_if_pos h0),
    fun ⟨hr, h⟩ h0 hw => (exec_ringRespRx hr h [d]).trans ((next_if_pos h0).trans (congrArg _ (State.hostAnswer_more hw))),
    fun ⟨hr, h⟩ h0 hg hw => (exec_ringRespRx hr h [d]).trans ((next_if_neg h0).trans (next_if_pos ⟨hg, hw⟩)), fun h hq => ?_,
    fun ⟨hr, h⟩ => exec_ringCplRx_command hr h, fun ⟨hr, h⟩ hn => exec_ringCplRx_check hr h hn,
    fun h h0 => (checks h).trans (congrArg _ (if_pos h0)), fun h h0 => (checks h).trans (congrArg _ (if_neg h0)), fun h hc => ?_,
    fun h => next_if_pos h, fun ⟨hf, ht⟩ hk h0 => (exec_ringTimeout hf ht).trans ((next_if_pos hk).trans (next_if_pos h0)),
    fun ⟨hf, ht⟩ hk => (exec_ringTimeout hf ht).trans ((next_if_neg (by simp [hk])).trans (next_if_pos hk)),
    fun ⟨hf, ht⟩ hk hc => (exec_ringTimeout hf ht).trans ((next_if_neg (by simp [hk])).trans ((next_if_neg (by simp [hk])).trans ?_))⟩
  · rw [State.frameRead, h]
    rfl
  · rw [State.frameRead]
    rcases h with h | h <;> rw [h] <;> rfl
  · refine (next_if_pos h).trans ?_
    have found : s.ringHeard.freeInput = some q := hq
    dsimp only
    rw [found]
  · show execRingApplyRx s = _
    rw [execRingApplyRx, hc]
    exact next_if_pos h
  · rw [hc]

end Sys2Proof.Machine

namespace Sys2Proof.Machine

/-! ### The host port and its queues (R361 to R374, R377, R381) -/

section
variable {s : State} {off : Nat} {write : Bool} {data : List (Option Nat)}

/-! #### Requests (R364 to R367) -/

/-- A request to BAR0 that the endpoint takes is served or waits in the host's path. -/
theorem exec_bar0Request (hc : s.crownRuns = true) (ho : off < 0x4000000) (hd : s.pcie.d3hot = false) :
    exec (.bar0Request off write data) s = .next (s.hostPath (.bar0 off write data) fun t => t.bar0Now off write data) :=
  (next_if_neg (by simp [hc, ho])).trans (next_if_neg (Bool.eq_false_iff.mp hd))

theorem exec_bar0Request_d3 (hc : s.crownRuns = true) (ho : off < 0x4000000) (hd : s.pcie.d3hot = true) :
    exec (.bar0Request off write data) s = .next (s.hostD3 write) := (next_if_neg (by simp [hc, ho])).trans (next_if_pos hd)

theorem State.bar0Now_refused (h : bar0Takes off data = false) : s.bar0Now off write data =
    if write then s.wr .host HOST_ERR_ALIGN 1 else (s.wr .host HOST_ERR_ALIGN 1).hostAbort := if_pos (by simp [h])

theorem State.bar0Now_taken (h : bar0Takes off data = true) : s.bar0Now off write data =
    if write then s.hostWrites (s.bar0Addr off) (reqWords data) else s.hostRead (s.bar0Addr off) (data.length / 4) := if_neg (by simp [h])

section
variable (hc : s.crownRuns = true) (ho : off + data.length ≤ 0x1000000000) (hr : off % 2 ^ 30 + data.length ≤ 2 ^ 30)
include hc ho hr

theorem bar2_inside : ¬ (!s.crownRuns || decide (0x1000000000 < off + data.length ∨ 2 ^ 30 < off % 2 ^ 30 + data.length)) = true := by
  simp only [hc, Bool.not_true, Bool.false_or, decide_eq_true_eq]
  omega

theorem exec_bar2Request (hd : s.pcie.d3hot = false) :
    exec (.bar2Request off write data) s = .next (s.hostPath (.bar2 off write data) fun t => t.bar2Now off write data) :=
  (next_if_neg (bar2_inside hc ho hr)).trans (next_if_neg (Bool.eq_false_iff.mp hd))

theorem exec_bar2Request_d3 (hd : s.pcie.d3hot = true) : exec (.bar2Request off write data) s = .next (s.hostD3 write) :=
  (next_if_neg (bar2_inside hc ho hr)).trans (next_if_pos hd)

end

/-! #### Several fields written at once -/

theorem State.rd_wrs_other {b : Blk} {l : List (Field × Nat)} {g : Field} (h : ∀ x ∈ l, g.off ≠ x.1.off ∨ g.lo ≠ x.1.lo) :
    (s.wrs b l).rd b g = s.rd b g := by
  induction l generalizing s with
  | nil => rfl
  | cons x l ih =>
    refine (ih fun y hy => h y (List.mem_cons_of_mem _ hy)).trans ?_
    obtain ho | hl := h x List.mem_cons_self
    · exact State.rd_wr_off _ _ ho
    · exact State.rd_wr_lo _ _ hl

/-- Fields that lie apart each take their value. -/
theorem State.rd_wrs_of_mem {b : Blk} {l : List (Field × Nat)}
    (h : l.Pairwise fun x y => x.1.off ≠ y.1.off ∨ x.1.lo ≠ y.1.lo) {x : Field × Nat} (hx : x ∈ l) :
    (s.wrs b l).rd b x.1 = x.2 % 2 ^ x.1.width := by
  induction l generalizing s with
  | nil => cases hx
  | cons y l ih =>
    obtain ⟨hy, hl⟩ := List.pairwise_cons.mp h
    obtain rfl | hx := List.mem_cons.mp hx
    · exact (State.rd_wrs_other hy).trans (State.rd_wr_same ..)
    · exact ih hl hx

/-! #### Queues (R371 to R374) -/

section
variable {q w : Nat}

/-- The registers of a queue that has been enabled. -/
def queueOn (q : Nat) : List (Field × Nat) :=
  [(Q_CTRL_EN q, 1), (Q_SQTAIL_TAIL q, 0), (Q_SQHEAD_HEAD q, 0), (Q_CQHEAD_HEAD q, 0), (Q_CQTAIL_TAIL q, 0), (Q_STAT_ERR q, 0),
    (Q_STAT_STATE q, qRUN)]

theorem queueOn_apart : (queueOn q).Pairwise fun x y => x.1.off ≠ y.1.off ∨ x.1.lo ≠ y.1.lo := by simp [queueOn]

theorem State.queueEnable_eq (he : s.rd .host (Q_CTRL_EN q) = 0) (hs : s.qState q ≠ qERROR) : s.queueEnable q =
    if s.rd .host (Q_CFG_SIZE q) < 16 ∨ 4096 < s.rd .host (Q_CFG_SIZE q) then s.wr .host (Q_STAT_ERR q) 3
    else (s.setQueue q { s.queue q with phase := true }).wrs .host (queueOn q) :=
  if_neg (not_or.mpr ⟨Bool.eq_false_iff.mp (State.is_eq_false he), hs⟩)

/-- A doorbell of the completion queue with room and nothing waiting. -/
theorem State.cqDoorbell_frees (hs : s.qState q ≠ qERROR) (hv : w % 2 ^ 13 < s.rd .host (Q_CFG_SIZE q))
    (hr : (w % 2 ^ 13 + s.rd .host (Q_CFG_SIZE q) - s.rd .host (Q_CQHEAD_HEAD q)) % s.rd .host (Q_CFG_SIZE q) ≤
      (s.rd .host (Q_CQTAIL_TAIL q) + s.rd .host (Q_CFG_SIZE q) - s.rd .host (Q_CQHEAD_HEAD q)) % s.rd .host (Q_CFG_SIZE q))
    (hc : (s.queue q).cmd = none) : s.cqDoorbell q w = s.wr .host (Q_CQHEAD_HEAD q) (w % 2 ^ 13) := by
  have idle : ((s.wr .host (Q_CQHEAD_HEAD q) (w % 2 ^ 13)).queue q).cmd = none := hc
  rw [State.cqDoorbell]
  dsimp only
  rw [if_neg hs, if_neg (not_or.mpr ⟨not_le.mpr hv, not_lt.mpr hr⟩), idle]

/-- The command that a submission entry holds (R371). -/
def State.fetched (s : State) (slack : Nat) (e : List Nat) : QCmd :=
  { op := e.getD 0 0 % 2 ^ 16, cid := e.getD 0 0 / 2 ^ 16 % 2 ^ 16, target := e.getD 1 0 % 2 ^ 32,
    params := ((e.drop 2).take 14).map (· % 2 ^ 32), dl := (s.tmb.count + 1000 * slack) % 2 ^ 32 }

/-- The registers that show a queue's command. -/
def queueBusy (q : Nat) (e : List Nat) : List (Field × Nat) :=
  [(Q_STAT_BUSY q, 1), (Q_CUR_CID q, e.getD 0 0 / 2 ^ 16), (Q_CUR_OPCODE q, e.getD 0 0)]

theorem queueBusy_apart (e : List Nat) : (queueBusy q e).Pairwise fun x y => x.1.off ≠ y.1.off ∨ x.1.lo ≠ y.1.lo := by
  simp [queueBusy]

theorem State.queue_wrs (l : List (Field × Nat)) : (s.wrs .host l).queue q = s.queue q := by
  induction l generalizing s with
  | nil => rfl
  | cons x l ih => exact ih

theorem State.takeEntry_cmd (slack : Nat) (e : List Nat) : ((s.takeEntry q slack e).queue q).cmd = some (s.fetched slack e) :=
  congrArg Queue.cmd (State.queue_setQueue_same ..)

end

/-! #### The command engine (R377) -/

/-- The state in which the engine has chosen a queue, and every ready command has waited one more. -/
def State.chosen (s : State) (n : Nat) : State :=
  { s.each (s.readyQueues.map Prod.fst) (fun t r => t.cmdWait r n) with
    cmdEng := { last := (s.cmdEng.last + 1) % 16, step := some n } }

theorem State.commandStep_chosen {n : Nat} {c : QCmd} (h : s.chooseQueue = some (n, c)) :
    s.commandStep = if c.started then s.chosen n else (s.chosen n).firstStep n c := by
  rw [State.commandStep, h]
  rfl

theorem State.commandStep_none (h : s.chooseQueue = none) : s.commandStep = s := by
  rw [State.commandStep, h]

end

/-- Settles O48: the host's requests in their path (`exec_bar0Request`, `exec_bar2Request`), a queue's registers
(`State.queueEnable_eq`, `State.rd_wrs_of_mem`), and the engine's choice (`State.commandStep_chosen`). -/
theorem hostPortAndQueues : Obligations.HostPortAndQueues := by
  unfold Obligations.HostPortAndQueues
  intro s off q w n speed width mps cause write msixEn msixMask data entry c h up d0 clear bar0 bar2 bad v size run well fetch moved taken
    waited trained cqRoom
  have served0 (hb : bar0) (hd : d0) (hc : clear) (wr : Bool) : exec (.bar0Request off wr data) s = .next (s.bar0Now off wr data) :=
    (exec_bar0Request hb.1 hb.2 hd).trans (congrArg _ (State.hostPath_clear hc))
  have served2 (hb : bar2) (hd : d0) (hc : clear) (wr : Bool) : exec (.bar2Request off wr data) s = .next (s.bar2Now off wr data) :=
    (exec_bar2Request hb.1 hb.2.1 hb.2.2 hd).trans (congrArg _ (State.hostPath_clear hc))
  refine ⟨fun hb hd hc ht => (served0 hb hd hc write).trans (congrArg _ (State.bar0Now_refused ht)),
    fun hb hd hc ht => (served0 hb hd hc true).trans (congrArg _ (State.bar0Now_taken ht)),
    fun hb hd hc ht => (served0 hb hd hc false).trans (congrArg _ (State.bar0Now_taken ht)),
    fun hb hd hc => (exec_bar0Request hb.1 hb.2 hd).trans (congrArg _ (State.hostPath_held hc)),
    fun hb hd => exec_bar0Request_d3 hb.1 hb.2 (Bool.not_eq_false _ ▸ hd),
    fun hb hd hc => served2 hb hd hc true, fun hb hd hc => served2 hb hd hc false,
    fun hb hd hc => (exec_bar2Request hb.1 hb.2.1 hb.2.2 hd).trans (congrArg _ (State.hostPath_held hc)),
    fun hb hd => exec_bar2Request_d3 hb.1 hb.2.1 hb.2.2 (Bool.not_eq_false _ ▸ hd), fun hu h1 h5 => next_if_pos ⟨hu, h1, h5⟩,
    fun hu h1 h5 hw hm => next_if_pos ⟨hu, h1, h5, hw, hm⟩, fun hq => ⟨fun he hs h16 h4096 => ?_, fun he hs hsz => ?_, fun he => ?_,
      fun hs hv => ?_, fun hs hv => ?_, fun hs hr => ?_, fun hs hr hc => ?_, fun hs => ⟨?_, ?_⟩, fun hf => ?_, fun hf => ?_⟩,
    fun hc => congrArg _ (State.commandStep_chosen hc), fun hc => congrArg _ (State.commandStep_none hc), rfl, rfl⟩
  · have size : ¬ (s.rd .host (Q_CFG_SIZE q) < 16 ∨ 4096 < s.rd .host (Q_CFG_SIZE q)) := not_or.mpr ⟨not_lt.mpr h16, not_lt.mpr h4096⟩
    have shown (x : Field × Nat) (hx : x ∈ queueOn q) := State.rd_wrs_of_mem (s := s.setQueue q { s.queue q with phase := true })
      (b := .host) queueOn_apart hx
    exact ⟨_, (next_if_pos hq).trans (congrArg _ ((State.queueEnable_eq he hs).trans (if_neg size))), shown (_, 1) (by simp [queueOn]),
      shown (_, 0) (by simp [queueOn]), shown (_, 0) (by simp [queueOn]), shown (_, 0) (by simp [queueOn]),
      shown (_, 0) (by simp [queueOn]), shown (_, 0) (by simp [queueOn]), shown (_, qRUN) (by simp [queueOn])⟩
  · exact (next_if_pos hq).trans (congrArg _ ((State.queueEnable_eq he hs).trans (if_pos hsz)))
  · exact (next_if_pos hq).trans (next_if_pos (.inl (State.is_eq_true he)))
  · exact (next_if_pos hq).trans ((next_if_neg hs).trans (next_if_neg (not_le.mpr hv)))
  · exact (next_if_pos hq).trans ((next_if_neg hs).trans (next_if_pos hv))
  · have full : size ≤ v ∨ (h (Q_CQTAIL_TAIL q) + size - h (Q_CQHEAD_HEAD q)) % size < (v + size - h (Q_CQHEAD_HEAD q)) % size := by
      by_contra hn
      exact hr ⟨not_le.mp fun hl => hn (.inl hl), not_lt.mp fun hl => hn (.inr hl)⟩
    exact (next_if_pos hq).trans ((next_if_neg hs).trans (next_if_pos full))
  · exact (next_if_pos hq).trans (congrArg _ (State.cqDoorbell_frees hs hr.1 hr.2 hc))
  · exact (next_if_pos hq).trans (next_if_pos (not_not.mp hs))
  · exact (next_if_pos hq).trans (next_if_pos (not_not.mp hs))
  · exact (next_if_pos ⟨hq, hf⟩).trans (next_if_pos rfl)
  · refine ⟨_, (next_if_pos ⟨hq, hf⟩).trans (next_if_neg (by decide)), ?_, ?_⟩
    · exact (congrArg Queue.cmd (State.queue_wrs (queueBusy q entry))).trans (State.takeEntry_cmd ..)
    · exact State.rd_wrs_of_mem (b := .host) (queueBusy_apart entry) (x := (_, 1)) (by simp [queueBusy])

end Sys2Proof.Machine
